-- ==== Sys2Proof/Word.lean ====
section
/-!
DEFINITION. The words the handbook treats as bits: bytes of a frame, two-byte fields and the four-bit
numbers of the header byte (11_frame_and_record_layouts.md, R173). Every other quantity of the handbook
is a plain number with a range, and is modelled as such.
-/
namespace Sys2Proof

/-- One byte of a frame body (R63). -/
abbrev Byte := BitVec 8

/-- A field of two bytes, sent most significant byte first (R173). -/
abbrev Word16 := BitVec 16

/-- A station number as the header byte carries it, four bits (R63). -/
abbrev Nibble := BitVec 4

end Sys2Proof
end

