-- ==== Sys2Proof/Syntax.lean ====
section
/-!
DEFINITION. The commands of the block: one constructor of `Instr` for each row of spec/opcode_table.json,
with the operands that the frame layouts (R175, R177), the pins (10_start_up_and_setup.md) and the rules give it.
-/
namespace Sys2Proof

/-- The three pools, in the order of their codes (R35, R174). -/
inductive Pool where
  | power | inlet | drain
  deriving DecidableEq, Repr

/-- The level electrodes of the steam generator (R79). -/
inductive Electrode where
  | low | work | high
  deriving DecidableEq, Repr

/-- The six supervised channels, in the order of their codes (R140, R174). -/
inductive Channel where
  | cav | core | boil | moist | mains | board
  deriving DecidableEq, Repr

/-- The debounce sides of a channel; FIXED is the fixed cavity limit (R144, R149, R174). -/
inductive Side where
  | low | high | fixed
  deriving DecidableEq, Repr

/-- What an analog input shows at a reading (R140). -/
inductive AnalogInput where
  | readable (value : Int)
  | openCircuit
  | shortCircuit
  deriving DecidableEq, Repr

/-- The inputs presented at one 10 ms reading (R140): four analog inputs and the part's own sensor. -/
structure SensorInputs where
  cav   : AnalogInput
  core  : AnalogInput
  boil  : AnalogInput
  moist : AnalogInput
  board : Int
  deriving DecidableEq, Repr

/-- The fields of a STATUS body at their widths (R175). -/
structure StatusBody where
  circuitGroup : BitVec 4
  waterGroup   : BitVec 4
  inlet        : Bool
  drain        : Bool
  belowFloor   : Bool
  leak         : Bool
  joining      : Bool
  power        : BitVec 11
  program      : BitVec 3
  stageIndex   : BitVec 5
  descaleCode  : BitVec 5
  remaining    : BitVec 17
  deriving DecidableEq, Repr

/-- What a well-formed frame carries, for a frame whose class is not fixed by the command's row (R65, R175). -/
inductive FrameContent where
  | trip (type origin group : Byte)
  | tripClear (type origin group : Byte)
  | lower (pool : Pool) (group : Byte) (hold : Word16)
  | yields (group : Byte) (need : Word16)
  | raise (pool : Pool) (group : Byte) (hold : Word16)
  | command (dest : Nibble)
  | report
  | status (body : StatusBody)
  deriving DecidableEq, Repr

/-- The ground on which a received frame is found malformed (the table of R70). A dominant level in the closing mark is
found after the verdict slot, so that ground carries what was judged there (R68): the sender and content of a frame that
was well-formed until then, or `none` for a frame that was malformed already. -/
inductive MalformGround where
  | senderZero
  | classUndefined
  | kindUndefined
  | lengthAbove24
  | lengthNotAllowed
  | spacerDominant
  | breakInside
  | checkWrong
  | closingMarkDominant (sender : Nibble) (content : Option FrameContent)
  deriving DecidableEq, Repr

/-- The commands and events of the block, in the order of spec/opcode_table.json. In a row for a received
frame, `otherVeto` says that another station drove the verdict slot (R68). -/
inductive Instr where
  | powerOn (station partner : Nibble)
  | setupSupply (fields : List Byte)
  | setupChannel (section_ : Byte) (fields : List Byte)
  | setupEnd (fields : List Byte)
  | setupWindowExpiry
  | query
  | loadOpen (count : Byte) (tag : Word16)
  | stage (index : Byte) (record : List Byte)
  | start
  | pause
  | resume
  | abort
  | answer (index reply : Byte)
  | finishAck
  | runManual (record : List Byte)
  | descaleStart
  | descaleConfirm
  | relayRestore
  | restart
  | reInitialisation
  | partnerVeto (sender : Nibble)
  | climateSample
  | doorInputChange (isOpen : Bool)
  | doorOpens
  | doorCloses
  | zeroCrossing (interval volts : Nat)
  | frequencyTimeout
  | missedCrossing
  | supplyStarved
  | waterRaiseRetry
  | raiseReceived (sender : Nibble) (pool : Pool) (group : Byte) (hold : Word16) (otherVeto : Bool)
  | lowerReceived (sender : Nibble) (pool : Pool) (group : Byte) (hold : Word16) (otherVeto : Bool)
  | yieldReceived (sender : Nibble) (group : Byte) (need : Word16)
  | statusReceived (sender : Nibble) (body : StatusBody) (otherVeto : Bool)
  | tripReceived (sender : Nibble) (type origin group : Byte)
  | tripClearReceived (sender : Nibble) (type origin group : Byte)
  | ownFrameComplete (vetoed : Bool)
  | statusPeriod
  | entryExpired (station : Nibble)
  | entryRemoved (station : Nibble)
  | lineIsolated
  | lineLost
  | joinWindowEnd
  | yieldBackoffEnd
  | leakInputChange (wet : Bool)
  | leakWet
  | leakDry
  | lineIdle
  | frameBegin
  | openingMarkSeen
  | arbitrationLost
  | driveFault
  | clash
  | ownNumberFrame (content : FrameContent) (otherVeto : Bool)
  | malformedFrame (ground : MalformGround)
  | closingMarkBroken
  | levelInputChange (electrode : Electrode) (wet : Bool)
  | levelReadingChange (electrode : Electrode)
  | flowPulse
  | valveTimeLimit
  | coolingTimerExpiry
  | drainDryTimeEnd
  | pumpTimeLimit
  | serviceRecordWritten
  | sensorReading (inputs : SensorInputs)
  | channelFailed (channel : Channel)
  | excursionStart (channel : Channel) (side : Side)
  | excursionEnd (channel : Channel) (side : Side)
  | relayFeedbackChange (closed : Bool)
  | relayOpenFault
  | relayWelded
  | configCheck
  | prepTimeout
  | heatLimit
  | descaleLowWater
  | soakTimerEnd
  | waitingForPool
  | loadTimeout
  | stageTimeEnd
  | promptTimeout
  | probeStateChange
  | steamWithheld
  | wellFormedFrameNotTaken (sender : Nibble)
  | lineIdleAfterBreak
  deriving DecidableEq, Repr

end Sys2Proof
end

