-- ==== Sys2Proof/Config.lean ====
section
/-!
DEFINITION. The free values of the model: what the handbook leaves open without fixing a result. They have
no body, so nothing can be proved of their values, and a statement about them holds whatever they are.
-/
namespace Sys2Proof

/-- Whether the half-cycle in which an element gate was released at a first missed crossing counts as one in
which the element was on. R20 counts every half-cycle whose gate was driven from the crossing that begins it;
R28 says that the grant is less than the placed count when a gate was released for a missed crossing. The
argument numbers the occasions (`power.freeCount`). Free value, log entry 9; safe. -/
opaque Config.missedHalfCycleCounts : Nat → Bool

end Sys2Proof
end

