-- ==== Sys2Proof/Machine/Types.lean ====
section
/-!
DEFINITION. The plain data of the nine blocks: the fixed names of the handbook as inductive types, and one
structure for the state that each block owns (00_scope.md, "Block overview"). Timers are counted in milliseconds.
-/
namespace Sys2Proof.Machine

/-! ### Fixed names -/

/-- The six cooking modes, in the order of their codes (R1, R174). -/
inductive Mode where
  | conv | fan | combi | steam | regen | prove
  deriving DecidableEq, Repr

/-- The four elements: three of the cavity and the BOILER (00_scope.md, terms). -/
inductive Element where
  | top | bottom | ring | boiler
  deriving DecidableEq, Repr

/-- The four base actuators (R25). -/
inductive Actuator where
  | fan | vent | fill | pump
  deriving DecidableEq, Repr

/-- Setup state (R167). `noWindow` stands for a part that is UNNUMBERED or has not read its straps (R166). -/
inductive SetupState where
  | noWindow | opened | frozen
  deriving DecidableEq, Repr

/-- Consequences of an excursion, in the order of their codes (R142, R174). -/
inductive Consequence where
  | note | cut | trip
  deriving DecidableEq, Repr

/-- What the measurement of the mains frequency has given (R21): a fault carries the tenths of a hertz. -/
inductive Frequency where
  | undecided | hz50 | hz60
  | mainsFault (tenths : Nat)
  deriving DecidableEq, Repr

/-- Link state (R53), in the order of its codes. -/
inductive LinkState where
  | joining | member | isolated
  deriving DecidableEq, Repr

/-- Line state (R62). -/
inductive LineState where
  | wait | idle | busy
  deriving DecidableEq, Repr

/-- Generator states (R80). -/
inductive GenState where
  | empty | filling | heating | ready | cooling | draining | service | fault
  deriving DecidableEq, Repr

/-- Fault kinds of the generator (R93). -/
inductive FaultKind where
  | fillFault | drainFault
  deriving DecidableEq, Repr

/-- Steam withheld reasons, in the order of their codes (R96, R174). -/
inductive Withheld where
  | none | acid | fault | block | lowWater | inletWait
  deriving DecidableEq, Repr

/-- Scale levels (R98). -/
inductive ScaleLevel where
  | none | due | derate | block
  deriving DecidableEq, Repr

/-- Service requests of the Descale Sequencer (R95). STOP leaves no request in progress. -/
inductive ServiceRequest where
  | none
  | fill (pulses : Nat)
  | heat (target : Int)
  | hold (target : Int) (demand : Nat)
  | drain
  deriving DecidableEq, Repr

/-- The operations that are fills (R83, R89, R95). -/
inductive FillKind where
  | cooking | topUp | service
  deriving DecidableEq, Repr

/-- Descale phases (R101); the rinse count stands beside them. -/
inductive Phase where
  | off | prep | drainOut | dose | soakHeat | soak | acidDrain
  | rinseFill | rinseHeat | rinseDrain | complete | holdAcid
  deriving DecidableEq, Repr

/-- Causes of a descale phase, in the order of their codes (R114, R174). -/
inductive DescaleCause where
  | none | prepTimeout | aborted | fillFault | drainFault | heatLimit | lowWater | trip
  | relayWelded | rinsed | powerOn | restart
  deriving DecidableEq, Repr

/-- Program states (R116), in the order of their codes. -/
inductive ProgState where
  | idle | loading | loaded | running | paused | prompting | finished | faulted
  deriving DecidableEq, Repr

/-- Causes of a program fault (R136). -/
inductive ProgramFault where
  | trip | lineLost | stackFault | configFault
  deriving DecidableEq, Repr

/-- End kinds of a HEAT stage, in the order of their codes (R117, R174). -/
inductive EndKind where
  | time | temp | core | either | prompt
  deriving DecidableEq, Repr

/-- Skip conditions (R117). -/
inductive Skip where
  | cavityAtLeast (v : Nat)
  | coreAtLeast (v : Nat)
  | probeAbsent
  | probePresent
  deriving DecidableEq, Repr

/-- Side states (R144). -/
inductive SideState where
  | clear | pending | active | recovering
  deriving DecidableEq, Repr

/-- Conditions an analog input showed last (R140). CORE shows its probe absent in two ways (R145): `absent` at an open
circuit, and `aboveRange` at a readable value above 1300. -/
inductive InputCond where
  | ok | openCircuit | shortCircuit | absent | aboveRange
  deriving DecidableEq, Repr

/-- The conditions in which CORE shows its probe absent (R127, R145). -/
def InputCond.showsAbsent : InputCond → Bool
  | .absent => true
  | .aboveRange => true
  | .ok => false
  | .openCircuit => false
  | .shortCircuit => false

/-- Command kinds in the order of R156. -/
inductive CmdKind where
  | query | loadOpen | stage | start | pause | resume | abort | answer | finishAck | runManual
  | descaleStart | descaleConfirm | relayRestore | restart | setup
  deriving DecidableEq, Repr

/-- Result codes in the order of R174. -/
inductive ResultCode where
  | accepted | acceptedClamped | refusedState | refusedField | refusedOrder | refusedProgram
  | refusedAcid | refusedTrip | refusedFrozen | refusedConfig
  deriving DecidableEq, Repr

/-- Notice codes in the order of the table of R161. -/
inductive NoticeCode where
  | stageBegin | prompt | programFinished | programAborted | programFault | loadTimeout
  | steamWithheld | descaleDue | descalePhase | descaleComplete | waitingForPool | supplyStarved
  | channelExcursion | relayFault | waterTrip | lineIsolated | lineRestored | lineLost
  | numberClash | configDefaults
  deriving DecidableEq, Repr

/-! ### Like things by name -/

/-- One value for each element. -/
structure PerElement (α : Type) where
  top    : α
  bottom : α
  ring   : α
  boiler : α
  deriving DecidableEq, Repr

/-- One value for each base actuator. -/
structure PerActuator (α : Type) where
  fan  : α
  vent : α
  fill : α
  pump : α
  deriving DecidableEq, Repr

/-- One value for each channel. -/
structure PerChannel (α : Type) where
  cav   : α
  core  : α
  boil  : α
  moist : α
  mains : α
  board : α
  deriving DecidableEq, Repr

/-- One value for each pool. -/
structure PerPool (α : Type) where
  power : α
  inlet : α
  drain : α
  deriving DecidableEq, Repr

/-- One value for each level electrode. -/
structure PerElectrode (α : Type) where
  low  : α
  work : α
  high : α
  deriving DecidableEq, Repr

variable {α : Type}

def PerElement.get (p : PerElement α) : Element → α
  | .top => p.top | .bottom => p.bottom | .ring => p.ring | .boiler => p.boiler

def PerElement.set (p : PerElement α) (x : α) : Element → PerElement α
  | .top => { p with top := x } | .bottom => { p with bottom := x }
  | .ring => { p with ring := x } | .boiler => { p with boiler := x }

def PerElement.all (x : α) : PerElement α := ⟨x, x, x, x⟩

def PerActuator.get (p : PerActuator α) : Actuator → α
  | .fan => p.fan | .vent => p.vent | .fill => p.fill | .pump => p.pump

def PerActuator.all (x : α) : PerActuator α := ⟨x, x, x, x⟩

def PerChannel.get (p : PerChannel α) : Channel → α
  | .cav => p.cav | .core => p.core | .boil => p.boil
  | .moist => p.moist | .mains => p.mains | .board => p.board

def PerChannel.set (p : PerChannel α) (x : α) : Channel → PerChannel α
  | .cav => { p with cav := x } | .core => { p with core := x } | .boil => { p with boil := x }
  | .moist => { p with moist := x } | .mains => { p with mains := x } | .board => { p with board := x }

def PerChannel.all (x : α) : PerChannel α := ⟨x, x, x, x, x, x⟩

def PerPool.get (p : PerPool α) : Pool → α
  | .power => p.power | .inlet => p.inlet | .drain => p.drain

def PerPool.set (p : PerPool α) (x : α) : Pool → PerPool α
  | .power => { p with power := x } | .inlet => { p with inlet := x } | .drain => { p with drain := x }

def PerPool.all (x : α) : PerPool α := ⟨x, x, x⟩

def PerElectrode.get (p : PerElectrode α) : Electrode → α
  | .low => p.low | .work => p.work | .high => p.high

def PerElectrode.set (p : PerElectrode α) (x : α) : Electrode → PerElectrode α
  | .low => { p with low := x } | .work => { p with work := x } | .high => { p with high := x }

def PerElectrode.all (x : α) : PerElectrode α := ⟨x, x, x⟩

/-! ### Start-up Unit -/

/-- The fields of the SUPPLY section (R168). -/
structure Supply where
  circuitGroup : Nat
  waterGroup   : Nat
  capacity     : Nat
  stations     : Nat
  baseLoad     : Nat
  ratings      : PerElement Nat
  vNom         : Nat
  inletCap     : Nat
  drainCap     : Nat
  hardness     : Nat
  tDue         : Nat
  deriving DecidableEq, Repr

/-- The defaults of the SUPPLY section (the table of R168). -/
def Supply.defaults : Supply where
  circuitGroup := 0
  waterGroup   := 0
  capacity     := 700
  stations     := 2
  baseLoad     := 8
  ratings      := ⟨120, 100, 250, 200⟩
  vNom         := 230
  inletCap     := 1
  drainCap     := 1
  hardness     := 14
  tDue         := 4000

/-- The configurable fields of a channel record (R142). -/
structure ChannelRecord where
  enabled     : Bool
  lowLimit    : Int
  highLimit   : Int
  lowCode     : Nat
  highCode    : Nat
  lowMap      : Consequence
  highMap     : Consequence
  strikeLimit : Nat
  deriving DecidableEq, Repr

/-- The default channel records (the table of R142). -/
def ChannelRecord.defaults : PerChannel ChannelRecord where
  cav   := ⟨true, 0, 2800, 5, 7, .cut, .trip, 3⟩
  core  := ⟨false, 0, 1100, 6, 6, .note, .note, 0⟩
  boil  := ⟨true, 0, 1300, 5, 6, .cut, .trip, 3⟩
  moist := ⟨true, 0, 100, 7, 7, .note, .note, 0⟩
  mains := ⟨true, 190, 260, 8, 8, .note, .cut, 0⟩
  board := ⟨true, -200, 950, 9, 8, .note, .cut, 3⟩

/-- Straps, setup window, configuration and the restart in progress (R166, R167, R170, R159). -/
structure Startup where
  station        : Nat
  partner        : Nat
  setup          : SetupState
  windowMs       : Nat
  workSupply     : Supply
  workChannels   : PerChannel ChannelRecord
  supply         : Supply
  channels       : PerChannel ChannelRecord
  restarting     : Bool
  restartMs      : Nat
  restartLowers  : PerPool Bool
  deriving DecidableEq, Repr

/-! ### Climate Controller -/

structure Climate where
  profile        : Option Mode
  order          : List Element
  cavityTarget   : Option Nat
  humidityTarget : Option Nat
  integ          : Int
  demTop         : Nat
  demBottom      : Nat
  demRing        : Nat
  steamDemand    : Nat
  fanReq         : Bool
  ventReq        : Bool
  doorOpen       : Bool
  doorInputOpen  : Bool
  doorMs         : Nat
  sampleMs       : Nat
  deriving DecidableEq, Repr

/-! ### Power Scheduler -/

structure Power where
  freq         : Frequency
  halfPeriodUs : Option Nat
  crossings    : Nat
  intervalUs   : Nat
  freqMs       : Nat
  sinceCrossUs : Nat
  inFrame      : Bool
  slot         : Nat
  layout       : List (PerElement Bool)
  frameOrder   : List Element
  vc           : Nat
  corrected    : PerElement Nat
  avail        : Nat
  carriesBase  : Bool
  demands      : PerElement Nat
  placed       : PerElement Nat
  onCount      : PerElement Nat
  grants       : PerElement Nat
  starved      : Bool
  want         : Nat
  gates        : PerElement Bool
  base         : PerActuator Bool
  misses       : Nat
  holdFall     : Option Nat
  shed         : PerElement Bool
  cavityZeroed : Bool
  heatBarred   : Bool
  starveMs     : Option Nat
  freeCount    : Nat
  deriving DecidableEq, Repr

/-! ### Share Unit -/

/-- One entry of the share table (R36). -/
structure Entry where
  station    : Nat
  expired    : Bool
  circuit    : Option Nat
  water      : Option Nat
  holds      : PerPool Nat
  heardMs    : Nat
  belowFloor : Bool
  leak       : Bool
  joining    : Bool
  deriving DecidableEq, Repr

structure Share where
  holds        : PerPool Nat
  floor        : Nat
  table        : List Entry
  link         : LinkState
  joinMs       : Option Nat
  sinceOwnMs   : Option Nat
  isolatedMs   : Nat
  lost         : Bool
  backoffMs    : Option Nat
  sinceYieldMs : Option Nat
  vetoMark     : Bool
  lowerRun     : Nat
  tripSet      : List Nat
  leakWet      : Bool
  leakInputWet : Bool
  leakMs       : Nat
  safetyOwed   : Bool
  statusMs     : Nat
  retryMs      : Nat
  redecide     : PerPool Bool
  fell         : PerPool Bool
  deriving DecidableEq, Repr

/-! ### Line Interface -/

/-- The frames the part sends (R65). STATUS and READING take their contents when their opening mark begins
(R48, R162), so they are held without any. -/
inductive TxFrame where
  | trip (origin group : Nat)
  | tripClear (origin group : Nat)
  | lower (pool : Pool) (group hold : Nat)
  | yields (group need : Nat)
  | raise (pool : Pool) (group hold : Nat)
  | result (kind : CmdKind) (code : ResultCode) (detail : Nat)
  | notice (code : NoticeCode) (tag index detail : Nat)
  | reading
  | status
  deriving DecidableEq, Repr

/-- A frame in the transmit queue, and whether it is being sent (R75). -/
structure QEntry where
  frame   : TxFrame
  sending : Bool
  deriving DecidableEq, Repr

structure Line where
  state         : LineState
  breakSeen     : Bool
  queue         : List QEntry
  txBytes       : List Byte
  malformed     : Nat
  clashes       : Nat
  numberClash   : Bool
  verdictDriven : Bool
  deriving DecidableEq, Repr

/-! ### Steam Generator Controller -/

/-- A fill in progress (R83). -/
structure Fill where
  kind    : FillKind
  budget  : Nat
  valveMs : Nat
  counted : Bool
  deriving DecidableEq, Repr

/-- A drain in progress (R92). -/
structure Drain where
  pumpMs : Nat
  dryMs  : Nat
  deriving DecidableEq, Repr

/-- The nonvolatile service record (R100). -/
structure ServiceRecord where
  scale : Nat
  sub   : Nat
  acid  : Bool
  deriving DecidableEq, Repr

structure Steam where
  levels       : PerElectrode Bool
  levelInputs  : PerElectrode Bool
  levelMs      : PerElectrode Nat
  gen          : GenState
  faultKind    : Option FaultKind
  fill         : Option Fill
  drain        : Option Drain
  request      : ServiceRequest
  lock         : Bool
  coolMs       : Nat
  inletWant    : Bool
  drainWant    : Bool
  fillReq      : Bool
  pumpReq      : Bool
  boilerDemand : Nat
  gate         : Bool
  scale        : Nat
  sub          : Nat
  acid         : Bool
  record       : ServiceRecord
  writing      : Option ServiceRecord
  writeAgain   : Bool
  deriving DecidableEq, Repr

/-! ### Descale Sequencer -/

structure Descale where
  phase     : Phase
  rinse     : Nat
  soakMark  : Bool
  prepMs    : Nat
  soakMs    : Nat
  lowMs     : Nat
  heatClock : Nat
  powerWait : Bool
  waitMs    : Nat
  waitNoted : Bool
  deriving DecidableEq, Repr

/-! ### Recipe Engine -/

/-- The fields of a HEAT stage (R117). -/
structure HeatStage where
  mode     : Mode
  cavity   : Nat
  humidity : Option Nat
  endKind  : EndKind
  duration : Option Nat
  core     : Option Nat
  atTarget : Bool
  prompt   : Nat
  branches : List Nat
  deriving DecidableEq, Repr

/-- A stage record (R117). -/
inductive StageRecord where
  | heat (stage : HeatStage) (skip : Option Skip)
  | call (target : Nat) (skip : Option Skip)
  | ret
  deriving DecidableEq, Repr

structure Recipe where
  state        : ProgState
  store        : List StageRecord
  count        : Nat
  tag          : Nat
  remaining    : Nat
  cur          : Nat
  lastHeat     : Nat
  stack        : List Nat
  elapsedMs    : Nat
  phaseStarted : Bool
  probePresent : Bool
  probeShows   : Bool
  probeMs      : Nat
  pausedFrom   : ProgState
  prompt       : Nat
  withheldMark : Bool
  withheldMs   : Nat
  gapMs        : Nat
  deriving DecidableEq, Repr

/-! ### Supervision Unit -/

/-- The reading a channel presents (R140, R141): the value while the reading is valid, the condition last seen,
whether the 2 s hold runs and for how long, and the side it has failed to. -/
structure Reading where
  value   : Option Int
  cond    : InputCond
  holding : Bool
  holdMs  : Nat
  failed  : Option Side
  deriving DecidableEq, Repr

/-- One side of a channel (R144): its state, its debounce count and the consequence fixed at the start. -/
structure SideRec where
  state : SideState
  ms    : Nat
  cons  : Consequence
  deriving DecidableEq, Repr

def SideRec.cleared : SideRec := ⟨.clear, 0, .note⟩

structure Superv where
  readings       : PerChannel Reading
  low            : PerChannel SideRec
  high           : PerChannel SideRec
  fixed          : SideRec
  strikes        : PerChannel Nat
  relayClosed    : Bool
  feedbackClosed : Bool
  mismatchMs     : Nat
  trip           : Bool
  welded         : Bool
  configFault    : Bool
  checkValue     : Word16
  checkMs        : Nat
  judging        : Bool
  mainsArmed     : Bool
  deriving DecidableEq, Repr

end Sys2Proof.Machine
end

