-- ==== Sys2Proof/Machine/State.lean ====
section
/-!
DEFINITION. State: everything the handbook gives the machine, block by block, and the queue of waiting
commands; the reasons a step can stop; and the machine right after reset.
-/
namespace Sys2Proof.Machine

/-- The whole machine: the nine blocks of 00_scope.md and the commands that wait. -/
structure State where
  pending : List Instr
  startup : Startup
  climate : Climate
  power   : Power
  share   : Share
  line    : Line
  steam   : Steam
  descale : Descale
  recipe  : Recipe
  superv  : Superv
  deriving DecidableEq, Repr

/-- Reasons a step stops with a fault. There is none: the handbook gives every command an effect, and what it
calls a fault (TRIP, CONFIG_FAULT, RELAY_WELDED, a MAINS fault, a generator or descale fault) is a state. -/
inductive Fault where
  deriving DecidableEq, Repr

/-- Reasons a step is refused. -/
inductive Refusal where
  /-- Raised by an arm of `exec` whose command has no meaning yet; safe, because the machine stops. -/
  | notModelled (mnemonic : String)
  deriving DecidableEq, Repr

/-! ### The blocks' updates -/

def State.setPending (s : State) (x : List Instr) : State := { s with pending := x }
def State.setStartup (s : State) (x : Startup) : State := { s with startup := x }
def State.setClimate (s : State) (x : Climate) : State := { s with climate := x }
def State.setPower (s : State) (x : Power) : State := { s with power := x }
def State.setShare (s : State) (x : Share) : State := { s with share := x }
def State.setLine (s : State) (x : Line) : State := { s with line := x }
def State.setSteam (s : State) (x : Steam) : State := { s with steam := x }
def State.setDescale (s : State) (x : Descale) : State := { s with descale := x }
def State.setRecipe (s : State) (x : Recipe) : State := { s with recipe := x }
def State.setSuperv (s : State) (x : Superv) : State := { s with superv := x }

/-! ### Reset -/

/-- R166, R167: before the straps are read there is no number and no window; the copies hold their defaults. -/
def Startup.reset : Startup where
  station       := 0
  partner       := 0
  setup         := .noWindow
  windowMs      := 0
  workSupply    := Supply.defaults
  workChannels  := ChannelRecord.defaults
  supply        := Supply.defaults
  channels      := ChannelRecord.defaults
  restarting    := false
  restartMs     := 0
  restartLowers := PerPool.all false

/-- R1, R5, R8, R14, R15. -/
def Climate.reset : Climate where
  profile        := none
  order          := [.boiler]
  cavityTarget   := none
  humidityTarget := none
  integ          := 0
  demTop         := 0
  demBottom      := 0
  demRing        := 0
  steamDemand    := 0
  fanReq         := false
  ventReq        := false
  doorOpen       := true
  doorInputOpen  := true
  doorMs         := 0
  sampleMs       := 0

/-- R20, R21, R25, R33, R34. -/
def Power.reset : Power where
  freq         := .undecided
  halfPeriodUs := none
  crossings    := 0
  intervalUs   := 0
  freqMs       := 0
  sinceCrossUs := 0
  inFrame      := false
  slot         := 0
  layout       := []
  frameOrder   := []
  vc           := 0
  corrected    := PerElement.all 0
  avail        := 0
  carriesBase  := false
  demands      := PerElement.all 0
  placed       := PerElement.all 0
  onCount      := PerElement.all 0
  grants       := PerElement.all 0
  starved      := false
  want         := 0
  gates        := PerElement.all false
  base         := PerActuator.all false
  misses       := 0
  holdFall     := none
  shed         := PerElement.all false
  cavityZeroed := false
  heatBarred   := false
  starveMs     := none
  freeCount    := 0

/-- R35, R36, R41, R51, R55, R57, R60. -/
def Share.reset : Share where
  holds        := PerPool.all 0
  floor        := 350
  table        := []
  link         := .joining
  joinMs       := none
  sinceOwnMs   := none
  isolatedMs   := 0
  lost         := false
  backoffMs    := none
  sinceYieldMs := none
  vetoMark     := false
  lowerRun     := 0
  tripSet      := []
  leakWet      := false
  leakInputWet := false
  leakMs       := 0
  safetyOwed   := false
  statusMs     := 0
  retryMs      := 0
  redecide     := PerPool.all false
  fell         := PerPool.all false

/-- R78. -/
def Line.reset : Line where
  state         := .wait
  breakSeen     := false
  queue         := []
  txBytes       := []
  malformed     := 0
  clashes       := 0
  numberClash   := false
  verdictDriven := false

/-- R79, R80, R100. -/
def Steam.reset : Steam where
  levels       := PerElectrode.all false
  levelInputs  := PerElectrode.all false
  levelMs      := PerElectrode.all 0
  gen          := .empty
  faultKind    := none
  fill         := none
  drain        := none
  request      := .none
  lock         := false
  coolMs       := 0
  inletWant    := false
  drainWant    := false
  fillReq      := false
  pumpReq      := false
  boilerDemand := 0
  gate         := false
  scale        := 0
  sub          := 0
  acid         := false
  record       := ⟨0, 0, false⟩
  writing      := none
  writeAgain   := false

/-- R101, R115. -/
def Descale.reset : Descale where
  phase     := .off
  rinse     := 0
  soakMark  := false
  prepMs    := 0
  soakMs    := 0
  lowMs     := 0
  heatClock := 0
  powerWait := false
  waitMs    := 0
  waitNoted := false

/-- R116, R127. -/
def Recipe.reset : Recipe where
  state        := .idle
  store        := []
  count        := 0
  tag          := 0
  remaining    := 0
  cur          := 0
  lastHeat     := 0
  stack        := []
  elapsedMs    := 0
  phaseStarted := false
  probePresent := false
  probeShows   := false
  probeMs      := 0
  pausedFrom   := .running
  prompt       := 0
  withheldMark := false
  withheldMs   := 0
  gapMs        := 0

/-- A channel that has not been read yet presents no value (R141, R154). -/
def Reading.unread : Reading := ⟨none, .ok, false, 0, none⟩

/-- R140 (MAINS reads 0 V), R150, R154. -/
def Superv.reset : Superv where
  readings       := { PerChannel.all Reading.unread with mains := ⟨some 0, .ok, false, 0, none⟩ }
  low            := PerChannel.all SideRec.cleared
  high           := PerChannel.all SideRec.cleared
  fixed          := SideRec.cleared
  strikes        := PerChannel.all 0
  relayClosed    := false
  feedbackClosed := false
  mismatchMs     := 0
  trip           := false
  welded         := false
  configFault    := false
  checkValue     := 0
  checkMs        := 0
  judging        := false
  mainsArmed     := false

/-- The machine right after reset: every block at its power-on values, before the straps are read (log entries
3 and 4); no command waits. -/
def State.reset : State where
  pending := []
  startup := Startup.reset
  climate := Climate.reset
  power   := Power.reset
  share   := Share.reset
  line    := Line.reset
  steam   := Steam.reset
  descale := Descale.reset
  recipe  := Recipe.reset
  superv  := Superv.reset

end Sys2Proof.Machine
end

