-- ==== Sys2Proof/Machine/Operands.lean ====
section
/-!
DEFINITION. Tables, codes and layouts: the mode profiles (R1), the channel ranges (R140), the codes of R174, the
stage record (R117, R118, R177), the SETUP sections (R168, R169, R177), and bytes to and from numbers (R173).
-/
namespace Sys2Proof.Machine

/-! ### Arithmetic of the handbook -/

/-- A value brought to the nearer bound of a range. -/
def clampNat (lo hi v : Nat) : Nat := max lo (min hi v)

/-- A signed value brought to the nearer bound of a range. -/
def clampInt (lo hi v : Int) : Int := max lo (min hi v)

/-- A quotient rounded up: any nonzero remainder adds 1 (R24). -/
def divUp (a b : Nat) : Nat := if a % b = 0 then a / b else a / b + 1

/-! ### Bytes (R173) -/

/-- The number that bytes stand for, most significant byte first. -/
def bytesToNat (bs : List Byte) : Nat := bs.foldl (fun acc b => acc * 256 + b.toNat) 0

/-- The low byte of a number. -/
def byteOf (v : Nat) : Byte := BitVec.ofNat 8 v

def bytes2 (v : Nat) : List Byte := [byteOf (v / 256), byteOf v]

def bytes3 (v : Nat) : List Byte := [byteOf (v / 65536), byteOf (v / 256), byteOf v]

/-- One bit as the number 0 or 1. -/
def bitNat (b : Bool) : Nat := if b then 1 else 0

/-! ### Mode profiles (R1) -/

/-- One row of the table of R1. -/
structure Profile where
  lowest   : Nat
  highest  : Nat
  top      : Nat
  bottom   : Nat
  ring     : Nat
  kp       : Int
  humidity : Option Nat
  ks       : Int
  sb       : Int
  order    : List Element
  fan      : Bool
  deriving DecidableEq, Repr

/-- The table of R1. -/
def profile : Mode → Profile
  | .conv  => ⟨500, 2500, 55, 45, 0, 6, none, 0, 0, [.top, .bottom, .ring, .boiler], false⟩
  | .fan   => ⟨500, 2500, 0, 0, 100, 8, none, 0, 0, [.ring, .top, .bottom, .boiler], true⟩
  | .combi => ⟨500, 2500, 20, 10, 70, 8, some 50, 4, 2, [.boiler, .ring, .top, .bottom], true⟩
  | .steam => ⟨300, 1000, 0, 0, 100, 4, some 100, 6, 10, [.boiler, .ring, .top, .bottom], true⟩
  | .regen => ⟨800, 1600, 0, 20, 80, 6, some 60, 4, 4, [.boiler, .ring, .bottom, .top], true⟩
  | .prove => ⟨300, 450, 0, 60, 40, 3, some 80, 3, 2, [.boiler, .bottom, .ring, .top], true⟩

/-- COMBI, STEAM, REGEN and PROVE run a humidity loop (R1). -/
def Mode.humid (m : Mode) : Bool := (profile m).humidity.isSome

/-- The order presented while the profile is NONE (R1, R4). -/
def serviceOrder : List Element := [.boiler]

/-- Stagger offsets (R27). -/
def Element.offset : Element → Nat
  | .top => 0 | .bottom => 5 | .ring => 10 | .boiler => 15

/-! ### Channels (R140, R143) -/

/-- The range of each channel (R140). -/
def channelRange : Channel → Int × Int
  | .cav => (0, 3000) | .core => (0, 1300) | .boil => (0, 1600)
  | .moist => (0, 100) | .mains => (0, 300) | .board => (-400, 1500)

/-- A measured value beyond the range is presented at the nearer end (R140). -/
def channelClamp (c : Channel) (v : Int) : Int := clampInt (channelRange c).1 (channelRange c).2 v

/-- Hysteresis (R143). -/
def hysteresis : Channel → Int
  | .moist => 2 | .mains => 3 | .cav => 20 | .core => 20 | .boil => 20 | .board => 20

/-- Debounce time of a code (R143): 20 ms times 2 to the code, and 10.24 s from code 9 on. -/
def debounceMs (code : Nat) : Nat := 20 * 2 ^ (min code 9)

/-- The channels in the order of their codes. -/
def channelList : List Channel := [.cav, .core, .boil, .moist, .mains, .board]

/-! ### Codes (R174) -/

def poolCode : Pool → Nat
  | .power => 0 | .inlet => 1 | .drain => 2

def channelCode : Channel → Nat
  | .cav => 0 | .core => 1 | .boil => 2 | .moist => 3 | .mains => 4 | .board => 5

def sideCode : Side → Nat
  | .low => 0 | .high => 1 | .fixed => 2

def Consequence.code : Consequence → Nat
  | .note => 0 | .cut => 1 | .trip => 2

def ProgState.code : ProgState → Nat
  | .idle => 0 | .loading => 1 | .loaded => 2 | .running => 3
  | .paused => 4 | .prompting => 5 | .finished => 6 | .faulted => 7

def LinkState.code : LinkState → Nat
  | .joining => 0 | .member => 1 | .isolated => 2

def Withheld.code : Withheld → Nat
  | .none => 0 | .acid => 1 | .fault => 2 | .block => 3 | .lowWater => 4 | .inletWait => 5

def ScaleLevel.code : ScaleLevel → Nat
  | .none => 0 | .due => 1 | .derate => 2 | .block => 3

def DescaleCause.code : DescaleCause → Nat
  | .none => 0 | .prepTimeout => 1 | .aborted => 2 | .fillFault => 3 | .drainFault => 4 | .heatLimit => 5
  | .lowWater => 6 | .trip => 7 | .relayWelded => 8 | .rinsed => 9 | .powerOn => 10 | .restart => 11

def ProgramFault.code : ProgramFault → Nat
  | .trip => 1 | .lineLost => 2 | .stackFault => 3 | .configFault => 4

/-- Fault kinds in the detail of STEAM_WITHHELD (R179): 0 none. -/
def faultKindCode : Option FaultKind → Nat
  | none => 0 | some .fillFault => 1 | some .drainFault => 2

/-- The generator code carries the fault kind (R174). A FAULT always holds a kind (R93). -/
def generatorCode : GenState → Option FaultKind → Nat
  | .empty, _ => 0 | .filling, _ => 1 | .heating, _ => 2 | .ready, _ => 3
  | .cooling, _ => 4 | .draining, _ => 5 | .service, _ => 6
  | .fault, some .drainFault => 8
  | .fault, _ => 7

/-- The descale code carries the rinse count (R174). -/
def descaleCode : Phase → Nat → Nat
  | .off, _ => 0 | .prep, _ => 1 | .drainOut, _ => 2 | .dose, _ => 3 | .soakHeat, _ => 4 | .soak, _ => 5
  | .acidDrain, _ => 6
  | .rinseFill, k => 6 + k | .rinseHeat, k => 9 + k | .rinseDrain, k => 12 + k
  | .complete, _ => 16 | .holdAcid, _ => 17

def CmdKind.code : CmdKind → Nat
  | .query => 0 | .loadOpen => 1 | .stage => 2 | .start => 3 | .pause => 4 | .resume => 5 | .abort => 6
  | .answer => 7 | .finishAck => 8 | .runManual => 9 | .descaleStart => 10 | .descaleConfirm => 11
  | .relayRestore => 12 | .restart => 13 | .setup => 14

def ResultCode.code : ResultCode → Nat
  | .accepted => 0 | .acceptedClamped => 1 | .refusedState => 2 | .refusedField => 3 | .refusedOrder => 4
  | .refusedProgram => 5 | .refusedAcid => 6 | .refusedTrip => 7 | .refusedFrozen => 8 | .refusedConfig => 9

def NoticeCode.code : NoticeCode → Nat
  | .stageBegin => 0 | .prompt => 1 | .programFinished => 2 | .programAborted => 3 | .programFault => 4
  | .loadTimeout => 5 | .steamWithheld => 6 | .descaleDue => 7 | .descalePhase => 8 | .descaleComplete => 9
  | .waitingForPool => 10 | .supplyStarved => 11 | .channelExcursion => 12 | .relayFault => 13
  | .waterTrip => 14 | .lineIsolated => 15 | .lineRestored => 16 | .lineLost => 17 | .numberClash => 18
  | .configDefaults => 19

def Mode.ofCode : Nat → Mode
  | 0 => .conv | 1 => .fan | 2 => .combi | 3 => .steam | 4 => .regen | _ => .prove

def EndKind.ofCode : Nat → EndKind
  | 0 => .time | 1 => .temp | 2 => .core | 3 => .either | _ => .prompt

def Consequence.ofCode : Nat → Consequence
  | 0 => .note | 1 => .cut | _ => .trip

/-- The detail of a command's result when nothing else is named (R157). -/
def noDetail : Nat := 0

/-- The detail for a body whose contents disagree with its length (R173). -/
def badBodyDetail : Nat := 65535

/-! ### The stage record (R117, R118, R177) -/

/-- The fields of a stage record in the order of their presence flags (R177). -/
inductive RecordField where
  | mode | cavity | humidity | endKind | duration | core | timer | skip | prompt | branches | call
  deriving DecidableEq, Repr

def RecordField.listed : List RecordField :=
  [.mode, .cavity, .humidity, .endKind, .duration, .core, .timer, .skip, .prompt, .branches, .call]

/-- A stage record as its bytes carry it: the kind and the number of every field whose flag is set. -/
structure RawRecord where
  kind     : Nat
  mode     : Option Nat
  cavity   : Option Nat
  humidity : Option Nat
  endKind  : Option Nat
  duration : Option Nat
  core     : Option Nat
  timer    : Option Nat
  skip     : Option Nat
  prompt   : Option Nat
  branches : Option (List Nat)
  call     : Option Nat
  deriving DecidableEq, Repr

/-- A field of `n` bytes taken from the front of `bs` when its flag is set; none when the bytes run out. -/
def takeField (flag : Bool) (n : Nat) (bs : List Byte) : Option (Option Nat × List Byte) :=
  if flag then
    if n ≤ bs.length then some (some (bytesToNat (bs.take n)), bs.drop n) else none
  else some (none, bs)

/-- The branch list: a count and one byte per offset. -/
def takeBranches (flag : Bool) (bs : List Byte) : Option (Option (List Nat) × List Byte) :=
  if flag then
    match bs with
    | [] => none
    | c :: rest =>
      if c.toNat ≤ rest.length then
        some (some ((rest.take c.toNat).map BitVec.toNat), rest.drop c.toNat)
      else none
  else some (none, bs)

/-- The record read by its presence flags; none when they call for more or fewer bytes than there are (R173). -/
def parseRecord : List Byte → Option RawRecord
  | k :: f1 :: f0 :: r0 =>
    let fl := f1.toNat * 256 + f0.toNat
    (takeField (fl.testBit 15) 1 r0).bind fun (mode, r1) =>
    (takeField (fl.testBit 14) 2 r1).bind fun (cavity, r2) =>
    (takeField (fl.testBit 13) 1 r2).bind fun (humidity, r3) =>
    (takeField (fl.testBit 12) 1 r3).bind fun (endKind, r4) =>
    (takeField (fl.testBit 11) 3 r4).bind fun (duration, r5) =>
    (takeField (fl.testBit 10) 2 r5).bind fun (core, r6) =>
    (takeField (fl.testBit 9) 1 r6).bind fun (timer, r7) =>
    (takeField (fl.testBit 8) 3 r7).bind fun (skip, r8) =>
    (takeField (fl.testBit 7) 1 r8).bind fun (prompt, r9) =>
    (takeBranches (fl.testBit 6) r9).bind fun (branches, r10) =>
    (takeField (fl.testBit 5) 1 r10).bind fun (call, r11) =>
    if r11.isEmpty then
      some ⟨k.toNat, mode, cavity, humidity, endKind, duration, core, timer, skip, prompt, branches, call⟩
    else none
  | _ => none

/-- How many bytes a field of the record takes in it. -/
def RawRecord.size (r : RawRecord) : RecordField → Nat
  | .mode => bitNat r.mode.isSome
  | .cavity => 2 * bitNat r.cavity.isSome
  | .humidity => bitNat r.humidity.isSome
  | .endKind => bitNat r.endKind.isSome
  | .duration => 3 * bitNat r.duration.isSome
  | .core => 2 * bitNat r.core.isSome
  | .timer => bitNat r.timer.isSome
  | .skip => 3 * bitNat r.skip.isSome
  | .prompt => bitNat r.prompt.isSome
  | .branches => match r.branches with | none => 0 | some l => 1 + l.length
  | .call => bitNat r.call.isSome

/-- The field's offset within the record (R173): kind byte and flags, then the fields before it. A field the
record lacks has the offset at which it would begin (log entry 12). A clamped v has the offset of its skip condition, and a
branch offset out of range that of its branch list (log entry 44). -/
def RawRecord.offset (r : RawRecord) (f : RecordField) : Nat :=
  3 + ((RecordField.listed.takeWhile (· ≠ f)).map r.size).sum

/-- What a record of the kind asks of a field (R117). -/
inductive Need where
  | required | optional | notTaken
  deriving DecidableEq, Repr

/-- The table of R117 for a HEAT record with the end kind code `e`. -/
def needHeat (e : Option Nat) : RecordField → Need
  | .mode => .required
  | .cavity => .required
  | .humidity => .optional
  | .endKind => .required
  | .duration =>
    match e with
    | some 0 => .required | some 1 => .notTaken | some 3 => .required | _ => .optional
  | .core =>
    match e with
    | some 2 => .required | some 3 => .required | _ => .notTaken
  | .timer => .required
  | .skip => .optional
  | .prompt => if e = some 4 then .required else .notTaken
  | .branches => if e = some 4 then .optional else .notTaken
  | .call => .notTaken

/-- The table of R117: HEAT, CALL and RETURN. -/
def RawRecord.need (r : RawRecord) (f : RecordField) : Need :=
  match r.kind with
  | 0 => needHeat r.endKind f
  | 1 => match f with
    | .skip => .optional
    | .call => .required
    | _ => .notTaken
  | _ => .notTaken

/-- Whether a field is present; a branch list with a count of 0 acts as an absent list (R177), also in a record that takes
no branch list (log entry 53). -/
def RawRecord.present (r : RawRecord) : RecordField → Bool
  | .mode => r.mode.isSome
  | .cavity => r.cavity.isSome
  | .humidity => r.humidity.isSome
  | .endKind => r.endKind.isSome
  | .duration => r.duration.isSome
  | .core => r.core.isSome
  | .timer => r.timer.isSome
  | .skip => r.skip.isSome
  | .prompt => r.prompt.isSome
  | .branches => !(r.branches.getD []).isEmpty
  | .call => r.call.isSome

/-- Whether a present field names a defined mode, end kind, timer start or skip condition (R117). -/
def RawRecord.defined (r : RawRecord) : RecordField → Bool
  | .mode => decide (r.mode.getD 0 < 6)
  | .endKind => decide (r.endKind.getD 0 < 5)
  | .timer => decide (r.timer.getD 0 < 2)
  | .skip => decide (r.skip.getD 0 / 65536 < 4)
  | _ => true

/-- A field fails R117 when it lacks, is not taken, or names something undefined. -/
def RawRecord.failsKind (r : RawRecord) (f : RecordField) : Bool :=
  match r.need f, r.present f with
  | .required, false => true
  | .notTaken, true => true
  | _, true => !r.defined f
  | _, false => false

/-- A field fails R118 when it is out of a range that is refused rather than clamped. -/
def RawRecord.failsRange (r : RawRecord) : RecordField → Bool
  | .prompt => r.prompt.any fun v => decide (v < 1) || decide (199 < v)
  | .branches => r.branches.any fun l => decide (3 < l.length) || l.any fun o => decide (o < 1) || decide (23 < o)
  | .call => r.call.any fun v => decide (v < 1) || decide (24 < v)
  | _ => false

/-- The skip condition, with its temperature clamped (R118). -/
def skipOf (raw : Nat) : Skip :=
  let v := raw % 65536
  match raw / 65536 with
  | 0 => .cavityAtLeast (clampNat 0 2500 v)
  | 1 => .coreAtLeast (clampNat 300 990 v)
  | 2 => .probeAbsent
  | _ => .probePresent

/-- The stage that a record without faults stands for, its values clamped (R118). -/
def RawRecord.toStage (r : RawRecord) : StageRecord :=
  let skip := r.skip.map skipOf
  match r.kind with
  | 0 =>
    let mode := Mode.ofCode (r.mode.getD 0)
    .heat
      { mode     := mode
        cavity   := clampNat (profile mode).lowest (profile mode).highest (r.cavity.getD 0)
        humidity := r.humidity.map (clampNat 0 100)
        endKind  := EndKind.ofCode (r.endKind.getD 0)
        duration := r.duration.map (clampNat 1 86400)
        core     := r.core.map (clampNat 300 990)
        atTarget := decide (r.timer = some 1)
        prompt   := r.prompt.getD 0
        branches := r.branches.getD [] } skip
  | 1 => .call (r.call.getD 0) skip
  | _ => .ret

/-- Whether a field's value lies outside a range to which it is clamped (R118). -/
def RawRecord.clamps (r : RawRecord) : RecordField → Bool
  | .cavity =>
    let p := profile (Mode.ofCode (r.mode.getD 0))
    r.cavity.any fun v => clampNat p.lowest p.highest v != v
  | .humidity => r.humidity.any fun v => clampNat 0 100 v != v
  | .duration => r.duration.any fun v => clampNat 1 86400 v != v
  | .core => r.core.any fun v => clampNat 300 990 v != v
  | .skip => r.skip.any fun raw =>
    match raw / 65536 with
    | 0 => clampNat 0 2500 (raw % 65536) != raw % 65536
    | 1 => clampNat 300 990 (raw % 65536) != raw % 65536
    | _ => false
  | _ => false

/-- The outcome of judging a stage record. -/
inductive RecordVerdict where
  /-- refused, with the offset of the field concerned -/
  | refused (detail : Nat)
  /-- taken, with the offset of the first field clamped, if any -/
  | taken (stage : StageRecord) (clamped : Option Nat)
  deriving DecidableEq, Repr

/-- R117 first, then R118 (and R173 before both); `base` is the number of body bytes before the record. -/
def judgeRecord (base : Nat) (bs : List Byte) : RecordVerdict :=
  match parseRecord bs with
  | none => .refused badBodyDetail
  | some r =>
    if 2 < r.kind then .refused base
    else
      match RecordField.listed.find? r.failsKind with
      | some f => .refused (base + r.offset f)
      | none =>
        match RecordField.listed.find? r.failsRange with
        | some f => .refused (base + r.offset f)
        | none =>
          .taken r.toStage ((RecordField.listed.find? r.clamps).map fun f => base + r.offset f)

/-! ### The SETUP sections (R168, R169, R177) -/

/-- The outcome of judging the fields of a section: refused with a field offset, or valid. -/
inductive SectionVerdict (α : Type) where
  | refused (detail : Nat)
  | valid (value : α)
  deriving DecidableEq, Repr

/-- The first check that fails, by its field offset. -/
def firstInvalid : List (Bool × Nat) → Option Nat
  | [] => none
  | (ok, off) :: rest => if ok then firstInvalid rest else some off

/-- The SUPPLY fields behind the section byte, in the layout of R177. -/
def readSupply (b : List Byte) : Supply :=
  let at1 (i : Nat) : Nat := bytesToNat ((b.drop (i - 1)).take 1)
  let at2 (i : Nat) : Nat := bytesToNat ((b.drop (i - 1)).take 2)
  { circuitGroup := at1 1 / 16
    waterGroup   := at1 1 % 16
    capacity     := at2 2
    stations     := at1 4
    baseLoad     := at1 5
    ratings      := ⟨at2 6, at2 8, at2 10, at2 12⟩
    vNom         := at1 14
    inletCap     := at1 15
    drainCap     := at1 16
    hardness     := at1 17
    tDue         := at2 18 }

/-- The checks of R168 in the order of its table, each with the offset of its field (R177). -/
def supplyChecks (v : Supply) : List (Bool × Nat) :=
  [ (decide (v.circuitGroup ≤ 3), 1), (decide (v.waterGroup ≤ 3), 1),
    (decide (100 ≤ v.capacity) && decide (v.capacity ≤ 1100), 2),
    (decide (1 ≤ v.stations) && decide (v.stations ≤ 8), 4),
    (decide (v.baseLoad ≤ 30), 5),
    (decide (v.ratings.top ≤ 400), 6), (decide (v.ratings.bottom ≤ 400), 8),
    (decide (v.ratings.ring ≤ 400), 10), (decide (v.ratings.boiler ≤ 400), 12),
    (v.vNom == 230 || v.vNom == 120, 14),
    (decide (1 ≤ v.inletCap) && decide (v.inletCap ≤ 4), 15),
    (decide (1 ≤ v.drainCap) && decide (v.drainCap ≤ 2), 16),
    (decide (v.hardness ≤ 40), 17),
    (decide (1000 ≤ v.tDue) && decide (v.tDue ≤ 20000), 18) ]

def judgeSupply (fields : List Byte) : SectionVerdict Supply :=
  if fields.length ≠ 19 then .refused badBodyDetail
  else
    match firstInvalid (supplyChecks (readSupply fields)) with
    | some off => .refused off
    | none => .valid (readSupply fields)

/-- A limit of two bytes: BOARD's is two's complement (R177). -/
def limitOf (c : Channel) (raw : Nat) : Int :=
  if c = .board ∧ 32768 ≤ raw then (raw : Int) - 65536 else raw

/-- The CHANNEL fields behind the section byte, judged in the order of R169. -/
def judgeChannel (c : Channel) (fields : List Byte) : SectionVerdict ChannelRecord :=
  if fields.length ≠ 8 then .refused badBodyDetail
  else
    let at1 (i : Nat) : Nat := bytesToNat ((fields.drop (i - 1)).take 1)
    let at2 (i : Nat) : Nat := bytesToNat ((fields.drop (i - 1)).take 2)
    let lo := limitOf c (at2 2)
    let hi := limitOf c (at2 4)
    let inRange (v : Int) : Bool := decide ((channelRange c).1 ≤ v) && decide (v ≤ (channelRange c).2)
    match firstInvalid
      [ (decide (at1 1 ≤ 1), 1), (inRange lo, 2), (inRange hi && decide (lo < hi), 4),
        (decide (at1 7 / 16 ≤ 2), 7), (decide (at1 7 % 16 ≤ 2), 7), (decide (at1 8 ≤ 15), 8) ] with
    | some off => .refused off
    | none =>
      .valid
        { enabled     := at1 1 == 1
          lowLimit    := lo
          highLimit   := hi
          lowCode     := at1 6 / 16
          highCode    := at1 6 % 16
          lowMap      := Consequence.ofCode (at1 7 / 16)
          highMap     := Consequence.ofCode (at1 7 % 16)
          strikeLimit := at1 8 }

/-- The channel a SETUP section byte names: 16 + n (R177). -/
def channelOfSection (b : Byte) : Option Channel :=
  match b.toNat with
  | 16 => some .cav | 17 => some .core | 18 => some .boil
  | 19 => some .moist | 20 => some .mains | 21 => some .board
  | _ => none

/-- The 19 field bytes of a SUPPLY section (R177). -/
def Supply.bytes (v : Supply) : List Byte :=
  [byteOf (v.circuitGroup * 16 + v.waterGroup)] ++ bytes2 v.capacity ++ [byteOf v.stations, byteOf v.baseLoad]
    ++ bytes2 v.ratings.top ++ bytes2 v.ratings.bottom ++ bytes2 v.ratings.ring ++ bytes2 v.ratings.boiler
    ++ [byteOf v.vNom, byteOf v.inletCap, byteOf v.drainCap, byteOf v.hardness] ++ bytes2 v.tDue

/-- A limit's two bytes, in two's complement (R177). -/
def limitBytes (v : Int) : List Byte := bytes2 (v % 65536).toNat

/-- The 8 field bytes of a CHANNEL section (R177). -/
def ChannelRecord.bytes (r : ChannelRecord) : List Byte :=
  [byteOf (bitNat r.enabled)] ++ limitBytes r.lowLimit ++ limitBytes r.highLimit
    ++ [byteOf (r.lowCode * 16 + r.highCode), byteOf (r.lowMap.code * 16 + r.highMap.code), byteOf r.strikeLimit]

end Sys2Proof.Machine
end

