-- ==== Sys2Proof/Machine/Flags.lean ====
section
/-!
DEFINITION. The conditions the rules read: what follows from State without being stored in it. Check field (R64),
numbering and freeze (R166, R167), program and steam conditions (R81, R96, R98), excursions and CUT (R147), charges
and capacities of the pools (R35, R37), the timer's conditions (R128).
-/
namespace Sys2Proof.Machine

/-! ### Check field (R64) -/

/-- One covered bit: compare with the top bit, move up, combine with the pattern of bits 12, 5 and 0. -/
def checkBit (r : Word16) (b : Bool) : Word16 :=
  if r.msb = b then r <<< 1 else (r <<< 1) ^^^ 0x1021#16

/-- One covered byte, most significant bit first. -/
def checkByte (r : Word16) (x : Byte) : Word16 :=
  [7, 6, 5, 4, 3, 2, 1, 0].foldl (fun r i => checkBit r (x.getLsbD i)) r

/-- The check value over bytes: the register starts with all 16 bits set. -/
def checkField (bs : List Byte) : Word16 := bs.foldl checkByte 0xFFFF#16

/-! ### Start-up -/

/-- UNNUMBERED (R166). -/
def unnumbered (s : State) : Bool :=
  decide (s.startup.station = 0) || decide (s.startup.partner = 0)
    || decide (s.startup.station = s.startup.partner)

/-- The configuration is frozen (R167). -/
def frozen (s : State) : Bool := decide (s.startup.setup = .frozen)

/-- The byte sequence of the configuration check (R178). -/
def configBytes (u : Startup) : List Byte :=
  [byteOf u.station, byteOf u.partner] ++ u.supply.bytes
    ++ u.channels.cav.bytes ++ u.channels.core.bytes ++ u.channels.boil.bytes
    ++ u.channels.moist.bytes ++ u.channels.mains.bytes ++ u.channels.board.bytes

/-! ### Line -/

/-- Suspension: the malformation count has reached 8 (R71). -/
def suspended (s : State) : Bool := decide (8 ≤ s.line.malformed)

/-- The frame being sent, if there is one (R75). -/
def sendingFrame (s : State) : Option TxFrame :=
  (s.line.queue.find? (·.sending)).map (·.frame)

/-! ### Recipe Engine -/

/-- The program states in which a program is active: RUNNING, PAUSED and PROMPTING (R3, R136). -/
def programActive (r : Recipe) : Bool :=
  match r.state with
  | .running => true
  | .paused => true
  | .prompting => true
  | .idle => false
  | .loading => false
  | .loaded => false
  | .finished => false
  | .faulted => false

/-- The record at a stage index, counted from 1 (R116). -/
def stageAt (r : Recipe) (i : Nat) : Option StageRecord :=
  if i = 0 then none else r.store[i - 1]?

/-- The HEAT stage at an index. -/
def heatAt (r : Recipe) (i : Nat) : Option HeatStage :=
  match stageAt r i with
  | some (.heat h _) => some h
  | _ => none

/-- The HEAT stage that is current while a program is active. -/
def currentHeat (r : Recipe) : Option HeatStage :=
  if programActive r then heatAt r r.cur else none

/-- Whether a record is a HEAT stage in a humid mode (R81). -/
def StageRecord.humid : StageRecord → Bool
  | .heat h _ => h.mode.humid
  | .call _ _ => false
  | .ret => false

/-- The recipe tag that notices carry: 0 while the store is empty (R116, R161). A READING carries the same, also in LOADING
before the first STAGE is stored (log entry 60, DESIGN CHOICE). -/
def noticeTag (r : Recipe) : Nat := if r.store.isEmpty then 0 else r.tag

/-- The index a load session expects next (R120). -/
def expectedIndex (r : Recipe) : Nat := r.count - r.remaining + 1

/-- The stage's remaining time in seconds, rounded up, where it has a duration (R128, R163). An elapsed time beyond the
duration leaves 0 (log entry 52). -/
def remainingSecs (r : Recipe) : Option Nat :=
  (currentHeat r).bind fun h => h.duration.map fun d => d - r.elapsedMs / 1000

/-! ### Steam generator -/

/-- The scale level that follows from S and T_due (R98). -/
def scaleLevel (scale tDue : Nat) : ScaleLevel :=
  if scale < tDue then .none
  else if scale < tDue + tDue / 4 then .due
  else if scale < tDue + tDue / 2 then .derate
  else .block

/-- The scale level now (R98). -/
def levelNow (s : State) : ScaleLevel := scaleLevel s.steam.scale s.startup.supply.tDue

/-- Whether steam is wanted (R81). -/
def steamWanted (s : State) : Bool :=
  programActive s.recipe
    && ((stageAt s.recipe s.recipe.cur).any StageRecord.humid
        || (s.recipe.store.drop s.recipe.cur).any StageRecord.humid)
    && decide (levelNow s ≠ .block)
    && !s.steam.acid

/-- The steam withheld reason (the table of R96). -/
def withheldReason (s : State) : Withheld :=
  if s.steam.acid then .acid
  else if s.steam.gen = .fault then .fault
  else if levelNow s = .block then .block
  else if s.steam.lock then .lowWater
  else if s.steam.gen = .filling ∧ s.share.holds.inlet = 0 then .inletWait
  else .none

/-! ### Supervision Unit -/

/-- The value a channel presents while its reading is valid (R6, R141). -/
def reading (s : State) (c : Channel) : Option Int := (s.superv.readings.get c).value

/-- A reading that is valid and at least a figure. -/
def readingAtLeast (s : State) (c : Channel) (v : Int) : Bool :=
  (reading s c).any fun x => decide (v ≤ x)

/-- A reading that is valid and at most a figure. -/
def readingAtMost (s : State) (c : Channel) (v : Int) : Bool :=
  (reading s c).any fun x => decide (x ≤ v)

/-- An excursion is in progress through ACTIVE and RECOVERING (R144). -/
def SideRec.inProgress (r : SideRec) : Bool :=
  decide (r.state = .active) || decide (r.state = .recovering)

/-- An excursion whose consequence is CUT is in progress on a side. -/
def SideRec.cuts (r : SideRec) : Bool := r.inProgress && decide (r.cons = .cut)

/-- A CUT is in force (R147). -/
def cutInForce (v : Superv) : Bool :=
  channelList.any fun c => (v.low.get c).cuts || (v.high.get c).cuts

/-- The conditions that bar heat for every element: relay, CUT, TRIP latch, weld (R26, R32). -/
def heatBarred (s : State) : Bool :=
  !s.superv.relayClosed || cutInForce s.superv || s.superv.trip || s.superv.welded

/-- START, RUN_MANUAL and DESCALE_START are refused for these with REFUSED_TRIP (R102, R124). -/
def tripRefuses (s : State) : Bool := s.superv.trip || !s.superv.relayClosed || s.superv.welded

/-! ### Descale -/

/-- A descale is active while its phase is neither OFF nor HOLD_ACID (R101). -/
def descaleActive (d : Descale) : Bool := decide (d.phase ≠ .off) && decide (d.phase ≠ .holdAcid)

/-- The heating phases (R106). -/
def heatingPhase (d : Descale) : Bool := decide (d.phase = .soakHeat) || decide (d.phase = .rinseHeat)

/-! ### Pools (R35, R37) -/

def poolCapacity (u : Supply) : Pool → Nat
  | .power => u.capacity | .inlet => u.inletCap | .drain => u.drainCap

/-- The station's own group for a pool. -/
def ownGroup (u : Supply) : Pool → Nat
  | .power => u.circuitGroup | .inlet => u.waterGroup | .drain => u.waterGroup

/-- An entry's group for a pool. -/
def Entry.group (e : Entry) : Pool → Option Nat
  | .power => e.circuit | .inlet => e.water | .drain => e.water

/-- What an entry is charged in a pool (R37). -/
def charge (s : State) (p : Pool) (e : Entry) : Nat :=
  if e.group p = some (ownGroup s.startup.supply p) then
    if e.expired then
      match p with
      | .power => min (e.holds.get .power) s.share.floor
      | .inlet => 0
      | .drain => 0
    else e.holds.get p
  else 0

/-- Others' charges in a pool (R37). -/
def othersCharges (s : State) (p : Pool) : Nat := (s.share.table.map (charge s p)).sum

/-- The POWER headroom, which may be negative (R37). -/
def powerHeadroom (s : State) : Int :=
  (s.startup.supply.capacity : Int) - othersCharges s .power - s.share.holds.power

/-- The below-floor flag of the station's own STATUS (R48). -/
def ownBelowFloor (s : State) : Bool :=
  decide (s.share.holds.power < s.share.floor) && decide (s.share.holds.power < s.power.want)

/-- The share table's entry for a station. -/
def findEntry (table : List Entry) (n : Nat) : Option Entry := table.find? fun e => decide (e.station = n)

/-! ### Stage timer (R128) -/

/-- The conditions under which the elapsed time advances. -/
def timerRuns (s : State) : Bool :=
  s.recipe.phaseStarted
    && (decide (s.recipe.state = .running) || decide (s.recipe.state = .prompting))
    && !s.climate.doorOpen
    && !cutInForce s.superv

/-! ### Conditions that are timed -/

/-- The pool the descale waits for, if it waits (R95, R110). -/
def waitingPool (s : State) : Option Pool :=
  if !descaleActive s.descale then none
  else
    match s.steam.request with
    | .fill _ => if s.share.holds.inlet = 0 then some .inlet else none
    | .drain =>
      if s.share.holds.drain = 0 then some .drain
      else if s.power.base.pump then none
      else some .power
    | .heat _ => if s.descale.powerWait then some .power else none
    | .hold _ _ => if s.descale.powerWait then some .power else none
    | .none => none

/-- The engine watches the withheld reason: a humid stage is current, its mark is clear, and the reason is other
than NONE (R138). -/
def withheldWatched (s : State) : Bool :=
  (currentHeat s.recipe).any (fun h => h.mode.humid) && !s.recipe.withheldMark && decide (withheldReason s ≠ .none)

end Sys2Proof.Machine
end

