-- ==== Sys2Proof/Machine/Frames.lean ====
section
/-!
DEFINITION. The frames the part sends, as bytes: the envelope of R63, class and kind (R65), the bodies of R175 and
R179, and the check field (R64). STATUS and READING are worked out from the state at the opening mark (R48, R162).
-/
namespace Sys2Proof.Machine

/-- Class values (R65). -/
def TxFrame.cls : TxFrame → Nat
  | .trip _ _ => 0
  | .tripClear _ _ => 0
  | .lower _ _ _ => 1
  | .yields _ _ => 2
  | .raise _ _ _ => 3
  | .result _ _ _ => 5
  | .notice _ _ _ _ => 5
  | .reading => 5
  | .status => 6

/-- Kind values (R65). -/
def TxFrame.kind : TxFrame → Nat
  | .trip _ _ => 0
  | .tripClear _ _ => 1
  | .lower p _ _ => poolCode p
  | .yields _ _ => 0
  | .raise p _ _ => poolCode p
  | .result _ _ _ => 0
  | .notice _ _ _ _ => 1
  | .reading => 2
  | .status => 0

/-- RESULT, NOTICE and READING are REPORT frames (R65). -/
def TxFrame.isReport (f : TxFrame) : Bool := decide (f.cls = 5)

def TxFrame.isSafety (f : TxFrame) : Bool := decide (f.cls = 0)

def TxFrame.isLower (p : Pool) : TxFrame → Bool
  | .lower q _ _ => decide (q = p)
  | _ => false

def TxFrame.isRaise (p : Pool) : TxFrame → Bool
  | .raise q _ _ => decide (q = p)
  | _ => false

def TxFrame.isYield (f : TxFrame) : Bool := decide (f.cls = 2)

def TxFrame.isStatus (f : TxFrame) : Bool := decide (f.cls = 6)

/-- The code for an absent remaining time (R175, R179). -/
def remainingCode (s : State) : Nat := (remainingSecs s.recipe).getD 131071

/-- The STATUS body (R175). -/
def statusBytes (s : State) : List Byte :=
  [byteOf (s.startup.supply.circuitGroup * 16 + s.startup.supply.waterGroup)]
    ++ bytes2 (s.share.holds.inlet * 32768 + s.share.holds.drain * 16384 + bitNat (ownBelowFloor s) * 8192
        + bitNat s.share.leakWet * 4096 + bitNat (decide (s.share.link = .joining)) * 2048 + s.share.holds.power)
    ++ [byteOf (s.recipe.state.code * 32 + s.recipe.cur)]
    ++ bytes3 (descaleCode s.descale.phase s.descale.rinse * 524288 + remainingCode s)

/-- A channel's value in the READING, or the code for an absent one. -/
def presented (s : State) (c : Channel) (offset : Int) (absent : Nat) : Nat :=
  match reading s c with
  | some v => (v + offset).toNat
  | none => absent

/-- A channel's entry in the excursion list of the READING (R179). -/
def excursionCode (s : State) (c : Channel) : Nat :=
  let lo := s.superv.low.get c
  let hi := s.superv.high.get c
  if lo.inProgress then 1 + lo.cons.code
  else if hi.inProgress then 4 + hi.cons.code
  else 0

/-- A MAINS fault is held (R21). -/
def mainsFaultHeld (p : Power) : Bool :=
  match p.freq with
  | .mainsFault _ => true
  | .undecided => false
  | .hz50 => false
  | .hz60 => false

/-- The READING body (R163, R179). Its recipe tag is that of a notice (log entry 60, DESIGN CHOICE). -/
def readingBytes (s : State) : List Byte :=
  let core := if s.recipe.probePresent then presented s .core 0 4095 else 4095
  bytes3 (presented s .cav 0 4095 * 4096 + core)
    ++ bytes3 (presented s .boil 0 4095 * 4096 + presented s .board 400 4095)
    ++ bytes2 (presented s .moist 0 127 * 512 + presented s .mains 0 0)
    ++ [byteOf (s.recipe.state.code * 32 + s.recipe.cur)]
    ++ bytes2 (noticeTag s.recipe)
    ++ [byteOf s.recipe.prompt]
    ++ bytes3 (descaleCode s.descale.phase s.descale.rinse * 524288 + (levelNow s).code * 131072 + remainingCode s)
    ++ bytes2 s.steam.scale
    ++ bytes2 (s.share.holds.inlet * 32768 + s.share.holds.drain * 16384 + s.share.link.code * 4096
        + bitNat s.share.leakWet * 2048 + s.share.holds.power)
    ++ [byteOf (generatorCode s.steam.gen s.steam.faultKind * 16 + (withheldReason s).code * 2 + bitNat s.steam.acid),
        byteOf (s.share.tripSet.length * 16 + bitNat s.superv.welded * 8 + bitNat s.superv.configFault * 4
          + bitNat s.line.numberClash * 2 + bitNat (mainsFaultHeld s.power))]
    ++ bytes3 (excursionCode s .cav * 2097152 + excursionCode s .core * 262144 + excursionCode s .boil * 32768
        + excursionCode s .moist * 4096 + excursionCode s .mains * 512 + excursionCode s .board * 64
        + bitNat s.superv.fixed.inProgress * 32 + bitNat s.superv.relayClosed * 16
        + bitNat s.superv.feedbackClosed * 8 + bitNat s.superv.trip * 4 + bitNat s.climate.doorOpen * 2
        + bitNat s.recipe.probePresent)

/-- The body of a frame at the moment its opening mark begins (R175, R179). -/
def bodyBytes (s : State) : TxFrame → List Byte
  | .trip origin group => [byteOf 0, byteOf origin, byteOf group]
  | .tripClear origin group => [byteOf 0, byteOf origin, byteOf group]
  | .lower _ group hold => byteOf group :: bytes2 hold
  | .yields group need => byteOf group :: bytes2 need
  | .raise _ group hold => byteOf group :: bytes2 hold
  | .result kind code detail => [byteOf kind.code, byteOf code.code] ++ bytes2 detail
  | .notice code tag index detail => [byteOf code.code] ++ bytes2 tag ++ [byteOf index] ++ bytes2 detail
  | .reading => readingBytes s
  | .status => statusBytes s

/-- The destination: 0 for every station, and the partner panel for a REPORT (R74). -/
def destination (s : State) (f : TxFrame) : Nat := if f.isReport then s.startup.partner else 0

/-- Header byte, destination and kind byte, length byte and body (R63). -/
def coveredBytes (s : State) (f : TxFrame) : List Byte :=
  [byteOf (f.cls * 16 + s.startup.station), byteOf (destination s f * 16 + f.kind),
    byteOf (bodyBytes s f).length] ++ bodyBytes s f

/-- The bytes of a frame from the header byte to the check field, high byte first (R63, R64). -/
def frameBytes (s : State) (f : TxFrame) : List Byte :=
  coveredBytes s f ++ bytes2 (checkField (coveredBytes s f)).toNat

end Sys2Proof.Machine
end

