-- ==== Sys2Proof/Machine/Ops.lean ====
section
/-!
DEFINITION. The shared operations: the transmit queue (R75, R76), notices and results (R157, R161), the base
actuators' outputs (R25), the decreases of an own hold (R42) and the claims of the Share Unit (R39, R40, R43).
-/
namespace Sys2Proof.Machine

/-! ### The transmit queue (R75, R76) -/

/-- Some frame of the sort waits, that is, stands in the queue and is not being sent. -/
def anyWaiting (p : TxFrame → Bool) (q : List QEntry) : Bool := q.any fun e => !e.sending && p e.frame

/-- The entering frame takes the place and age of the waiting frame of its sort. -/
def replaceWaiting (p : TxFrame → Bool) (f : TxFrame) (q : List QEntry) : List QEntry :=
  q.map fun e => if !e.sending && p e.frame then ⟨f, false⟩ else e

/-- Waiting frames of the sort are removed. -/
def removeWaiting (p : TxFrame → Bool) (q : List QEntry) : List QEntry :=
  q.filter fun e => e.sending || !p e.frame

/-- The oldest REPORT that is not being sent is discarded. -/
def dropOldestReport : List QEntry → List QEntry
  | [] => []
  | e :: q => if !e.sending && e.frame.isReport then q else e :: dropOldestReport q

/-- A frame enters behind every frame of its class and of the classes below it (R75). -/
def insertFrame (f : TxFrame) : List QEntry → List QEntry
  | [] => [⟨f, false⟩]
  | e :: q => if e.frame.cls ≤ f.cls then e :: insertFrame f q else ⟨f, false⟩ :: e :: q

/-- The most frames the queue holds (R75). -/
def queueLimit : Nat := 8

/-- The most REPORT frames the queue holds (R76). -/
def reportLimit : Nat := 5

/-- Two frames of one sort: a waiting one is replaced by one that enters (R76). -/
def TxFrame.sameSort (f g : TxFrame) : Bool :=
  (f.isSafety && g.isSafety) || (f.isYield && g.isYield) || (f.isStatus && g.isStatus)
    || (f.isLower .power && g.isLower .power) || (f.isLower .inlet && g.isLower .inlet)
    || (f.isLower .drain && g.isLower .drain)
    || (f.isRaise .power && g.isRaise .power) || (f.isRaise .inlet && g.isRaise .inlet)
    || (f.isRaise .drain && g.isRaise .drain)

/-- A LOWER and a RAISE of one pool: the LOWER removes the waiting RAISE (R76). -/
def TxFrame.removes (f g : TxFrame) : Bool :=
  (f.isLower .power && g.isRaise .power) || (f.isLower .inlet && g.isRaise .inlet)
    || (f.isLower .drain && g.isRaise .drain)

/-- What a frame that is no longer being sent leaves of an entry: its own place takes the newer frame of its sort that
waits, if any, so that one frame of a sort waits (R76, log entry 32). -/
def stoppedEntry (f : TxFrame) (newer : Option QEntry) (e : QEntry) : Option QEntry :=
  if e.sending then some ⟨(newer.map (·.frame)).getD f, false⟩
  else if f.sameSort e.frame || f.removes e.frame then none
  else some e

/-- The frame being sent keeps its place and waits again (R67, R72, R75). -/
def stopQueue (q : List QEntry) : List QEntry :=
  match q.find? (·.sending) with
  | none => q
  | some e => q.filterMap (stoppedEntry e.frame (q.find? fun x => !x.sending && e.frame.sameSort x.frame))

/-- The last line of R76: a frame that replaces no other. -/
def addFrame (f : TxFrame) (q : List QEntry) : List QEntry :=
  insertFrame f (if queueLimit ≤ q.length then dropOldestReport q else q)

/-- A frame replaces the waiting frame of its sort, if any. -/
def putFrame (p : TxFrame → Bool) (f : TxFrame) (q : List QEntry) : List QEntry :=
  if anyWaiting p q then replaceWaiting p f q else addFrame f q

/-- The REPORT line of R76. -/
def addReport (f : TxFrame) (q : List QEntry) : List QEntry :=
  addFrame f (if reportLimit ≤ q.countP (·.frame.isReport) then dropOldestReport q else q)

/-- The table of R76. The 8 frames are counted after a LOWER has removed the RAISE of its pool (log entry 40). -/
def enqueueQueue (f : TxFrame) (q : List QEntry) : List QEntry :=
  match f with
  | .trip _ _ => putFrame TxFrame.isSafety f q
  | .tripClear _ _ => putFrame TxFrame.isSafety f q
  | .lower p _ _ => putFrame (TxFrame.isLower p) f (removeWaiting (TxFrame.isRaise p) q)
  | .yields _ _ => putFrame TxFrame.isYield f q
  | .raise p _ _ => if anyWaiting (TxFrame.isLower p) q then q else putFrame (TxFrame.isRaise p) f q
  | .result _ _ _ => addReport f q
  | .notice _ _ _ _ => addReport f q
  | .reading => addReport f q
  | .status => putFrame TxFrame.isStatus f q

/-- The transmit queue is replaced. -/
def setQueue (q : List QEntry) (s : State) : State := s.setLine { s.line with queue := q }

/-- A frame enters the transmit queue. An UNNUMBERED part sends no frame (R166). -/
def enqueue (f : TxFrame) (s : State) : State :=
  if unnumbered s then s else setQueue (enqueueQueue f s.line.queue) s

/-- A frame of the Share Unit enters the queue: such frames follow from the freeze (R78, log entry 6). -/
def enqueueShare (f : TxFrame) (s : State) : State := if frozen s then enqueue f s else s

/-- The waiting RAISE of a pool is removed (R39, R43, R53, R59). -/
def dropRaise (p : Pool) (s : State) : State :=
  setQueue (removeWaiting (TxFrame.isRaise p) s.line.queue) s

/-- A RAISE of the station's own for a pool is being sent. -/
def raiseSending (p : Pool) (s : State) : Bool := s.line.queue.any fun e => e.sending && e.frame.isRaise p

/-- A RAISE of the station's own for a pool is queued or being sent. -/
def raiseQueued (p : Pool) (s : State) : Bool := s.line.queue.any fun e => e.frame.isRaise p

/-! ### Notices and results -/

/-- A notice with a stage index of its own (R161). -/
def noticeAt (code : NoticeCode) (index detail : Nat) (s : State) : State :=
  enqueue (.notice code (noticeTag s.recipe) index detail) s

/-- A notice that carries the current stage index (R161). -/
def notice (code : NoticeCode) (detail : Nat) (s : State) : State := noticeAt code s.recipe.cur detail s

/-- The RESULT of a command (R157). -/
def respond (kind : CmdKind) (code : ResultCode) (detail : Nat) (s : State) : State :=
  enqueue (.result kind code detail) s

/-! ### Base actuators (R25) -/

/-- The fan and vent requests of the Climate Controller and the valve and pump requests of the generator. -/
def baseRequests (s : State) : PerActuator Bool :=
  ⟨s.climate.fanReq, s.climate.ventReq, s.steam.fillReq, s.steam.pumpReq⟩

/-- Some base actuator is requested. -/
def baseRequested (s : State) : Bool :=
  s.climate.fanReq || s.climate.ventReq || s.steam.fillReq || s.steam.pumpReq

/-- An output between frame starts: a withdrawn request stops it at once; a request starts it at once in a frame
that carries base load, and otherwise leaves it as it is. -/
def baseOutput (carries requested running : Bool) : Bool := requested && (running || carries)

/-- The base-actuator outputs follow their requests (R25). During a restart none runs (R33). -/
def settleBase (s : State) : State :=
  let carries := s.power.inFrame && s.power.carriesBase
  s.setPower { s.power with
    base := if s.startup.restarting then PerActuator.all false
      else
        { fan  := baseOutput carries s.climate.fanReq s.power.base.fan
          vent := baseOutput carries s.climate.ventReq s.power.base.vent
          fill := baseOutput carries s.steam.fillReq s.power.base.fill
          pump := baseOutput carries s.steam.pumpReq s.power.base.pump } }

/-- What the scheduler does when the own POWER hold falls to `v`: the fall is kept for the next crossing (R31), and
below B the base actuators stop at once (R25). -/
def powerFalls (v : Nat) (s : State) : State :=
  s.setPower { s.power with
    holdFall    := if s.power.inFrame then some v else s.power.holdFall
    carriesBase := s.power.carriesBase && decide (s.startup.supply.baseLoad ≤ v)
    base        := if v < s.startup.supply.baseLoad then PerActuator.all false else s.power.base }

/-! ### Own holds (R42, R46) -/

/-- The own hold of a pool takes a new value. -/
def setHold (p : Pool) (v : Nat) (s : State) : State :=
  s.setShare { s.share with holds := s.share.holds.set v p }

/-- A decrease of an own hold (R42): the hold takes its new value at once, the scheduler is told of a fall of POWER,
and a LOWER carrying the new value is queued. A decrease that would not lower the hold does nothing. A RAISE of the
pool that is being sent will not raise the hold above this value (R46). -/
def lowerHold (p : Pool) (v : Nat) (s : State) : State :=
  if v < s.share.holds.get p then
    let s1 := s.setShare { s.share with
      holds := s.share.holds.set v p
      fell  := if raiseSending p s then s.share.fell.set true p else s.share.fell }
    let s2 := match p with
      | .power => powerFalls v s1
      | .inlet => s1
      | .drain => s1
    enqueueShare (.lower p (ownGroup s.startup.supply p) v) s2
  else s

/-! ### Claims (R39, R40, R41, R43) -/

/-- The link state and suspensions under which a raise may be made (R39, R43); none during a restart (R60). -/
def raisesAllowed (s : State) : Bool :=
  decide (s.share.link = .member) && !suspended s && !s.superv.configFault && !s.startup.restarting && frozen s

/-- A FRESH entry charged in this station's POWER pool shows its below-floor flag (R39). -/
def neighbourShort (s : State) : Bool :=
  s.share.table.any fun e =>
    !e.expired && e.belowFloor && decide (e.circuit = some s.startup.supply.circuitGroup)

/-- The target T of R39, which may be below the hold. -/
def raiseTarget (s : State) : Int :=
  let t := min (s.power.want : Int) (s.share.holds.power + powerHeadroom s)
  if neighbourShort s then min t (max s.share.holds.power s.share.floor : Nat) else t

/-- A raise to T is worth making (R39). -/
def raiseWorth (s : State) : Bool :=
  decide ((s.share.holds.power : Int) + 10 ≤ raiseTarget s)
    || (decide (s.share.holds.power < s.startup.supply.baseLoad)
        && decide ((s.startup.supply.baseLoad : Int) ≤ raiseTarget s))

/-- R39: a RAISE for POWER is queued, or the queued one is removed. -/
def decideRaise (s : State) : State :=
  if raisesAllowed s && s.share.backoffMs.isNone && !raiseSending .power s && raiseWorth s then
    enqueueShare (.raise .power s.startup.supply.circuitGroup (raiseTarget s).toNat) s
  else dropRaise .power s

/-- The need of R40. -/
def yieldNeed (s : State) : Nat := min s.power.want s.share.floor - s.share.holds.power

/-- The conditions of R40; no yield during a restart (R60). -/
def yieldDue (s : State) : Bool :=
  decide (s.share.link = .member) && !s.startup.restarting && frozen s
    && decide (s.share.holds.power < s.share.floor) && decide (s.share.holds.power < s.power.want)
    && (decide (powerHeadroom s < yieldNeed s) || s.share.vetoMark)
    && (s.share.sinceYieldMs.all fun t => decide (2000 ≤ t))

/-- R40: when no raise stands queued, a YIELD may be queued; it clears the veto mark. -/
def decideYield (s : State) : State :=
  if anyWaiting (TxFrame.isRaise .power) s.line.queue then s
  else if yieldDue s then
    (enqueueShare (.yields s.startup.supply.circuitGroup (yieldNeed s)) s).setShare
      { s.share with vetoMark := false, sinceYieldMs := some 0 }
  else s

/-- The frame start counts toward the lower run (R41). -/
def lowerRunCounts (s : State) : Bool :=
  decide (s.power.want + 10 ≤ s.share.holds.power)
    || (decide (s.power.want = 0) && decide (s.share.holds.power ≠ 0))

/-- R41: the lower run, and the decrease to the want when it reaches 3. -/
def decideLower (s : State) : State :=
  if lowerRunCounts s then
    if 2 ≤ s.share.lowerRun then
      lowerHold .power s.power.want (s.setShare { s.share with lowerRun := 0 })
    else s.setShare { s.share with lowerRun := s.share.lowerRun + 1 }
  else s.setShare { s.share with lowerRun := 0 }

/-- The POWER decisions at a burst frame start, in the order of R39, R40 and R41. -/
def frameStartDecisions (s : State) : State := decideLower (decideYield (decideRaise s))

/-- The generator's want for a water pool (R43). -/
def waterWant (s : State) : Pool → Bool
  | .inlet => s.steam.inletWant
  | .drain => s.steam.drainWant
  | .power => false

/-- R43: the raise conditions of a water pool are evaluated. -/
def evalWater (p : Pool) (s : State) : State :=
  if waterWant s p && decide (s.share.holds.get p = 0) && raisesAllowed s
      && decide (othersCharges s p + 1 ≤ poolCapacity s.startup.supply p)
      && !raiseQueued p s && (decide (p ≠ .inlet) || s.share.tripSet.isEmpty) then
    enqueueShare (.raise p s.startup.supply.waterGroup 1) s
  else s

/-- R44: a pool is decided again from the state as it stands. -/
def decideAgain (p : Pool) (s : State) : State :=
  match p with
  | .power => decideRaise s
  | .inlet => evalWater .inlet s
  | .drain => evalWater .drain s

/-- The want for an INLET unit begins (R43, R83). -/
def wantInlet (s : State) : State :=
  if s.steam.inletWant then s
  else evalWater .inlet (s.setSteam { s.steam with inletWant := true })

/-- The want for a DRAIN unit begins (R43, R92). -/
def wantDrain (s : State) : State :=
  if s.steam.drainWant then s
  else evalWater .drain (s.setSteam { s.steam with drainWant := true })

/-- A withdrawn want lowers the hold to 0 or removes the queued RAISE (R43). -/
def releaseWater (p : Pool) (s : State) : State :=
  if 0 < s.share.holds.get p then lowerHold p 0 s else dropRaise p s

/-- The want for an INLET unit is withdrawn (R43). -/
def unwantInlet (s : State) : State :=
  if s.steam.inletWant then releaseWater .inlet (s.setSteam { s.steam with inletWant := false }) else s

/-- The want for a DRAIN unit is withdrawn (R43). -/
def unwantDrain (s : State) : State :=
  if s.steam.drainWant then releaseWater .drain (s.setSteam { s.steam with drainWant := false }) else s

/-- A STATUS is queued and the 1 s period runs on from it (R48, R49). -/
def queueStatus (s : State) : State :=
  (enqueueShare .status s).setShare { s.share with statusMs := 0 }

end Sys2Proof.Machine
end

