-- ==== Sys2Proof/Machine/Generator.lean ====
section
/-!
DEFINITION. The Steam Generator Controller's shared operations (05_steam_generator_and_water.md): fills and drains
(R83 to R85, R89, R92), the generator states (R82, R91, R93, R94), its outputs (R86 to R88), scale and the service
record (R97 to R100).
-/
namespace Sys2Proof.Machine

/-! ### Fills and drains -/

/-- The budget of a cooking fill and of a top-up, in pulses (R83). -/
def cookingBudget : Nat := 750

/-- The ending level of a cooking fill or a top-up reads WET (R83). -/
def workOrHigh (s : State) : Bool := s.steam.levels.work || s.steam.levels.high

/-- A fill begins with its budget, valve time 0 and the INLET want (R83). -/
def beginFill (kind : FillKind) (budget : Nat) (s : State) : State :=
  wantInlet (s.setSteam { s.steam with fill := some ⟨kind, budget, 0, false⟩ })

/-- A fill in progress ends: its valve request and INLET want are withdrawn (R85). -/
def clearFill (s : State) : State := unwantInlet (s.setSteam { s.steam with fill := none })

/-- A drain begins with pump time and dry time 0 and the DRAIN want (R92). -/
def beginDrain (s : State) : State :=
  wantDrain (s.setSteam { s.steam with drain := some ⟨0, 0⟩ })

/-- A drain in progress ends: its pump request and DRAIN want are withdrawn (R92). -/
def clearDrain (s : State) : State := unwantDrain (s.setSteam { s.steam with drain := none })

/-! ### Generator states -/

/-- The state becomes HEATING (R82, R85). -/
def enterHeating (s : State) : State := s.setSteam { s.steam with gen := .heating, lock := false }

/-- The state becomes COOLING with a fresh cooling timer (R91); the low-water lock ends (R90). -/
def enterCooling (s : State) : State :=
  s.setSteam { s.steam with gen := .cooling, coolMs := 0, lock := false, faultKind := none }

/-- The state becomes EMPTY. -/
def enterEmpty (s : State) : State :=
  s.setSteam { s.steam with gen := .empty, lock := false, faultKind := none }

/-- The state becomes DRAINING and the drain begins (R92). -/
def enterDraining (s : State) : State :=
  beginDrain (s.setSteam { s.steam with gen := .draining })

/-- A cooking fill ends well: the state becomes HEATING (R85). -/
def endCookingFill (s : State) : State := enterHeating (clearFill s)

/-- The state becomes FILLING and a cooking fill begins; it ends at once while its ending level reads WET (R83). -/
def enterFilling (s : State) : State :=
  let s1 := beginFill .cooking cookingBudget (s.setSteam { s.steam with gen := .filling })
  if workOrHigh s1 then endCookingFill s1 else s1

/-- A top-up begins (R89); it ends at once while its ending level reads WET (R83). -/
def beginTopUp (s : State) : State :=
  let s1 := beginFill .topUp cookingBudget s
  if workOrHigh s1 then clearFill s1 else s1

/-- The state is taken from the levels: COOLING if LOW reads WET, otherwise EMPTY (R80, R93, R94). -/
def genFromLevels (s : State) : State := if s.steam.levels.low then enterCooling s else enterEmpty s

/-- BOIL at which COOLING becomes DRAINING (R91), in tenths. -/
def drainTemp : Int := 700

/-- R91: the tank has cooled to 70.0 °C, and the state becomes DRAINING. -/
def drainIfCool (s : State) : State := if readingAtMost s .boil drainTemp then enterDraining s else s

/-- R82: steam stops being wanted. What runs of a fill ends, and water that is already cold meets the 700 mark of R91 at
once. -/
def endSteam (s : State) : State := drainIfCool (enterCooling (clearFill s))

/-- R82: what the generator state becomes when steam becomes wanted or stops being wanted. A RESTART, which makes the
Recipe Engine IDLE, moves no state: R80 and R159 name withdrawals alone, and the state stands until the re-initialisation
takes it from the levels (log entry 54, DESIGN CHOICE). -/
def judgeSteam (s : State) : State :=
  if s.startup.restarting || !frozen s then s
  else
    match s.steam.gen, steamWanted s with
    | .empty, true => enterFilling s
    | .filling, false => endSteam s
    | .heating, false => endSteam s
    | .ready, false => endSteam s
    | .cooling, true => if s.steam.levels.low then enterHeating s else enterFilling s
    | _, _ => s

/-- BOIL at which HEATING becomes READY (R86), in tenths. -/
def readyTemp : Int := 960

/-- R86 and R91: the comparisons of the BOIL reading that change the state, made at each reading of the inputs (log
entry 21); none is made while a restart is in progress (log entry 54). -/
def judgeBoil (s : State) : State :=
  if s.startup.restarting || !frozen s then s
  else
    match s.steam.gen with
    | .heating => if readingAtLeast s .boil readyTemp then s.setSteam { s.steam with gen := .ready } else s
    | .cooling => drainIfCool s
    | .empty => s
    | .filling => s
    | .ready => s
    | .draining => s
    | .service => s
    | .fault => s

/-! ### Outputs -/

/-- The conditions under which a fill requests the valve (R83). -/
def valveRequest (s : State) : Bool :=
  s.steam.fill.isSome && decide (s.share.holds.inlet = 1) && s.share.tripSet.isEmpty
    && decide (s.share.link ≠ .isolated) && !s.steam.levels.high && !s.startup.restarting

/-- The condition under which a drain requests the pump (R92). -/
def pumpRequest (s : State) : Bool :=
  s.steam.drain.isSome && decide (s.share.holds.drain = 1) && !s.startup.restarting

/-- The served steam demand (R87). -/
def servedDemand (s : State) : Nat :=
  if withheldReason s = .none then s.climate.steamDemand else 0

/-- The keep-hot demand (R87). -/
def keepHot (s : State) : Nat := if readingAtLeast s .boil 950 then 0 else 2

/-- The BOILER demand of the state or of the service request, before R88 (R80, R86, R87, R95). -/
def boilerRaw (s : State) : Nat :=
  match s.steam.gen with
  | .heating => 20
  | .ready => max (servedDemand s) (keepHot s)
  | .service =>
    if s.steam.levels.low then
      match s.steam.request with
      | .heat _ => 20
      | .hold t d => if readingAtLeast s .boil t then 0 else d
      | .none => 0
      | .fill _ => 0
      | .drain => 0
    else 0
  | .empty => 0
  | .filling => 0
  | .cooling => 0
  | .draining => 0
  | .fault => 0

/-- The BOILER demand with the limits of R88, in its order. -/
def boilerTarget (s : State) : Nat :=
  if s.startup.restarting || !frozen s then 0
  else if s.steam.lock then 0
  else if (reading s .boil).isNone then 0
  else if levelNow s = .derate ∨ levelNow s = .block then min 15 (boilerRaw s)
  else boilerRaw s

/-- The steam gate is open while the served demand is above 0 in READY (R87). -/
def gateOpen (s : State) : Bool :=
  decide (s.steam.gen = .ready) && decide (0 < servedDemand s) && !s.startup.restarting

/-- The requests, the BOILER demand and the gate are formed again; a BOILER demand set to 0 during a frame is shed at
the next crossing (R32, R87). -/
def settleOutputs (s : State) : State :=
  let s1 := s.setSteam { s.steam with
    fillReq      := valveRequest s
    pumpReq      := pumpRequest s
    boilerDemand := boilerTarget s
    gate         := gateOpen s }
  if 0 < s.steam.boilerDemand ∧ boilerTarget s = 0 ∧ s.power.inFrame then
    s1.setPower { s1.power with shed := { s1.power.shed with boiler := true } }
  else s1

/-- A wait for a pool that has ended discards its count (R110), and so does a withheld reason that has gone or is no
longer watched (R138). -/
def settleWaits (s : State) : State :=
  let s1 := if (waitingPool s).isNone then s.setDescale { s.descale with waitMs := 0, waitNoted := false } else s
  if withheldWatched s then s1 else s1.setRecipe { s1.recipe with withheldMs := 0 }

/-- What follows at once from a change of the program, the levels, the readings, the holds or the demands: the
generator's state (R82), its outputs (R83, R87, R92), the base-actuator outputs (R25) and the waits. -/
def settle (s : State) : State := settleWaits (settleBase (settleOutputs (judgeSteam s)))

/-! ### FAULT and SERVICE -/

/-- Entry into FAULT (R93): outputs and wants withdrawn, and the notice STEAM_WITHHELD. -/
def enterFault (kind : FaultKind) (s : State) : State :=
  let s1 := clearDrain (clearFill s)
  notice .steamWithheld (Withheld.code .fault * 256 + faultKindCode (some kind))
    (s1.setSteam { s1.steam with gen := .fault, faultKind := some kind, lock := false })

/-- An accepted START or RUN_MANUAL takes the generator out of FAULT (R93). -/
def leaveFault (s : State) : State := if s.steam.gen = .fault then genFromLevels s else s

/-- The request in progress ends without an outcome; outputs off and wants withdrawn (R94, R95). -/
def clearRequest (s : State) : State :=
  let s1 := clearDrain (clearFill s)
  s1.setSteam { s1.steam with request := .none }

/-- The generator is lent to the Descale Sequencer (R94). -/
def enterService (s : State) : State :=
  let s1 := clearRequest s
  s1.setSteam { s1.steam with gen := .service, lock := false, faultKind := none }

/-- The generator is released and its state taken from the levels (R94). -/
def releaseGenerator (s : State) : State := genFromLevels (clearRequest s)

/-! ### Scale and the service record -/

/-- What a write stores (R100). -/
def recordNow (g : Steam) : ServiceRecord := ⟨g.scale, g.sub, g.acid⟩

/-- What was last written, or is being written (R100). -/
def lastWritten (g : Steam) : ServiceRecord := g.writing.getD g.record

/-- A write is made, or made after the one in progress (R100). -/
def askWrite (s : State) : State :=
  match s.steam.writing with
  | none => s.setSteam { s.steam with writing := some (recordNow s.steam) }
  | some _ => s.setSteam { s.steam with writeAgain := true }

/-- The notice DESCALE_DUE names the level (R98). -/
def noticeScale (s : State) : State := notice .descaleDue (levelNow s).code s

/-- S rises by the hardness, with a write when it has risen by 16 and a notice when the level rises (R97, R98, R100). -/
def scaleStep (s : State) : State :=
  let s1 := s.setSteam { s.steam with
    sub := 0, scale := min 65535 (s.steam.scale + s.startup.supply.hardness) }
  let s2 := if (lastWritten s.steam).scale + 16 ≤ s1.steam.scale then askWrite s1 else s1
  if (levelNow s).code < (levelNow s1).code then noticeScale s2 else s2

/-- One pulse of a cooking fill or top-up (R97). -/
def countPulse (s : State) : State :=
  if s.steam.sub + 1 = 50 then scaleStep s
  else s.setSteam { s.steam with sub := s.steam.sub + 1 }

/-- The acid marker changes, and the record is written (R99, R100). -/
def setAcid (b : Bool) (s : State) : State := askWrite (s.setSteam { s.steam with acid := b })

/-- The completion step (R99): S and sub-count 0 and the marker cleared together, in one write. -/
def completionStep (s : State) : State :=
  askWrite (s.setSteam { s.steam with scale := 0, sub := 0, acid := false })

end Sys2Proof.Machine
end

