-- ==== Sys2Proof/Machine/Climate.lean ====
section
/-!
DEFINITION. The Climate Controller (01_cavity_climate.md): profile and targets (R2, R3), the loops and the split (R7 to
R12), the climate sample (R5, R18) and the door (R15, R16); and the meanings of its commands.
-/
namespace Sys2Proof.Machine

/-! ### Demands set to 0 between samples -/

/-- The cavity elements leave the rest of the frame at the next crossing, and the frame is not starved for it
(R28, R32). -/
def shedCavity (s : State) : State :=
  if s.power.inFrame then
    s.setPower { s.power with
      shed := { s.power.shed with top := true, bottom := true, ring := true }
      cavityZeroed := true }
  else s

/-- The element demands and the steam demand become 0 (R3, R16, R17). -/
def zeroDemands (s : State) : State :=
  shedCavity (s.setClimate { s.climate with demTop := 0, demBottom := 0, demRing := 0, steamDemand := 0 })

/-- R3: what leaving RUNNING, PAUSED and PROMPTING does to the climate. -/
def leaveClimate (s : State) : State :=
  shedCavity (s.setClimate { s.climate with
    profile := none, order := serviceOrder, cavityTarget := none, humidityTarget := none, integ := 0
    demTop := 0, demBottom := 0, demRing := 0, steamDemand := 0, fanReq := false, ventReq := false })

/-- The active profile is a humid mode. -/
def profileHumid (c : Climate) : Bool := c.profile.any Mode.humid

/-- R17: a CUT comes into force or the relay stops being commanded closed. In a humid mode the vent is requested
open, unless the door is OPEN (R18, log entry 22). -/
def forceZero (s : State) : State :=
  let s1 := zeroDemands s
  s1.setClimate { s1.climate with
    ventReq := s1.climate.ventReq || (profileHumid s1.climate && !s1.climate.doorOpen) }

/-- R2: the mode and targets of a HEAT stage are stored; a change of mode sets the integrator to 0. -/
def handOver (h : HeatStage) (s : State) : State :=
  s.setClimate { s.climate with
    profile        := some h.mode
    cavityTarget   := some h.cavity
    humidityTarget := match (profile h.mode).humidity with
      | none => none
      | some default => some (h.humidity.getD default)
    integ          := if s.climate.profile = some h.mode then s.climate.integ else 0 }

/-! ### The loops -/

/-- The error e, clamped to -500 to +500 (R7). -/
def heatError (target : Nat) (cav : Int) : Int := clampInt (-500) 500 (target - cav)

/-- The proportional term P, truncated toward zero (R7). -/
def propTerm (kp e : Int) : Int := (e * kp).tdiv 100

/-- The heat integrator (R8). -/
def moveIntegrator (integ e : Int) (starved : Bool) : Int :=
  clampInt (-20) 20
    (if 5 < e then (if starved then integ else integ + 1)
     else if e < -5 then integ - 1
     else integ)

/-- The heat demand D (R9). -/
def heatDemand (p integ : Int) : Nat := (clampInt 0 20 (p + integ)).toNat

/-- A number for each of TOP, BOTTOM and RING. -/
structure Cavity where
  top    : Nat
  bottom : Nat
  ring   : Nat
  deriving DecidableEq, Repr

/-- The first of RING, TOP, BOTTOM with the largest share among those that are eligible (R10, R11). -/
def largestShare (share : Cavity) (ok : Element → Bool) : Option Element :=
  let better (best : Option (Element × Nat)) (x : Element × Nat) : Option (Element × Nat) :=
    if ok x.1 then
      match best with
      | none => some x
      | some b => if b.2 < x.2 then some x else some b
    else best
  ([(.ring, share.ring), (.top, share.top), (.bottom, share.bottom)].foldl better none).map (·.1)

/-- An amount is added to one element. -/
def Cavity.add (c : Cavity) (n : Nat) : Element → Cavity
  | .top => { c with top := c.top + n }
  | .bottom => { c with bottom := c.bottom + n }
  | .ring => { c with ring := c.ring + n }
  | .boiler => c

/-- An element whose configured rating is 0 is absent (R11). -/
def elementPresent (ratings : PerElement Nat) (e : Element) : Bool := decide (ratings.get e ≠ 0)

/-- R11: the shares of absent elements go to the present element with the largest share; none when all three are
absent. -/
def moveShares (ratings : PerElement Nat) (share : Cavity) : Option Cavity :=
  let ok := elementPresent ratings
  match largestShare share ok with
  | none => none
  | some e =>
    let kept : Cavity :=
      { top    := if ok .top then share.top else 0
        bottom := if ok .bottom then share.bottom else 0
        ring   := if ok .ring then share.ring else 0 }
    let absent := (if ok .top then 0 else share.top) + (if ok .bottom then 0 else share.bottom)
      + (if ok .ring then 0 else share.ring)
    some (kept.add absent e)

/-- R10: the heat demand split by the moved shares, the leftover to the largest. -/
def splitHeat (ratings : PerElement Nat) (share : Cavity) (d : Nat) : Cavity :=
  match moveShares ratings share with
  | none => ⟨0, 0, 0⟩
  | some m =>
    let base : Cavity := ⟨d * m.top / 100, d * m.bottom / 100, d * m.ring / 100⟩
    match largestShare m fun _ => true with
    | none => base
    | some e => base.add (d - (base.top + base.bottom + base.ring)) e

/-- The split percentages of a profile. -/
def Profile.shares (p : Profile) : Cavity := ⟨p.top, p.bottom, p.ring⟩

/-- R12: the steam demand and the vent request from the humidity error. -/
def humidityLoop (p : Profile) (target : Nat) (moist : Int) : Nat × Bool :=
  let e : Int := target - moist
  if e ≤ -3 then (0, true)
  else ((clampInt 0 20 ((e * p.ks).fdiv 10 + p.sb)).toNat, false)

/-! ### The climate sample -/

/-- R18: what makes a sample a forced-zero sample. -/
def forcedZero (s : State) : Bool :=
  s.climate.doorOpen || cutInForce s.superv || !s.superv.relayClosed || s.climate.profile.isNone

/-- R18: a forced-zero sample holds the integrator and sets the requests by its table. -/
def forcedSample (s : State) : Climate :=
  match s.climate.profile with
  | none =>
    { s.climate with
      order := serviceOrder
      demTop := 0, demBottom := 0, demRing := 0, steamDemand := 0, fanReq := false, ventReq := false }
  | some m =>
    { s.climate with
      order := (profile m).order
      demTop := 0, demBottom := 0, demRing := 0, steamDemand := 0
      fanReq := !s.climate.doorOpen && (profile m).fan
      ventReq := !s.climate.doorOpen }

/-- R7 to R11: the temperature loop, which does not run while CAV is not valid (R6). -/
def temperatureLoop (s : State) (m : Mode) : Int × Cavity :=
  match reading s .cav with
  | none => (s.climate.integ, ⟨0, 0, 0⟩)
  | some cav =>
    let p := profile m
    let e := heatError (s.climate.cavityTarget.getD 0) cav
    let i := moveIntegrator s.climate.integ e s.power.starved
    (i, splitHeat s.startup.supply.ratings p.shares (heatDemand (propTerm p.kp e) i))

/-- R12, R14 and R6: the steam demand and the vent request of a sample. -/
def steamLoop (s : State) (m : Mode) : Nat × Bool :=
  if m.humid then
    match reading s .moist with
    | none => (0, true)
    | some moist => humidityLoop (profile m) (s.climate.humidityTarget.getD 0) moist
  else (0, true)

/-- The new values of a sample that runs the loops replace the previous ones together (R5, R14). -/
def loopSample (s : State) (m : Mode) : Climate :=
  let heat := temperatureLoop s m
  let steam := steamLoop s m
  { s.climate with
    order := (profile m).order
    integ := heat.1
    demTop := heat.2.top, demBottom := heat.2.bottom, demRing := heat.2.ring
    steamDemand := steam.1
    fanReq := (profile m).fan
    ventReq := steam.2 }

/-- The Climate Controller's part of a sample (R5, R18). -/
def sampleClimate (s : State) : Climate :=
  match s.climate.profile with
  | none => forcedSample s
  | some m => if forcedZero s then forcedSample s else loopSample s m

/-- R5: the climate sample, from the freeze on and not during a restart. -/
def climateSample (s : State) : State :=
  if frozen s && !s.startup.restarting then
    settle (s.setClimate { sampleClimate s with sampleMs := 0 })
  else s

/-! ### The door -/

/-- R15: the input changes level and the debounce count starts again. -/
def doorInput (isOpen : Bool) (s : State) : State :=
  s.setClimate { s.climate with doorInputOpen := isOpen, doorMs := 0 }

/-- R16: the door state becomes OPEN. -/
def openDoor (s : State) : State :=
  let s1 := zeroDemands (s.setClimate { s.climate with doorOpen := true, doorMs := 0 })
  settle (s1.setClimate { s1.climate with fanReq := false, ventReq := false })

/-- R15, R16: the input has shown open for 50 ms. -/
def doorOpens (s : State) : State :=
  if s.climate.doorInputOpen && !s.climate.doorOpen then openDoor s else s

/-- R16: the door state becomes CLOSED; the demands wait for the next sample. -/
def doorCloses (s : State) : State :=
  if !s.climate.doorInputOpen && s.climate.doorOpen then
    s.setClimate { s.climate with doorOpen := false, doorMs := 0 }
  else s

/-! ### Meanings -/

def execClimateSample (s : State) : Host.Outcome State Fault Refusal := .next (climateSample s)

def execDoorInputChange (isOpen : Bool) (s : State) : Host.Outcome State Fault Refusal :=
  .next (doorInput isOpen s)

def execDoorOpens (s : State) : Host.Outcome State Fault Refusal := .next (doorOpens s)

def execDoorCloses (s : State) : Host.Outcome State Fault Refusal := .next (doorCloses s)

end Sys2Proof.Machine
end

