-- ==== Sys2Proof/Machine/Descale.lean ====
section
/-!
DEFINITION. The Descale Sequencer (06_descaling.md): phases and service requests (R101 to R109), waits (R110), abort
(R111), faults (R112), notices (R114); and the meanings of its commands.
-/
namespace Sys2Proof.Machine

/-! ### Entering phases (R101, R114) -/

/-- A phase is entered: its timers start at 0 and DESCALE_PHASE is raised with the cause. The count of a dry LOW starts
again (log entry 41), and the wait for POWER is judged on the frames that complete in the phase (log entry 43). -/
def enterPhase (phase : Phase) (rinse : Nat) (cause : DescaleCause) (s : State) : State :=
  notice .descalePhase (descaleCode phase rinse * 256 + cause.code)
    (s.setDescale { s.descale with
      phase := phase, rinse := rinse, prepMs := 0, soakMs := 0, lowMs := 0, heatClock := 0
      powerWait := false, waitMs := 0, waitNoted := false })

/-- The generator is given a service request in place of the one in progress (R95). -/
def giveRequest (r : ServiceRequest) (s : State) : State :=
  let s1 := clearRequest s
  let s2 := s1.setSteam { s1.steam with request := r }
  match r with
  | .fill v => beginFill .service v s2
  | .drain => beginDrain s2
  | .heat _ => s2
  | .hold _ _ => s2
  | .none => s2

/-- The phase becomes OFF or HOLD_ACID and the generator is released in the same step (R94, R101). -/
def endPhase (phase : Phase) (cause : DescaleCause) (s : State) : State :=
  enterPhase phase 0 cause (releaseGenerator s)

def enterAcidDrain (cause : DescaleCause) (s : State) : State :=
  giveRequest .drain (enterPhase .acidDrain 0 cause s)

/-- SOAK: HOLD 680 4 (R107). -/
def enterSoak (s : State) : State := giveRequest (.hold 680 4) (enterPhase .soak 0 .none s)

/-- SOAK_HEAT: HEAT 700 (R106). -/
def enterSoakHeat (s : State) : State := giveRequest (.heat 700) (enterPhase .soakHeat 0 .none s)

/-- DOSE: FILL 600, DONE at once while HIGH reads WET (R105, R83). -/
def enterDose (s : State) : State :=
  let s1 := giveRequest (.fill 600) (enterPhase .dose 0 .none s)
  if s1.steam.levels.high then enterSoakHeat (clearRequest s1) else s1

/-- DRAIN_OUT: DRAIN while LOW reads WET, and otherwise DOSE at once (R104). -/
def enterDrainOut (s : State) : State :=
  let s1 := enterPhase .drainOut 0 .none s
  if s1.steam.levels.low then giveRequest .drain s1 else enterDose s1

def enterRinseDrain (k : Nat) (s : State) : State := giveRequest .drain (enterPhase .rinseDrain k .none s)

/-- RINSE_HEAT(k): HEAT 800 (R106). -/
def enterRinseHeat (k : Nat) (s : State) : State := giveRequest (.heat 800) (enterPhase .rinseHeat k .none s)

/-- RINSE_FILL(k): FILL 500, DONE at once while HIGH reads WET (R108, R83). -/
def enterRinseFill (k : Nat) (s : State) : State :=
  let s1 := giveRequest (.fill 500) (enterPhase .rinseFill k .none s)
  if s1.steam.levels.high then enterRinseHeat k (clearRequest s1) else s1

/-- R109: the end of the descale, by the completion step or by the rinsed end. -/
def finishDescale (s : State) : State :=
  if s.descale.soakMark then
    let s1 := notice .descaleComplete s.steam.scale
      (completionStep (enterPhase .complete 0 .none s))
    endPhase .off .none s1
  else endPhase .off .rinsed (setAcid false s)

/-! ### Outcomes of requests -/

/-- A FILL request ends with DONE (R105, R108). -/
def fillDone (s : State) : State :=
  let s1 := clearRequest s
  match s.descale.phase with
  | .dose => enterSoakHeat s1
  | .rinseFill => enterRinseHeat s.descale.rinse s1
  | .off | .prep | .drainOut | .soakHeat | .soak | .acidDrain | .rinseHeat | .rinseDrain | .complete
  | .holdAcid => s1

/-- A DRAIN request ends with DONE (R104, R108, R109). -/
def drainDone (s : State) : State :=
  let s1 := clearRequest s
  match s.descale.phase with
  | .drainOut => enterDose s1
  | .acidDrain => enterRinseFill 1 s1
  | .rinseDrain => if s.descale.rinse < 3 then enterRinseFill (s.descale.rinse + 1) s1 else finishDescale s1
  | .off | .prep | .dose | .soakHeat | .soak | .rinseFill | .rinseHeat | .complete | .holdAcid => s1

/-- HEAT ends with DONE when the BOIL reading reaches its figure (R95, R106), judged at each reading of the inputs (log
entry 21). -/
def judgeHeat (s : State) : State :=
  match s.steam.request with
  | .heat t =>
    if readingAtLeast s .boil t then
      match s.descale.phase with
      | .soakHeat => enterSoak s
      | .rinseHeat => enterRinseDrain s.descale.rinse s
      | .off | .prep | .drainOut | .dose | .soak | .acidDrain | .rinseFill | .rinseDrain | .complete
      | .holdAcid => clearRequest s
    else s
  | .none => s
  | .fill _ => s
  | .hold _ _ => s
  | .drain => s

/-- R112: a fault takes an active descale to HOLD_ACID or OFF by the acid marker, at once also while a RESTART is in progress
(log entry 58, DESIGN CHOICE). -/
def descaleFault (cause : DescaleCause) (s : State) : State :=
  if descaleActive s.descale then
    endPhase (if s.steam.acid then .holdAcid else .off) cause s
  else s

/-- The first pulse of the dose sets the acid marker (R95, R105). -/
def reportFirstPulse (s : State) : State :=
  if s.descale.phase = .dose ∧ s.steam.acid = false then setAcid true s else s

/-! ### Completed frames (R106, R110) -/

/-- What a completed frame adds to the heat clock (R106) and to the wait for POWER (R110). -/
def frameForDescale (boilerDemand boilerGrant : Nat) (barred : Bool) (s : State) : State :=
  s.setDescale { s.descale with
    heatClock := if heatingPhase s.descale then s.descale.heatClock + boilerGrant else s.descale.heatClock
    powerWait := (heatingPhase s.descale || decide (s.descale.phase = .soak))
      && decide (0 < boilerDemand) && decide (boilerGrant = 0) && !barred }

/-- The heat clock's limit: 15 min of on-time in half-cycles (R106); none without a mains frequency. -/
def heatLimitClock (p : Power) : Option Nat :=
  match p.freq with
  | .hz50 => some 90000
  | .hz60 => some 108000
  | .undecided => none
  | .mainsFault _ => none

/-! ### Commands -/

/-- R102: DESCALE_START. -/
def descaleStart (s : State) : State :=
  if !frozen s || descaleActive s.descale then respond .descaleStart .refusedState noDetail s
  else if s.recipe.state ≠ .idle ∧ s.recipe.state ≠ .loaded then respond .descaleStart .refusedState noDetail s
  else if tripRefuses s then respond .descaleStart .refusedTrip noDetail s
  else
    let s1 := enterService (respond .descaleStart .accepted noDetail s)
    if s.descale.phase = .holdAcid then settle (enterAcidDrain .none s1)
    else settle (enterPhase .prep 0 .none (s1.setDescale { s1.descale with soakMark := false }))

/-- R103: DESCALE_CONFIRM. -/
def descaleConfirm (s : State) : State :=
  if s.descale.phase = .prep then settle (enterDrainOut (respond .descaleConfirm .accepted noDetail s))
  else respond .descaleConfirm .refusedState noDetail s

/-- The detail RINSE_REQUIRED (R179). -/
def rinseRequired : Nat := 1

/-- R111: an ABORT that acts on an active descale. -/
def abortDescale (s : State) : State :=
  let accepted := respond .abort .accepted noDetail s
  match s.descale.phase with
  | .prep => settle (endPhase .off .aborted accepted)
  | .drainOut => settle (endPhase .off .aborted accepted)
  | .dose =>
    if s.steam.acid then settle (enterAcidDrain .aborted accepted)
    else settle (endPhase .off .aborted accepted)
  | .soakHeat => settle (enterAcidDrain .aborted accepted)
  | .soak => settle (enterAcidDrain .aborted accepted)
  | .off | .acidDrain | .rinseFill | .rinseHeat | .rinseDrain | .complete | .holdAcid =>
    respond .abort .refusedState rinseRequired s

/-! ### Events (a RESTART taken discards every timer of the descale, R115) -/

/-- R103: the PREP timer expires. -/
def prepTimeout (s : State) : State :=
  if s.descale.phase = .prep ∧ s.startup.restarting = false then settle (endPhase .off .prepTimeout s) else s

/-- R106: the heat clock reaches its limit in a heating phase. -/
def heatLimit (s : State) : State :=
  if heatingPhase s.descale && (heatLimitClock s.power).isSome && !s.startup.restarting then
    settle (descaleFault .heatLimit s) else s

/-- The phases in which a dry LOW is timed (R106, R107). -/
def lowWaterPhase (d : Descale) : Bool := heatingPhase d || decide (d.phase = .soak)

/-- R106, R107: LOW has read DRY for 60 s in a heating phase or in SOAK. It faults the phase that it finds, SOAK after the
DONE of SOAK_HEAT included, and does nothing in a phase that is not timed (log entry 42). -/
def descaleLowWater (s : State) : State :=
  if lowWaterPhase s.descale && !s.steam.levels.low && !s.startup.restarting then settle (descaleFault .lowWater s) else s

/-- The soak timer advances while BOIL is valid and at least 650 (R107). -/
def soakAdvances (s : State) : Bool := readingAtLeast s .boil 650

/-- R107: the soak timer reaches 20 min. -/
def soakTimerEnd (s : State) : State :=
  if s.descale.phase = .soak ∧ soakAdvances s ∧ s.startup.restarting = false then
    settle (enterAcidDrain .none (s.setDescale { s.descale with soakMark := true }))
  else s

/-- R110: a wait has lasted 10 min; the notice goes once for each wait. -/
def waitNotice (s : State) : State :=
  match waitingPool s with
  | none => s
  | some p =>
    if s.descale.waitNoted then s
    else notice .waitingForPool (poolCode p * 256 + descaleCode s.descale.phase s.descale.rinse)
      (s.setDescale { s.descale with waitNoted := true })

/-! ### Meanings of the events -/

def execPrepTimeout (s : State) : Host.Outcome State Fault Refusal := .next (prepTimeout s)

def execHeatLimit (s : State) : Host.Outcome State Fault Refusal := .next (heatLimit s)

def execDescaleLowWater (s : State) : Host.Outcome State Fault Refusal := .next (descaleLowWater s)

def execSoakTimerEnd (s : State) : Host.Outcome State Fault Refusal := .next (soakTimerEnd s)

def execWaitingForPool (s : State) : Host.Outcome State Fault Refusal := .next (waitNotice s)

end Sys2Proof.Machine
end

