-- ==== Sys2Proof/Machine/Recipe.lean ====
section
/-!
DEFINITION. The Recipe Engine (07_recipe_programs.md): loading (R119 to R122), starting (R124, R137), stage entry (R125,
R126), stage ends (R128, R129), the probe rule (R130), prompts (R131, R132), pause, resume, abort (R133, R134) and the end
of a program (R135, R136); and the meanings of its events.
-/
namespace Sys2Proof.Machine

/-! ### The end of a program -/

/-- R135: the program ends normally. -/
def finishProgram (s : State) : State :=
  let s1 := s.setRecipe { s.recipe with
    state := .finished, cur := s.recipe.lastHeat, stack := [], prompt := 0 }
  notice .programFinished noDetail (leaveClimate s1)

/-- R136: an active program faults. The index is that of the last HEAT stage that was current; before one has begun in the
run it is 0 (log entry 55, DESIGN CHOICE). -/
def faultProgram (cause : ProgramFault) (s : State) : State :=
  if programActive s.recipe then
    let s1 := s.setRecipe { s.recipe with
      state := .faulted, cur := s.recipe.lastHeat, stack := [], prompt := 0 }
    notice .programFault cause.code (leaveClimate s1)
  else s

/-- The session ends: the store is emptied and the state becomes IDLE (R121, R122). -/
def endSession (s : State) : State :=
  s.setRecipe { s.recipe with
    state := .idle, store := [], count := 0, tag := 0, remaining := 0, cur := 0 }

/-! ### Entering a stage (R125, R126) -/

/-- The table of skip conditions (R125). -/
def skipHolds (s : State) : Skip → Bool
  | .cavityAtLeast v => readingAtLeast s .cav v
  | .coreAtLeast v => s.recipe.probePresent && readingAtLeast s .core v
  | .probeAbsent => !s.recipe.probePresent
  | .probePresent => s.recipe.probePresent

/-- The cavity has come within 2.0 °C of the stage's target (R128, R129). -/
def atTarget (s : State) (h : HeatStage) : Bool := readingAtLeast s .cav ((h.cavity : Int) - 20)

/-- The built-in prompt codes (R130). -/
def probePrompt : Nat := 250
def probeMissing : Nat := 251

/-- R126: a HEAT stage begins. The 5 s of a withheld reason that stands are counted anew (log entry 46). -/
def beginStage (i : Nat) (h : HeatStage) (s : State) : State :=
  let s1 := handOver h s
  let prompting := decide (h.endKind = .prompt)
  let s2 := s1.setRecipe { s1.recipe with
    state        := if prompting then .prompting else .running
    lastHeat     := i
    elapsedMs    := 0
    phaseStarted := !h.atTarget || atTarget s h
    withheldMark := false
    withheldMs   := 0
    prompt       := if prompting then h.prompt else 0 }
  let s3 := notice .stageBegin noDetail s2
  judgeSteam (if prompting then notice .prompt h.prompt s3 else s3)

/-- The elapsed time has reached the stage's duration (R129, R132). -/
def durationReached (r : Recipe) (h : HeatStage) : Bool :=
  h.duration.any fun d => decide (1000 * d ≤ r.elapsedMs)

/-- The core condition (R129). -/
def coreMet (s : State) (h : HeatStage) : Bool :=
  s.recipe.probePresent && h.core.any fun t => readingAtLeast s .core t

/-- The end condition of a stage, in the state RUNNING (R129), with the fallback of R130. -/
def endConditionMet (s : State) (h : HeatStage) : Bool :=
  match h.endKind with
  | .time => durationReached s.recipe h
  | .temp => atTarget s h
  | .core => coreMet s h || (!s.recipe.probePresent && durationReached s.recipe h)
  | .either => durationReached s.recipe h || coreMet s h
  | .prompt => false

/-- The current stage ends (R129). -/
def stageEnds (s : State) : Bool :=
  decide (s.recipe.state = .running) && (currentHeat s.recipe).any (endConditionMet s)

/-- R130: the probe rule, tested with the probe absent in a CORE or EITHER stage. -/
def probeRule (s : State) : State :=
  match currentHeat s.recipe with
  | none => s
  | some h =>
    if (h.endKind = .core ∨ h.endKind = .either) ∧ s.recipe.probePresent = false then
      if h.duration.isSome then notice .prompt probeMissing s
      else notice .prompt probePrompt
        (s.setRecipe { s.recipe with state := .prompting, prompt := probePrompt })
    else s

/-- A CALL or RETURN or an ended stage moves on at once, so one entry may be a chain of entries (R125). The first
argument bounds the chain; a store of 24 stages with a return stack of 2 needs at most 17,000 (log entry 31). -/
def enterStage : Nat → Nat → State → State
  | 0, _, s => s
  | fuel + 1, i, s =>
    let s1 := s.setRecipe { s.recipe with cur := i }
    match stageAt s.recipe i with
    | none => finishProgram s1
    | some .ret =>
      match s1.recipe.stack with
      | [] => finishProgram s1
      | j :: rest => enterStage fuel j (s1.setRecipe { s1.recipe with stack := rest })
    | some (.call target skip) =>
      if skip.any (skipHolds s1) then enterStage fuel (i + 1) s1
      else if s1.recipe.stack.length < 2 then
        enterStage fuel target (s1.setRecipe { s1.recipe with stack := (i + 1) :: s1.recipe.stack })
      else faultProgram .stackFault s1
    | some (.heat h skip) =>
      if skip.any (skipHolds s1) then enterStage fuel (i + 1) s1
      else
        let s2 := beginStage i h s1
        if stageEnds s2 then enterStage fuel (i + 1) s2 else probeRule s2

/-- The bound on a chain of entries (log entry 31). -/
def entryFuel : Nat := 20000

/-- Stage i is entered (R125). -/
def enter (i : Nat) (s : State) : State := enterStage entryFuel i s

/-- The end condition is judged, and the next stage entered when it is met (R129). -/
def judgeStage (s : State) : State := if stageEnds s then enter (s.recipe.cur + 1) s else s

/-- The end condition and then the probe rule are judged (R126, R130, R133). -/
def judgeStageAndProbe (s : State) : State :=
  if stageEnds s then enter (s.recipe.cur + 1) s else probeRule s

/-- The timed phase of an AT_TARGET stage starts at the first moment the cavity is within 2.0 °C (R128). -/
def judgeTimedPhase (s : State) : State :=
  match currentHeat s.recipe with
  | none => s
  | some h =>
    if !s.recipe.phaseStarted && atTarget s h then
      s.setRecipe { s.recipe with phaseStarted := true }
    else s

/-! ### Loading (R119 to R121) -/

/-- R119: LOAD_OPEN. -/
def loadOpen (count : Byte) (tag : Word16) (s : State) : State :=
  if !frozen s || (decide (s.recipe.state ≠ .idle) && decide (s.recipe.state ≠ .loaded))
      || descaleActive s.descale then
    respond .loadOpen .refusedState noDetail s
  else if count.toNat = 0 ∨ 24 < count.toNat then respond .loadOpen .refusedField 0 s
  else
    respond .loadOpen .accepted noDetail
      (s.setRecipe { s.recipe with
        state := .loading, store := [], count := count.toNat, tag := tag.toNat
        remaining := count.toNat, cur := 0, gapMs := 0 })

/-- A stage's branch list or call target fails the check of R121. -/
def stageFails (count i : Nat) : StageRecord → Bool
  | .heat h _ => h.branches.any fun o => decide (count < i + o)
  | .call target _ => decide (target < 1) || decide (count < target) || decide (target = i)
  | .ret => false

/-- The lowest index whose stage fails, with the store's indices counted from `i`. -/
def firstFailing (count : Nat) : Nat → List StageRecord → Option Nat
  | _, [] => none
  | i, r :: rest => if stageFails count i r then some i else firstFailing count (i + 1) rest

def StageRecord.isHeat : StageRecord → Bool
  | .heat _ _ => true
  | .call _ _ => false
  | .ret => false

/-- R121: none when the program passes, else the detail of REFUSED_PROGRAM. A program that has both a stage whose branch
list or call target fails and no HEAT stage takes the index of that stage before the 0: R121 gives no order between the two
(log entry 63, DESIGN CHOICE). -/
def programCheck (count : Nat) (store : List StageRecord) : Option Nat :=
  match firstFailing count 1 store with
  | some i => some i
  | none => if store.any StageRecord.isHeat then none else some 0

/-- The code of a record taken, by whether a value was clamped (R118). -/
def takenCode (clamped : Option Nat) : ResultCode :=
  if clamped.isSome then .acceptedClamped else .accepted

/-- R120, third line, and R121 when no stage remains. -/
def storeStage (r : StageRecord) (clamped : Option Nat) (s : State) : State :=
  let store := s.recipe.store ++ [r]
  let s1 := s.setRecipe { s.recipe with store := store, remaining := s.recipe.remaining - 1 }
  if s1.recipe.remaining ≠ 0 then respond .stage (takenCode clamped) (clamped.getD noDetail) s1
  else
    match programCheck s.recipe.count store with
    | some detail => respond .stage .refusedProgram detail (endSession s1)
    | none =>
      respond .stage (takenCode clamped) (clamped.getD noDetail)
        (s1.setRecipe { s1.recipe with state := .loaded })

/-- R120: STAGE. The load gap timer restarts whatever the result. -/
def stageCommand (index : Byte) (record : List Byte) (s : State) : State :=
  if s.recipe.state ≠ .loading then respond .stage .refusedState noDetail s
  else
    let s1 := s.setRecipe { s.recipe with gapMs := 0 }
    if index.toNat ≠ expectedIndex s.recipe then respond .stage .refusedOrder (expectedIndex s.recipe) s1
    else
      match judgeRecord 1 record with
      | .refused detail => respond .stage .refusedField detail s1
      | .taken r clamped => storeStage r clamped s1

/-! ### Starting (R124, R137) -/

/-- The refusals of R124 from its second line on. -/
def startRefusal (s : State) : Option ResultCode :=
  if descaleActive s.descale then some .refusedState
  else if s.steam.acid then some .refusedAcid
  else if tripRefuses s then some .refusedTrip
  else none

/-- What an accepted START does (R124). No HEAT stage has been current in the new run: a program that finishes before one
has the index 0 (R135), and one that faults is given 0 too (log entry 55, DESIGN CHOICE). -/
def startProgram (s : State) : State :=
  let s1 := s.setRecipe { s.recipe with cur := 1, lastHeat := 0, stack := [], state := .running, prompt := 0 }
  let s2 := s1.setSuperv { s1.superv with strikes := PerChannel.all 0 }
  settle (enter 1 (leaveFault s2))

/-- R124: START. -/
def startCommand (s : State) : State :=
  if s.recipe.state ≠ .loaded then respond .start .refusedState noDetail s
  else
    match startRefusal s with
    | some code => respond .start code noDetail s
    | none => startProgram (respond .start .accepted noDetail s)

/-- A RUN_MANUAL record of kind CALL or RETURN is refused, and so is a PROMPT with a branch list (R137). The detail for a
CALL or RETURN is that of its own fault under R117 or R118 where it has one, and otherwise its kind (log entry 45). -/
def runManual (record : List Byte) (s : State) : State :=
  if !frozen s || (decide (s.recipe.state ≠ .idle) && decide (s.recipe.state ≠ .loaded)) then
    respond .runManual .refusedState noDetail s
  else
    match judgeRecord 0 record with
    | .refused detail => respond .runManual .refusedField detail s
    | .taken (.call _ _) _ => respond .runManual .refusedField 0 s
    | .taken .ret _ => respond .runManual .refusedField 0 s
    | .taken (.heat h skip) clamped =>
      if !h.branches.isEmpty then respond .runManual .refusedProgram 1 s
      else
        match startRefusal s with
        | some code => respond .runManual code noDetail s
        | none =>
          let s1 := s.setRecipe { s.recipe with store := [.heat h skip], count := 1, tag := 0, remaining := 0 }
          startProgram (respond .runManual (takenCode clamped) (clamped.getD noDetail) s1)

/-! ### Prompts (R131) -/

/-- An answer is applied: the branch at its position, or the next stage. -/
def applyAnswer (a : Nat) (s : State) : State :=
  match (currentHeat s.recipe).bind fun h => h.branches[a]? with
  | some o => enter (s.recipe.cur + o) s
  | none => enter (s.recipe.cur + 1) s

/-- The detail for the missing probe (R179). -/
def probeMissingDetail : Nat := 2

/-- The stage goes on in RUNNING from the prompt 250: its targets are handed over again (R2) and its end judged. -/
def continueStage (s : State) : State :=
  let s1 := s.setRecipe { s.recipe with state := .running, prompt := 0 }
  match currentHeat s1.recipe with
  | none => s1
  | some h => judgeStage (handOver h s1)

/-- R131: ANSWER. -/
def answerCommand (index a : Byte) (s : State) : State :=
  if s.recipe.state ≠ .prompting then respond .answer .refusedState noDetail s
  else if 2 < a.toNat then respond .answer .refusedField 1 s
  else if index.toNat ≠ s.recipe.cur then respond .answer .refusedOrder s.recipe.cur s
  else if s.recipe.prompt = probePrompt then
    if s.recipe.probePresent then settle (continueStage (respond .answer .accepted noDetail s))
    else respond .answer .refusedState probeMissingDetail s
  else settle (applyAnswer a.toNat (respond .answer .accepted noDetail s))

/-! ### Pause, resume, abort (R133, R134) -/

def pauseCommand (s : State) : State :=
  if s.recipe.state = .running ∨ s.recipe.state = .prompting then
    settle (respond .pause .accepted noDetail
      (s.setRecipe { s.recipe with pausedFrom := s.recipe.state, state := .paused }))
  else respond .pause .refusedState noDetail s

/-- R133: the state returns to the paused state; the end condition and the probe rule are judged at once. -/
def resumeCommand (s : State) : State :=
  if s.recipe.state = .paused then
    let s1 := respond .resume .accepted noDetail (s.setRecipe { s.recipe with state := s.recipe.pausedFrom })
    let s2 := match s.recipe.pausedFrom, currentHeat s1.recipe with
      | .running, some h => handOver h s1
      | _, _ => s1
    settle (judgeStageAndProbe s2)
  else respond .resume .refusedState noDetail s

/-- R134: ABORT of an active program. -/
def abortProgram (s : State) : State :=
  let s1 := respond .abort .accepted noDetail
    (s.setRecipe { s.recipe with state := .loaded, cur := 0, stack := [], prompt := 0 })
  settle (noticeAt .programAborted s.recipe.cur noDetail (leaveClimate s1))

/-- R156: ABORT goes to an active descale, and otherwise to the Recipe Engine (R122, R123, R134). -/
def abortCommand (s : State) : State :=
  if descaleActive s.descale then abortDescale s
  else
    match s.recipe.state with
    | .loading => respond .abort .accepted noDetail (endSession s)
    | .running => abortProgram s
    | .paused => abortProgram s
    | .prompting => abortProgram s
    | .idle => respond .abort .refusedState noDetail s
    | .loaded => respond .abort .refusedState noDetail s
    | .finished => respond .abort .refusedState noDetail s
    | .faulted => respond .abort .refusedState noDetail s

/-- The program becomes LOADED again (R135, R136). -/
def acknowledge (s : State) : State :=
  respond .finishAck .accepted noDetail (s.setRecipe { s.recipe with state := .loaded, cur := 0 })

/-- R135, R136: FINISH_ACK. -/
def finishAck (s : State) : State :=
  match s.recipe.state with
  | .finished => acknowledge s
  | .faulted =>
    if s.superv.relayClosed && !s.superv.welded then acknowledge s
    else respond .finishAck .refusedTrip noDetail s
  | .idle => respond .finishAck .refusedState noDetail s
  | .loading => respond .finishAck .refusedState noDetail s
  | .loaded => respond .finishAck .refusedState noDetail s
  | .running => respond .finishAck .refusedState noDetail s
  | .paused => respond .finishAck .refusedState noDetail s
  | .prompting => respond .finishAck .refusedState noDetail s

/-! ### Events -/

/-- R122: the load gap timer expires; the notice carries the tag of LOAD_OPEN. -/
def loadTimeout (s : State) : State :=
  if s.recipe.state = .loading then
    endSession (enqueue (.notice .loadTimeout s.recipe.tag s.recipe.cur (expectedIndex s.recipe)) s)
  else s

/-- The stage ends on its duration: TIME, EITHER, and CORE with a duration while the probe is absent (R129, R130). -/
def endsOnTime (s : State) (h : HeatStage) : Bool :=
  h.duration.isSome &&
    (decide (h.endKind = .time) || decide (h.endKind = .either)
      || (decide (h.endKind = .core) && !s.recipe.probePresent))

/-- The elapsed time stands at the stage's duration. -/
def elapse (h : HeatStage) (s : State) : State :=
  s.setRecipe { s.recipe with elapsedMs := max s.recipe.elapsedMs (1000 * h.duration.getD 0) }

/-- R129: the stage timer reaches the duration. -/
def stageTimeEnd (s : State) : State :=
  match currentHeat s.recipe with
  | none => s
  | some h =>
    if s.recipe.state = .running ∧ timerRuns s ∧ endsOnTime s h then
      settle (enter (s.recipe.cur + 1) (elapse h s))
    else s

/-- R132: a PROMPT stage's elapsed time reaches its duration, and answer 0 is applied. -/
def promptTimeout (s : State) : State :=
  match currentHeat s.recipe with
  | none => s
  | some h =>
    if s.recipe.state = .prompting ∧ h.endKind = .prompt ∧ h.duration.isSome ∧ timerRuns s then
      settle (applyAnswer 0 (elapse h s))
    else s

/-- R138: the reason has stood for 5 s; the notice goes once per stage. -/
def steamWithheld (s : State) : State :=
  if withheldWatched s then
    notice .steamWithheld
      ((withheldReason s).code * 256
        + (if withheldReason s = .fault then faultKindCode s.steam.faultKind else 0))
      (s.setRecipe { s.recipe with withheldMark := true, withheldMs := 0 })
  else s

/-! ### Meanings of the events -/

def execLoadTimeout (s : State) : Host.Outcome State Fault Refusal := .next (loadTimeout s)

def execStageTimeEnd (s : State) : Host.Outcome State Fault Refusal := .next (stageTimeEnd s)

def execPromptTimeout (s : State) : Host.Outcome State Fault Refusal := .next (promptTimeout s)

def execSteamWithheld (s : State) : Host.Outcome State Fault Refusal := .next (steamWithheld s)

end Sys2Proof.Machine
end

