-- ==== Sys2Proof/Machine/Supervision.lean ====
section
/-!
DEFINITION. The Supervision Unit (08_supervision_and_the_heater_supply_relay.md): readings (R140, R141, R145), side states
(R144), excursions (R146), CUT (R147), TRIP (R148), the fixed cavity limit (R149), the relay (R150 to R152), the
configuration check (R153), the start check (R154); and the meanings of its events.
-/
namespace Sys2Proof.Machine

/-! ### Heat taken away -/

/-- Every element leaves the rest of the frame at the next crossing (R32). -/
def barHeat (s : State) : State :=
  if s.power.inFrame then
    s.setPower { s.power with shed := PerElement.all true, heatBarred := true }
  else s

/-- The relay command changes, and the mismatch timer starts again (R150). -/
def commandRelay (closed : Bool) (s : State) : State :=
  s.setSuperv { s.superv with
    relayClosed := closed
    mismatchMs  := if s.superv.relayClosed = closed then s.superv.mismatchMs else 0 }

/-- R148: the TRIP latch is set and the relay commanded open in one step, and the neighbours act on it. The own POWER
hold falls as the latch becomes set (R42); with the latch already set it stands. -/
def takeTrip (cause : ProgramFault) (s : State) : State :=
  let s1 := commandRelay false (s.setSuperv { s.superv with trip := true })
  let s2 := barHeat (forceZero s1)
  let s3 := if s.superv.trip then s2 else lowerHold .power 0 s2
  settle (descaleFault .trip (faultProgram cause s3))

/-- R147: what a CUT does as it comes into force. -/
def beginCut (s : State) : State := settle (barHeat (forceZero s))

/-! ### Side states (R144) -/

/-- How a reading stands to one side's limit. -/
structure Judged where
  beyond : Bool
  back   : Bool
  deriving DecidableEq, Repr

/-- The changes of R144 that a reading makes. -/
def SideRec.judge (r : SideRec) (j : Judged) : SideRec :=
  match r.state with
  | .clear => if j.beyond then { r with state := .pending, ms := 0 } else r
  | .pending => if j.beyond then r else { r with state := .clear, ms := 0 }
  | .active => if j.back then { r with state := .recovering, ms := 0 } else r
  | .recovering => if j.back then r else { r with state := .active, ms := 0 }

/-- CORE shows its probe absent: a PENDING side returns to CLEAR and the others stand (R145). -/
def SideRec.absent (r : SideRec) : SideRec :=
  match r.state with
  | .pending => { r with state := .clear, ms := 0 }
  | .clear => r
  | .active => r
  | .recovering => r

/-- A value against the low limit (R143). -/
def judgeLow (rec_ : ChannelRecord) (c : Channel) (v : Int) : Judged :=
  ⟨decide (v < rec_.lowLimit), decide (rec_.lowLimit + hysteresis c ≤ v)⟩

/-- A value against the high limit (R143). -/
def judgeHigh (rec_ : ChannelRecord) (c : Channel) (v : Int) : Judged :=
  ⟨decide (rec_.highLimit < v), decide (v ≤ rec_.highLimit - hysteresis c)⟩

/-- How the low side stands: a failed channel is beyond on its failed side and back inside on the other (R145). -/
def lowJudgement (rec_ : ChannelRecord) (c : Channel) (r : Reading) : Option Judged :=
  match r.failed with
  | some .low => some ⟨true, false⟩
  | some .high => some ⟨false, true⟩
  | some .fixed => some ⟨false, true⟩
  | none => r.value.map (judgeLow rec_ c)

/-- How the high side stands. -/
def highJudgement (rec_ : ChannelRecord) (c : Channel) (r : Reading) : Option Judged :=
  match r.failed with
  | some .high => some ⟨true, false⟩
  | some .low => some ⟨false, true⟩
  | some .fixed => some ⟨false, true⟩
  | none => r.value.map (judgeHigh rec_ c)

/-- A channel without a judgement keeps its side. -/
def applyJudged (r : SideRec) (j : Option Judged) : SideRec :=
  match j with
  | some j => r.judge j
  | none => r

/-- The channel is judged: from the freeze on (R154), while enabled (R142), MAINS once it is armed (R154). -/
def judges (s : State) (c : Channel) : Bool :=
  s.superv.judging && (s.startup.channels.get c).enabled && (decide (c ≠ .mains) || s.superv.mainsArmed)

/-- Both sides of a channel judge its reading (R144, R145). -/
def judgeChannelSides (c : Channel) (s : State) : State :=
  if judges s c then
    let r := s.superv.readings.get c
    let rec_ := s.startup.channels.get c
    if r.cond.showsAbsent then
      s.setSuperv { s.superv with
        low  := s.superv.low.set (s.superv.low.get c).absent c
        high := s.superv.high.set (s.superv.high.get c).absent c }
    else
      s.setSuperv { s.superv with
        low  := s.superv.low.set (applyJudged (s.superv.low.get c) (lowJudgement rec_ c r)) c
        high := s.superv.high.set (applyJudged (s.superv.high.get c) (highJudgement rec_ c r)) c }
  else s

/-- The fixed cavity limit against the CAV reading (R149); a failure to the low side is back inside (log entry 37). -/
def fixedJudgement (r : Reading) : Option Judged :=
  match r.failed with
  | some .high => some ⟨true, false⟩
  | some .low => some ⟨false, true⟩
  | some .fixed => some ⟨false, true⟩
  | none => r.value.map fun v => ⟨decide (3000 ≤ v), decide (v ≤ 2980)⟩

/-- The fixed cavity limit is judged from the freeze, whether or not CAV is enabled (R149). -/
def judgeFixed (s : State) : State :=
  if s.superv.judging then
    s.setSuperv { s.superv with fixed := applyJudged s.superv.fixed (fixedJudgement s.superv.readings.cav) }
  else s

/-- The side states of the channels that are read every 10 ms, and of the fixed limit, judge the readings as they stand
(R144, R149). -/
def judgeReadings (s : State) : State :=
  judgeFixed (judgeChannelSides .board (judgeChannelSides .moist (judgeChannelSides .boil
    (judgeChannelSides .core (judgeChannelSides .cav s)))))

/-! ### Excursions (R146, R149) -/

/-- The side record of a channel; FIXED is the fixed cavity limit. -/
def sideRec (v : Superv) (c : Channel) : Side → SideRec
  | .low => v.low.get c
  | .high => v.high.get c
  | .fixed => v.fixed

def setSideRec (v : Superv) (c : Channel) (r : SideRec) : Side → Superv
  | .low => { v with low := v.low.set r c }
  | .high => { v with high := v.high.set r c }
  | .fixed => { v with fixed := r }

/-- The debounce time of a side (R143, R149). -/
def sideDebounce (s : State) (c : Channel) : Side → Nat
  | .low => debounceMs (s.startup.channels.get c).lowCode
  | .high => debounceMs (s.startup.channels.get c).highCode
  | .fixed => 1000

/-- The other side of the same record; the fixed limit has none (R144, R149). -/
def otherSide : Side → Option Side
  | .low => some .high
  | .high => some .low
  | .fixed => none

/-- The other side of the channel is in excursion (R144). -/
def otherInExcursion (v : Superv) (c : Channel) (d : Side) : Bool :=
  (otherSide d).any fun o => (sideRec v c o).inProgress

/-- The side's map (R142). -/
def sideMap (s : State) (c : Channel) : Side → Consequence
  | .low => (s.startup.channels.get c).lowMap
  | .high => (s.startup.channels.get c).highMap
  | .fixed => .trip

/-- The strike count after an excursion start: 15 at most, and none for the fixed limit (R146, R149). -/
def strikesAfter (s : State) (c : Channel) : Side → Nat
  | .fixed => s.superv.strikes.get c
  | .low => min 15 (s.superv.strikes.get c + 1)
  | .high => min 15 (s.superv.strikes.get c + 1)

/-- The consequence fixed at the start (R146, R149). -/
def fixedConsequence (s : State) (c : Channel) (d : Side) : Consequence :=
  let limit := (s.startup.channels.get c).strikeLimit
  if d = .fixed then .trip
  else if limit ≠ 0 ∧ limit ≤ strikesAfter s c d then .trip
  else sideMap s c d

/-- The detail of CHANNEL_EXCURSION (R179). -/
def excursionDetail (c : Channel) (d : Side) (k : Consequence) (started : Bool) : Nat :=
  channelCode c * 256 + sideCode d * 64 + k.code * 16 + bitNat started

/-- An excursion starts (R146): strike, consequence, notice, effect. -/
def startExcursion (c : Channel) (d : Side) (s : State) : State :=
  let k := fixedConsequence s c d
  let wasCut := cutInForce s.superv
  let v := setSideRec s.superv c ⟨.active, 0, k⟩ d
  let s1 := s.setSuperv { v with strikes := v.strikes.set (strikesAfter s c d) c }
  let s2 := notice .channelExcursion (excursionDetail c d k true) s1
  match k with
  | .note => s2
  | .cut => if wasCut then s2 else beginCut s2
  | .trip => takeTrip .trip s2

/-- A side has been beyond its limit for its debounce time: its excursion starts, or waits while the other side is in
excursion (R144). -/
def debounced (c : Channel) (d : Side) (s : State) : State :=
  if otherInExcursion s.superv c d then
    s.setSuperv (setSideRec s.superv c
      { sideRec s.superv c d with ms := max (sideRec s.superv c d).ms (sideDebounce s c d) } d)
  else startExcursion c d s

/-- A side that waited starts its excursion at the moment the other side's ends (R144). -/
def startWaiting (c : Channel) (d : Side) (s : State) : State :=
  match otherSide d with
  | none => s
  | some o =>
    if (sideRec s.superv c o).state = .pending ∧ sideDebounce s c o ≤ (sideRec s.superv c o).ms then
      startExcursion c o s
    else s

/-- An excursion ends (R146): the side is CLEAR and the notice raised; its consequence is lifted. -/
def endExcursion (c : Channel) (d : Side) (s : State) : State :=
  let k := (sideRec s.superv c d).cons
  startWaiting c d
    (notice .channelExcursion (excursionDetail c d k false)
      (s.setSuperv (setSideRec s.superv c SideRec.cleared d)))

/-- The sides a channel has: FIXED belongs to CAV (R149). -/
def sideExists (c : Channel) (d : Side) : Bool := decide (d ≠ .fixed) || decide (c = .cav)

/-- R146: the row of an excursion start, for a side that is PENDING. -/
def excursionStart (c : Channel) (d : Side) (s : State) : State :=
  if sideExists c d && decide ((sideRec s.superv c d).state = .pending) then debounced c d s else s

/-- A recovery is counted while the channel's sides are judged: with CORE showing its probe absent the count stands
(R145). -/
def recoveryCounts (v : Superv) (c : Channel) : Bool := !(v.readings.get c).cond.showsAbsent

/-- R147: the row of an excursion end, for a side that is RECOVERING. -/
def excursionEnd (c : Channel) (d : Side) (s : State) : State :=
  if sideExists c d && decide ((sideRec s.superv c d).state = .recovering) && recoveryCounts s.superv c then
    settle (endExcursion c d s)
  else s

/-! ### Readings (R140, R141, R145) -/

/-- The side an unreadable input fails to (R141). -/
def failSide : InputCond → Side
  | .shortCircuit => .high
  | .openCircuit => .low
  | .ok => .low
  | .absent => .low
  | .aboveRange => .low

/-- R141: a reading of an input that is not readable. -/
def unreadable (cond : InputCond) (r : Reading) : Reading :=
  if r.failed.isSome then { r with cond := cond, failed := some (failSide cond) }
  else if r.holding then { r with cond := cond }
  else if r.value.isSome then { r with cond := cond, holding := true, holdMs := 0 }
  else { r with cond := cond, failed := some (failSide cond) }

/-- R140: a reading of a readable input. -/
def readableAs (c : Channel) (v : Int) : Reading := ⟨some (channelClamp c v), .ok, false, 0, none⟩

/-- One reading of CAV, BOIL or MOIST. -/
def readAnalog (c : Channel) (x : AnalogInput) (r : Reading) : Reading :=
  match x with
  | .readable v => readableAs c v
  | .openCircuit => unreadable .openCircuit r
  | .shortCircuit => unreadable .shortCircuit r

/-- CORE shows its probe absent above 1300 or at an open circuit (R127, R145). -/
def coreAbsent : AnalogInput → Bool
  | .readable v => decide (1300 < v)
  | .openCircuit => true
  | .shortCircuit => false

/-- One reading of CORE: an absent probe is no failure (R145). A value above 1300 is presented as 1300 (R140); at an open
circuit the value last presented stands until the probe state is ABSENT (log entry 8). A short circuit behind an open one
fails at once where no value is presented, and else begins a hold of its own (log entry 48). -/
def readCore (probePresent : Bool) (x : AnalogInput) (r : Reading) : Reading :=
  match x with
  | .readable v => { readableAs .core v with cond := if 1300 < v then .aboveRange else .ok }
  | .openCircuit => ⟨if probePresent then r.value else none, .absent, false, 0, none⟩
  | .shortCircuit => unreadable .shortCircuit r

/-- The readings presented at one reading of the inputs (R140). -/
def readInputs (x : SensorInputs) (probePresent : Bool) (p : PerChannel Reading) : PerChannel Reading :=
  { p with
    cav   := readAnalog .cav x.cav p.cav
    core  := readCore probePresent x.core p.core
    boil  := readAnalog .boil x.boil p.boil
    moist := readAnalog .moist x.moist p.moist
    board := readableAs .board x.board }

/-- The core reading's present or absent, with its 2 s counted again at a change (R127). -/
def probeInput (shows : Bool) (s : State) : State :=
  s.setRecipe { s.recipe with
    probeShows := shows
    probeMs    := if s.recipe.probeShows = shows then s.recipe.probeMs else 0 }

/-- R140: the periodic reading, and the rules that judge it: side states, the timed phase and the stage's end, the
generator and a service HEAT. -/
def sensorReading (x : SensorInputs) (s : State) : State :=
  let s1 := s.setSuperv { s.superv with readings := readInputs x s.recipe.probePresent s.superv.readings }
  let s2 := probeInput (!coreAbsent x.core) s1
  settle (judgeBoil (judgeHeat (judgeStage (judgeTimedPhase (judgeReadings s2)))))

/-- R141: the 2 s hold of an unreadable input runs out, and the channel fails. -/
def channelFails (c : Channel) (s : State) : State :=
  let r := s.superv.readings.get c
  if r.holding then
    let s1 := s.setSuperv { s.superv with
      readings := s.superv.readings.set
        { r with value := none, holding := false, holdMs := 0, failed := some (failSide r.cond) } c }
    let s2 := judgeChannelSides c s1
    settle (if c = .cav then judgeFixed s2 else s2)
  else s

/-- The MAINS channel takes a new value and is judged (R140, R154). -/
def presentMains (v : Nat) (s : State) : State :=
  judgeChannelSides .mains
    (s.setSuperv { s.superv with readings := { s.superv.readings with mains := readableAs .mains v } })

/-- An excursion of CORE in progress ends as the probe state becomes ABSENT (R145). -/
def endCoreExcursion (d : Side) (s : State) : State :=
  if (sideRec s.superv .core d).inProgress then endExcursion .core d s else s

/-- The CORE reading as the probe state becomes ABSENT: the value goes (log entry 8), but for one above the range, which is
read and presented (R140). -/
def Reading.probeGone (r : Reading) : Reading :=
  { r with value := if r.cond = .aboveRange then r.value else none }

/-- The probe state becomes ABSENT: CORE's held value goes and its excursions end (R127, R145). -/
def probeLost (s : State) : State :=
  endCoreExcursion .high (endCoreExcursion .low
    (s.setSuperv { s.superv with
      readings := { s.superv.readings with core := s.superv.readings.core.probeGone } }))

/-- R127: the probe state changes; the stage is judged (R129) and, with the probe gone, the probe rule too (R130).
In PAUSED it is acted on at RESUME (R133). A CORE stage whose elapsed time stands at its duration as the probe goes ends at
once, with no notice 251 (log entry 51). -/
def probeStateChange (s : State) : State :=
  if s.recipe.probeShows = s.recipe.probePresent then s
  else
    let s1 := s.setRecipe { s.recipe with probePresent := s.recipe.probeShows, probeMs := 0 }
    let s2 := if s.recipe.probeShows then s1 else probeLost s1
    if s.recipe.state = .running ∨ s.recipe.state = .prompting then
      settle (if s.recipe.probeShows then judgeStage s2 else judgeStageAndProbe s2)
    else settle s2

/-! ### The relay (R150 to R152, R154) -/

/-- R150: the feedback input changes, and the mismatch timer starts again. -/
def relayFeedback (closed : Bool) (s : State) : State :=
  s.setSuperv { s.superv with feedbackClosed := closed, mismatchMs := 0 }

/-- R150: commanded CLOSED and feedback OPEN for 200 ms. -/
def relayOpenFault (s : State) : State :=
  if s.superv.relayClosed && !s.superv.feedbackClosed then
    takeTrip .trip (notice .relayFault 1 s)
  else s

/-- R151: commanded OPEN and feedback CLOSED for 200 ms; the fault is held until power-on. While it is held the same moment
changes nothing and raises no second notice (log entry 59, DESIGN CHOICE). A descale that a RESTART has cut short faults here
too (log entry 58, DESIGN CHOICE). -/
def relayWelded (s : State) : State :=
  if !s.superv.relayClosed && s.superv.feedbackClosed && !s.superv.welded then
    let s1 := notice .relayFault 2 s
    settle (descaleFault .relayWelded (barHeat (s1.setSuperv { s1.superv with welded := true })))
  else s

/-- An excursion is in progress on an enabled channel, or for CAV on the fixed limit (R152). -/
def inExcursion (s : State) (c : Channel) : Bool :=
  ((s.startup.channels.get c).enabled
    && ((s.superv.low.get c).inProgress || (s.superv.high.get c).inProgress))
  || (decide (c = .cav) && s.superv.fixed.inProgress)

/-- R152: RELAY_RESTORE. -/
def relayRestore (s : State) : State :=
  if !frozen s then respond .relayRestore .refusedState noDetail s
  else if s.superv.welded then respond .relayRestore .refusedTrip noDetail s
  else
    match channelList.find? (inExcursion s) with
    | some c => respond .relayRestore .refusedState (channelCode c + 1) s
    | none =>
      respond .relayRestore .accepted noDetail
        (commandRelay true (s.setSuperv { s.superv with trip := false, strikes := PerChannel.all 0 }))

/-- A reading of an enabled channel is beyond a limit (R154), where MAINS counts as inside. So does a CORE that shows its
probe absent, whose sides do not judge the value it presents (R145): R154 and R171 except MAINS alone, and say nothing of it
(log entry 64, DESIGN CHOICE). -/
def beyondAtStart (s : State) (c : Channel) : Bool :=
  let r := s.superv.readings.get c
  let rec_ := s.startup.channels.get c
  rec_.enabled && decide (c ≠ .mains) && !r.cond.showsAbsent
    && ((lowJudgement rec_ c r).any (·.beyond) || (highJudgement rec_ c r).any (·.beyond))

/-- R154: the start check. -/
def startCheck (s : State) : State :=
  if !s.superv.welded && !s.superv.trip && !(channelList.any (beyondAtStart s))
      && !(fixedJudgement s.superv.readings.cav).any (·.beyond) then
    commandRelay true s
  else s

/-- Every side is CLEAR, no strike is counted, and MAINS waits for its first completed frame (R154). An excursion that a
re-initialisation clears raises no notice of its end (log entry 47). -/
def clearJudging (s : State) : State :=
  s.setSuperv { s.superv with
    low := PerChannel.all SideRec.cleared, high := PerChannel.all SideRec.cleared
    fixed := SideRec.cleared, strikes := PerChannel.all 0, judging := true, mainsArmed := false }

/-- Judging starts from CLEAR, from the readings as they then stand (R154), at the freeze too (log entry 50). -/
def startJudging (s : State) : State := judgeReadings (clearJudging s)

/-! ### The configuration check (R153) -/

/-- The check value of the configuration as it is held (R153, R178). -/
def configCheckValue (s : State) : Word16 := checkField (configBytes s.startup)

/-- R153: a CONFIG_FAULT in its order: notice, TRIP, holds to 0 and no raise. -/
def takeConfigFault (s : State) : State :=
  let s1 := notice .relayFault 3 s
  let s2 := takeTrip .configFault (s1.setSuperv { s1.superv with configFault := true })
  let s3 := lowerHold .drain 0 (lowerHold .inlet 0 (lowerHold .power 0 s2))
  settle (dropRaise .drain (dropRaise .inlet (dropRaise .power s3)))

/-- R153: the check every 10 s; none is made while a CONFIG_FAULT is held. -/
def configCheck (s : State) : State :=
  if frozen s && !s.superv.configFault then
    let s1 := s.setSuperv { s.superv with checkMs := 0 }
    if configCheckValue s = s.superv.checkValue then s1 else takeConfigFault s1
  else s

/-! ### Meanings of the events -/

def execSensorReading (x : SensorInputs) (s : State) : Host.Outcome State Fault Refusal := .next (sensorReading x s)

def execChannelFailed (c : Channel) (s : State) : Host.Outcome State Fault Refusal := .next (channelFails c s)

def execExcursionStart (c : Channel) (d : Side) (s : State) : Host.Outcome State Fault Refusal :=
  .next (excursionStart c d s)

def execExcursionEnd (c : Channel) (d : Side) (s : State) : Host.Outcome State Fault Refusal :=
  .next (excursionEnd c d s)

def execRelayFeedbackChange (closed : Bool) (s : State) : Host.Outcome State Fault Refusal :=
  .next (relayFeedback closed s)

def execRelayOpenFault (s : State) : Host.Outcome State Fault Refusal := .next (relayOpenFault s)

def execRelayWelded (s : State) : Host.Outcome State Fault Refusal := .next (relayWelded s)

def execConfigCheck (s : State) : Host.Outcome State Fault Refusal := .next (configCheck s)

def execProbeStateChange (s : State) : Host.Outcome State Fault Refusal := .next (probeStateChange s)

end Sys2Proof.Machine
end

