-- ==== Sys2Proof/Machine/Power.lean ====
section
/-!
DEFINITION. The Power Scheduler (02_the_power_scheduler.md): the mains frequency (R21), missed crossings (R22), the work at
a frame start (R23 to R30), changes during a frame (R31, R32) and starvation (R34); and the meanings of its events.
-/
namespace Sys2Proof.Machine

/-- The slots of a burst frame (R20). -/
def frameSlots : Nat := 20

/-! ### The mains frequency (R21) -/

/-- A MAINS fault is decided, with the notice that carries the measured tenths of a hertz (R21, R179). -/
def decideMainsFault (tenths : Nat) (half : Option Nat) (s : State) : State :=
  notice .channelExcursion (32768 + min tenths 32767)
    (s.setPower { s.power with freq := .mainsFault tenths, halfPeriodUs := half })

/-- The table of R21 for 100 intervals of `total` microseconds. -/
def decideFrequency (total : Nat) (s : State) : State :=
  let tenths := 500000000 / total
  if 450 ≤ tenths ∧ tenths < 550 then
    s.setPower { s.power with freq := .hz50, halfPeriodUs := some 10000 }
  else if 550 ≤ tenths ∧ tenths ≤ 650 then
    s.setPower { s.power with freq := .hz60, halfPeriodUs := some 8333 }
  else decideMainsFault tenths (some (total / 200)) s

/-- A crossing is timed while the frequency is undecided: the first begins the first interval. -/
def timeCrossing (interval : Nat) (s : State) : State :=
  if s.power.freq = .undecided then
    let total := if s.power.crossings = 0 then 0 else s.power.intervalUs + interval
    let s1 := s.setPower { s.power with crossings := s.power.crossings + 1, intervalUs := total }
    if s.power.crossings = 100 then decideFrequency total s1 else s1
  else s

/-- R21: 100 intervals were not seen within 10 s of power-on; too few crossings give the detail 0. -/
def frequencyTimeout (s : State) : State :=
  if s.power.freq = .undecided then decideMainsFault 0 none s else s

/-! ### The frame start (R23 to R29) -/

/-- The clamped voltage Vc (R23). -/
def clampVoltage (vNom : Nat) : Option Nat → Nat
  | none => vNom
  | some v => if vNom = 120 then clampNat 96 138 v else clampNat 184 264 v

/-- A corrected rating P' (R24). -/
def correctRating (vNom vc rating : Nat) : Nat := divUp (rating * vc * vc) (vNom * vNom)

def correctRatings (u : Supply) (vc : Nat) : PerElement Nat :=
  { top    := correctRating u.vNom vc u.ratings.top
    bottom := correctRating u.vNom vc u.ratings.bottom
    ring   := correctRating u.vNom vc u.ratings.ring
    boiler := correctRating u.vNom vc u.ratings.boiler }

/-- The demands as their owners hold them (R26). -/
def demandsNow (s : State) : PerElement Nat :=
  ⟨s.climate.demTop, s.climate.demBottom, s.climate.demRing, s.steam.boilerDemand⟩

/-- R26: whether an element may be placed, given the frame's corrected ratings. The cavity elements are not placed
while the door is OPEN. -/
def eligible (s : State) (corrected : PerElement Nat) (e : Element) : Bool :=
  decide (0 < (demandsNow s).get e) && decide (0 < corrected.get e)
    && !heatBarred s && !mainsFaultHeld s.power
    && (decide (e = .boiler) || !s.climate.doorOpen)

/-- The load of a slot: the corrected ratings of its elements (R27). -/
def slotLoad (corrected : PerElement Nat) (x : PerElement Bool) : Nat :=
  (if x.top then corrected.top else 0) + (if x.bottom then corrected.bottom else 0)
    + (if x.ring then corrected.ring else 0) + (if x.boiler then corrected.boiler else 0)

/-- The element joins slot `i` when the slot has room for its corrected rating (R27). -/
def slotHasRoom (corrected : PerElement Nat) (avail : Nat) (e : Element) (x : PerElement Bool) : Bool :=
  !x.get e && decide (slotLoad corrected x + corrected.get e ≤ avail)

/-- The scan of R27: `n` slots still to visit from slot `i` on, `left` slots still to join. Answers the layout and the
number joined. -/
def scanSlots (corrected : PerElement Nat) (avail : Nat) (e : Element) :
    Nat → Nat → Nat → List (PerElement Bool) → List (PerElement Bool) × Nat
  | 0, _, _, layout => (layout, 0)
  | n + 1, i, left, layout =>
    if left = 0 then (layout, 0)
    else
      match layout[i % frameSlots]? with
      | none => (layout, 0)
      | some x =>
        if slotHasRoom corrected avail e x then
          let r := scanSlots corrected avail e n (i + 1) (left - 1) (layout.set (i % frameSlots) (x.set true e))
          (r.1, r.2 + 1)
        else scanSlots corrected avail e n (i + 1) left layout

/-- One element is placed from its stagger offset (R27). -/
def placeElement (corrected : PerElement Nat) (avail : Nat) (e : Element) (demand : Nat)
    (layout : List (PerElement Bool)) : List (PerElement Bool) × Nat :=
  scanSlots corrected avail e frameSlots e.offset demand layout

/-- Twenty empty slots. -/
def emptyLayout : List (PerElement Bool) := List.replicate frameSlots (PerElement.all false)

/-- R27: the eligible elements are placed one after another in the placement order. -/
def layFrame (corrected : PerElement Nat) (avail : Nat) (demand : Element → Nat) :
    List Element → List (PerElement Bool) × PerElement Nat → List (PerElement Bool) × PerElement Nat
  | [], acc => acc
  | e :: rest, acc =>
    let r := placeElement corrected avail e (demand e) acc.1
    layFrame corrected avail demand rest (r.1, acc.2.set r.2 e)

/-- The corrected ratings of all eligible elements (R29). -/
def eligibleSum (s : State) (corrected : PerElement Nat) : Nat :=
  (([Element.top, .bottom, .ring, .boiler].filter (eligible s corrected)).map corrected.get).sum

/-- R29: the want, capped at the circuit capacity. -/
def wantOf (s : State) (corrected : PerElement Nat) : Nat :=
  min s.startup.supply.capacity
    ((if baseRequested s then s.startup.supply.baseLoad else 0) + eligibleSum s corrected)

/-- R25: the frame carries base load. -/
def frameCarries (s : State) : Bool :=
  baseRequested s && decide (s.startup.supply.baseLoad ≤ s.share.holds.power)

/-- R25: the available capacity A. -/
def frameCapacity (s : State) : Nat :=
  if frameCarries s then s.share.holds.power - s.startup.supply.baseLoad else s.share.holds.power

/-- The gates of a slot are driven, and the elements that are on are counted (R20). -/
def driveSlot (k : Nat) (s : State) : State :=
  let x := s.power.layout[k]?.getD (PerElement.all false)
  s.setPower { s.power with
    slot  := k
    gates := x
    onCount :=
      { top    := s.power.onCount.top + bitNat x.top
        bottom := s.power.onCount.bottom + bitNat x.bottom
        ring   := s.power.onCount.ring + bitNat x.ring
        boiler := s.power.onCount.boiler + bitNat x.boiler } }

/-- R30 from the voltage clamp to the want: the frame is laid out. -/
def layOut (volts : Option Nat) (s : State) : State :=
  let vc := clampVoltage s.startup.supply.vNom volts
  let corrected := correctRatings s.startup.supply vc
  let ok := eligible s corrected
  let laid := layFrame corrected (frameCapacity s) (demandsNow s).get (s.climate.order.filter ok)
    (emptyLayout, PerElement.all 0)
  s.setPower { s.power with
    inFrame := true, slot := 0, layout := laid.1, frameOrder := s.climate.order, vc := vc
    corrected := corrected, avail := frameCapacity s, carriesBase := frameCarries s
    demands := demandsNow s, placed := laid.2, onCount := PerElement.all 0
    want := wantOf s corrected
    base := if frameCarries s then baseRequests s else PerActuator.all false
    misses := 0, holdFall := none, shed := PerElement.all false, cavityZeroed := false
    heatBarred := cutInForce s.superv || !s.superv.relayClosed }

/-- The work of a frame start (R30), then the POWER decisions of the Share Unit (R39 to R41). -/
def frameStart (volts : Option Nat) (s : State) : State :=
  settle (frameStartDecisions (driveSlot 0 (layOut volts s)))

/-! ### Completion (R28, R34) -/

/-- The sum over the cavity elements. -/
def cavitySum (x : PerElement Nat) : Nat := x.top + x.bottom + x.ring

/-- The completed frame is starved (R28). -/
def frameStarved (p : Power) : Bool := !p.cavityZeroed && decide (cavitySum p.onCount < cavitySum p.demands)

/-- R28, R34: grants, starvation flag and starvation run; then the MAINS reading (R140) and the descale (R106, R110). -/
def completeFrame (volts : Nat) (s : State) : State :=
  let starved := frameStarved s.power
  let s1 := s.setPower { s.power with
    grants := s.power.onCount
    starved := starved
    starveMs := if starved then some (s.power.starveMs.getD 0) else none }
  let s2 := frameForDescale s.power.demands.boiler s.power.onCount.boiler s.power.heatBarred s1
  presentMains volts (s2.setSuperv { s2.superv with mainsArmed := true })

/-! ### Changes during a frame (R31, R32) -/

/-- Elements taken out of a slot. -/
def removeElements (shed x : PerElement Bool) : PerElement Bool :=
  { top    := x.top && !shed.top
    bottom := x.bottom && !shed.bottom
    ring   := x.ring && !shed.ring
    boiler := x.boiler && !shed.boiler }

/-- R31: elements are removed one at a time in the given order until the slot's load is no more than A'. -/
def shedSlot (corrected : PerElement Nat) (avail : Nat) : List Element → PerElement Bool → PerElement Bool
  | [], x => x
  | e :: rest, x =>
    if slotLoad corrected x ≤ avail then x else shedSlot corrected avail rest (x.set false e)

/-- The slots from `k` on are changed; slots that have ended are not (R31, R32). -/
def mapFrom (k : Nat) (f : PerElement Bool → PerElement Bool) (layout : List (PerElement Bool)) :
    List (PerElement Bool) :=
  layout.take k ++ (layout.drop k).map f

/-- The new available capacity A' under a fallen hold (R31). -/
def fallenCapacity (baseLoad : Nat) (carries : Bool) (h : Nat) : Nat :=
  if h < baseLoad then h else if carries then h - baseLoad else h

/-- The changes of R32 and then of R31 are applied to the slots from `k` on (log entry 10). -/
def applyChanges (k : Nat) (s : State) : State :=
  let layout1 := mapFrom k (removeElements s.power.shed) s.power.layout
  let p := { s.power with shed := PerElement.all false, layout := layout1 }
  match s.power.holdFall with
  | none => s.setPower p
  | some h =>
    let a := fallenCapacity s.startup.supply.baseLoad s.power.carriesBase h
    s.setPower { p with
      holdFall := none
      avail := a
      layout := mapFrom k (shedSlot s.power.corrected a s.power.frameOrder.reverse) layout1 }

/-! ### Crossings (R20, R22) -/

/-- No frame starts before the freeze, before the frequency is decided, or during a restart (R20, R33). -/
def framesRun (s : State) : Bool :=
  frozen s && !s.startup.restarting && decide (s.power.freq ≠ .undecided)

/-- R20: a detected crossing begins the next slot, completes the frame, or starts one. The crossing that decides the
frequency starts none: the first frame waits for a crossing after that. `volts` is the RMS voltage measured over the
frame that completes here (R23). -/
def zeroCrossing (interval volts : Nat) (s : State) : State :=
  let s0 := timeCrossing interval s
  let s1 := s0.setPower { s0.power with sinceCrossUs := 0, misses := 0 }
  if s1.power.inFrame then
    if s1.power.slot + 1 < frameSlots then
      driveSlot (s1.power.slot + 1) (applyChanges (s1.power.slot + 1) s1)
    else frameStart (some volts) (completeFrame volts s1)
  else if framesRun s then frameStart none s1
  else s1

/-- The frame in progress is abandoned: its layout and on counts go, the gates are released, and the grants, the
flag and the want stand (R22, R33). -/
def abandonFrame (s : State) : State :=
  s.setPower { s.power with
    inFrame := false, slot := 0, layout := [], gates := PerElement.all false
    placed := PerElement.all 0, onCount := PerElement.all 0, carriesBase := false
    holdFall := none, shed := PerElement.all false, cavityZeroed := false, heatBarred := false
    starveMs := none }

/-- At the first missed crossing every gate is released. Whether the half-cycle so cut off counts as on is a free
value (log entry 9). -/
def releaseGates (s : State) : State :=
  let lost (driven : Bool) (n : Nat) : Nat :=
    if driven && !Config.missedHalfCycleCounts s.power.freeCount then n - 1 else n
  s.setPower { s.power with
    gates := PerElement.all false
    freeCount := s.power.freeCount + 1
    onCount :=
      { top    := lost s.power.gates.top s.power.onCount.top
        bottom := lost s.power.gates.bottom s.power.onCount.bottom
        ring   := lost s.power.gates.ring s.power.onCount.ring
        boiler := lost s.power.gates.boiler s.power.onCount.boiler } }

/-- The missed crossings that make a mains gap (R22). -/
def gapMisses : Nat := 3

/-- R22: an expected crossing is missed; the third miss abandons the frame, and MAINS reads 0 V (R140). -/
def missedCrossing (s : State) : State :=
  if s.power.inFrame then
    let s1 := s.setPower { s.power with misses := s.power.misses + 1 }
    let s2 := if s.power.misses = 0 then releaseGates s1 else s1
    if gapMisses ≤ s2.power.misses then settle (presentMains 0 (abandonFrame s2)) else s2
  else s

/-- R34: the starvation run has lasted 60 s, or a further 60 s. -/
def supplyStarved (s : State) : State :=
  if s.power.starveMs.isSome then
    notice .supplyStarved s.share.holds.power (s.setPower { s.power with starveMs := some 0 })
  else s

/-! ### Meanings -/

def execZeroCrossing (interval volts : Nat) (s : State) : Host.Outcome State Fault Refusal :=
  .next (zeroCrossing interval volts s)

def execFrequencyTimeout (s : State) : Host.Outcome State Fault Refusal := .next (frequencyTimeout s)

def execMissedCrossing (s : State) : Host.Outcome State Fault Refusal := .next (missedCrossing s)

def execSupplyStarved (s : State) : Host.Outcome State Fault Refusal := .next (supplyStarved s)

end Sys2Proof.Machine
end

