-- ==== Sys2Proof/Machine/Share.lean ====
section
/-!
DEFINITION. The Share Unit (03_supply_shares.md): the share table (R36, R38, R52), recording and correction (R46, R47, R49,
R50), vetoes (R45), yields (R51), link state (R53 to R56) and water trips (R57 to R59); and the meanings of its events.
-/
namespace Sys2Proof.Machine

/-! ### The share table (R36, R38) -/

/-- The table is kept in rising order of station number, with one entry per station. -/
def insertEntry (e : Entry) : List Entry → List Entry
  | [] => [e]
  | x :: t =>
    if e.station < x.station then e :: x :: t
    else if e.station = x.station then e :: t
    else x :: insertEntry e t

/-- An entry as it is created, in the FRESH state. -/
def newEntry (n : Nat) : Entry := ⟨n, false, none, none, PerPool.all 0, 0, false, false, false⟩

/-- R38: what a well-formed frame does to its sender's entry. An EXPIRED entry takes the holds it was charged, also the one
that a RAISE, LOWER or STATUS carries but that is not recorded, because the frame was vetoed (log entry 61, DESIGN CHOICE). -/
def refreshEntry (floor : Nat) (e : Entry) : Entry :=
  if e.expired then
    { e with expired := false, heardMs := 0, holds := ⟨min e.holds.power floor, 0, 0⟩ }
  else { e with heardMs := 0 }

/-- The entry of a station is changed, where there is one. -/
def updateEntry (n : Nat) (f : Entry → Entry) (table : List Entry) : List Entry :=
  table.map fun e => if e.station = n then f e else e

/-- R38: the sender's entry is refreshed, if it has one. -/
def refreshSender (n : Nat) (s : State) : State :=
  s.setShare { s.share with table := updateEntry n (refreshEntry s.share.floor) s.share.table }

/-! ### Recording (R46, R47, R49, R50) -/

/-- A hold as it is taken from a body (R176). -/
def holdTaken (p : Pool) (v : Word16) : Nat :=
  match p with
  | .power => min 1100 v.toNat
  | .inlet => min 1 v.toNat
  | .drain => min 1 v.toNat

/-- The hold of a pool and that pool's group are recorded (R46, R47). -/
def Entry.recordHold (p : Pool) (group hold : Nat) (e : Entry) : Entry :=
  match p with
  | .power => { e with holds := e.holds.set hold .power, circuit := some group }
  | .inlet => { e with holds := e.holds.set hold .inlet, water := some group }
  | .drain => { e with holds := e.holds.set hold .drain, water := some group }

/-- R50: an own hold above the capacity left by the others' charges is lowered to it. -/
def correct (p : Pool) (s : State) : State :=
  lowerHold p (min (s.share.holds.get p) (poolCapacity s.startup.supply p - othersCharges s p)) s

/-- The correction of a pool whose others' charges have risen since `before` (R50). -/
def correctIfRisen (before : State) (p : Pool) (s : State) : State :=
  if othersCharges before p < othersCharges s p then correct p s else s

/-- R43: a water pool is evaluated when its charges have changed since `before`. -/
def evalIfChanged (before : State) (p : Pool) (s : State) : State :=
  if othersCharges before p = othersCharges s p then s else evalWater p s

/-- What follows a recording (R50, R43); INLET is evaluated before DRAIN (log entry 38). -/
def afterRecording (before s : State) : State :=
  let s1 := correctIfRisen before .drain (correctIfRisen before .inlet (correctIfRisen before .power s))
  evalIfChanged before .drain (evalIfChanged before .inlet s1)

/-- The entry of a station is created or changed, and the recording has its effects. A frame that carries the own
number creates no entry (R36, R73). -/
def record (n : Nat) (f : Entry → Entry) (s : State) : State :=
  if n = s.startup.station then s
  else
    afterRecording s (s.setShare { s.share with
      table := insertEntry (f ((findEntry s.share.table n).getD (newEntry n))) s.share.table })

/-- R46, R47: a RAISE or LOWER is recorded. -/
def recordShare (n : Nat) (p : Pool) (group : Byte) (hold : Word16) (s : State) : State :=
  record n (Entry.recordHold p group.toNat (holdTaken p hold)) s

/-! ### Water trips (R57 to R59) -/

/-- The set is kept in rising order, with no duplicates (R58). -/
def insertOrigin (n : Nat) : List Nat → List Nat
  | [] => [n]
  | x :: t => if n < x then n :: x :: t else if n = x then x :: t else x :: insertOrigin n t

/-- R59: what the set does as it becomes non-empty. -/
def dropInlet (s : State) : State := dropRaise .inlet (lowerHold .inlet 0 s)

/-- An origin is added (R58). -/
def addOrigin (n : Nat) (s : State) : State :=
  let s1 := s.setShare { s.share with tripSet := insertOrigin n s.share.tripSet }
  if s.share.tripSet.isEmpty then dropInlet s1 else s1

/-- An origin told by another station is added, with WATER_TRIP if it is new (R58). -/
def learnOrigin (n : Nat) (s : State) : State :=
  if n ∈ s.share.tripSet then s else notice .waterTrip n (addOrigin n s)

/-- An origin is removed; an emptied set evaluates the INLET want at once (R58, R59), and that alone: R43 names no pool
there (log entry 56, DESIGN CHOICE). -/
def removeOrigin (n : Nat) (s : State) : State :=
  let s1 := s.setShare { s.share with tripSet := s.share.tripSet.filter (· ≠ n) }
  if n ∈ s.share.tripSet ∧ s1.share.tripSet.isEmpty then evalWater .inlet s1 else s1

/-- A trip body that acts: type WATER and an origin that is a station number (R176, log entry 7). -/
def tripActs (type origin : Byte) : Bool :=
  decide (type.toNat = 0) && decide (1 ≤ origin.toNat) && decide (origin.toNat ≤ 15)

/-- R58: TRIP(WATER). -/
def takeWaterTrip (type origin group : Byte) (s : State) : State :=
  if tripActs type origin && decide (group.toNat = s.startup.supply.waterGroup) then
    learnOrigin origin.toNat s
  else s

/-- R58: a panel may clear an origin whose entry is absent, EXPIRED, or FRESH with its leak flag clear. -/
def panelMayClear (s : State) (origin : Nat) : Bool :=
  (findEntry s.share.table origin).all fun e => e.expired || !e.leak

/-- R58, R176: TRIP_CLEAR. -/
def takeTripClear (sender : Nat) (type origin group : Byte) (s : State) : State :=
  if !tripActs type origin || decide (origin.toNat = s.startup.station) then s
  else if origin.toNat = sender then
    if group.toNat = s.startup.supply.waterGroup then removeOrigin sender s else s
  else if panelMayClear s origin.toNat then removeOrigin origin.toNat s
  else s

/-! ### STATUS (R49) -/

/-- The entry that a STATUS leaves. -/
def statusEntry (n : Nat) (b : StatusBody) : Entry where
  station    := n
  expired    := false
  circuit    := some b.circuitGroup.toNat
  water      := some b.waterGroup.toNat
  holds      := ⟨min 1100 b.power.toNat, bitNat b.inlet, bitNat b.drain⟩
  heardMs    := 0
  belowFloor := b.belowFloor
  leak       := b.leak
  joining    := b.joining

/-- R49: the receiver answers with its own STATUS, for a joining flag newly set or an entry newly created (log entry
30). -/
def answersStatus (b : StatusBody) : Option Entry → Bool
  | none => true
  | some e => b.joining && !e.joining

/-- R58: the leak flag of a STATUS acts on the water trip set. -/
def leakFlag (n : Nat) (b : StatusBody) (s : State) : State :=
  if b.waterGroup.toNat = s.startup.supply.waterGroup then
    if b.leak then learnOrigin n s else removeOrigin n s
  else s

/-- R49, R73: the STATUS calls for an answer. One with the own number creates no entry, so its joining flag alone does
(log entry 49). -/
def statusCallsForAnswer (n : Nat) (b : StatusBody) (s : State) : Bool :=
  if n = s.startup.station then b.joining else answersStatus b (findEntry s.share.table n)

/-- R49: a STATUS is recorded. One with the own number makes no entry and in other respects is taken like any other (R73,
log entry 49). -/
def recordStatus (n : Nat) (b : StatusBody) (s : State) : State :=
  let s1 := record n (fun _ => statusEntry n b) s
  leakFlag n b (if statusCallsForAnswer n b s then queueStatus s1 else s1)

/-! ### Yields (R51) -/

/-- R51: the station gives way. -/
def takeYield (group : Byte) (need : Word16) (s : State) : State :=
  if decide (group.toNat = s.startup.supply.circuitGroup) && decide (s.share.link = .member)
      && decide (s.share.floor < s.share.holds.power) then
    lowerHold .power (s.share.holds.power - min (s.share.holds.power - s.share.floor) (holdTaken .power need))
      (s.setShare { s.share with backoffMs := some 0 })
  else s

/-! ### Vetoes (R45) -/

/-- Others' charges in a pool, leaving out one station's entry (R45). -/
def chargesWithout (s : State) (p : Pool) (n : Nat) : Nat :=
  ((s.share.table.filter fun e => decide (e.station ≠ n)).map (charge s p)).sum

/-- The capacity check of R45. -/
def capacityVeto (s : State) (n : Nat) (p : Pool) (group : Byte) (hold : Word16) : Bool :=
  decide (group.toNat = ownGroup s.startup.supply p) && decide (s.share.link ≠ .joining)
    && decide (poolCapacity s.startup.supply p
        < chargesWithout s p n + s.share.holds.get p + holdTaken p hold)

/-- The trip-set veto of R45, cast in every link state. -/
def tripVeto (s : State) (p : Pool) (group : Byte) : Bool :=
  decide (p = .inlet) && decide (group.toNat = s.startup.supply.waterGroup) && !s.share.tripSet.isEmpty

/-- The Share Unit calls for a veto of a RAISE (R45). -/
def raiseVeto (s : State) (n : Nat) (p : Pool) (group : Byte) (hold : Word16) : Bool :=
  capacityVeto s n p group hold || tripVeto s p group

/-! ### Link state (R53 to R56) -/

/-- R53: the link state becomes ISOLATED. -/
def isolate (s : State) : State :=
  let s1 := s.setShare { s.share with
    link := .isolated, joinMs := none, isolatedMs := 0, lost := false }
  let s2 := lowerHold .drain 0 (lowerHold .inlet 0 (lowerHold .power (min s1.share.holds.power s1.share.floor) s1))
  notice .lineIsolated noDetail (dropRaise .drain (dropRaise .inlet (dropRaise .power s2)))

/-- R56: a join window opens, with its first STATUS. -/
def openJoinWindow (s : State) : State :=
  queueStatus (s.setShare { s.share with
    link := .joining, joinMs := some 0, sinceOwnMs := some 0, isolatedMs := 0, lost := false })

/-- R53: no own frame has completed for 2 s. -/
def lineIsolated (s : State) : State :=
  if s.share.link ≠ .isolated ∧ s.share.sinceOwnMs.isSome then settle (isolate s) else s

/-- R54: the isolation has lasted 60 s. -/
def lineLost (s : State) : State :=
  if s.share.link = .isolated ∧ s.share.lost = false then
    let s1 := lowerHold .power 0 (s.setShare { s.share with
      lost := true, isolatedMs := max 60000 s.share.isolatedMs })
    settle (faultProgram .lineLost (notice .lineLost noDetail s1))
  else s

/-- R56: the window ends and the water raises are evaluated, INLET first (log entry 38). -/
def joinWindowEnd (s : State) : State :=
  if s.share.link = .joining ∧ s.share.joinMs.isSome then
    evalWater .drain (evalWater .inlet (s.setShare { s.share with link := .member, joinMs := none }))
  else s

/-- R51: the back-off runs out. -/
def yieldBackoffEnd (s : State) : State := s.setShare { s.share with backoffMs := none }

/-- R48: the period of STATUS ends. -/
def statusPeriod (s : State) : State := if frozen s then queueStatus s else s

/-- R43: a raise refused by a stricter view is asked again, INLET first (log entry 38); one count serves both pools (log
entry 39). -/
def waterRaiseRetry (s : State) : State :=
  evalWater .drain (evalWater .inlet (s.setShare { s.share with retryMs := 0 }))

/-! ### Silent neighbours (R52) -/

/-- The water raises are evaluated when an entry charged in the water pools goes (R43), INLET first (log entry 38). -/
def evalFor (e : Entry) (s : State) : State :=
  if e.water = some s.startup.supply.waterGroup then evalWater .drain (evalWater .inlet s) else s

/-- R52: an entry becomes EXPIRED. -/
def entryExpired (n : Nat) (s : State) : State :=
  match findEntry s.share.table n with
  | none => s
  | some e =>
    if e.expired then s
    else
      evalFor e (s.setShare { s.share with
        table := updateEntry n (fun e => { e with expired := true, heardMs := max 3500 e.heardMs }) s.share.table })

/-- R52: an entry is removed. -/
def entryRemoved (n : Nat) (s : State) : State :=
  match findEntry s.share.table n with
  | none => s
  | some e =>
    evalFor e (s.setShare { s.share with table := s.share.table.filter fun x => decide (x.station ≠ n) })

/-! ### The leak input (R57) -/

/-- R57: the input changes, and its count begins again. -/
def leakInput (wet : Bool) (s : State) : State :=
  s.setShare { s.share with leakInputWet := wet, leakMs := 0 }

/-- The SAFETY frame of the own leak state (R57): TRIP(WATER) in WET and TRIP_CLEAR in DRY, with the own number and the
water group. -/
def tellLeak (s : State) : State :=
  if s.share.leakWet then enqueueShare (.trip s.startup.station s.startup.supply.waterGroup) s
  else enqueueShare (.tripClear s.startup.station s.startup.supply.waterGroup) s

/-- R57: a change of the leak state is told. The frame of a change before the freeze is owed until the freeze, from which
the frames of the Share Unit follow (R78, log entry 6). -/
def leakChanged (s : State) : State :=
  if frozen s then tellLeak s else s.setShare { s.share with safetyOwed := true }

/-- At the freeze the frame that is owed for the leak state is queued, with the frozen water group (R57, R78, log entry
6). -/
def tellOwedLeak (s : State) : State :=
  if s.share.safetyOwed then tellLeak (s.setShare { s.share with safetyOwed := false }) else s

/-- R57: the leak state becomes WET. -/
def leakWet (s : State) : State :=
  if s.share.leakInputWet && !s.share.leakWet && !unnumbered s then
    let s1 := addOrigin s.startup.station (s.setShare { s.share with leakWet := true, leakMs := 0 })
    settle (notice .waterTrip s.startup.station (leakChanged s1))
  else s

/-- R57: the leak state becomes DRY. -/
def leakDry (s : State) : State :=
  if !s.share.leakInputWet && s.share.leakWet && !unnumbered s then
    let s1 := removeOrigin s.startup.station (s.setShare { s.share with leakWet := false, leakMs := 0 })
    settle (leakChanged s1)
  else s

/-! ### Meanings -/

def execWaterRaiseRetry (s : State) : Host.Outcome State Fault Refusal := .next (waterRaiseRetry s)

def execStatusPeriod (s : State) : Host.Outcome State Fault Refusal := .next (statusPeriod s)

def execEntryExpired (station : Nibble) (s : State) : Host.Outcome State Fault Refusal :=
  .next (entryExpired station.toNat s)

def execEntryRemoved (station : Nibble) (s : State) : Host.Outcome State Fault Refusal :=
  .next (entryRemoved station.toNat s)

def execLineIsolated (s : State) : Host.Outcome State Fault Refusal := .next (lineIsolated s)

def execLineLost (s : State) : Host.Outcome State Fault Refusal := .next (lineLost s)

def execJoinWindowEnd (s : State) : Host.Outcome State Fault Refusal := .next (joinWindowEnd s)

def execYieldBackoffEnd (s : State) : Host.Outcome State Fault Refusal := .next (yieldBackoffEnd s)

def execLeakInputChange (wet : Bool) (s : State) : Host.Outcome State Fault Refusal := .next (leakInput wet s)

def execLeakWet (s : State) : Host.Outcome State Fault Refusal := .next (leakWet s)

def execLeakDry (s : State) : Host.Outcome State Fault Refusal := .next (leakDry s)

end Sys2Proof.Machine
end

