-- ==== Sys2Proof/Machine/Restart.lean ====
section
/-!
DEFINITION. RESTART (R159) and the re-initialisation that ends it (R160), with the values that each block takes (R33, R60,
R78, R80, R100, R115, R116, R154).
-/
namespace Sys2Proof.Machine

/-- The notice DESCALE_DUE where the level is DUE or above (R98). -/
def noticeIfDue (s : State) : State := if levelNow s = .none then s else noticeScale s

/-- The join window opens, unless NUMBER_CLASH keeps the station ISOLATED (R55, R56). -/
def joinUnlessClash (s : State) : State := if s.line.numberClash then queueStatus s else openJoinWindow s

/-! ### RESTART (R159) -/

/-- The recipe's values at RESTART; the probe state is kept (R116). -/
def recipeAtRestart (r : Recipe) : Recipe :=
  { Recipe.reset with probePresent := r.probePresent, probeShows := r.probeShows, probeMs := r.probeMs }

/-- The descale's timers and waits are discarded (R115). -/
def stopDescaleTimers (s : State) : State :=
  s.setDescale { s.descale with
    prepMs := 0, soakMs := 0, lowMs := 0, heatClock := 0, powerWait := false, waitMs := 0, waitNoted := false }

/-- The service record is written when it differs (R100). -/
def writeIfDiffers (s : State) : State :=
  if lastWritten s.steam = recordNow s.steam then s else askWrite s

/-- Every own hold that is not 0 is lowered, and the LOWERs are noted (R60). -/
def lowerAll (s : State) : State :=
  lowerHold .drain 0 (lowerHold .inlet 0 (lowerHold .power 0
    (s.setStartup { s.startup with
      restartLowers := ⟨decide (s.share.holds.power ≠ 0), decide (s.share.holds.inlet ≠ 0),
        decide (s.share.holds.drain ≠ 0)⟩ })))

/-- R159: each block winds down. No raise is made during the restart, so the RAISEs that wait are removed (R60, log entry
23). -/
def takeRestart (s : State) : State :=
  let s1 := s.setStartup { s.startup with restarting := true, restartMs := 0 }
  let s2 := dropRaise .drain (dropRaise .inlet (dropRaise .power (lowerAll s1)))
  let s3 := leaveClimate (s2.setRecipe (recipeAtRestart s2.recipe))
  let s4 := writeIfDiffers (clearRequest (stopDescaleTimers s3))
  settle (abandonFrame (commandRelay false s4))

/-! ### The re-initialisation (R160) -/

/-- The scheduler's values; the frequency, its measurement and a MAINS fault are kept (R20, R33). -/
def powerRestarted (p : Power) : Power :=
  { Power.reset with
    freq := p.freq, halfPeriodUs := p.halfPeriodUs, crossings := p.crossings, intervalUs := p.intervalUs
    freqMs := p.freqMs, sinceCrossUs := p.sinceCrossUs, freeCount := p.freeCount }

/-- The climate's values; the door is kept (R5, R8, R160). -/
def climateRestarted (c : Climate) : Climate :=
  { Climate.reset with doorOpen := c.doorOpen, doorInputOpen := c.doorInputOpen, doorMs := c.doorMs }

/-- The Share Unit's values (R60). An isolation by NUMBER_CLASH goes on as it was (R55). -/
def shareRestarted (clashHeld : Bool) (x : Share) : Share :=
  let y := { Share.reset with floor := x.floor, leakInputWet := x.leakInputWet }
  if clashHeld then { y with link := x.link, isolatedMs := x.isolatedMs, lost := x.lost, sinceOwnMs := x.sinceOwnMs }
  else y

/-- The Line Interface's values; the line state and NUMBER_CLASH are kept (R78). -/
def lineRestarted (x : Line) : Line := { x with queue := [], txBytes := [], malformed := 0, clashes := 0 }

/-- The generator's values before its state is taken from the levels (R80, R100). The record was written when RESTART
was taken, so S, the sub-count and the marker are unchanged (log entry 18). -/
def steamRestarted (g : Steam) : Steam :=
  { Steam.reset with
    levels := g.levels, levelInputs := g.levelInputs, levelMs := g.levelMs
    scale := g.scale, sub := g.sub, acid := g.acid
    record := g.record, writing := g.writing, writeAgain := g.writeAgain }

/-- R115: a RESTART in OFF or HOLD_ACID leaves the phase; an active descale becomes HOLD_ACID or OFF. Either entry raises
its notice (R114), in OFF too with the cause RESTART (log entry 14). -/
def descaleRestarted (wasActive : Bool) (s : State) : State :=
  let s1 := s.setDescale { s.descale with soakMark := false }
  if wasActive then enterPhase (if s1.steam.acid then .holdAcid else .off) 0 .restart s1 else s1

/-- R154: judging starts again and the start check is made. -/
def superviseAgain (s : State) : State := startCheck (startJudging s)

/-- R160: the blocks take their RESTART values; the RESULT comes first, and the notices follow. Whether a descale is active is
read here, behind a fault that came during the restart (log entry 58, DESIGN CHOICE). -/
def reInitialise (s : State) : State :=
  let s1 : State := { s with
    startup := { s.startup with restarting := false, restartMs := 0, restartLowers := PerPool.all false }
    climate := climateRestarted s.climate
    power   := powerRestarted s.power
    share   := shareRestarted s.line.numberClash s.share
    line    := lineRestarted s.line
    steam   := steamRestarted s.steam
    recipe  := recipeAtRestart s.recipe }
  let s2 := respond .restart .accepted noDetail s1
  let s3 := noticeIfDue (genFromLevels (superviseAgain s2))
  settle (joinUnlessClash (descaleRestarted (descaleActive s.descale) s3))

/-- R160: the re-initialisation waits for the end of an own frame that is being sent. -/
def reInitialisation (s : State) : State :=
  if s.startup.restarting ∧ sendingFrame s = none then reInitialise s else s

/-- R160: every LOWER of the restart has completed, or 1 s has passed. -/
def restartDue (s : State) : Bool :=
  (!s.startup.restartLowers.power && !s.startup.restartLowers.inlet && !s.startup.restartLowers.drain)
    || decide (1000 ≤ s.startup.restartMs)

/-- R160: the re-initialisation comes in the step that brings its moment. -/
def reInitIfDue (s : State) : State := if restartDue s then reInitialisation s else s

/-- R159: RESTART is refused before the freeze, and otherwise taken with no RESULT yet; with nothing to lower the
re-initialisation follows at once (R160). -/
def restartCommand (s : State) : State :=
  if frozen s then reInitIfDue (takeRestart s) else respond .restart .refusedState noDetail s

/-! ### Meanings -/

def execReInitialisation (s : State) : Host.Outcome State Fault Refusal := .next (reInitialisation s)

end Sys2Proof.Machine
end

