-- ==== Sys2Proof/Machine/Line.lean ====
section
/-!
DEFINITION. The Line Interface (04_the_column_line.md): line state (R62), beginning and arbitration (R66, R67), judging and
taking a received frame (R68 to R71, R74), clashes (R72, R73), completion (R77); and the meanings of its events.
-/
namespace Sys2Proof.Machine

/-! ### Own frames that stop being sent -/

/-- R44: the waiting RAISE of a pool is voided; the pool is decided again at the voiding frame's closing mark. -/
def voidRaise (p : Pool) (s : State) : State :=
  let s1 := dropRaise p s
  if anyWaiting (TxFrame.isRaise p) s.line.queue then
    s1.setShare { s1.share with redecide := s1.share.redecide.set true p }
  else s1

/-- R44: every waiting RAISE is voided. -/
def voidRaises (s : State) : State := voidRaise .drain (voidRaise .inlet (voidRaise .power s))

/-- The frame being sent is no longer being sent, and keeps its place (R75). -/
def stopSending (state : LineState) (afterBreak : Bool) (s : State) : State :=
  s.setLine { s.line with
    state     := state
    breakSeen := afterBreak
    txBytes   := []
    queue     := stopQueue s.line.queue }

/-- The frame being sent does not complete: a RAISE is removed and decided at its next ordinary occasion, any other
frame stays in the queue (R67, R72, R77). -/
def breakOff (state : LineState) (afterBreak : Bool) (s : State) : State :=
  let kept := s.line.queue.filter fun e =>
    !(e.sending && (e.frame.isRaise .power || e.frame.isRaise .inlet || e.frame.isRaise .drain))
  stopSending state afterBreak (s.setLine { s.line with queue := kept })

/-- R44: a pool voided by the frame that has closed is decided again. -/
def redecidePool (p : Pool) (s : State) : State :=
  if s.share.redecide.get p then
    decideAgain p (s.setShare { s.share with redecide := s.share.redecide.set false p })
  else s

/-- R44: every voided pool is decided again, POWER first, then INLET, then DRAIN (log entry 38). -/
def redecide (s : State) : State := redecidePool .drain (redecidePool .inlet (redecidePool .power s))

/-! ### Line state (R62, R66, R67) -/

/-- R62: 300 recessive bit times. -/
def lineIdle (s : State) : State :=
  if s.line.state = .wait ∧ unnumbered s = false then s.setLine { s.line with state := .idle } else s

/-- R62: ten recessive bit times after a break or a dominant closing mark. -/
def lineIdleAfterBreak (s : State) : State :=
  if s.line.state = .busy ∧ s.line.breakSeen then s.setLine { s.line with state := .idle, breakSeen := false } else s

/-- A sent RAISE starts without a fall of its hold on record (R46). -/
def clearFell (f : TxFrame) (s : State) : State :=
  match f with
  | .raise p _ _ => s.setShare { s.share with fell := s.share.fell.set false p }
  | .trip _ _ => s
  | .tripClear _ _ => s
  | .lower _ _ _ => s
  | .yields _ _ => s
  | .result _ _ _ => s
  | .notice _ _ _ _ => s
  | .reading => s
  | .status => s

/-- R66: the frame at the head of the queue begins; STATUS and READING take their contents now (R48, R162). -/
def frameBegin (s : State) : State :=
  match s.line.queue with
  | [] => s
  | e :: rest =>
    if s.line.state = .idle ∧ unnumbered s = false ∧ sendingFrame s = none then
      clearFell e.frame (s.setLine { s.line with
        state := .busy, queue := ⟨e.frame, true⟩ :: rest, txBytes := frameBytes s e.frame })
    else s

/-- R62, R66: another station's opening mark is seen, and voids the waiting RAISEs. -/
def openingMarkSeen (s : State) : State :=
  if s.line.state ≠ .busy ∧ unnumbered s = false then
    voidRaises (s.setLine { s.line with state := .busy, breakSeen := false })
  else s

/-- R67, R44: the station stops driving and goes on as a receiver; the RAISEs that wait are voided, and the one it sent
with them. -/
def arbitrationLost (s : State) : State :=
  if (sendingFrame s).isSome then voidRaises (stopSending .busy false (voidRaises s)) else s

/-- R67: the station's own drive has failed. -/
def driveFault (s : State) : State :=
  if (sendingFrame s).isSome then breakOff .wait false s else s

/-- R77: a dominant level in the closing mark of the station's own frame. -/
def closingMarkBroken (s : State) : State :=
  if (sendingFrame s).isSome then breakOff .busy true s else s

/-! ### Clashes (R72, R73) -/

/-- R73: the clash count rises, and at 3 NUMBER_CLASH is decided once. The station is ISOLATED from that moment (R55, R73),
also before the freeze, where R172 names JOINING for a READING (log entry 65, DESIGN CHOICE). -/
def countClash (s : State) : State :=
  let s1 := s.setLine { s.line with clashes := s.line.clashes + 1 }
  if 3 ≤ s1.line.clashes ∧ s.line.numberClash = false then
    let s2 := notice .numberClash s.startup.station (s1.setLine { s1.line with numberClash := true })
    if s2.share.link = .isolated then s2 else isolate s2
  else s1

/-- R72: a clash of the frame being sent; the clash mark is a break. -/
def clash (s : State) : State :=
  if (sendingFrame s).isSome then settle (countClash (breakOff .busy true s)) else s

/-! ### Received frames (R68 to R71) -/

/-- A frame is received: its opening mark has been seen, a frame of the station's own has lost arbitration to it, and
every RAISE that has not begun is voided, one queued behind that mark included (R44, log entry 5). A re-initialisation
that waited for the own frame comes as that frame stops, before the received one is judged (R160, log entry 16). -/
def beginReceive (s : State) : State :=
  if (sendingFrame s).isSome then reInitIfDue (arbitrationLost s)
  else voidRaises (s.setLine { s.line with state := .busy, breakSeen := false })

/-- R71: the count of malformed frames rises; `driven` is what the station did in the verdict slot. -/
def countMalformed (driven : Bool) (s : State) : State :=
  s.setLine { s.line with malformed := s.line.malformed + 1, verdictDriven := driven }

/-- R68, R71: a frame found malformed at its verdict slot is vetoed while the station is not suspended. The eighth such
frame is still vetoed (log entry 13). -/
def malformedVeto (s : State) : Bool := !suspended s

/-- The grounds on which this station drives the verdict slot of a well-formed frame (R68, R74). -/
def contentVeto (s : State) (sender : Nat) : FrameContent → Bool
  | .raise p group hold => raiseVeto s sender p group hold
  | .command dest => decide (dest.toNat = s.startup.station) && decide (sender ≠ s.startup.partner)
  | .trip _ _ _ => false
  | .tripClear _ _ _ => false
  | .lower _ _ _ => false
  | .yields _ _ => false
  | .report => false
  | .status _ => false

/-- R68: what the station did in the verdict slot of a frame whose closing mark shows a dominant level. -/
def closingMarkVeto (sender : Nibble) (content : Option FrameContent) (s : State) : Bool :=
  match content with
  | some c => if sender = 0 then malformedVeto s else contentVeto s sender.toNat c
  | none => malformedVeto s

/-- The line is IDLE behind a closing mark, and the voided pools are decided again (R62, R44). -/
def markClosed (s : State) : State :=
  redecide (s.setLine { s.line with state := .idle, breakSeen := false })

/-- The receiver has no closing mark to act at (R62); a pool voided by this frame is decided at its ordinary occasion
(log entry 15). -/
def markLost (state : LineState) (afterBreak : Bool) (s : State) : State :=
  let s1 := s.setLine { s.line with state := state, breakSeen := afterBreak }
  s1.setShare { s1.share with redecide := PerPool.all false }

/-- R68, R70: what each ground does. -/
def judgeMalformed (g : MalformGround) (s : State) : State :=
  match g with
  | .senderZero => markClosed (countMalformed (malformedVeto s) s)
  | .classUndefined => markClosed (countMalformed (malformedVeto s) s)
  | .kindUndefined => markClosed (countMalformed (malformedVeto s) s)
  | .lengthNotAllowed => markClosed (countMalformed (malformedVeto s) s)
  | .spacerDominant => markClosed (countMalformed (malformedVeto s) s)
  | .checkWrong => markClosed (countMalformed (malformedVeto s) s)
  | .lengthAbove24 => markLost .wait false (countMalformed false s)
  | .breakInside => markLost .busy true (countMalformed false s)
  | .closingMarkDominant sender content =>
    markLost .busy true (countMalformed (closingMarkVeto sender content s) s)

/-- R70: a received frame is found malformed; it is handed to no block. -/
def malformedFrame (g : MalformGround) (s : State) : State :=
  if unnumbered s then s else judgeMalformed g (beginReceive s)

/-- What every frame found well-formed does, whatever its class: the count returns to 0 and a suspension ends (R71), and
the sender's entry is refreshed (R38), or a clash is counted for the own number (R73), before the frame has its own effect
(log entry 57, DESIGN CHOICE). -/
def takeFrame (sender : Nat) (driven : Bool) (s : State) : State :=
  let s1 := s.setLine { s.line with malformed := 0, verdictDriven := driven }
  if sender = s.startup.station then countClash s1 else refreshSender sender s1

/-- The closing mark of a frame found well-formed (R69): the frame has its effect, and the voided pools are decided
again (R44). A clash of the own number is counted before that effect: R73 gives no order (log entry 57, DESIGN CHOICE). -/
def closeFrame (sender : Nat) (driven : Bool) (effect : State → State) (s : State) : State :=
  settle (markClosed (effect (takeFrame sender driven s)))

/-- What a well-formed frame does at its closing mark, by its class and the verdict slot (the table of R69). -/
def contentEffect (sender : Nat) (vetoed : Bool) : FrameContent → State → State
  | .trip type origin group, s => takeWaterTrip type origin group s
  | .tripClear type origin group, s => takeTripClear sender type origin group s
  | .lower p group hold, s => if vetoed then s else recordShare sender p group hold s
  | .yields group need, s => takeYield group need s
  | .raise p group hold, s => if vetoed then s else recordShare sender p group hold s
  | .command _, s => s
  | .report, s => s
  | .status b, s => if vetoed then s else recordStatus sender b s

/-- A well-formed frame from `sender` is received, judged and closed. Sender 0 makes it malformed (R70). -/
def receiveFrame (sender : Nat) (content : FrameContent) (otherVeto : Bool) (s : State) : State :=
  if unnumbered s then s
  else if sender = 0 then malformedFrame .senderZero s
  else
    let s1 := beginReceive s
    let driven := contentVeto s1 sender content
    closeFrame sender driven (contentEffect sender (driven || otherVeto) content) s1

/-! ### Completion of an own frame (R77) -/

/-- R46: the outcome of a RAISE of the station's own. A RAISE from a hold of 0 gives it its value also where a CONFIG_FAULT
was decided while it was sent, although R60 names a zero POWER hold until power-on (log entry 62, DESIGN CHOICE). -/
def recordOwnRaise (p : Pool) (v : Nat) (s : State) : State :=
  let s1 := if s.share.fell.get p then s else setHold p v s
  match p with
  | .power => s1.setShare { s1.share with vetoMark := false }
  | .inlet =>
    if s1.steam.inletWant = false ∨ s1.share.tripSet.isEmpty = false then lowerHold .inlet 0 s1 else s1
  | .drain => if s1.steam.drainWant = false then lowerHold .drain 0 s1 else s1

/-- R40, R46: a vetoed RAISE changes no hold, and one for POWER sets the veto mark. -/
def vetoOwnRaise (p : Pool) (s : State) : State :=
  match p with
  | .power => s.setShare { s.share with vetoMark := true }
  | .inlet => s
  | .drain => s

/-- A LOWER to 0 of a restart has completed (R60, R160). -/
def noteLower (p : Pool) (v : Nat) (s : State) : State :=
  if v = 0 then s.setStartup { s.startup with restartLowers := s.startup.restartLowers.set false p } else s

/-- What the Share Unit does when it is told the outcome of an own frame (R46, R77). -/
def ownOutcome (f : TxFrame) (vetoed : Bool) (s : State) : State :=
  match f with
  | .raise p _ v => if vetoed then vetoOwnRaise p s else recordOwnRaise p v s
  | .lower p _ v => noteLower p v s
  | .trip _ _ => s
  | .tripClear _ _ => s
  | .yields _ _ => s
  | .result _ _ _ => s
  | .notice _ _ _ _ => s
  | .reading => s
  | .status => s

/-- R55: the first own frame that completes ends isolation, unless NUMBER_CLASH is held. -/
def endIsolation (s : State) : State :=
  if s.share.link = .isolated ∧ s.line.numberClash = false then
    openJoinWindow (notice .lineRestored (min 65535 (s.share.isolatedMs / 1000)) s)
  else s

/-- R77: the frame being sent completes and leaves the queue. -/
def finishSending (s : State) : State :=
  let s1 := s.setLine { s.line with
    state := .idle, breakSeen := false, txBytes := [], clashes := 0
    queue := s.line.queue.filter fun e => !e.sending }
  s1.setShare { s1.share with sinceOwnMs := s1.share.sinceOwnMs.map fun _ => 0 }

/-- R77: an own frame completes. -/
def ownFrameComplete (vetoed : Bool) (s : State) : State :=
  match sendingFrame s with
  | none => s
  | some f => settle (endIsolation (ownOutcome f vetoed (finishSending s)))

/-! ### Meanings -/

def execRaiseReceived (sender : Nibble) (pool : Pool) (group : Byte) (hold : Word16) (otherVeto : Bool) (s : State) :
    Host.Outcome State Fault Refusal :=
  .next (receiveFrame sender.toNat (.raise pool group hold) otherVeto s)

def execLowerReceived (sender : Nibble) (pool : Pool) (group : Byte) (hold : Word16) (otherVeto : Bool) (s : State) :
    Host.Outcome State Fault Refusal :=
  .next (receiveFrame sender.toNat (.lower pool group hold) otherVeto s)

def execYieldReceived (sender : Nibble) (group : Byte) (need : Word16) (s : State) :
    Host.Outcome State Fault Refusal :=
  .next (receiveFrame sender.toNat (.yields group need) false s)

def execStatusReceived (sender : Nibble) (body : StatusBody) (otherVeto : Bool) (s : State) :
    Host.Outcome State Fault Refusal :=
  .next (receiveFrame sender.toNat (.status body) otherVeto s)

def execTripReceived (sender : Nibble) (type origin group : Byte) (s : State) : Host.Outcome State Fault Refusal :=
  .next (receiveFrame sender.toNat (.trip type origin group) false s)

def execTripClearReceived (sender : Nibble) (type origin group : Byte) (s : State) :
    Host.Outcome State Fault Refusal :=
  .next (receiveFrame sender.toNat (.tripClear type origin group) false s)

/-- R74: a COMMAND addressed to this station from a sender that is not its partner panel. -/
def execPartnerVeto (sender : Nibble) (s : State) : Host.Outcome State Fault Refusal :=
  .next (receiveFrame sender.toNat (.command (BitVec.ofNat 4 s.startup.station)) false s)

def execWellFormedFrameNotTaken (sender : Nibble) (s : State) : Host.Outcome State Fault Refusal :=
  .next (receiveFrame sender.toNat .report false s)

def execOwnNumberFrame (content : FrameContent) (otherVeto : Bool) (s : State) : Host.Outcome State Fault Refusal :=
  .next (receiveFrame s.startup.station content otherVeto s)

def execMalformedFrame (ground : MalformGround) (s : State) : Host.Outcome State Fault Refusal :=
  .next (malformedFrame ground s)

/-- R77, R160: the completion of the last LOWER of a restart brings the re-initialisation with it. -/
def execOwnFrameComplete (vetoed : Bool) (s : State) : Host.Outcome State Fault Refusal :=
  .next (reInitIfDue (ownFrameComplete vetoed s))

def execLineIdle (s : State) : Host.Outcome State Fault Refusal := .next (lineIdle s)

def execLineIdleAfterBreak (s : State) : Host.Outcome State Fault Refusal := .next (lineIdleAfterBreak s)

def execFrameBegin (s : State) : Host.Outcome State Fault Refusal := .next (frameBegin s)

def execOpeningMarkSeen (s : State) : Host.Outcome State Fault Refusal := .next (openingMarkSeen s)

/-! A restart whose LOWERs are done re-initialises as the own frame it waited for stops being sent (R160). -/

def execArbitrationLost (s : State) : Host.Outcome State Fault Refusal := .next (reInitIfDue (arbitrationLost s))

def execDriveFault (s : State) : Host.Outcome State Fault Refusal := .next (reInitIfDue (driveFault s))

def execClash (s : State) : Host.Outcome State Fault Refusal := .next (reInitIfDue (clash s))

def execClosingMarkBroken (s : State) : Host.Outcome State Fault Refusal := .next (reInitIfDue (closingMarkBroken s))

end Sys2Proof.Machine
end

