-- ==== Sys2Proof/Machine/Steam.lean ====
section
/-!
DEFINITION. The Steam Generator Controller's events (05_steam_generator_and_water.md): the level electrodes (R79, R85, R89,
R90), flow pulses (R83, R97), the limits of fills and drains (R85, R91, R92, R95) and the service record (R100).
-/
namespace Sys2Proof.Machine

/-! ### Levels (R79) -/

/-- R79: an electrode's input changes, and its debounce starts again. -/
def levelInput (e : Electrode) (wet : Bool) (s : State) : State :=
  s.setSteam { s.steam with
    levelInputs := s.steam.levelInputs.set wet e, levelMs := s.steam.levelMs.set 0 e }

/-- The generator makes or is about to make steam: the states in which a top-up runs (R89). -/
def steaming (s : State) : Bool :=
  (decide (s.steam.gen = .heating) || decide (s.steam.gen = .ready)) && !s.startup.restarting

/-- R85, R89: WORK or HIGH becomes WET during a cooking fill or a top-up. -/
def endFillWell (s : State) : State :=
  match s.steam.fill with
  | none => s
  | some f =>
    match f.kind with
    | .cooking => endCookingFill s
    | .topUp => clearFill s
    | .service => s

/-- R89: a top-up begins where none is in progress. -/
def topUpIfNone (s : State) : State :=
  if steaming s && s.steam.fill.isNone then beginTopUp s else s

/-- R90: the low-water lock comes into force, and a top-up begins where none is in progress. -/
def lockLowWater (s : State) : State :=
  if steaming s then topUpIfNone (s.setSteam { s.steam with lock := true }) else s

/-- LOW becomes WET: the dry time and the descale's count of a dry LOW return to 0 (R92, R106). -/
def lowWet (s : State) : State :=
  let s1 := s.setSteam { s.steam with drain := s.steam.drain.map fun d => { d with dryMs := 0 } }
  s1.setDescale { s1.descale with lowMs := 0 }

/-- HIGH becomes WET: a service FILL is DONE, and a cooking fill or a top-up ends well (R85, R89, R95). -/
def highWet (s : State) : State :=
  if (s.steam.fill.any fun f => decide (f.kind = .service)) then fillDone s else endFillWell s

/-- What a changed reading does, by electrode and level. -/
def actOnLevel (e : Electrode) (wet : Bool) (s : State) : State :=
  match e, wet with
  | .low, true => lowWet s
  | .low, false => lockLowWater s
  | .work, true => endFillWell (s.setSteam { s.steam with lock := false })
  | .work, false => topUpIfNone s
  | .high, true => highWet s
  | .high, false => s

/-- R79: a reading changes to what its electrode shows. -/
def levelReadingChange (e : Electrode) (s : State) : State :=
  if s.steam.levelInputs.get e = s.steam.levels.get e then s
  else
    settle (actOnLevel e (s.steam.levelInputs.get e) (s.setSteam { s.steam with
      levels := s.steam.levels.set (s.steam.levelInputs.get e) e, levelMs := s.steam.levelMs.set 0 e }))

/-! ### Flow pulses (R83, R95, R97) -/

/-- The pulse is taken from the budget of the fill. -/
def spendPulse (f : Fill) (s : State) : State :=
  s.setSteam { s.steam with fill := some { f with budget := f.budget - 1, counted := true } }

/-- The fill in progress has no budget left. -/
def budgetSpent (s : State) : Bool := s.steam.fill.any fun f => decide (f.budget = 0)

/-- A pulse of a cooking fill or top-up: scale, then the end of steam at BLOCK (R98, log entry 11), then the budget. -/
def cookingPulse (s : State) : State :=
  let s1 := judgeSteam (countPulse s)
  if budgetSpent s1 && !workOrHigh s1 then enterFault .fillFault s1 else s1

/-- A pulse of a service FILL: the first is reported at once, and the last ends the request with DONE (R95). -/
def servicePulse (f : Fill) (s : State) : State :=
  let s1 := if f.counted then s else reportFirstPulse s
  if budgetSpent s1 then fillDone s1 else s1

/-- R83: a flow pulse. Outside a fill it counts toward nothing. -/
def flowPulse (s : State) : State :=
  match s.steam.fill with
  | none => s
  | some f =>
    match f.kind with
    | .cooking => settle (cookingPulse (spendPulse f s))
    | .topUp => settle (cookingPulse (spendPulse f s))
    | .service => settle (servicePulse f (spendPulse f s))

/-! ### Limits -/

/-- R85, R89, R95: the valve time reaches 180 s while the valve output is driven. -/
def valveTimeLimit (s : State) : State :=
  match s.steam.fill with
  | none => s
  | some f =>
    if s.power.base.fill = false then s
    else
      match f.kind with
      | .cooking => if workOrHigh s then s else settle (enterFault .fillFault s)
      | .topUp => if workOrHigh s then s else settle (enterFault .fillFault s)
      | .service => settle (descaleFault .fillFault (clearRequest s))

/-- R91: the cooling timer expires. -/
def coolingTimerExpiry (s : State) : State :=
  if s.steam.gen = .cooling ∧ s.startup.restarting = false then settle (enterDraining s) else s

/-- R92: the drain of DRAINING ends well. -/
def endDrainWell (s : State) : State :=
  let s1 := clearDrain s
  if steamWanted s1 then enterFilling s1 else enterEmpty s1

/-- R92, R95: the dry time reaches 30 s, while the pump output is driven and LOW reads DRY. -/
def drainDryTimeEnd (s : State) : State :=
  if s.steam.drain.isSome && s.power.base.pump && !s.steam.levels.low then
    if s.steam.gen = .service then settle (drainDone s) else settle (endDrainWell s)
  else s

/-- R92, R95: the pump time reaches 240 s, while the pump output is driven. -/
def pumpTimeLimit (s : State) : State :=
  if s.steam.drain.isSome && s.power.base.pump then
    if s.steam.gen = .service then settle (descaleFault .drainFault (clearRequest s))
    else settle (enterFault .drainFault s)
  else s

/-- R100: the write being made completes, and one asked for meanwhile is made with the values current now. -/
def serviceRecordWritten (s : State) : State :=
  match s.steam.writing with
  | none => s
  | some r =>
    s.setSteam { s.steam with
      record := r
      writing := if s.steam.writeAgain then some (recordNow s.steam) else none
      writeAgain := false }

/-! ### Meanings -/

def execLevelInputChange (e : Electrode) (wet : Bool) (s : State) : Host.Outcome State Fault Refusal :=
  .next (levelInput e wet s)

def execLevelReadingChange (e : Electrode) (s : State) : Host.Outcome State Fault Refusal :=
  .next (levelReadingChange e s)

def execFlowPulse (s : State) : Host.Outcome State Fault Refusal := .next (flowPulse s)

def execValveTimeLimit (s : State) : Host.Outcome State Fault Refusal := .next (valveTimeLimit s)

def execCoolingTimerExpiry (s : State) : Host.Outcome State Fault Refusal := .next (coolingTimerExpiry s)

def execDrainDryTimeEnd (s : State) : Host.Outcome State Fault Refusal := .next (drainDryTimeEnd s)

def execPumpTimeLimit (s : State) : Host.Outcome State Fault Refusal := .next (pumpTimeLimit s)

def execServiceRecordWritten (s : State) : Host.Outcome State Fault Refusal := .next (serviceRecordWritten s)

end Sys2Proof.Machine
end

