-- ==== Sys2Proof/Machine/Startup.lean ====
section
/-!
DEFINITION. The Start-up Unit (10_start_up_and_setup.md): straps (R166), the setup window (R167 to R169), the freeze (R170,
R171).
-/
namespace Sys2Proof.Machine

/-! ### Power-on (R166) -/

/-- The Start-up Unit as the straps are read (R166, R167). -/
def strapped (station partner : Nat) : Startup :=
  let u := { Startup.reset with station := station, partner := partner }
  if station = 0 ∨ partner = 0 ∨ station = partner then u else { u with setup := .opened }

/-- The generator at power-on: the readings as the electrodes show (R79), and S, the sub-count and the marker from the
service record; a write in progress is lost (R100). -/
def steamAtPowerOn (g : Steam) : Steam :=
  { Steam.reset with
    levels := g.levelInputs, levelInputs := g.levelInputs, record := g.record
    scale := g.record.scale, sub := g.record.sub, acid := g.record.acid }

/-- R166: power is applied. The pins and the service record are what they were, and the commands that wait go on
waiting. -/
def powerOn (station partner : Nat) (s : State) : State :=
  { pending := s.pending
    startup := strapped station partner
    climate := { Climate.reset with doorInputOpen := s.climate.doorInputOpen }
    power   := Power.reset
    share   := { Share.reset with leakInputWet := s.share.leakInputWet }
    line    := Line.reset
    steam   := steamAtPowerOn s.steam
    descale := Descale.reset
    recipe  := Recipe.reset
    superv  := { Superv.reset with feedbackClosed := s.superv.feedbackClosed } }

/-! ### The freeze (R170, R171) -/

/-- The smallest nonzero rating, if any (R170). -/
def smallestRating (r : PerElement Nat) : Option Nat :=
  ([r.top, r.bottom, r.ring, r.boiler].filter (· ≠ 0)).min?

/-- The floor share F of a SUPPLY section (R35, R170). -/
def floorOf (v : Supply) : Nat := v.capacity / v.stations

/-- The floor need (R170). -/
def floorNeed (v : Supply) : Nat := v.baseLoad + (smallestRating v.ratings).getD 0

/-- The SUPPLY working copy cannot carry its floor need, and reverts (R170). -/
def reverts (v : Supply) : Bool := decide (floorOf v < floorNeed v)

/-- The SUPPLY section as checked (R170). -/
def checkedSupply (v : Supply) : Supply := if reverts v then Supply.defaults else v

/-- The frozen configuration (R170). -/
def freezeConfig (s : State) : State :=
  let v := checkedSupply s.startup.workSupply
  let s1 := s.setStartup { s.startup with
    setup := .frozen, windowMs := 0, supply := v, channels := s.startup.workChannels }
  let s2 := s1.setShare { s1.share with floor := floorOf v }
  if reverts s.startup.workSupply then notice .configDefaults (floorOf s.startup.workSupply) s2 else s2

/-- The Supervision Unit at the freeze: check value, judging, start check (R153, R154). -/
def superviseFromFreeze (s : State) : State :=
  startCheck (startJudging (s.setSuperv { s.superv with checkValue := configCheckValue s, checkMs := 0 }))

/-- The Descale Sequencer at the freeze (R115). -/
def descaleAtFreeze (s : State) : State :=
  if s.steam.acid then enterPhase .holdAcid 0 .powerOn s else s

/-- R170, R171: the configuration freezes and each block takes up its work. -/
def freeze (s : State) : State :=
  let s1 := superviseFromFreeze (freezeConfig s)
  let s2 := descaleAtFreeze (noticeIfDue (genFromLevels s1))
  settle (joinUnlessClash (tellOwedLeak (s2.setClimate { s2.climate with sampleMs := 0 })))

/-- R167: the window timer expires. -/
def setupWindowExpiry (s : State) : State := if s.startup.setup = .opened then freeze s else s

/-! ### SETUP (R167 to R169) -/

/-- A SUPPLY section in the open window (R168). -/
def setupSupply (fields : List Byte) (s : State) : State :=
  match judgeSupply fields with
  | .refused detail => respond .setup .refusedField detail s
  | .valid v => respond .setup .accepted noDetail (s.setStartup { s.startup with workSupply := v })

/-- A CHANNEL section in the open window (R169). -/
def setupChannel (c : Channel) (fields : List Byte) (s : State) : State :=
  match judgeChannel c fields with
  | .refused detail => respond .setup .refusedField detail s
  | .valid r =>
    respond .setup .accepted noDetail
      (s.setStartup { s.startup with workChannels := s.startup.workChannels.set r c })

/-- END in the open window; its RESULT is queued before the freeze (R170). -/
def setupEnd (fields : List Byte) (s : State) : State :=
  if fields.isEmpty then freeze (respond .setup .accepted noDetail s)
  else respond .setup .refusedField badBodyDetail s

/-- The section named (R177). -/
def setupSection (sec : Byte) (fields : List Byte) (s : State) : State :=
  if sec.toNat = 0 then setupSupply fields s
  else if sec.toNat = 255 then setupEnd fields s
  else
    match channelOfSection sec with
    | some c => setupChannel c fields s
    | none => respond .setup .refusedField 0 s

/-- R167: SETUP, in each setup state. -/
def setupCommand (sec : Byte) (fields : List Byte) (s : State) : State :=
  match s.startup.setup with
  | .frozen => respond .setup .refusedFrozen noDetail s
  | .opened => setupSection sec fields s
  | .noWindow => s

/-! ### Meanings -/

def execPowerOn (station partner : Nibble) (s : State) : Host.Outcome State Fault Refusal :=
  .next (powerOn station.toNat partner.toNat s)

def execSetupWindowExpiry (s : State) : Host.Outcome State Fault Refusal := .next (setupWindowExpiry s)

end Sys2Proof.Machine
end

