-- ==== Sys2Proof/WellFormed.lean ====
section
/-!
DEFINITION. Which commands can stand for an event of the line or of the part: what the frame envelope and the
body lengths allow (R63, R70, R173), and which sides a channel has (R149).
-/
namespace Sys2Proof

/-- A sender number 0 makes a frame malformed (R70), so it names no frame that is received well-formed. -/
def senderOk (n : Nibble) : Bool := n != 0

/-- The number of field bytes behind a SETUP section byte: a SETUP body has 1, 9 or 20 bytes (R173). -/
def setupLengthOk (fields : List Byte) : Bool :=
  fields.length == 0 || fields.length == 8 || fields.length == 19

/-- A STAGE body has 4 to 24 bytes, its index byte included; a RUN_MANUAL body has 3 to 23 (R173). -/
def recordLengthOk (record : List Byte) : Bool :=
  decide (3 ≤ record.length) && decide (record.length ≤ 23)

/-- A frame that was well-formed at its verdict slot names a sender (R70). -/
def groundOk : MalformGround → Bool
  | .closingMarkDominant sender content => content.isNone || senderOk sender
  | .senderZero => true
  | .classUndefined => true
  | .kindUndefined => true
  | .lengthAbove24 => true
  | .lengthNotAllowed => true
  | .spacerDominant => true
  | .breakInside => true
  | .checkWrong => true

/-- The checks on a command's operands. -/
def Instr.wellFormed : Instr → Bool
  | .setupSupply fields => setupLengthOk fields
  | .setupChannel section_ fields => setupLengthOk fields && section_ != 0 && section_ != 255
  | .setupEnd fields => setupLengthOk fields
  | .stage _ record => recordLengthOk record
  | .runManual record => recordLengthOk record
  | .partnerVeto sender => senderOk sender
  | .raiseReceived sender _ _ _ _ => senderOk sender
  | .lowerReceived sender _ _ _ _ => senderOk sender
  | .yieldReceived sender _ _ => senderOk sender
  | .statusReceived sender _ _ => senderOk sender
  | .tripReceived sender _ _ _ => senderOk sender
  | .tripClearReceived sender _ _ _ => senderOk sender
  | .wellFormedFrameNotTaken sender => senderOk sender
  | .entryExpired station => senderOk station
  | .entryRemoved station => senderOk station
  | .excursionStart channel side => side != .fixed || channel == .cav
  | .excursionEnd channel side => side != .fixed || channel == .cav
  | .powerOn _ _ => true
  | .setupWindowExpiry => true
  | .query => true
  | .loadOpen _ _ => true
  | .start => true
  | .pause => true
  | .resume => true
  | .abort => true
  | .answer _ _ => true
  | .finishAck => true
  | .descaleStart => true
  | .descaleConfirm => true
  | .relayRestore => true
  | .restart => true
  | .reInitialisation => true
  | .climateSample => true
  | .doorInputChange _ => true
  | .doorOpens => true
  | .doorCloses => true
  | .zeroCrossing _ _ => true
  | .frequencyTimeout => true
  | .missedCrossing => true
  | .supplyStarved => true
  | .waterRaiseRetry => true
  | .ownFrameComplete _ => true
  | .statusPeriod => true
  | .lineIsolated => true
  | .lineLost => true
  | .joinWindowEnd => true
  | .yieldBackoffEnd => true
  | .leakInputChange _ => true
  | .leakWet => true
  | .leakDry => true
  | .lineIdle => true
  | .frameBegin => true
  | .openingMarkSeen => true
  | .arbitrationLost => true
  | .driveFault => true
  | .clash => true
  | .ownNumberFrame _ _ => true
  | .malformedFrame ground => groundOk ground
  | .closingMarkBroken => true
  | .levelInputChange _ _ => true
  | .levelReadingChange _ => true
  | .flowPulse => true
  | .valveTimeLimit => true
  | .coolingTimerExpiry => true
  | .drainDryTimeEnd => true
  | .pumpTimeLimit => true
  | .serviceRecordWritten => true
  | .sensorReading _ => true
  | .channelFailed _ => true
  | .relayFeedbackChange _ => true
  | .relayOpenFault => true
  | .relayWelded => true
  | .configCheck => true
  | .prepTimeout => true
  | .heatLimit => true
  | .descaleLowWater => true
  | .soakTimerEnd => true
  | .waitingForPool => true
  | .loadTimeout => true
  | .stageTimeEnd => true
  | .promptTimeout => true
  | .probeStateChange => true
  | .steamWithheld => true
  | .lineIdleAfterBreak => true

end Sys2Proof
end

