-- ==== Sys2Proof/Machine/Panel.lean ====
section
/-!
DEFINITION. The commands of the partner panel (09_panel_commands_and_reports.md): how a command is taken and routed (R155,
R156), QUERY (R162), and the meaning of each command.
-/
namespace Sys2Proof.Machine

/-- R162: the RESULT, with a READING directly behind it. -/
def queryCommand (s : State) : State := enqueue .reading (respond .query .accepted noDetail s)

/-- R155: the refusals that come before the owner's own judgement. QUERY is never refused. -/
def judgeCommand (k : CmdKind) (owner : State → State) (s : State) : State :=
  if s.superv.configFault ∧ k ≠ .query then respond k .refusedConfig noDetail s
  else if s.startup.restarting ∧ k ≠ .query then respond k .refusedState noDetail s
  else owner s

/-- R155: a COMMAND from the partner panel, well-formed, addressed to this station and with a clear verdict slot, is
taken at its closing mark. An UNNUMBERED part takes none. -/
def takeCommand (k : CmdKind) (owner : State → State) (s : State) : State :=
  if unnumbered s then s
  else closeFrame s.startup.partner false (judgeCommand k owner) (beginReceive s)

/-- A body of a length that its kind does not allow makes the frame malformed (R173, R70; log entry 29). -/
def takeSized (ok : Bool) (k : CmdKind) (owner : State → State) (s : State) : State :=
  if ok then takeCommand k owner s else malformedFrame .lengthNotAllowed s

/-! ### Meanings -/

def execQuery (s : State) : Host.Outcome State Fault Refusal := .next (takeCommand .query queryCommand s)

def execLoadOpen (count : Byte) (tag : Word16) (s : State) : Host.Outcome State Fault Refusal :=
  .next (takeCommand .loadOpen (loadOpen count tag) s)

def execStage (index : Byte) (record : List Byte) (s : State) : Host.Outcome State Fault Refusal :=
  .next (takeSized (recordLengthOk record) .stage (stageCommand index record) s)

def execStart (s : State) : Host.Outcome State Fault Refusal := .next (takeCommand .start startCommand s)

def execPause (s : State) : Host.Outcome State Fault Refusal := .next (takeCommand .pause pauseCommand s)

def execResume (s : State) : Host.Outcome State Fault Refusal := .next (takeCommand .resume resumeCommand s)

def execAbort (s : State) : Host.Outcome State Fault Refusal := .next (takeCommand .abort abortCommand s)

def execAnswer (index reply : Byte) (s : State) : Host.Outcome State Fault Refusal :=
  .next (takeCommand .answer (answerCommand index reply) s)

def execFinishAck (s : State) : Host.Outcome State Fault Refusal := .next (takeCommand .finishAck finishAck s)

def execRunManual (record : List Byte) (s : State) : Host.Outcome State Fault Refusal :=
  .next (takeSized (recordLengthOk record) .runManual (runManual record) s)

def execDescaleStart (s : State) : Host.Outcome State Fault Refusal :=
  .next (takeCommand .descaleStart descaleStart s)

def execDescaleConfirm (s : State) : Host.Outcome State Fault Refusal :=
  .next (takeCommand .descaleConfirm descaleConfirm s)

def execRelayRestore (s : State) : Host.Outcome State Fault Refusal :=
  .next (takeCommand .relayRestore relayRestore s)

def execRestart (s : State) : Host.Outcome State Fault Refusal := .next (takeCommand .restart restartCommand s)

/-- A SETUP whose section byte is 0. -/
def execSetupSupply (fields : List Byte) (s : State) : Host.Outcome State Fault Refusal :=
  .next (takeSized (setupLengthOk fields) .setup (setupCommand 0 fields) s)

/-- A SETUP that names a CHANNEL, or a section that is not defined. -/
def execSetupChannel (section_ : Byte) (fields : List Byte) (s : State) : Host.Outcome State Fault Refusal :=
  .next (takeSized (setupLengthOk fields) .setup (setupCommand section_ fields) s)

/-- A SETUP whose section byte is 255. -/
def execSetupEnd (fields : List Byte) (s : State) : Host.Outcome State Fault Refusal :=
  .next (takeSized (setupLengthOk fields) .setup (setupCommand 255 fields) s)

end Sys2Proof.Machine
end

