-- ==== Sys2Proof/Machine/Timers.lean ====
section
/-!
DEFINITION. The idle step: 10 ms pass, every running timer advances, and the moments that fall due are taken in the order
of spec/opcode_table.json (log entry 2). The figures are those of the rules that give the timers.
-/
namespace Sys2Proof.Machine

/-- The length of an idle step, in milliseconds. -/
def tickMs : Nat := 10

/-- A timer that advances while it runs and keeps its value otherwise. -/
def advance (runs : Bool) (t : Nat) : Nat := if runs then t + tickMs else t

/-- A count that is 0 while its condition does not hold. -/
def advanceOrClear (runs : Bool) (t : Nat) : Nat := if runs then t + tickMs else 0

/-- The descale's timers run while no RESTART is in progress (R115). -/
def descaleTimed (s : State) : Bool := !s.startup.restarting

def advanceStartup (u : Startup) : Startup :=
  { u with
    windowMs  := advance (decide (u.setup = .opened)) u.windowMs
    restartMs := advance u.restarting u.restartMs }

def advanceClimate (s : State) : Climate :=
  { s.climate with
    doorMs   := advanceOrClear (s.climate.doorInputOpen != s.climate.doorOpen) s.climate.doorMs
    sampleMs := advance (frozen s && !s.startup.restarting) s.climate.sampleMs }

def advancePower (p : Power) : Power :=
  { p with
    freqMs       := advance (decide (p.freq = .undecided)) p.freqMs
    sinceCrossUs := p.sinceCrossUs + 1000 * tickMs
    starveMs     := p.starveMs.map (· + tickMs) }

/-- A water want stands with its hold at 0 (R43). The one count of a second runs while either pool waits (log entry 39). -/
def waterWaits (s : State) : Bool :=
  (s.steam.inletWant && decide (s.share.holds.inlet = 0)) || (s.steam.drainWant && decide (s.share.holds.drain = 0))

def advanceShare (s : State) : Share :=
  { s.share with
    table        := s.share.table.map fun e => { e with heardMs := e.heardMs + tickMs }
    joinMs       := s.share.joinMs.map (· + tickMs)
    sinceOwnMs   := s.share.sinceOwnMs.map (· + tickMs)
    isolatedMs   := advance (decide (s.share.link = .isolated)) s.share.isolatedMs
    backoffMs    := s.share.backoffMs.map (· + tickMs)
    sinceYieldMs := s.share.sinceYieldMs.map (· + tickMs)
    leakMs       := advanceOrClear (s.share.leakInputWet != s.share.leakWet) s.share.leakMs
    statusMs     := advance (frozen s) s.share.statusMs
    retryMs      := advanceOrClear (waterWaits s) s.share.retryMs }

def advanceLevel (g : Steam) (e : Electrode) : Nat :=
  advanceOrClear (g.levelInputs.get e != g.levels.get e) (g.levelMs.get e)

def advanceFill (s : State) (f : Fill) : Fill := { f with valveMs := advance s.power.base.fill f.valveMs }

def advanceDrain (s : State) (d : Drain) : Drain :=
  { pumpMs := advance s.power.base.pump d.pumpMs
    dryMs  := advance (s.power.base.pump && !s.steam.levels.low) d.dryMs }

def advanceSteam (s : State) : Steam :=
  { s.steam with
    levelMs := ⟨advanceLevel s.steam .low, advanceLevel s.steam .work, advanceLevel s.steam .high⟩
    fill    := s.steam.fill.map (advanceFill s)
    drain   := s.steam.drain.map (advanceDrain s)
    coolMs  := advance (decide (s.steam.gen = .cooling) && !s.startup.restarting) s.steam.coolMs }

def advanceDescale (s : State) : Descale :=
  { s.descale with
    prepMs := advance (decide (s.descale.phase = .prep) && descaleTimed s) s.descale.prepMs
    soakMs := advance (decide (s.descale.phase = .soak) && soakAdvances s && descaleTimed s) s.descale.soakMs
    lowMs  := advanceOrClear (lowWaterPhase s.descale && !s.steam.levels.low && descaleTimed s) s.descale.lowMs
    waitMs := advanceOrClear (waitingPool s).isSome s.descale.waitMs }

def advanceRecipe (s : State) : Recipe :=
  { s.recipe with
    elapsedMs  := advance (timerRuns s) s.recipe.elapsedMs
    probeMs    := advanceOrClear (s.recipe.probeShows != s.recipe.probePresent) s.recipe.probeMs
    withheldMs := advanceOrClear (withheldWatched s) s.recipe.withheldMs
    gapMs      := advance (decide (s.recipe.state = .loading)) s.recipe.gapMs }

def advanceReading (r : Reading) : Reading := { r with holdMs := advance r.holding r.holdMs }

/-- A debounce runs in PENDING and in RECOVERING (R144). -/
def advanceSide (r : SideRec) : SideRec :=
  { r with ms := advance (decide (r.state = .pending) || decide (r.state = .recovering)) r.ms }

/-- The debounces of one side of all channels; while CORE shows its probe absent its recovery counts stand (R145). -/
def advanceSides (v : Superv) (p : PerChannel SideRec) : PerChannel SideRec :=
  { cav   := advanceSide p.cav
    core  := if recoveryCounts v .core then advanceSide p.core else p.core
    boil  := advanceSide p.boil
    moist := advanceSide p.moist
    mains := advanceSide p.mains
    board := advanceSide p.board }

def PerChannel.map {α β : Type} (f : α → β) (p : PerChannel α) : PerChannel β :=
  ⟨f p.cav, f p.core, f p.boil, f p.moist, f p.mains, f p.board⟩

def advanceSuperv (s : State) : Superv :=
  { s.superv with
    readings   := s.superv.readings.map advanceReading
    low        := advanceSides s.superv s.superv.low
    high       := advanceSides s.superv s.superv.high
    fixed      := advanceSide s.superv.fixed
    mismatchMs := advanceOrClear (s.superv.relayClosed != s.superv.feedbackClosed) s.superv.mismatchMs
    checkMs    := advance (frozen s && !s.superv.configFault) s.superv.checkMs }

/-- Every running timer advances by one idle step, on the conditions of the state before it. -/
def advanceAll (s : State) : State :=
  { pending := s.pending
    startup := advanceStartup s.startup
    climate := advanceClimate s
    power   := advancePower s.power
    share   := advanceShare s
    line    := s.line
    steam   := advanceSteam s
    descale := advanceDescale s
    recipe  := advanceRecipe s
    superv  := advanceSuperv s }

/-! ### The moments that fall due -/

/-- A moment is taken when its time has come. -/
def fire (due : State → Bool) (effect : State → State) (s : State) : State := if due s then effect s else s

/-- An optional timer has reached a figure. -/
def reached (figure : Nat) (t : Option Nat) : Bool := t.any fun t => decide (figure ≤ t)

/-- The time of the next missed crossing (R22): 1.25 half-periods, and one half-period for each miss. -/
def missDue (s : State) : Bool :=
  s.power.halfPeriodUs.any fun h => decide (h + h / 4 + s.power.misses * h ≤ s.power.sinceCrossUs)

/-- The current stage has a duration and its elapsed time has reached it (R129, R132). -/
def durationDue (s : State) : Bool := (currentHeat s.recipe).any (durationReached s.recipe)

def fireStart (s : State) : State :=
  fire (fun s => decide (1000 ≤ s.climate.sampleMs)) climateSample
    (reInitIfDue
      (fire (fun s => decide (10000 ≤ s.startup.windowMs)) setupWindowExpiry s))

def fireDoor (s : State) : State :=
  fire (fun s => decide (50 ≤ s.climate.doorMs)) doorCloses
    (fire (fun s => decide (50 ≤ s.climate.doorMs)) doorOpens s)

/-- At most two crossings can be missed in one idle step. -/
def firePower (s : State) : State :=
  fire (fun s => reached 60000 s.power.starveMs) supplyStarved
    (fire missDue missedCrossing (fire missDue missedCrossing
      (fire (fun s => decide (10000 ≤ s.power.freqMs)) frequencyTimeout s)))

/-- R52, for each entry of the table as it stood. -/
def fireEntries (s : State) : State :=
  s.share.table.foldl (fun s e =>
    if 65000 ≤ e.heardMs then entryRemoved e.station s
    else if 3500 ≤ e.heardMs then entryExpired e.station s
    else s) s

def fireLink (s : State) : State :=
  fire (fun s => reached 5000 s.share.backoffMs) yieldBackoffEnd
    (fire (fun s => reached 3500 s.share.joinMs) joinWindowEnd
      (fire (fun s => decide (60000 ≤ s.share.isolatedMs)) lineLost
        (fire (fun s => reached 2000 s.share.sinceOwnMs) lineIsolated s)))

def fireLeak (s : State) : State :=
  fire (fun s => decide (30000 ≤ s.share.leakMs)) leakDry
    (fire (fun s => decide (2000 ≤ s.share.leakMs)) leakWet s)

def fireShare (s : State) : State :=
  fireLeak (fireLink (fireEntries
    (fire (fun s => decide (1000 ≤ s.share.statusMs)) statusPeriod
      (fire (fun s => decide (1000 ≤ s.share.retryMs)) waterRaiseRetry s))))

def fireLevel (e : Electrode) (s : State) : State :=
  fire (fun s => decide (1000 ≤ s.steam.levelMs.get e)) (levelReadingChange e) s

def fireSteam (s : State) : State :=
  fire (fun s => s.steam.drain.any fun d => decide (240000 ≤ d.pumpMs)) pumpTimeLimit
    (fire (fun s => s.steam.drain.any fun d => decide (30000 ≤ d.dryMs)) drainDryTimeEnd
      (fire (fun s => decide (1200000 ≤ s.steam.coolMs)) coolingTimerExpiry
        (fire (fun s => s.steam.fill.any fun f => decide (180000 ≤ f.valveMs)) valveTimeLimit
          (fireLevel .high (fireLevel .work (fireLevel .low s))))))

def fireFailed (c : Channel) (s : State) : State :=
  fire (fun s => decide (2000 ≤ (s.superv.readings.get c).holdMs)) (channelFails c) s

/-- An excursion starts or ends when its side's debounce has run (R144, R146, R147). -/
def fireSide (d : Side) (c : Channel) (s : State) : State :=
  fire (fun s => decide (sideDebounce s c d ≤ (sideRec s.superv c d).ms)) (excursionEnd c d)
    (fire (fun s => decide (sideDebounce s c d ≤ (sideRec s.superv c d).ms)) (excursionStart c d) s)

def fireChannels (s : State) : State :=
  let s1 := channelList.foldl (fun s c => fireFailed c s) s
  fireSide .fixed .cav (channelList.foldl (fun s c => fireSide .high c (fireSide .low c s)) s1)

def fireRelay (s : State) : State :=
  fire (fun s => decide (10000 ≤ s.superv.checkMs)) configCheck
    (fire (fun s => decide (200 ≤ s.superv.mismatchMs)) relayWelded
      (fire (fun s => decide (200 ≤ s.superv.mismatchMs)) relayOpenFault s))

def fireDescale (s : State) : State :=
  fire (fun s => decide (600000 ≤ s.descale.waitMs)) waitNotice
    (fire (fun s => decide (1200000 ≤ s.descale.soakMs)) soakTimerEnd
      (fire (fun s => decide (60000 ≤ s.descale.lowMs)) descaleLowWater
        (fire (fun s => (heatLimitClock s.power).any fun n => decide (n ≤ s.descale.heatClock)) heatLimit
          (fire (fun s => decide (1800000 ≤ s.descale.prepMs)) prepTimeout s))))

def fireRecipe (s : State) : State :=
  fire (fun s => decide (5000 ≤ s.recipe.withheldMs)) steamWithheld
    (fire (fun s => decide (2000 ≤ s.recipe.probeMs)) probeStateChange
      (fire durationDue promptTimeout
        (fire durationDue stageTimeEnd
          (fire (fun s => decide (10000 ≤ s.recipe.gapMs)) loadTimeout s))))

/-- The frame at the head of the queue begins on an IDLE line, after everything that fell due (R66). -/
def tick (s : State) : State :=
  frameBegin (fireRecipe (fireDescale (fireRelay (fireChannels (fireSteam (fireShare (firePower (fireDoor
    (fireStart (advanceAll s))))))))))

end Sys2Proof.Machine
end

