-- ==== Sys2Proof/Machine/Dispatch.lean ====
section
/-!
DEFINITION. The meaning of every command: one arm per constructor of Instr, in the order of spec/opcode_table.json.
-/
namespace Sys2Proof.Machine

def exec (i : Instr) (s : State) : Host.Outcome State Fault Refusal :=
  match i with
  | .powerOn station partner => Sys2Proof.Machine.execPowerOn station partner s
  | .setupSupply fields => Sys2Proof.Machine.execSetupSupply fields s
  | .setupChannel section_ fields => Sys2Proof.Machine.execSetupChannel section_ fields s
  | .setupEnd fields => Sys2Proof.Machine.execSetupEnd fields s
  | .setupWindowExpiry => Sys2Proof.Machine.execSetupWindowExpiry s
  | .query => Sys2Proof.Machine.execQuery s
  | .loadOpen count tag => Sys2Proof.Machine.execLoadOpen count tag s
  | .stage index record => Sys2Proof.Machine.execStage index record s
  | .start => Sys2Proof.Machine.execStart s
  | .pause => Sys2Proof.Machine.execPause s
  | .resume => Sys2Proof.Machine.execResume s
  | .abort => Sys2Proof.Machine.execAbort s
  | .answer index reply => Sys2Proof.Machine.execAnswer index reply s
  | .finishAck => Sys2Proof.Machine.execFinishAck s
  | .runManual record => Sys2Proof.Machine.execRunManual record s
  | .descaleStart => Sys2Proof.Machine.execDescaleStart s
  | .descaleConfirm => Sys2Proof.Machine.execDescaleConfirm s
  | .relayRestore => Sys2Proof.Machine.execRelayRestore s
  | .restart => Sys2Proof.Machine.execRestart s
  | .reInitialisation => Sys2Proof.Machine.execReInitialisation s
  | .partnerVeto sender => Sys2Proof.Machine.execPartnerVeto sender s
  | .climateSample => Sys2Proof.Machine.execClimateSample s
  | .doorInputChange isOpen => Sys2Proof.Machine.execDoorInputChange isOpen s
  | .doorOpens => Sys2Proof.Machine.execDoorOpens s
  | .doorCloses => Sys2Proof.Machine.execDoorCloses s
  | .zeroCrossing interval volts => Sys2Proof.Machine.execZeroCrossing interval volts s
  | .frequencyTimeout => Sys2Proof.Machine.execFrequencyTimeout s
  | .missedCrossing => Sys2Proof.Machine.execMissedCrossing s
  | .supplyStarved => Sys2Proof.Machine.execSupplyStarved s
  | .waterRaiseRetry => Sys2Proof.Machine.execWaterRaiseRetry s
  | .raiseReceived sender pool group hold otherVeto => Sys2Proof.Machine.execRaiseReceived sender pool group hold otherVeto s
  | .lowerReceived sender pool group hold otherVeto => Sys2Proof.Machine.execLowerReceived sender pool group hold otherVeto s
  | .yieldReceived sender group need => Sys2Proof.Machine.execYieldReceived sender group need s
  | .statusReceived sender body otherVeto => Sys2Proof.Machine.execStatusReceived sender body otherVeto s
  | .tripReceived sender type origin group => Sys2Proof.Machine.execTripReceived sender type origin group s
  | .tripClearReceived sender type origin group => Sys2Proof.Machine.execTripClearReceived sender type origin group s
  | .ownFrameComplete vetoed => Sys2Proof.Machine.execOwnFrameComplete vetoed s
  | .statusPeriod => Sys2Proof.Machine.execStatusPeriod s
  | .entryExpired station => Sys2Proof.Machine.execEntryExpired station s
  | .entryRemoved station => Sys2Proof.Machine.execEntryRemoved station s
  | .lineIsolated => Sys2Proof.Machine.execLineIsolated s
  | .lineLost => Sys2Proof.Machine.execLineLost s
  | .joinWindowEnd => Sys2Proof.Machine.execJoinWindowEnd s
  | .yieldBackoffEnd => Sys2Proof.Machine.execYieldBackoffEnd s
  | .leakInputChange wet => Sys2Proof.Machine.execLeakInputChange wet s
  | .leakWet => Sys2Proof.Machine.execLeakWet s
  | .leakDry => Sys2Proof.Machine.execLeakDry s
  | .lineIdle => Sys2Proof.Machine.execLineIdle s
  | .frameBegin => Sys2Proof.Machine.execFrameBegin s
  | .openingMarkSeen => Sys2Proof.Machine.execOpeningMarkSeen s
  | .arbitrationLost => Sys2Proof.Machine.execArbitrationLost s
  | .driveFault => Sys2Proof.Machine.execDriveFault s
  | .clash => Sys2Proof.Machine.execClash s
  | .ownNumberFrame content otherVeto => Sys2Proof.Machine.execOwnNumberFrame content otherVeto s
  | .malformedFrame ground => Sys2Proof.Machine.execMalformedFrame ground s
  | .closingMarkBroken => Sys2Proof.Machine.execClosingMarkBroken s
  | .levelInputChange electrode wet => Sys2Proof.Machine.execLevelInputChange electrode wet s
  | .levelReadingChange electrode => Sys2Proof.Machine.execLevelReadingChange electrode s
  | .flowPulse => Sys2Proof.Machine.execFlowPulse s
  | .valveTimeLimit => Sys2Proof.Machine.execValveTimeLimit s
  | .coolingTimerExpiry => Sys2Proof.Machine.execCoolingTimerExpiry s
  | .drainDryTimeEnd => Sys2Proof.Machine.execDrainDryTimeEnd s
  | .pumpTimeLimit => Sys2Proof.Machine.execPumpTimeLimit s
  | .serviceRecordWritten => Sys2Proof.Machine.execServiceRecordWritten s
  | .sensorReading inputs => Sys2Proof.Machine.execSensorReading inputs s
  | .channelFailed channel => Sys2Proof.Machine.execChannelFailed channel s
  | .excursionStart channel side => Sys2Proof.Machine.execExcursionStart channel side s
  | .excursionEnd channel side => Sys2Proof.Machine.execExcursionEnd channel side s
  | .relayFeedbackChange closed => Sys2Proof.Machine.execRelayFeedbackChange closed s
  | .relayOpenFault => Sys2Proof.Machine.execRelayOpenFault s
  | .relayWelded => Sys2Proof.Machine.execRelayWelded s
  | .configCheck => Sys2Proof.Machine.execConfigCheck s
  | .prepTimeout => Sys2Proof.Machine.execPrepTimeout s
  | .heatLimit => Sys2Proof.Machine.execHeatLimit s
  | .descaleLowWater => Sys2Proof.Machine.execDescaleLowWater s
  | .soakTimerEnd => Sys2Proof.Machine.execSoakTimerEnd s
  | .waitingForPool => Sys2Proof.Machine.execWaitingForPool s
  | .loadTimeout => Sys2Proof.Machine.execLoadTimeout s
  | .stageTimeEnd => Sys2Proof.Machine.execStageTimeEnd s
  | .promptTimeout => Sys2Proof.Machine.execPromptTimeout s
  | .probeStateChange => Sys2Proof.Machine.execProbeStateChange s
  | .steamWithheld => Sys2Proof.Machine.execSteamWithheld s
  | .wellFormedFrameNotTaken sender => Sys2Proof.Machine.execWellFormedFrameNotTaken sender s
  | .lineIdleAfterBreak => Sys2Proof.Machine.execLineIdleAfterBreak s

end Sys2Proof.Machine
end

