-- ==== Sys2Proof/Safety.lean ====
section
/-!
DEFINITION. The terms in which statements about the machine are made: what every step keeps (the invariants), what a
step may touch (the frames), and when the line and the panel are free for a command.
-/
namespace Sys2Proof.Machine

/-! ### Frames -/

/-- The nine blocks of 00_scope.md. -/
inductive Block where
  | startup | climate | power | share | line | steam | descale | recipe | superv
  deriving DecidableEq, Repr

/-- A block is the same in two states. -/
def Block.same (s t : State) : Block → Prop
  | .startup => t.startup = s.startup
  | .climate => t.climate = s.climate
  | .power => t.power = s.power
  | .share => t.share = s.share
  | .line => t.line = s.line
  | .steam => t.steam = s.steam
  | .descale => t.descale = s.descale
  | .recipe => t.recipe = s.recipe
  | .superv => t.superv = s.superv

/-- No block but those listed changes from `s` to `t`, and neither do the commands that wait. -/
def OnlyTouches (touched : List Block) (s t : State) : Prop :=
  t.pending = s.pending ∧ ∀ b, b ∉ touched → b.same s t

/-- The generator changes in its outputs at most: requests, BOILER demand and steam gate (R83, R87, R92). -/
def OutputsOnly (s t : State) : Prop :=
  t.steam = { s.steam with
    fillReq := t.steam.fillReq, pumpReq := t.steam.pumpReq
    boilerDemand := t.steam.boilerDemand, gate := t.steam.gate }

/-- The scheduler changes in its base-actuator outputs and in the elements taken off at the next crossing at most
(R25, R32). -/
def ActuatorsOnly (s t : State) : Prop :=
  t.power = { s.power with
    base := t.power.base, shed := t.power.shed
    cavityZeroed := t.power.cavityZeroed, heatBarred := t.power.heatBarred }

/-- The descale changes in its count of a wait for a pool at most (R110). -/
def WaitOnly (s t : State) : Prop :=
  t.descale = { s.descale with waitMs := t.descale.waitMs, waitNoted := t.descale.waitNoted }

/-- What settles at once after a command: outputs, actuators and counted waits. -/
def SettlesOnly (s t : State) : Prop := OutputsOnly s t ∧ ActuatorsOnly s t ∧ WaitOnly s t

/-- The line as a received frame leaves it at its closing mark (R62, R71): IDLE, and the malformation count 0. The
queue is for the statement to give. -/
def FrameClosed (driven : Bool) (s t : State) : Prop :=
  t.line = { s.line with
    state := .idle, breakSeen := false, malformed := 0, verdictDriven := driven
    txBytes := t.line.txBytes, queue := t.line.queue }

/-- A frame whose closing mark shows a dominant level: what was judged at its verdict slot (R68, R70). -/
def closingMarkOf : MalformGround → Option (Option FrameContent)
  | .closingMarkDominant _ content => some content
  | _ => none

/-- The shares change in what a well-formed frame tells of its sender: the entry of that station alone (R38). -/
def SenderHeard (n : Nat) (s t : State) : Prop :=
  t.share = { s.share with table := t.share.table }
    ∧ t.share.table = updateEntry n (refreshEntry s.share.floor) s.share.table

/-! ### Conditions on the state -/

/-- The generator's state agrees with whether steam is wanted, so that R82 changes nothing. -/
def GenSettled (s : State) : Prop :=
  s.startup.restarting = true ∨ frozen s = false
    ∨ (s.steam.gen = .empty ∧ steamWanted s = false)
    ∨ ((s.steam.gen = .filling ∨ s.steam.gen = .heating ∨ s.steam.gen = .ready) ∧ steamWanted s = true)
    ∨ (s.steam.gen = .cooling ∧ steamWanted s = false)
    ∨ s.steam.gen = .draining ∨ s.steam.gen = .service ∨ s.steam.gen = .fault

/-- A frame that is received voids no RAISE, no pool waits to be decided again (R44), and it brings no re-initialisation:
the part is numbered, it has no RAISE in its queue, and no restart waits for the end of an own frame alone (R160, log
entry 16). -/
def LineFree (s : State) : Prop :=
  unnumbered s = false ∧ (∀ p, raiseQueued p s = false) ∧ s.share.redecide = PerPool.all false
    ∧ (s.startup.restarting = false ∨ sendingFrame s = none ∨ restartDue s = false)

/-- A command of the partner panel is judged by its owner (R155): no CONFIG_FAULT is held and no RESTART runs. -/
def PanelFree (s : State) : Prop :=
  LineFree s ∧ s.superv.configFault = false ∧ s.startup.restarting = false

/-- A frame stands in the queue and waits. -/
def Queued (f : TxFrame) (t : State) : Prop := (⟨f, false⟩ : QEntry) ∈ t.line.queue

/-- What a command of the partner panel touches beside its own effect: the line at its closing mark, the sender's entry,
and what settles at once. -/
def PanelFrame (s t : State) : Prop :=
  FrameClosed false s t ∧ SenderHeard s.startup.partner s t ∧ SettlesOnly s t

/-- The program stands: the Recipe Engine changes in its count of a withheld reason at most (R138). -/
def ProgramStands (s t : State) : Prop := t.recipe = { s.recipe with withheldMs := t.recipe.withheldMs }

/-! ### Ranges of setup (R168, R169) -/

/-- Every field of a SUPPLY section lies in its range (R168). -/
def SupplyInRange (v : Supply) : Prop :=
  v.circuitGroup ≤ 3 ∧ v.waterGroup ≤ 3 ∧ 100 ≤ v.capacity ∧ v.capacity ≤ 1100 ∧ 1 ≤ v.stations ∧ v.stations ≤ 8
    ∧ v.baseLoad ≤ 30 ∧ (∀ e, v.ratings.get e ≤ 400) ∧ (v.vNom = 230 ∨ v.vNom = 120)
    ∧ 1 ≤ v.inletCap ∧ v.inletCap ≤ 4 ∧ 1 ≤ v.drainCap ∧ v.drainCap ≤ 2 ∧ v.hardness ≤ 40
    ∧ 1000 ≤ v.tDue ∧ v.tDue ≤ 20000

/-- Every field of a SUPPLY section fits the bits it has in the body (R177). -/
def SupplyFits (v : Supply) : Prop :=
  v.circuitGroup < 16 ∧ v.waterGroup < 16 ∧ v.capacity < 65536 ∧ v.stations < 256 ∧ v.baseLoad < 256
    ∧ (∀ e, v.ratings.get e < 65536) ∧ v.vNom < 256 ∧ v.inletCap < 256 ∧ v.drainCap < 256 ∧ v.hardness < 256
    ∧ v.tDue < 65536

/-- Every field of a CHANNEL section is valid (R169). -/
def RecordInRange (c : Channel) (r : ChannelRecord) : Prop :=
  (channelRange c).1 ≤ r.lowLimit ∧ r.lowLimit < r.highLimit ∧ r.highLimit ≤ (channelRange c).2
    ∧ r.lowCode ≤ 15 ∧ r.highCode ≤ 15 ∧ r.strikeLimit ≤ 15

/-- The section byte that names a channel (R177). -/
def channelSection (c : Channel) : Byte := BitVec.ofNat 8 (16 + channelCode c)

/-- The SUPPLY section that freezes: the defaults where the floor share cannot carry the base load and one element
(R170). -/
def FreezesTo (work frozenSupply : Supply) : Prop :=
  if work.capacity / work.stations < work.baseLoad + (smallestRating work.ratings).getD 0
  then frozenSupply = Supply.defaults else frozenSupply = work

/-- The limit that two bytes of a CHANNEL section carry: BOARD's is two's complement (R177). -/
def sentLimit (c : Channel) (hi lo : Byte) : Int := if c = .board then (hi ++ lo).toInt else (hi ++ lo).toNat

/-- The eight field bytes of a CHANNEL section are all valid (R169): enabled, both limits, both maps and the strike
limit. -/
def ChannelBytesValid (c : Channel) (b : List Byte) : Prop :=
  (b.getD 0 0).toNat ≤ 1
    ∧ (channelRange c).1 ≤ sentLimit c (b.getD 1 0) (b.getD 2 0)
    ∧ sentLimit c (b.getD 1 0) (b.getD 2 0) < sentLimit c (b.getD 3 0) (b.getD 4 0)
    ∧ sentLimit c (b.getD 3 0) (b.getD 4 0) ≤ (channelRange c).2
    ∧ (b.getD 6 0).toNat / 16 ≤ 2 ∧ (b.getD 6 0).toNat % 16 ≤ 2 ∧ (b.getD 7 0).toNat ≤ 15

/-! ### Base actuators (R25) -/

/-- What the base-actuator outputs follow (R25, R33): within a frame that carries base load every requested actuator runs and
no other, and within a frame that does not carry it none runs; at no time does one run whose request is withdrawn; and none
runs during a restart. -/
def BaseFollows (s : State) : Prop :=
  (s.power.inFrame = true → s.startup.restarting = false →
      s.power.base = if s.power.carriesBase then baseRequests s else PerActuator.all false)
    ∧ (∀ a, s.power.base.get a = true → (baseRequests s).get a = true)
    ∧ (s.startup.restarting = true → s.power.base = PerActuator.all false)

/-! ### Side states (R143 to R145, R149) -/

/-- The hysteresis of a channel (R143). -/
def hysteresisOf (c : Channel) : Int := if c = .moist then 2 else if c = .mains then 3 else 20

/-- CAV is beyond the fixed cavity limit of 300.0 °C (R149). -/
def BeyondFixedLimit (s : State) : Prop :=
  s.superv.readings.cav.failed = some .high
    ∨ (s.superv.readings.cav.failed = none ∧ ∃ v, reading s .cav = some v ∧ 3000 ≤ v)

/-- A side's limit is passed: by the value that is presented, or, where the channel has failed, on its failed side (R143,
R145, R149). -/
def BeyondSide (s : State) (c : Channel) : Side → Prop
  | .low => (s.superv.readings.get c).failed = some .low
      ∨ ((s.superv.readings.get c).failed = none ∧ ∃ v, reading s c = some v ∧ v < (s.startup.channels.get c).lowLimit)
  | .high => (s.superv.readings.get c).failed = some .high
      ∨ ((s.superv.readings.get c).failed = none ∧ ∃ v, reading s c = some v ∧ (s.startup.channels.get c).highLimit < v)
  | .fixed => BeyondFixedLimit s

/-- A side's reading is back inside, by its hysteresis, or by a failure to the other side (R143, R145); for the fixed cavity
limit at 298.0 °C (R149), or by a failure to the low side (log entry 37). -/
def BackInside (s : State) (c : Channel) : Side → Prop
  | .low => (s.superv.readings.get c).failed = some .high
      ∨ ((s.superv.readings.get c).failed = none
          ∧ ∃ v, reading s c = some v ∧ (s.startup.channels.get c).lowLimit + hysteresisOf c ≤ v)
  | .high => (s.superv.readings.get c).failed = some .low
      ∨ ((s.superv.readings.get c).failed = none
          ∧ ∃ v, reading s c = some v ∧ v ≤ (s.startup.channels.get c).highLimit - hysteresisOf c)
  | .fixed => s.superv.readings.cav.failed = some .low
      ∨ (s.superv.readings.cav.failed = none ∧ ∃ v, reading s .cav = some v ∧ v ≤ 2980)

/-- The changes of the table of R144 that a reading makes; a debounce count starts at 0. -/
def SideMoves (beyond back : Prop) (r r' : SideRec) : Prop :=
  (r.state = .clear → (beyond → r' = { r with state := .pending, ms := 0 }) ∧ (¬ beyond → r' = r))
    ∧ (r.state = .pending → (beyond → r' = r) ∧ (¬ beyond → r' = { r with state := .clear, ms := 0 }))
    ∧ (r.state = .active → (back → r' = { r with state := .recovering, ms := 0 }) ∧ (¬ back → r' = r))
    ∧ (r.state = .recovering → (back → r' = r) ∧ (¬ back → r' = { r with state := .active, ms := 0 }))

/-- Sides that a reading does not move: before the freeze, of a channel that is not enabled, and of MAINS until it is armed;
the fixed cavity limit is judged whether or not CAV is enabled (R144, R149, R154). -/
def SideUnjudged (s t : State) (c : Channel) (d : Side) : Prop :=
  s.superv.judging = false
    ∨ (d ≠ .fixed ∧ ((s.startup.channels.get c).enabled = false ∨ (c = .mains ∧ t.superv.mainsArmed = false)))

/-- A side has judged the reading that its channel shows in `t`, held values included (R144, R145, R149). While CORE shows
its probe absent PENDING returns to CLEAR and any other state stands (R145). A channel that neither shows a value nor has
failed keeps its sides. -/
def SideJudged (s t : State) (c : Channel) (d : Side) : Prop :=
  (SideUnjudged s t c d → sideRec t.superv c d = sideRec s.superv c d)
    ∧ (¬ SideUnjudged s t c d →
        (d ≠ .fixed → (t.superv.readings.get c).cond.showsAbsent = true →
            sideRec t.superv c d =
              if (sideRec s.superv c d).state = .pending then { sideRec s.superv c d with state := .clear, ms := 0 }
              else sideRec s.superv c d)
          ∧ (d = .fixed ∨ (t.superv.readings.get c).cond.showsAbsent = false →
              (reading t c = none → (t.superv.readings.get c).failed = none →
                  sideRec t.superv c d = sideRec s.superv c d)
                ∧ (reading t c ≠ none ∨ (t.superv.readings.get c).failed ≠ none →
                  SideMoves (BeyondSide t c d) (BackInside t c d) (sideRec s.superv c d) (sideRec t.superv c d))))

/-! ### The start check and the re-initialisation -/

/-- A channel's reading is beyond a limit of its record; a failed channel is beyond on its failed side (R154). -/
def BeyondALimit (s : State) (c : Channel) : Prop :=
  (s.superv.readings.get c).failed = some .low ∨ (s.superv.readings.get c).failed = some .high
    ∨ ((s.superv.readings.get c).failed = none
        ∧ ∃ v, reading s c = some v ∧ (v < (s.startup.channels.get c).lowLimit ∨ (s.startup.channels.get c).highLimit < v))

/-- The start check finds nothing against closing the relay (R154): no weld, no latch, no enabled channel beyond a limit,
where MAINS counts as inside, and CAV below the fixed limit. That a CORE which shows its probe absent counts as inside too is
the model's choice (log entry 64). -/
def StartCheckPasses (s : State) : Prop :=
  s.superv.welded = false ∧ s.superv.trip = false ∧ ¬ BeyondFixedLimit s
    ∧ ∀ c, c ≠ .mains → (s.startup.channels.get c).enabled = true → (s.superv.readings.get c).cond.showsAbsent = false →
        ¬ BeyondALimit s c

/-- The machine after the re-initialisation of a RESTART that was taken in `s` (R160): the queue begins again with the
RESULT (R78), then the notices that the resets call for (R98, R115), then the STATUS of the join window (R56). -/
def Restarted (s t : State) : Prop :=
  t.pending = s.pending
    ∧ t.startup = { s.startup with restarting := false, restartMs := 0, restartLowers := PerPool.all false }
    ∧ t.line.queue = [⟨.result .restart .accepted 0, false⟩]
        ++ (if levelNow s = .none then [] else [⟨.notice .descaleDue 0 0 (levelNow s).code, false⟩])
        ++ (if descaleActive s.descale
            then [⟨.notice .descalePhase 0 0 (if s.steam.acid then 4363 else 11), false⟩] else [])
        ++ [⟨.status, false⟩]
    ∧ t.line.malformed = 0 ∧ t.line.clashes = 0 ∧ t.line.numberClash = s.line.numberClash
    ∧ t.share.holds = PerPool.all 0 ∧ t.share.table = [] ∧ t.share.tripSet = [] ∧ t.share.floor = s.share.floor
    ∧ (s.line.numberClash = false → t.share.link = .joining ∧ t.share.joinMs = some 0)
    ∧ t.recipe = { Recipe.reset with
        probePresent := s.recipe.probePresent, probeShows := s.recipe.probeShows, probeMs := s.recipe.probeMs }
    ∧ t.climate = { Climate.reset with
        doorOpen := s.climate.doorOpen, doorInputOpen := s.climate.doorInputOpen, doorMs := s.climate.doorMs }
    ∧ t.power.freq = s.power.freq ∧ t.power.inFrame = false ∧ t.power.starved = false
    ∧ t.power.gates = PerElement.all false ∧ t.power.base = PerActuator.all false
    ∧ t.steam.gen = (if s.steam.levels.low then .cooling else .empty)
    ∧ t.steam.request = .none ∧ t.steam.boilerDemand = 0 ∧ t.steam.gate = false ∧ t.steam.levels = s.steam.levels
    ∧ t.steam.scale = s.steam.scale ∧ t.steam.sub = s.steam.sub ∧ t.steam.acid = s.steam.acid
    ∧ t.descale.soakMark = false
    ∧ t.descale.phase = (if descaleActive s.descale then (if s.steam.acid then .holdAcid else .off) else s.descale.phase)
    ∧ t.superv.trip = s.superv.trip ∧ t.superv.welded = s.superv.welded
    ∧ t.superv.configFault = s.superv.configFault ∧ t.superv.readings = s.superv.readings
    ∧ t.superv.judging = true ∧ t.superv.strikes = PerChannel.all 0
    ∧ (s.superv.relayClosed = false ∨ s.startup.restarting = false →
        (t.superv.relayClosed = true ↔ StartCheckPasses t))

/-! ### Elements in a slot and shares of the heat -/

/-- The elements of a slot without those listed. -/
def PerElement.minus (x : PerElement Bool) (l : List Element) : PerElement Bool := l.foldl (fun x e => x.set false e) x

/-- How many slots a scan from the element's stagger offset visits before slot `k` (R27). -/
def visitBefore (e : Element) (k : Nat) : Nat := (k + 20 - e.offset) % 20

/-- The split percentage of a cavity element (R1). -/
def cavityShare (p : Profile) : Element → Nat
  | .top => p.top | .bottom => p.bottom | .ring => p.ring | .boiler => 0

/-- The demand of a cavity element. -/
def cavityDemand (c : Climate) : Element → Nat
  | .top => c.demTop | .bottom => c.demBottom | .ring => c.demRing | .boiler => 0

/-- The order in which elements of equal shares are preferred: RING, TOP, BOTTOM (R10, R11). -/
def cavityRank : Element → Nat
  | .ring => 0 | .top => 1 | .bottom => 2 | .boiler => 3

/-- Another present element has a larger share, or the same share and comes first (R10, R11). -/
def OutrankedBy (ratings : PerElement Nat) (p : Profile) (e : Element) : Prop :=
  ∃ o : Element, o ≠ .boiler ∧ ratings.get o ≠ 0
    ∧ (cavityShare p e < cavityShare p o ∨ (cavityShare p e = cavityShare p o ∧ cavityRank o < cavityRank e))

/-! ### Stage records (R117, R118, R177) -/

/-- A field of `n` bytes, where it is present. -/
def fieldBytes (n : Nat) (v : Option Nat) : List Byte :=
  match v with
  | none => []
  | some v => if n = 1 then [byteOf v] else if n = 2 then bytes2 v else bytes3 v

/-- The two bytes of presence flags, MODE in the top bit (R177). -/
def RawRecord.flags (r : RawRecord) : Nat :=
  bitNat r.mode.isSome * 32768 + bitNat r.cavity.isSome * 16384 + bitNat r.humidity.isSome * 8192
    + bitNat r.endKind.isSome * 4096 + bitNat r.duration.isSome * 2048 + bitNat r.core.isSome * 1024
    + bitNat r.timer.isSome * 512 + bitNat r.skip.isSome * 256 + bitNat r.prompt.isSome * 128
    + bitNat r.branches.isSome * 64 + bitNat r.call.isSome * 32

/-- The bytes of a stage record, in the layout of R177. -/
def RawRecord.bytes (r : RawRecord) : List Byte :=
  [byteOf r.kind] ++ bytes2 r.flags ++ fieldBytes 1 r.mode ++ fieldBytes 2 r.cavity ++ fieldBytes 1 r.humidity
    ++ fieldBytes 1 r.endKind ++ fieldBytes 3 r.duration ++ fieldBytes 2 r.core ++ fieldBytes 1 r.timer
    ++ fieldBytes 3 r.skip ++ fieldBytes 1 r.prompt
    ++ (match r.branches with | none => [] | some l => byteOf l.length :: l.map byteOf)
    ++ fieldBytes 1 r.call

/-- Every field of the record fits its bytes (R177). -/
def RecordFits (r : RawRecord) : Prop :=
  r.kind < 256 ∧ (∀ v ∈ r.mode, v < 256) ∧ (∀ v ∈ r.cavity, v < 65536) ∧ (∀ v ∈ r.humidity, v < 256)
    ∧ (∀ v ∈ r.endKind, v < 256) ∧ (∀ v ∈ r.duration, v < 16777216) ∧ (∀ v ∈ r.core, v < 65536)
    ∧ (∀ v ∈ r.timer, v < 256) ∧ (∀ v ∈ r.skip, v < 16777216) ∧ (∀ v ∈ r.prompt, v < 256)
    ∧ (∀ l ∈ r.branches, l.length < 256 ∧ ∀ o ∈ l, o < 256) ∧ ∀ v ∈ r.call, v < 256

/-- A branch list that is absent, or has a count of 0, which acts as an absent one (R177, log entry 53). -/
def NoBranches (r : RawRecord) : Prop := r.branches = none ∨ r.branches = some []

/-- A skip condition that is absent or names one of the four (R117). -/
def SkipDefined (r : RawRecord) : Prop := ∀ v ∈ r.skip, v / 65536 < 4

/-- The fields that a HEAT record of the end kind with code `e` must and may have (R117), with the values that are
refused out of their range (R118). -/
def HeatFieldsTaken (r : RawRecord) (e : Nat) : Prop :=
  (e = 0 ∨ e = 3 → r.duration.isSome = true) ∧ (e = 1 → r.duration = none)
    ∧ (if e = 2 ∨ e = 3 then r.core.isSome = true else r.core = none)
    ∧ (if e = 4 then (∃ v, r.prompt = some v ∧ 1 ≤ v ∧ v ≤ 199)
          ∧ (∀ l ∈ r.branches, l.length ≤ 3 ∧ ∀ o ∈ l, 1 ≤ o ∧ o ≤ 23)
        else r.prompt = none ∧ NoBranches r)

/-- A record that R117 and R118 take: HEAT, CALL or RETURN with the fields of its kind and no other. -/
def RecordTaken (r : RawRecord) : Prop :=
  SkipDefined r
    ∧ ((r.kind = 0 ∧ r.call = none ∧ r.cavity.isSome = true
          ∧ (∃ m, r.mode = some m ∧ m < 6) ∧ (∃ v, r.timer = some v ∧ v < 2)
          ∧ ∃ e, r.endKind = some e ∧ e < 5 ∧ HeatFieldsTaken r e)
      ∨ (r.mode = none ∧ r.cavity = none ∧ r.humidity = none ∧ r.endKind = none ∧ r.duration = none ∧ r.core = none
          ∧ r.timer = none ∧ r.prompt = none ∧ NoBranches r
          ∧ ((r.kind = 1 ∧ ∃ v, r.call = some v ∧ 1 ≤ v ∧ v ≤ 24)
            ∨ (r.kind = 2 ∧ r.call = none ∧ r.skip = none))))

/-- The value of R118 for a skip condition: v brought into the range of its kind. -/
def skipClamped (v : Nat) : Nat :=
  if v / 65536 = 0 then min 2500 v
  else if v / 65536 = 1 then 65536 + max 300 (min 990 (v % 65536)) else v

/-- A record with every value of R118 brought to the nearer bound of its range. -/
def RawRecord.clamped (r : RawRecord) : RawRecord :=
  { r with
    cavity   := r.cavity.map fun v =>
      max (profile (Mode.ofCode (r.mode.getD 0))).lowest (min (profile (Mode.ofCode (r.mode.getD 0))).highest v)
    humidity := r.humidity.map (min 100)
    duration := r.duration.map fun v => max 1 (min 86400 v)
    core     := r.core.map fun v => max 300 (min 990 v)
    skip     := r.skip.map skipClamped }

/-- The skip condition that a number in its range stands for (R117, R177). -/
def skipNamed (v : Nat) : Skip :=
  if v / 65536 = 0 then .cavityAtLeast (v % 65536)
  else if v / 65536 = 1 then .coreAtLeast (v % 65536)
  else if v / 65536 = 2 then .probeAbsent
  else .probePresent

/-- The stage that a record in range stands for, as sent. -/
def RawRecord.asSent (r : RawRecord) : StageRecord :=
  if r.kind = 0 then
    .heat
      { mode := Mode.ofCode (r.mode.getD 0), cavity := r.cavity.getD 0, humidity := r.humidity
        endKind := EndKind.ofCode (r.endKind.getD 0), duration := r.duration, core := r.core
        atTarget := decide (r.timer = some 1), prompt := r.prompt.getD 0, branches := r.branches.getD [] }
      (r.skip.map skipNamed)
  else if r.kind = 1 then .call (r.call.getD 0) (r.skip.map skipNamed)
  else .ret

/-- A stage whose branch list or call target fails the check of R121, at its index. -/
def StageMisses (count i : Nat) : StageRecord → Prop
  | .heat h _ => ∃ o ∈ h.branches, i + o < 1 ∨ count < i + o
  | .call target _ => target < 1 ∨ count < target ∨ target = i
  | .ret => False

/-! ### Stages -/

/-- A HEAT stage whose end condition is not met as it is entered, and which the probe rule leaves running (R129, R130). -/
def StageHolds (s : State) (h : HeatStage) : Prop :=
  match h.endKind with
  | .time => ∃ d, h.duration = some d ∧ 1 ≤ d
  | .temp => atTarget s h = false
  | .core => s.recipe.probePresent = true ∧ coreMet s h = false
  | .either => s.recipe.probePresent = true ∧ coreMet s h = false ∧ ∃ d, h.duration = some d ∧ 1 ≤ d
  | .prompt => True

/-- CORE shows a present probe below the target of the stage (R127, R129, R140). -/
def CoreShort (x : SensorInputs) (h : HeatStage) : Prop :=
  ∃ v target, x.core = .readable v ∧ h.core = some target ∧ max 0 (min 1300 v) < (target : Int)

/-- The machine in which the inputs have just been read (R140), before the rules that judge the readings. -/
def withReadings (x : SensorInputs) (s : State) : State :=
  { s with superv := { s.superv with readings := readInputs x s.recipe.probePresent s.superv.readings } }

/-- The elapsed time has reached the duration of the stage (R129). -/
def DurationRun (s : State) (h : HeatStage) : Prop := ∃ d, h.duration = some d ∧ 1000 * d ≤ s.recipe.elapsedMs

/-- CAV stands within 2.0 °C of the cavity target of the stage (R128, R129). -/
def AtTarget (s : State) (h : HeatStage) : Prop := ∃ v, reading s .cav = some v ∧ (h.cavity : Int) - 20 ≤ v

/-- The core condition of the stage: the probe PRESENT and CORE at the core target (R129). -/
def CoreReached (s : State) (h : HeatStage) : Prop :=
  s.recipe.probePresent = true ∧ ∃ target v, h.core = some target ∧ reading s .core = some v ∧ (target : Int) ≤ v

/-- The table of R129, with the duration alone where the probe is ABSENT (R130). -/
def EndsNow (s : State) (h : HeatStage) : Prop :=
  match h.endKind with
  | .time => DurationRun s h
  | .temp => AtTarget s h
  | .core => CoreReached s h ∨ (s.recipe.probePresent = false ∧ DurationRun s h)
  | .either => DurationRun s h ∨ CoreReached s h
  | .prompt => False

/-- A HEAT stage in RUNNING that a reading of the inputs does not end, with CAV at `cav` (R129, R130). -/
def OutlastsReading (s : State) (x : SensorInputs) (cav : Int) (h : HeatStage) : Prop :=
  match h.endKind with
  | .time => durationReached s.recipe h = false
  | .temp => max 0 (min 3000 cav) < (h.cavity : Int) - 20
  | .core =>
    (s.recipe.probePresent = true ∧ CoreShort x h) ∨ (s.recipe.probePresent = false ∧ durationReached s.recipe h = false)
  | .either => durationReached s.recipe h = false ∧ (s.recipe.probePresent = false ∨ CoreShort x h)
  | .prompt => True

/-- The HEAT stage `h` stands entered at index `j` (R125, R126): the engine's own fields, and the mode and targets handed
to the climate (R2), with the integrator kept where the mode stays. -/
def EntersHeat (j : Nat) (h : HeatStage) (s t : State) : Prop :=
  t.recipe.state = (if h.endKind = .prompt then .prompting else .running)
    ∧ t.recipe.cur = j ∧ t.recipe.lastHeat = j ∧ t.recipe.elapsedMs = 0 ∧ t.recipe.withheldMark = false
    ∧ t.recipe.phaseStarted = (!h.atTarget || atTarget s h)
    ∧ t.recipe.prompt = (if h.endKind = .prompt then h.prompt else 0)
    ∧ t.recipe.store = s.recipe.store
    ∧ t.climate = { s.climate with
        profile := some h.mode, cavityTarget := some h.cavity
        humidityTarget := (profile h.mode).humidity.map fun d => h.humidity.getD d
        integ := if s.climate.profile = some h.mode then s.climate.integ else 0 }

/-- The program has left RUNNING, PAUSED and PROMPTING: profile NONE, demands 0, targets cleared, fan and vent withdrawn
(R3); nothing else of the climate changes. -/
def ClimateLeft (s t : State) : Prop :=
  t.climate = { s.climate with
    profile := none, order := [.boiler], cavityTarget := none, humidityTarget := none, integ := 0
    demTop := 0, demBottom := 0, demRing := 0, steamDemand := 0, fanReq := false, ventReq := false }

/-! ### Chains of entries (R125) -/

/-- Where a chain of entries comes to rest: in a HEAT stage that begins, with the return stack as it then stands, at the
end of the program, or in STACK_FAULT. -/
inductive Rest where
  | begins (i : Nat) (h : HeatStage) (stack : List Nat)
  | finishes
  | stackFault
  deriving DecidableEq, Repr

/-- The table of R125, taken from an entry of stage `i` with a return stack, the last index pushed first: the entry comes
to rest after a number of further ones. A HEAT stage whose end condition holds as it begins is left out: `StageHolds`. -/
inductive EntryRests (s : State) : Nat → Nat → List Nat → Rest → Prop where
  | past (i : Nat) (stack : List Nat) : s.recipe.store.length < i → EntryRests s 0 i stack .finishes
  | skipsHeat (n i : Nat) (stack : List Nat) (h : HeatStage) (k : Skip) (r : Rest) :
      stageAt s.recipe i = some (.heat h (some k)) → skipHolds s k = true → EntryRests s n (i + 1) stack r →
      EntryRests s (n + 1) i stack r
  | skipsCall (n i target : Nat) (stack : List Nat) (k : Skip) (r : Rest) :
      stageAt s.recipe i = some (.call target (some k)) → skipHolds s k = true → EntryRests s n (i + 1) stack r →
      EntryRests s (n + 1) i stack r
  | calls (n i target : Nat) (stack : List Nat) (k : Option Skip) (r : Rest) :
      stageAt s.recipe i = some (.call target k) → (∀ x ∈ k, skipHolds s x = false) → stack.length < 2 →
      EntryRests s n target ((i + 1) :: stack) r → EntryRests s (n + 1) i stack r
  | overflows (i target : Nat) (stack : List Nat) (k : Option Skip) :
      stageAt s.recipe i = some (.call target k) → (∀ x ∈ k, skipHolds s x = false) → stack.length = 2 →
      EntryRests s 0 i stack .stackFault
  | returns (n i j : Nat) (stack : List Nat) (r : Rest) :
      stageAt s.recipe i = some .ret → EntryRests s n j stack r → EntryRests s (n + 1) i (j :: stack) r
  | returnsToTheEnd (i : Nat) : stageAt s.recipe i = some .ret → EntryRests s 0 i [] .finishes
  | begins (i : Nat) (stack : List Nat) (h : HeatStage) (k : Option Skip) :
      stageAt s.recipe i = some (.heat h k) → (∀ x ∈ k, skipHolds s x = false) → StageHolds s h →
      EntryRests s 0 i stack (.begins i h stack)

/-- What stands where a chain has come to rest: the stage begun (R126), the program FINISHED (R135), or FAULTED with
STACK_FAULT (R136), these two at the index of the last HEAT stage that was current, and each with its notice. -/
def RestsAs (last : Nat) (s t : State) : Rest → Prop
  | .begins i h stack =>
    EntersHeat i h s t ∧ t.recipe.stack = stack ∧ Queued (.notice .stageBegin (noticeTag s.recipe) i 0) t
  | .finishes =>
    t.recipe.state = .finished ∧ t.recipe.cur = last ∧ t.recipe.stack = [] ∧ t.recipe.store = s.recipe.store
      ∧ ClimateLeft s t ∧ Queued (.notice .programFinished (noticeTag s.recipe) last 0) t
  | .stackFault =>
    t.recipe.state = .faulted ∧ t.recipe.cur = last ∧ t.recipe.stack = [] ∧ t.recipe.store = s.recipe.store
      ∧ ClimateLeft s t ∧ Queued (.notice .programFault (noticeTag s.recipe) last 3) t

/-- The REPORTs in the queue, in the order in which they were raised, are these, and all of them wait (R75, R157). -/
def ReportsAre (t : State) (l : List TxFrame) : Prop :=
  t.line.queue.filter (fun e => e.frame.isReport) = l.map fun f => ⟨f, false⟩

/-- The notices that a stage raises as it begins: STAGE_BEGIN, and PROMPT behind it for a PROMPT stage (R126). -/
def beginNotices (tag i : Nat) (h : HeatStage) : List TxFrame :=
  .notice .stageBegin tag i 0 :: if h.endKind = .prompt then [.notice .prompt tag i h.prompt] else []

/-- The notices that a chain of entries raises: none for what it skips or passes, and those of its rest (R125, R126, R135,
R136). -/
def restNotices (tag last : Nat) : Rest → List TxFrame
  | .begins i h _ => beginNotices tag i h
  | .finishes => [.notice .programFinished tag last 0]
  | .stackFault => [.notice .programFault tag last 3]

/-! ### The generator as steam becomes or stops being wanted (R82) -/

/-- The state of a cooking fill as it begins: HEATING where its ending level reads WET already (R83, R85). -/
def fillBegins (s : State) : GenState := if s.steam.levels.work || s.steam.levels.high then .heating else .filling

/-- The state of the water that is left: cold water meets the 700 mark at once (R82, R91). -/
def waterIsLeft (s : State) : GenState := if readingAtMost s .boil 700 then .draining else .cooling

/-- The table of R82. -/
def steamGen (s : State) (wanted : Bool) : GenState → GenState
  | .empty => if wanted then fillBegins s else .empty
  | .filling => if wanted then .filling else waterIsLeft s
  | .heating => if wanted then .heating else waterIsLeft s
  | .ready => if wanted then .ready else waterIsLeft s
  | .cooling => if wanted then (if s.steam.levels.low then .heating else fillBegins s) else .cooling
  | .draining => .draining
  | .service => .service
  | .fault => .fault

/-- From the state `g` the generator has followed the steam that is wanted in `t` by R82: a fill that begins has its budget,
its valve time 0 and the INLET want (R83), a drain its times 0 and the DRAIN want (R92), and steam that stops being wanted
ends the fill (R85, R89). -/
def GeneratorFollows (g : GenState) (s t : State) : Prop :=
  t.steam.gen = steamGen s (steamWanted t) g
    ∧ (g ≠ .filling → t.steam.gen = .filling → t.steam.fill = some ⟨.cooking, 750, 0, false⟩ ∧ t.steam.inletWant = true)
    ∧ (g ≠ .draining → t.steam.gen = .draining → t.steam.drain = some ⟨0, 0⟩ ∧ t.steam.drainWant = true)
    ∧ (g = .filling ∨ g = .heating ∨ g = .ready → steamWanted t = false →
        t.steam.fill = none ∧ t.steam.inletWant = false ∧ t.steam.coolMs = 0)

/-- The state in which START and RUN_MANUAL find the generator: FAULT is left for what LOW shows (R93). -/
def genAtStart (s : State) : GenState :=
  if s.steam.gen = .fault then (if s.steam.levels.low then .cooling else .empty) else s.steam.gen

/-! ### The refusals of RUN_MANUAL -/

/-- What refuses RUN_MANUAL, with its detail, in the order of R137; before the freeze and outside IDLE and LOADED the
state (R116, R123). The detail for CALL and RETURN is the model's choice (log entry 45). -/
def manualRefusal (s : State) (record : List Byte) : Option (ResultCode × Nat) :=
  if frozen s = false ∨ (s.recipe.state ≠ .idle ∧ s.recipe.state ≠ .loaded) then some (.refusedState, 0)
  else
    match judgeRecord 0 record with
    | .refused detail => some (.refusedField, detail)
    | .taken (.call _ _) _ => some (.refusedField, 0)
    | .taken .ret _ => some (.refusedField, 0)
    | .taken (.heat h _) _ =>
      if h.branches ≠ [] then some (.refusedProgram, 1)
      else if descaleActive s.descale then some (.refusedState, 0)
      else if s.steam.acid then some (.refusedAcid, 0)
      else if s.superv.trip || !s.superv.relayClosed || s.superv.welded then some (.refusedTrip, 0)
      else none

/-! ### Contents of the bodies (R174, R175, R179) -/

/-- The number that the bytes `i` to `j` of a body carry, most significant byte first. -/
def bodyValue (body : List Byte) (i j : Nat) : Nat := bytesToNat ((body.drop i).take (j + 1 - i))

/-- The bits `hi` to `lo` of that number. -/
def bodyBits (body : List Byte) (i j hi lo : Nat) : Nat := bodyValue body i j / 2 ^ lo % 2 ^ (hi + 1 - lo)

/-- A flag as one bit. -/
def flagBit (b : Bool) : Nat := if b then 1 else 0

/-- The value that a channel shows, moved by an offset, or the code for an absent one. -/
def shownOr (s : State) (c : Channel) (offset : Int) (absent : Nat) : Nat :=
  ((reading s c).map fun v => (v + offset).toNat).getD absent

/-- The program states in the order of their codes (R174). -/
def progStates : List ProgState := [.idle, .loading, .loaded, .running, .paused, .prompting, .finished, .faulted]

/-- The generator codes 0 to 8; FAULT carries its kind (R174). -/
def generatorPlace (g : Steam) : Nat :=
  if g.gen = .fault then (if g.faultKind = some .drainFault then 8 else 7)
  else [GenState.empty, .filling, .heating, .ready, .cooling, .draining, .service].idxOf g.gen

/-- The withheld reasons in the order of their codes (R174). -/
def withheldReasons : List Withheld := [.none, .acid, .fault, .block, .lowWater, .inletWait]

/-- The descale codes 0 to 17: a rinse phase carries its rinse count (R174). -/
def descalePlace (d : Descale) : Nat :=
  [(Phase.off, 0), (.prep, 0), (.drainOut, 0), (.dose, 0), (.soakHeat, 0), (.soak, 0), (.acidDrain, 0), (.rinseFill, 1),
    (.rinseFill, 2), (.rinseFill, 3), (.rinseHeat, 1), (.rinseHeat, 2), (.rinseHeat, 3), (.rinseDrain, 1),
    (.rinseDrain, 2), (.rinseDrain, 3), (.complete, 0), (.holdAcid, 0)].idxOf
    (d.phase, if d.phase = .rinseFill ∨ d.phase = .rinseHeat ∨ d.phase = .rinseDrain then d.rinse else 0)

/-- The remaining time of the current stage, 131071 when absent. -/
def remainingOr (s : State) : Nat := (remainingSecs s.recipe).getD 131071

/-- A channel's entry in the excursion list: 1 to 3 its low side with NOTE, CUT or TRIP, 4 to 6 its high side (R179). -/
def excursionPlace (v : Superv) (c : Channel) : Nat :=
  if (v.low.get c).inProgress then 1 + [Consequence.note, .cut, .trip].idxOf (v.low.get c).cons
  else if (v.high.get c).inProgress then 4 + [Consequence.note, .cut, .trip].idxOf (v.high.get c).cons
  else 0

/-- The values that a STATUS or a READING carries lie in their ranges: the readings (R140), indices, tag and prompt code
(R116, R117), the rinse count (R101), S (R97), holds (R35), groups (R168) and the count of trip origins (R58). -/
def ReportFits (s : State) : Prop :=
  (∀ c v, reading s c = some v → (channelRange c).1 ≤ v ∧ v ≤ (channelRange c).2)
    ∧ s.recipe.cur ≤ 24 ∧ noticeTag s.recipe ≤ 65535 ∧ s.recipe.prompt ≤ 251 ∧ remainingOr s ≤ 131071
    ∧ (s.descale.phase = .rinseFill ∨ s.descale.phase = .rinseHeat ∨ s.descale.phase = .rinseDrain →
        1 ≤ s.descale.rinse ∧ s.descale.rinse ≤ 3)
    ∧ s.steam.scale ≤ 65535 ∧ s.share.holds.power ≤ 1100 ∧ s.share.holds.inlet ≤ 1 ∧ s.share.holds.drain ≤ 1
    ∧ s.startup.supply.circuitGroup ≤ 3 ∧ s.startup.supply.waterGroup ≤ 3 ∧ s.share.tripSet.length ≤ 15

/-- A STATUS body as R175 lays it out. -/
def StatusLaid (s : State) (b : List Byte) : Prop :=
  b.length = 7
    ∧ bodyBits b 0 0 7 4 = s.startup.supply.circuitGroup ∧ bodyBits b 0 0 3 0 = s.startup.supply.waterGroup
    ∧ bodyBits b 1 2 15 15 = s.share.holds.inlet ∧ bodyBits b 1 2 14 14 = s.share.holds.drain
    ∧ bodyBits b 1 2 13 13 = flagBit (ownBelowFloor s) ∧ bodyBits b 1 2 12 12 = flagBit s.share.leakWet
    ∧ bodyBits b 1 2 11 11 = flagBit (decide (s.share.link = .joining)) ∧ bodyBits b 1 2 10 0 = s.share.holds.power
    ∧ bodyBits b 3 3 7 5 = progStates.idxOf s.recipe.state ∧ bodyBits b 3 3 4 0 = s.recipe.cur
    ∧ bodyBits b 4 6 23 19 = descalePlace s.descale ∧ bodyBits b 4 6 16 0 = remainingOr s

/-- A READING body as R179 lays it out. -/
def ReadingLaid (s : State) (b : List Byte) : Prop :=
  b.length = 24
    ∧ bodyBits b 0 2 23 12 = shownOr s .cav 0 4095
    ∧ bodyBits b 0 2 11 0 = (if s.recipe.probePresent then shownOr s .core 0 4095 else 4095)
    ∧ bodyBits b 3 5 23 12 = shownOr s .boil 0 4095 ∧ bodyBits b 3 5 11 0 = shownOr s .board 400 4095
    ∧ bodyBits b 6 7 15 9 = shownOr s .moist 0 127
    ∧ (∀ v, reading s .mains = some v → bodyBits b 6 7 8 0 = v.toNat)
    ∧ bodyBits b 8 8 7 5 = progStates.idxOf s.recipe.state ∧ bodyBits b 8 8 4 0 = s.recipe.cur
    ∧ bodyValue b 9 10 = noticeTag s.recipe ∧ bodyValue b 11 11 = s.recipe.prompt
    ∧ bodyBits b 12 14 23 19 = descalePlace s.descale
    ∧ bodyBits b 12 14 18 17 = [ScaleLevel.none, .due, .derate, .block].idxOf (levelNow s)
    ∧ bodyBits b 12 14 16 0 = remainingOr s ∧ bodyValue b 15 16 = s.steam.scale
    ∧ bodyBits b 17 18 15 15 = s.share.holds.inlet ∧ bodyBits b 17 18 14 14 = s.share.holds.drain
    ∧ bodyBits b 17 18 13 12 = [LinkState.joining, .member, .isolated].idxOf s.share.link
    ∧ bodyBits b 17 18 11 11 = flagBit s.share.leakWet ∧ bodyBits b 17 18 10 0 = s.share.holds.power
    ∧ bodyBits b 19 19 7 4 = generatorPlace s.steam
    ∧ bodyBits b 19 19 3 1 = withheldReasons.idxOf (withheldReason s) ∧ bodyBits b 19 19 0 0 = flagBit s.steam.acid
    ∧ bodyBits b 20 20 7 4 = s.share.tripSet.length ∧ bodyBits b 20 20 3 3 = flagBit s.superv.welded
    ∧ bodyBits b 20 20 2 2 = flagBit s.superv.configFault ∧ bodyBits b 20 20 1 1 = flagBit s.line.numberClash
    ∧ (bodyBits b 20 20 0 0 = 1 ↔ ∃ tenths, s.power.freq = .mainsFault tenths)
    ∧ bodyBits b 21 23 23 21 = excursionPlace s.superv .cav ∧ bodyBits b 21 23 20 18 = excursionPlace s.superv .core
    ∧ bodyBits b 21 23 17 15 = excursionPlace s.superv .boil ∧ bodyBits b 21 23 14 12 = excursionPlace s.superv .moist
    ∧ bodyBits b 21 23 11 9 = excursionPlace s.superv .mains ∧ bodyBits b 21 23 8 6 = excursionPlace s.superv .board
    ∧ bodyBits b 21 23 5 5 = flagBit s.superv.fixed.inProgress ∧ bodyBits b 21 23 4 4 = flagBit s.superv.relayClosed
    ∧ bodyBits b 21 23 3 3 = flagBit s.superv.feedbackClosed ∧ bodyBits b 21 23 2 2 = flagBit s.superv.trip
    ∧ bodyBits b 21 23 1 1 = flagBit s.climate.doorOpen ∧ bodyBits b 21 23 0 0 = flagBit s.recipe.probePresent

/-- The command kinds in the order of R156. -/
def cmdKinds : List CmdKind :=
  [.query, .loadOpen, .stage, .start, .pause, .resume, .abort, .answer, .finishAck, .runManual, .descaleStart,
    .descaleConfirm, .relayRestore, .restart, .setup]

/-- The result codes in their order (R174). -/
def resultCodes : List ResultCode :=
  [.accepted, .acceptedClamped, .refusedState, .refusedField, .refusedOrder, .refusedProgram, .refusedAcid, .refusedTrip,
    .refusedFrozen, .refusedConfig]

/-- The notice codes in the order of R161. -/
def noticeCodes : List NoticeCode :=
  [.stageBegin, .prompt, .programFinished, .programAborted, .programFault, .loadTimeout, .steamWithheld, .descaleDue,
    .descalePhase, .descaleComplete, .waitingForPool, .supplyStarved, .channelExcursion, .relayFault, .waterTrip,
    .lineIsolated, .lineRestored, .lineLost, .numberClash, .configDefaults]

/-- The numbers that a queued frame carries fit their bytes; those of a STATUS or a READING are the state's. -/
def FrameFits (s : State) : TxFrame → Prop
  | .trip origin group => origin ≤ 255 ∧ group ≤ 255
  | .tripClear origin group => origin ≤ 255 ∧ group ≤ 255
  | .lower _ group hold => group ≤ 255 ∧ hold ≤ 65535
  | .yields group need => group ≤ 255 ∧ need ≤ 65535
  | .raise _ group hold => group ≤ 255 ∧ hold ≤ 65535
  | .result _ _ detail => detail ≤ 65535
  | .notice _ tag index detail => tag ≤ 65535 ∧ index ≤ 255 ∧ detail ≤ 65535
  | .reading => ReportFits s
  | .status => ReportFits s

/-- The body of each frame that the part sends, as R175 and R179 lay it out; trip type 0 means WATER. -/
def FrameLaid (s : State) (b : List Byte) : TxFrame → Prop
  | .trip origin group => b.length = 3 ∧ bodyValue b 0 0 = 0 ∧ bodyValue b 1 1 = origin ∧ bodyValue b 2 2 = group
  | .tripClear origin group => b.length = 3 ∧ bodyValue b 0 0 = 0 ∧ bodyValue b 1 1 = origin ∧ bodyValue b 2 2 = group
  | .lower _ group hold => b.length = 3 ∧ bodyValue b 0 0 = group ∧ bodyValue b 1 2 = hold
  | .yields group need => b.length = 3 ∧ bodyValue b 0 0 = group ∧ bodyValue b 1 2 = need
  | .raise _ group hold => b.length = 3 ∧ bodyValue b 0 0 = group ∧ bodyValue b 1 2 = hold
  | .result kind code detail =>
    b.length = 4 ∧ bodyValue b 0 0 = cmdKinds.idxOf kind ∧ bodyValue b 1 1 = resultCodes.idxOf code
      ∧ bodyValue b 2 3 = detail
  | .notice code tag index detail =>
    b.length = 6 ∧ bodyValue b 0 0 = noticeCodes.idxOf code ∧ bodyValue b 1 2 = tag ∧ bodyValue b 3 3 = index
      ∧ bodyValue b 4 5 = detail
  | .reading => ReadingLaid s b
  | .status => StatusLaid s b

/-- The body of the frame that stands in the send buffer, between the length byte and the check field (R63). -/
def sentBody (t : State) : List Byte := (t.line.txBytes.drop 3).take (t.line.txBytes.length - 5)

/-- The kind of a command of the partner panel (R156). -/
def panelKind : Instr → Option CmdKind
  | .query => some .query
  | .loadOpen _ _ => some .loadOpen
  | .stage _ _ => some .stage
  | .start => some .start
  | .pause => some .pause
  | .resume => some .resume
  | .abort => some .abort
  | .answer _ _ => some .answer
  | .finishAck => some .finishAck
  | .runManual _ => some .runManual
  | .descaleStart => some .descaleStart
  | .descaleConfirm => some .descaleConfirm
  | .relayRestore => some .relayRestore
  | .restart => some .restart
  | .setupSupply _ => some .setup
  | .setupChannel _ _ => some .setup
  | .setupEnd _ => some .setup
  | _ => none

/-- The rows of a received frame: the frames of the line, and the commands of the partner panel. -/
def receivesFrame : Instr → Bool
  | .raiseReceived _ _ _ _ _ => true
  | .lowerReceived _ _ _ _ _ => true
  | .yieldReceived _ _ _ => true
  | .statusReceived _ _ _ => true
  | .tripReceived _ _ _ _ => true
  | .tripClearReceived _ _ _ _ => true
  | .partnerVeto _ => true
  | .wellFormedFrameNotTaken _ => true
  | .ownNumberFrame _ _ => true
  | .malformedFrame _ => true
  | c => (panelKind c).isSome

/-! ### Time on an empty queue (log entry 2)

Ten milliseconds pass, and what has then reached the figure of its rule falls due. -/

/-- Ten milliseconds more while a timer runs. -/
def later (runs : Bool) (ms : Nat) : Nat := if runs then ms + 10 else ms

/-- Ten milliseconds more while a condition lasts, and none while it does not: the count begins again (R15, R57, R79). -/
def laterWhile (lasts : Bool) (ms : Nat) : Nat := if lasts then ms + 10 else 0

/-- A debounce runs in PENDING and in RECOVERING (R144); with CORE showing its probe absent none runs (R145). -/
def sideLater (counts : Bool) (r : SideRec) : SideRec :=
  { r with ms := later (counts && (decide (r.state = .pending) || decide (r.state = .recovering))) r.ms }

/-- The debounces of the LOW or the HIGH sides. -/
def sidesLater (s : State) (p : PerChannel SideRec) : PerChannel SideRec :=
  ⟨sideLater true p.cav, sideLater (!s.superv.readings.core.cond.showsAbsent) p.core, sideLater true p.boil,
    sideLater true p.moist, sideLater true p.mains, sideLater true p.board⟩

/-- The 2 s hold of an input that is not readable (R141). -/
def readingLater (r : Reading) : Reading := { r with holdMs := later r.holding r.holdMs }

/-- A change of an electrode that lasts (R79). -/
def levelLater (s : State) (e : Electrode) : Nat :=
  laterWhile (decide (s.steam.levelInputs.get e ≠ s.steam.levels.get e)) (s.steam.levelMs.get e)

/-- The machine with ten milliseconds more on every timer that runs, and every other count as its rule leaves it. -/
def tenMsLater (s : State) : State :=
  { s with
    startup := { s.startup with
      windowMs  := later (decide (s.startup.setup = .opened)) s.startup.windowMs
      restartMs := later s.startup.restarting s.startup.restartMs }
    climate := { s.climate with
      doorMs   := laterWhile (decide (s.climate.doorInputOpen ≠ s.climate.doorOpen)) s.climate.doorMs
      sampleMs := later (frozen s && !s.startup.restarting) s.climate.sampleMs }
    power := { s.power with
      freqMs       := later (decide (s.power.freq = .undecided)) s.power.freqMs
      sinceCrossUs := s.power.sinceCrossUs + 10000
      starveMs     := s.power.starveMs.map (· + 10) }
    share := { s.share with
      table        := s.share.table.map fun e => { e with heardMs := e.heardMs + 10 }
      joinMs       := s.share.joinMs.map (· + 10)
      sinceOwnMs   := s.share.sinceOwnMs.map (· + 10)
      isolatedMs   := later (decide (s.share.link = .isolated)) s.share.isolatedMs
      backoffMs    := s.share.backoffMs.map (· + 10)
      sinceYieldMs := s.share.sinceYieldMs.map (· + 10)
      leakMs       := laterWhile (decide (s.share.leakInputWet ≠ s.share.leakWet)) s.share.leakMs
      statusMs     := later (frozen s) s.share.statusMs
      retryMs      := laterWhile
        ((s.steam.inletWant && decide (s.share.holds.inlet = 0)) || (s.steam.drainWant && decide (s.share.holds.drain = 0)))
        s.share.retryMs }
    steam := { s.steam with
      levelMs := ⟨levelLater s .low, levelLater s .work, levelLater s .high⟩
      fill    := s.steam.fill.map fun f => { f with valveMs := later s.power.base.fill f.valveMs }
      drain   := s.steam.drain.map fun d =>
        ⟨later s.power.base.pump d.pumpMs, later (s.power.base.pump && !s.steam.levels.low) d.dryMs⟩
      coolMs  := later (decide (s.steam.gen = .cooling) && !s.startup.restarting) s.steam.coolMs }
    descale := { s.descale with
      prepMs := later (decide (s.descale.phase = .prep) && !s.startup.restarting) s.descale.prepMs
      soakMs := later (decide (s.descale.phase = .soak) && readingAtLeast s .boil 650 && !s.startup.restarting)
        s.descale.soakMs
      lowMs  := laterWhile ((heatingPhase s.descale || decide (s.descale.phase = .soak)) && !s.steam.levels.low
        && !s.startup.restarting) s.descale.lowMs
      waitMs := laterWhile (waitingPool s).isSome s.descale.waitMs }
    recipe := { s.recipe with
      elapsedMs  := later (timerRuns s) s.recipe.elapsedMs
      probeMs    := laterWhile (decide (s.recipe.probeShows ≠ s.recipe.probePresent)) s.recipe.probeMs
      withheldMs := laterWhile (withheldWatched s) s.recipe.withheldMs
      gapMs      := later (decide (s.recipe.state = .loading)) s.recipe.gapMs }
    superv := { s.superv with
      readings   := ⟨readingLater s.superv.readings.cav, readingLater s.superv.readings.core,
        readingLater s.superv.readings.boil, readingLater s.superv.readings.moist, readingLater s.superv.readings.mains,
        readingLater s.superv.readings.board⟩
      low        := sidesLater s s.superv.low
      high       := sidesLater s s.superv.high
      fixed      := sideLater true s.superv.fixed
      mismatchMs := laterWhile (decide (s.superv.relayClosed ≠ s.superv.feedbackClosed)) s.superv.mismatchMs
      checkMs    := later (frozen s && !s.superv.configFault) s.superv.checkMs } }

/-- A row whose moment has come, if it has. -/
def moment (due : Bool) (c : Instr) : List Instr := if due then [c] else []

/-- Setup window (R167), re-initialisation (R160), climate sample (R5) and door (R15). -/
def startMoments (s : State) : List Instr :=
  moment (decide (s.startup.setup = .opened ∧ 10000 ≤ s.startup.windowMs)) .setupWindowExpiry
    ++ moment (decide (s.startup.restarting = true ∧ sendingFrame s = none
        ∧ (s.startup.restartLowers = PerPool.all false ∨ 1000 ≤ s.startup.restartMs))) .reInitialisation
    ++ moment (decide (frozen s = true ∧ s.startup.restarting = false ∧ 1000 ≤ s.climate.sampleMs)) .climateSample
    ++ moment (decide (s.climate.doorInputOpen = true ∧ s.climate.doorOpen = false ∧ 50 ≤ s.climate.doorMs)) .doorOpens
    ++ moment (decide (s.climate.doorInputOpen = false ∧ s.climate.doorOpen = true ∧ 50 ≤ s.climate.doorMs)) .doorCloses

/-- Frequency (R21), missed crossings (R22) and starvation (R34). -/
def powerMoments (s : State) : List Instr :=
  moment (decide (s.power.freq = .undecided ∧ 10000 ≤ s.power.freqMs)) .frequencyTimeout
    ++ moment (s.power.inFrame
        && s.power.halfPeriodUs.any fun h => decide (h + h / 4 + s.power.misses * h ≤ s.power.sinceCrossUs)) .missedCrossing
    ++ moment (s.power.starveMs.any fun ms => decide (60000 ≤ ms)) .supplyStarved

/-- A silent neighbour: 3.5 s to EXPIRED and 65 s to its removal (R52). -/
def entryMoment (e : Entry) : List Instr :=
  if 65000 ≤ e.heardMs then [.entryRemoved (BitVec.ofNat 4 e.station)]
  else moment (decide (3500 ≤ e.heardMs ∧ e.expired = false)) (.entryExpired (BitVec.ofNat 4 e.station))

/-- Water raises (R43), STATUS (R48), neighbours (R52), link state (R53, R54, R56), back-off (R51) and leak (R57). -/
def shareMoments (s : State) : List Instr :=
  moment (decide (1000 ≤ s.share.retryMs)) .waterRaiseRetry
    ++ moment (decide (frozen s = true ∧ 1000 ≤ s.share.statusMs)) .statusPeriod
    ++ s.share.table.flatMap entryMoment
    ++ moment (decide (s.share.link ≠ .isolated) && s.share.sinceOwnMs.any fun ms => decide (2000 ≤ ms)) .lineIsolated
    ++ moment (decide (s.share.link = .isolated ∧ s.share.lost = false ∧ 60000 ≤ s.share.isolatedMs)) .lineLost
    ++ moment (decide (s.share.link = .joining) && s.share.joinMs.any fun ms => decide (3500 ≤ ms)) .joinWindowEnd
    ++ moment (s.share.backoffMs.any fun ms => decide (5000 ≤ ms)) .yieldBackoffEnd
    ++ moment (decide (unnumbered s = false ∧ s.share.leakInputWet = true ∧ s.share.leakWet = false
        ∧ 2000 ≤ s.share.leakMs)) .leakWet
    ++ moment (decide (unnumbered s = false ∧ s.share.leakInputWet = false ∧ s.share.leakWet = true
        ∧ 30000 ≤ s.share.leakMs)) .leakDry

/-- An electrode's reading changes when its electrode has shown the other level for 1 s (R79). -/
def levelMoment (s : State) (e : Electrode) : List Instr :=
  moment (decide (s.steam.levelInputs.get e ≠ s.steam.levels.get e ∧ 1000 ≤ s.steam.levelMs.get e))
    (.levelReadingChange e)

/-- The valve limit of 180 s acts while the valve output is driven: always in a service request (R95), and otherwise
while neither WORK nor HIGH reads WET (R85, R89). -/
def valveLimitActs (s : State) (f : Fill) : Bool :=
  decide (180000 ≤ f.valveMs) && s.power.base.fill
    && (decide (f.kind = .service) || !(s.steam.levels.work || s.steam.levels.high))

/-- Levels (R79), valve limit (R85), cooling (R91), dry time and pump limit (R92). -/
def steamMoments (s : State) : List Instr :=
  levelMoment s .low ++ levelMoment s .work ++ levelMoment s .high
    ++ moment (s.steam.fill.any (valveLimitActs s)) .valveTimeLimit
    ++ moment (decide (s.steam.gen = .cooling ∧ s.startup.restarting = false ∧ 1200000 ≤ s.steam.coolMs))
        .coolingTimerExpiry
    ++ moment (s.power.base.pump && !s.steam.levels.low && s.steam.drain.any fun d => decide (30000 ≤ d.dryMs))
        .drainDryTimeEnd
    ++ moment (s.power.base.pump && s.steam.drain.any fun d => decide (240000 ≤ d.pumpMs)) .pumpTimeLimit

/-- A channel that has not been readable for 2 s fails (R141). -/
def failMoment (s : State) (c : Channel) : List Instr :=
  moment (decide ((s.superv.readings.get c).holding = true ∧ 2000 ≤ (s.superv.readings.get c).holdMs)) (.channelFailed c)

/-- A side's debounce of `ms` starts its excursion from PENDING and ends it from RECOVERING (R144, R146, R147); an
excursion of CORE does not end while CORE shows its probe absent (R145). -/
def sideMoments (s : State) (c : Channel) (d : Side) (ms : Nat) : List Instr :=
  let r := sideRec s.superv c d
  moment (decide (r.state = .pending ∧ ms ≤ r.ms)) (.excursionStart c d)
    ++ moment (decide (r.state = .recovering ∧ (s.superv.readings.get c).cond.showsAbsent = false ∧ ms ≤ r.ms)) (.excursionEnd c d)

/-- The LOW and HIGH sides of a channel, with the debounces of its record (R143). -/
def channelMoments (s : State) (c : Channel) : List Instr :=
  sideMoments s c .low (debounceMs (s.startup.channels.get c).lowCode)
    ++ sideMoments s c .high (debounceMs (s.startup.channels.get c).highCode)

/-- Channels (R141, R144), the fixed cavity limit with its debounce of 1 s (R149), the relay's 200 ms (R150, R151) and the
check of every 10 s (R153). -/
def supervMoments (s : State) : List Instr :=
  [Channel.cav, .core, .boil, .moist, .mains, .board].flatMap (failMoment s)
    ++ [Channel.cav, .core, .boil, .moist, .mains, .board].flatMap (channelMoments s)
    ++ sideMoments s .cav .fixed 1000
    ++ moment (decide (s.superv.relayClosed = true ∧ s.superv.feedbackClosed = false ∧ 200 ≤ s.superv.mismatchMs))
        .relayOpenFault
    ++ moment (decide (s.superv.relayClosed = false ∧ s.superv.feedbackClosed = true ∧ s.superv.welded = false
        ∧ 200 ≤ s.superv.mismatchMs)) .relayWelded
    ++ moment (decide (frozen s = true ∧ s.superv.configFault = false ∧ 10000 ≤ s.superv.checkMs)) .configCheck

/-- PREP (R103), the heat clock at 15 min of half-cycles and a dry LOW (R106, R107), SOAK (R107) and a wait for a pool
(R110). -/
def descaleMoments (s : State) : List Instr :=
  moment (decide (s.descale.phase = .prep ∧ s.startup.restarting = false ∧ 1800000 ≤ s.descale.prepMs)) .prepTimeout
    ++ moment (decide (heatingPhase s.descale = true ∧ s.startup.restarting = false
        ∧ ((s.power.freq = .hz50 ∧ 90000 ≤ s.descale.heatClock) ∨ (s.power.freq = .hz60 ∧ 108000 ≤ s.descale.heatClock))))
        .heatLimit
    ++ moment (decide ((heatingPhase s.descale = true ∨ s.descale.phase = .soak) ∧ s.steam.levels.low = false
        ∧ s.startup.restarting = false ∧ 60000 ≤ s.descale.lowMs)) .descaleLowWater
    ++ moment (decide (s.descale.phase = .soak ∧ readingAtLeast s .boil 650 = true ∧ s.startup.restarting = false
        ∧ 1200000 ≤ s.descale.soakMs)) .soakTimerEnd
    ++ moment (decide ((waitingPool s).isSome = true ∧ s.descale.waitNoted = false ∧ 600000 ≤ s.descale.waitMs))
        .waitingForPool

/-- A stage whose timer runs has reached its duration (R129, R132). -/
def durationRun (s : State) (h : HeatStage) : Bool :=
  timerRuns s && h.duration.any fun d => decide (1000 * d ≤ s.recipe.elapsedMs)

/-- A stage that ends on its duration: TIME, EITHER, and CORE with its probe gone (R129, R130). -/
def endsByTime (s : State) (h : HeatStage) : Bool :=
  decide (h.endKind = .time ∨ h.endKind = .either ∨ (h.endKind = .core ∧ s.recipe.probePresent = false))

/-- Load gap (R122), stage and prompt durations (R129, R132), probe state (R127) and withheld steam (R138). -/
def recipeMoments (s : State) : List Instr :=
  moment (decide (s.recipe.state = .loading ∧ 10000 ≤ s.recipe.gapMs)) .loadTimeout
    ++ moment (decide (s.recipe.state = .running)
        && (currentHeat s.recipe).any fun h => durationRun s h && endsByTime s h) .stageTimeEnd
    ++ moment (decide (s.recipe.state = .prompting)
        && (currentHeat s.recipe).any fun h => durationRun s h && decide (h.endKind = .prompt)) .promptTimeout
    ++ moment (decide (s.recipe.probeShows ≠ s.recipe.probePresent ∧ 2000 ≤ s.recipe.probeMs)) .probeStateChange
    ++ moment (withheldWatched s && decide (5000 ≤ s.recipe.withheldMs)) .steamWithheld

/-- The rows that fall due in a state, with the figures of their rules. -/
def dueRows (s : State) : List Instr :=
  startMoments s ++ powerMoments s ++ shareMoments s ++ steamMoments s ++ supervMoments s ++ descaleMoments s
    ++ recipeMoments s

/-! ### Invariants -/

/-- The transmit queue is in order of class, the lowest first (R75). -/
def QueueSorted (q : List QEntry) : Prop := q.Pairwise fun a b => a.frame.cls ≤ b.frame.cls

/-- The queue (R75, R76): in order of class, at most 8 frames, at most one frame being sent, at most 5 REPORTs, and at
most one waiting frame of each sort; a waiting LOWER and a waiting RAISE of one pool exclude each other. -/
def QueueInv (s : State) : Prop :=
  QueueSorted s.line.queue
    ∧ s.line.queue.length ≤ queueLimit
    ∧ s.line.queue.countP (·.sending) ≤ 1
    ∧ s.line.queue.countP (·.frame.isReport) ≤ reportLimit
    ∧ s.line.queue.countP (fun e => !e.sending && e.frame.isSafety) ≤ 1
    ∧ s.line.queue.countP (fun e => !e.sending && e.frame.isYield) ≤ 1
    ∧ s.line.queue.countP (fun e => !e.sending && e.frame.isStatus) ≤ 1
    ∧ ∀ p, s.line.queue.countP (fun e => !e.sending && (e.frame.isLower p || e.frame.isRaise p)) ≤ 1

/-- The ranges of the demands (R8, R9, R12, R88): the integrator stays within -20 to +20, the cavity elements share one
total of at most 20, and the steam and BOILER demands are at most 20; the element order names no element twice, as none of
the orders of R1 does (R1, R4). -/
def DemandInv (s : State) : Prop :=
  -20 ≤ s.climate.integ ∧ s.climate.integ ≤ 20
    ∧ s.climate.demTop + s.climate.demBottom + s.climate.demRing ≤ 20
    ∧ s.climate.steamDemand ≤ 20 ∧ s.steam.boilerDemand ≤ 20
    ∧ (∀ t d, s.steam.request = .hold t d → d ≤ 20) ∧ s.climate.order.Nodup

/-- The ranges of the Recipe Engine (R116, R120, R125): at most 24 stages, the current and the last HEAT stage among
them, a return stack of at most 2; a session of 1 to 24 stages in which what is stored and what remains make up the
count; a PAUSED program was RUNNING or PROMPTING (R133); and before the freeze the state is IDLE with nothing stored. -/
def RecipeInv (s : State) : Prop :=
  s.recipe.store.length ≤ 24 ∧ s.recipe.cur ≤ 24 ∧ s.recipe.lastHeat ≤ 24 ∧ s.recipe.stack.length ≤ 2
    ∧ (s.recipe.state = .loading →
        1 ≤ s.recipe.remaining ∧ s.recipe.store.length + s.recipe.remaining = s.recipe.count ∧ s.recipe.count ≤ 24)
    ∧ (s.recipe.state = .paused → s.recipe.pausedFrom = .running ∨ s.recipe.pausedFrom = .prompting)
    ∧ (frozen s = false → s.recipe.state = .idle ∧ s.recipe.store = [])

/-- The share table has one entry per station number of 1 to 15, in rising order, and none for the station itself (R36);
the water trip set is in rising order and holds station numbers of 1 to 15 (R58); the straps give four bits each (R166).
-/
def ShareInv (s : State) : Prop :=
  s.startup.station ≤ 15 ∧ s.startup.partner ≤ 15
    ∧ (s.share.table.map (·.station)).Pairwise (· < ·)
    ∧ (∀ e ∈ s.share.table, e.station ≠ s.startup.station ∧ 1 ≤ e.station ∧ e.station ≤ 15)
    ∧ s.share.tripSet.Pairwise (· < ·)
    ∧ ∀ n ∈ s.share.tripSet, 1 ≤ n ∧ n ≤ 15

/-- The value that a RAISE of a pool asks for. -/
def TxFrame.raiseValue (p : Pool) : TxFrame → Option Nat
  | .raise q _ v => if q = p then some v else none
  | _ => none

/-- No own hold, and no hold asked for in a RAISE, is above the capacity that the others' charges leave (R37, R39, R43,
R50); before the freeze every own hold is 0 and no RAISE is queued (R78). -/
def ShareWithinCapacity (s : State) : Prop :=
  (∀ p, s.share.holds.get p ≤ poolCapacity s.startup.supply p - othersCharges s p)
    ∧ (∀ p, ∀ e ∈ s.line.queue, ∀ v, e.frame.raiseValue p = some v →
        v ≤ poolCapacity s.startup.supply p - othersCharges s p)
    ∧ (frozen s = false → s.share.holds = PerPool.all 0 ∧ ∀ p, raiseQueued p s = false)

/-- Some base actuator runs. -/
def baseRuns (p : Power) : Bool := p.base.fan || p.base.vent || p.base.fill || p.base.pump

/-- The base load that a frame carries (R25). -/
def carriedLoad (s : State) : Nat := if s.power.carriesBase then s.startup.supply.baseLoad else 0

/-- The law of R27: in every half-cycle the base load that is carried and the corrected ratings of the elements that are
on stay within the own POWER hold. A hold that has fallen since the last crossing is kept in `holdFall`, and reaches the
elements at the next one (R31); the base actuators stop at once (R25). The other lines are what the law needs: a laid
frame has 20 slots and places no element but those of its placement order, no queued RAISE asks for less than the hold
and there is one of POWER at most (R39, R76), and before the freeze nothing runs. -/
def PowerInv (s : State) : Prop :=
  (s.power.inFrame = true → s.power.holdFall = none →
      slotLoad s.power.corrected s.power.gates + carriedLoad s ≤ s.share.holds.power
        ∧ ∀ x ∈ s.power.layout.drop s.power.slot, slotLoad s.power.corrected x + carriedLoad s ≤ s.share.holds.power)
    ∧ (∀ v, s.power.holdFall = some v → v ≤ s.share.holds.power ∧ s.power.inFrame = true)
    ∧ (s.power.carriesBase = true → s.power.inFrame = true ∧ s.startup.supply.baseLoad ≤ s.share.holds.power
        ∧ ∀ v, s.power.holdFall = some v → s.startup.supply.baseLoad ≤ v)
    ∧ (baseRuns s.power = true → s.startup.supply.baseLoad ≤ s.share.holds.power
        ∧ (s.power.inFrame = true → s.power.carriesBase = true))
    ∧ (s.power.inFrame = false → s.power.gates = PerElement.all false)
    ∧ (s.power.inFrame = true → s.power.layout.length = frameSlots ∧ s.power.slot < frameSlots)
    ∧ (∀ x ∈ s.power.layout, ∀ e, x.get e = true → e ∈ s.power.frameOrder)
    ∧ (∀ e ∈ s.line.queue, ∀ v, e.frame.raiseValue .power = some v → s.share.holds.power ≤ v)
    ∧ s.line.queue.countP (·.frame.isRaise .power) ≤ 1
    ∧ (frozen s = false → s.power.inFrame = false ∧ baseRuns s.power = false)

/-- A CONFIG_FAULT is taken with the TRIP latch, and no RELAY_RESTORE is judged while it is held (R153, R155). -/
def FaultInv (s : State) : Prop := s.superv.configFault = true → s.superv.trip = true

/-- The scale counts (R97, R98, R100): S is held at 65535 and the sub-count runs to 49, also in the service record and in
the record that is being written. -/
def ScaleInv (s : State) : Prop :=
  s.steam.scale ≤ 65535 ∧ s.steam.sub ≤ 49 ∧ s.steam.record.scale ≤ 65535 ∧ s.steam.record.sub ≤ 49
    ∧ ∀ r ∈ s.steam.writing, r.scale ≤ 65535 ∧ r.sub ≤ 49

/-- A BOILER demand under the limits of R88, in their order: 0 under the low-water lock and without a valid BOIL reading,
at most 15 at DERATE and BLOCK. Before the freeze and during a restart there is none (R80). -/
def boilerLimited (s : State) (d : Nat) : Nat :=
  if s.startup.restarting ∨ frozen s = false ∨ s.steam.lock ∨ reading s .boil = none then 0
  else if levelNow s = .derate ∨ levelNow s = .block then min 15 d
  else d

/-- The steam demand that is served in READY: none while steam is withheld (R87, R96). -/
def servedInReady (s : State) : Nat :=
  if s.steam.acid ∨ levelNow s = .block ∨ s.steam.lock then 0 else s.climate.steamDemand

/-- The BOILER demand by state and service request, before the limits of R88 (R80, R86, R87, R95). -/
def boilerCalled (s : State) : Nat :=
  match s.steam.gen, s.steam.request with
  | .heating, _ => 20
  | .ready, _ => max (servedInReady s) (if readingAtLeast s .boil 950 then 0 else 2)
  | .service, .heat _ => if s.steam.levels.low then 20 else 0
  | .service, .hold t v => if s.steam.levels.low && !readingAtLeast s .boil t then v else 0
  | _, _ => 0

/-- The four outputs of the generator are what the rules give for its state: the steam gate (R87), the BOILER demand (R80,
R86 to R88, R95), the valve request (R83) and the pump request (R92). -/
def SteamOutputs (s : State) : Prop :=
  (s.steam.gate = true ↔ s.steam.gen = .ready ∧ 0 < servedInReady s ∧ s.startup.restarting = false)
    ∧ s.steam.boilerDemand = boilerLimited s (boilerCalled s)
    ∧ (s.steam.fillReq = true ↔ s.steam.fill.isSome = true ∧ s.share.holds.inlet = 1 ∧ s.share.tripSet = []
        ∧ s.share.link ≠ .isolated ∧ s.steam.levels.high = false ∧ s.startup.restarting = false)
    ∧ (s.steam.pumpReq = true ↔ s.steam.drain.isSome = true ∧ s.share.holds.drain = 1 ∧ s.startup.restarting = false)

/-- Everything that every step keeps. -/
def Inv (s : State) : Prop :=
  QueueInv s ∧ DemandInv s ∧ RecipeInv s ∧ ShareInv s ∧ ShareWithinCapacity s ∧ PowerInv s ∧ FaultInv s
    ∧ ScaleInv s ∧ SteamOutputs s

/-- The conditions under which a climate sample runs the loops (R18): the door CLOSED, no CUT in force and the relay
commanded closed. -/
def LoopsRun (s : State) : Prop :=
  frozen s = true ∧ s.startup.restarting = false ∧ s.climate.doorOpen = false ∧ cutInForce s.superv = false
    ∧ s.superv.relayClosed = true

end Sys2Proof.Machine
end

