-- ==== Sys2Proof/Certificates/Slice0/Obligations.lean ====
section
/-!
DEFINITION. The statements for the provers: what the commands of each family do and leave alone, what every step keeps,
and the whole-machine rules of the handbook.
-/
open Sys2Proof Sys2Proof.Machine

/-! ### The machine -/

/-- A step takes the command at the front of the queue and runs it on the queue's rest. -/
def Obligations.StepTakesFrontCommand : Prop :=
  ∀ (c : Instr) (rest : List Instr) (s : State),
    step (s.setPending (c :: rest)) = exec c (s.setPending rest)

/-- Every command, in every state, ends in a next state; it neither takes nor adds a waiting command, and neither does
an idle step. R5, R15, R22, R43, R48, R51, R52, R57, R79, R85, R92, R103, R129, R141, R150, R160, R167: in an idle step
ten milliseconds pass on every timer that runs. Where no timer then stands at the figure of its rule, nothing follows
but the start of the frame at the head of the queue; where one row falls due and none with its effect, that row has its
effect first, at its figure and not before. That an idle step is a tick of 10 ms of the block's own time is the model's
choice (log entry 2), and so is the one count of 1 s that serves the waiting wants of both water pools (log entry 39);
that no leak reading falls due in an UNNUMBERED part is read from R166 (log entry 36), and that a RELAY_WELDED fault
which is held falls due no second time is the model's choice (log entry 59). So is it that the cooling timer neither
runs nor falls due while a RESTART is in progress (log entry 54), and that the 60 s of a dry LOW count within a heating
phase or SOAK alone (log entry 41). -/
def Obligations.EveryCommandCompletes : Prop :=
  (∀ (c : Instr) (s : State), ∃ t, exec c s = .next t ∧ t.pending = s.pending)
    ∧ (∀ s : State, s.pending = [] → ∃ t, step s = .next t ∧ t.pending = [])
    ∧ (∀ s : State, s.pending = [] → ShareInv s → dueRows (tenMsLater s) = [] →
      step s = exec .frameBegin (tenMsLater s))
    ∧ (∀ (s u : State) (c : Instr), s.pending = [] → ShareInv s → dueRows (tenMsLater s) = [c] →
      exec c (tenMsLater s) = .next u → dueRows u = [] → step s = exec .frameBegin u)

/-- The machine right after reset meets every invariant. What reset leaves where no rule says so is the model's choice
(log entries 3 and 4). -/
def Obligations.ResetMeetsInvariants : Prop := Inv State.reset

/-! ### Invariants that every step keeps

An idle step is one of them, as the model has it (log entry 2). -/

/-- R75, R76: the transmit queue stays in order and within its bounds. -/
def Obligations.StepKeepsQueueBounds : Prop :=
  ∀ s t : State, QueueInv s → step s = .next t → QueueInv t

/-- R8, R9, R12, R87, R88, R107: the integrator and the demands stay in their ranges. R1, R4: the element order names no
element twice. -/
def Obligations.StepKeepsDemandRanges : Prop :=
  ∀ s t : State, DemandInv s → step s = .next t → DemandInv t

/-- R116, R120, R125, R133: the program store, the stage indices and the return stack stay in their ranges, and a PAUSED
program is one that was RUNNING or PROMPTING. -/
def Obligations.StepKeepsRecipeRanges : Prop :=
  ∀ s t : State, RecipeInv s → step s = .next t → RecipeInv t

/-- R36, R58: the share table keeps one entry for each other station, under a station number, and the water trip set
holds station numbers. -/
def Obligations.StepKeepsShareTable : Prop :=
  ∀ s t : State, ShareInv s → step s = .next t → ShareInv t

/-- R39, R43, R44, R50: no own hold and no claim goes above the capacity that the others' charges leave. -/
def Obligations.StepKeepsSharesWithinCapacity : Prop :=
  ∀ s t : State, ShareWithinCapacity s → step s = .next t → ShareWithinCapacity t

/-- R27, R25, R31, R32: the law of the burst frames: base load and gated elements stay within the own POWER hold. -/
def Obligations.StepKeepsLoadWithinHold : Prop :=
  ∀ s t : State, PowerInv s → step s = .next t → PowerInv t

/-! ### Rules over all commands -/

/-- R42, R46: an own hold rises at no command but the completion of an own RAISE that was not vetoed, and then to the
value that this RAISE asked for; no time that passes raises one. That an idle step is a tick of the block's own time is
the model's choice (log entry 2). -/
def Obligations.HoldsRiseOnlyByOwnRaise : Prop :=
  (∀ (c : Instr) (s t : State) (p : Pool), exec c s = .next t → s.share.holds.get p < t.share.holds.get p →
      c = .ownFrameComplete false ∧ ∃ f, sendingFrame s = some f ∧ f.raiseValue p = some (t.share.holds.get p))
    ∧ (∀ (s t : State) (p : Pool), s.pending = [] → step s = .next t → t.share.holds.get p ≤ s.share.holds.get p)

/-- R150, R154: the relay command becomes CLOSED only at the freeze, at the re-initialisation, or at a RELAY_RESTORE;
and then neither the TRIP latch is set nor a RELAY_WELDED or CONFIG_FAULT held. In time alone it closes only as the
window expires or a restart ends. The commands that can bring a re-initialisation, and the idle step, are the model's
choice (log entries 2 and 16). -/
def Obligations.RelayClosesOnlyWhereAllowed : Prop :=
  (∀ (c : Instr) (s t : State), c.wellFormed = true → FaultInv s → exec c s = .next t →
      s.superv.relayClosed = false → t.superv.relayClosed = true →
      ((frozen s = false ∧ frozen t = true ∧ ((∃ fields, c = .setupEnd fields) ∨ c = .setupWindowExpiry))
          ∨ (t.startup.restarting = false
              ∧ (c = .restart ∨ (s.startup.restarting = true
                  ∧ ((∃ vetoed, c = .ownFrameComplete vetoed) ∨ c ∈ [.reInitialisation, .arbitrationLost, .driveFault, .clash,
                      .closingMarkBroken]
                    ∨ (receivesFrame c = true ∧ (sendingFrame s).isSome = true)))))
          ∨ c = .relayRestore)
        ∧ t.superv.trip = false ∧ t.superv.welded = false ∧ t.superv.configFault = false)
    ∧ (∀ s t : State, FaultInv s → s.pending = [] → step s = .next t →
      s.superv.relayClosed = false → t.superv.relayClosed = true →
      ((frozen s = false ∧ frozen t = true) ∨ (s.startup.restarting = true ∧ t.startup.restarting = false))
        ∧ t.superv.trip = false ∧ t.superv.welded = false ∧ t.superv.configFault = false)

/-- R148, R151, R153, R73: the TRIP latch is cleared by RELAY_RESTORE and at power-on alone, and RELAY_WELDED,
CONFIG_FAULT and NUMBER_CLASH are held until power-on; a CONFIG_FAULT never stands without the latch. No time that passes
clears any of them (idle step: log entry 2). -/
def Obligations.HeldFaultsOutlastOtherCommands : Prop :=
  (∀ (c : Instr) (s t : State), exec c s = .next t → (∀ station partner, c ≠ .powerOn station partner) →
      (s.superv.trip = true → t.superv.trip = true ∨ c = .relayRestore)
        ∧ (s.superv.welded = true → t.superv.welded = true)
        ∧ (s.superv.configFault = true → t.superv.configFault = true)
        ∧ (s.line.numberClash = true → t.line.numberClash = true))
    ∧ (∀ s t : State, s.pending = [] → step s = .next t →
      (s.superv.trip = true → t.superv.trip = true) ∧ (s.superv.welded = true → t.superv.welded = true)
        ∧ (s.superv.configFault = true → t.superv.configFault = true)
        ∧ (s.line.numberClash = true → t.line.numberClash = true))
    ∧ (∀ s t : State, FaultInv s → step s = .next t → FaultInv t)

/-- R167: once it is frozen, the configuration stands until power-on: the numbers of the straps, the SUPPLY section, the
channel records and the floor share. No time that passes changes it (idle step: log entry 2). -/
def Obligations.FrozenConfigurationStands : Prop :=
  (∀ (c : Instr) (s t : State), exec c s = .next t → (∀ station partner, c ≠ .powerOn station partner) →
      frozen s = true →
        frozen t = true ∧ t.startup.station = s.startup.station ∧ t.startup.partner = s.startup.partner
          ∧ t.startup.supply = s.startup.supply ∧ t.startup.channels = s.startup.channels
          ∧ t.share.floor = s.share.floor)
    ∧ (∀ s t : State, s.pending = [] → step s = .next t → frozen s = true →
        frozen t = true ∧ t.startup.station = s.startup.station ∧ t.startup.partner = s.startup.partner
          ∧ t.startup.supply = s.startup.supply ∧ t.startup.channels = s.startup.channels
          ∧ t.share.floor = s.share.floor)

/-- R97, R99, R100, R105, R109: the acid marker is set at the first pulse of the dose and cleared at the end of the
third rinse drain, and S falls there alone, where the soak mark is set; power-on takes both from the service record. No
other command and no other moment in time does either (idle step: log entry 2). S is at most 65535 and the sub-count at
most 49, in the service record too, and every step keeps them so. -/
def Obligations.AcidAndScaleFallOnlyAtTheEnd : Prop :=
  (∀ (c : Instr) (s t : State), ScaleInv s → exec c s = .next t → (∀ station partner, c ≠ .powerOn station partner) →
      (s.steam.acid = false → t.steam.acid = true → c = .flowPulse ∧ s.descale.phase = .dose)
        ∧ (s.steam.acid = true → t.steam.acid = false →
            c = .drainDryTimeEnd ∧ s.steam.gen = .service ∧ s.descale.phase = .rinseDrain ∧ 3 ≤ s.descale.rinse)
        ∧ (t.steam.scale < s.steam.scale →
            c = .drainDryTimeEnd ∧ s.steam.gen = .service ∧ s.descale.phase = .rinseDrain ∧ 3 ≤ s.descale.rinse
              ∧ s.descale.soakMark = true ∧ t.steam.scale = 0 ∧ t.steam.sub = 0 ∧ t.steam.acid = false))
    ∧ (∀ s t : State, ScaleInv s → s.pending = [] → step s = .next t →
      (s.steam.acid = false → t.steam.acid = false)
        ∧ (s.steam.acid = true → t.steam.acid = false →
            s.steam.gen = .service ∧ s.descale.phase = .rinseDrain ∧ 3 ≤ s.descale.rinse ∧ s.steam.drain.isSome = true)
        ∧ (t.steam.scale < s.steam.scale →
            s.steam.gen = .service ∧ s.descale.phase = .rinseDrain ∧ 3 ≤ s.descale.rinse ∧ s.descale.soakMark = true))
    ∧ (∀ s t : State, ScaleInv s → step s = .next t → ScaleInv t)

/-- R83, R86, R87, R88, R92, R95, R96: after every step the steam gate, the BOILER demand and the valve and pump
requests are what the rules give for the generator's state: the gate is open in READY alone and while a served demand
stands, so that it is closed under the acid marker, and there the BOILER demand is the keep-hot demand at most. -/
def Obligations.StepKeepsSteamOutputs : Prop :=
  (∀ s t : State, SteamOutputs s → step s = .next t → SteamOutputs t)
    ∧ (∀ s : State, SteamOutputs s →
        (s.steam.gate = true →
          s.steam.gen = .ready ∧ withheldReason s = .none ∧ 0 < s.climate.steamDemand ∧ s.startup.restarting = false)
        ∧ (s.steam.acid = true → s.steam.gate = false ∧ (s.steam.gen = .ready → s.steam.boilerDemand ≤ 2)))

/-! ### Power-on, setup, freeze and restart -/

/-- R166, R167, R80, R100 and the power-on values of the blocks: POWER_ON reads the straps, opens the setup window
unless the part is UNNUMBERED, empties the queue, the shares and the program, opens the relay, and leaves the generator
EMPTY with every output, want and request off; S, sub-count and acid marker come from the service record, which itself
stands. The inputs stand, as the part watches them throughout (log entry 4). -/
def Obligations.PowerOnReadsStraps : Prop :=
  ∀ (station partner : Nibble) (s : State),
    ∃ t, exec (.powerOn station partner) s = .next t
    ∧ t.startup.station = station.toNat ∧ t.startup.partner = partner.toNat
    ∧ t.startup.setup = (if station = 0 ∨ partner = 0 ∨ station = partner then .noWindow else .opened)
    ∧ t.startup.windowMs = 0 ∧ t.startup.restarting = false
    ∧ t.startup.workSupply = Supply.defaults ∧ t.startup.workChannels = ChannelRecord.defaults
    ∧ t.climate = { Climate.reset with doorInputOpen := s.climate.doorInputOpen }
    ∧ t.power = Power.reset ∧ t.line = Line.reset ∧ t.descale = Descale.reset ∧ t.recipe = Recipe.reset
    ∧ t.share = { Share.reset with leakInputWet := s.share.leakInputWet }
    ∧ t.superv = { Superv.reset with feedbackClosed := s.superv.feedbackClosed }
    ∧ t.steam = { Steam.reset with
        levels := s.steam.levelInputs, levelInputs := s.steam.levelInputs, record := s.steam.record
        scale := s.steam.record.scale, sub := s.steam.record.sub, acid := s.steam.record.acid }
    ∧ t.steam.gen = .empty ∧ t.steam.fill = none ∧ t.steam.drain = none ∧ t.steam.request = .none
    ∧ t.steam.lock = false ∧ t.steam.inletWant = false ∧ t.steam.drainWant = false
    ∧ t.steam.fillReq = false ∧ t.steam.pumpReq = false ∧ t.steam.boilerDemand = 0 ∧ t.steam.gate = false
    ∧ t.pending = s.pending

/-- R167, R168, R169, R177: in the open window the 19 bytes of a SUPPLY section whose fields all lie in their ranges
replace the working copy by those fields, and a section with a field out of range is refused and leaves the working
copy; a valid CHANNEL section replaces that channel's working copy alone, and an invalid one is refused and leaves it.
R173: a section that is not defined is refused with the field 0, and one of another length than its own with 65535. Once
the configuration is frozen every SETUP is refused with REFUSED_FROZEN and changes nothing. -/
def Obligations.SetupSectionsReplaceWorkingCopies : Prop :=
  (∀ (s : State) (v : Supply), PanelFree s → s.startup.setup = .opened → SupplyFits v →
      ∃ t, exec (.setupSupply v.bytes) s = .next t ∧ PanelFrame s t ∧ ProgramStands s t
        ∧ OnlyTouches [.startup, .power, .share, .line, .steam, .descale, .recipe] s t
        ∧ (SupplyInRange v →
            t.startup = { s.startup with workSupply := v } ∧ Queued (.result .setup .accepted 0) t)
        ∧ (¬ SupplyInRange v →
            t.startup = s.startup ∧ ∃ field : Nat, field < 19 ∧ 1 ≤ field ∧ Queued (.result .setup .refusedField field) t))
    ∧ (∀ (s : State) (c : Channel) (r : ChannelRecord), PanelFree s → s.startup.setup = .opened → RecordInRange c r →
      ∃ t, exec (.setupChannel (channelSection c) r.bytes) s = .next t ∧ PanelFrame s t ∧ ProgramStands s t
        ∧ OnlyTouches [.startup, .power, .share, .line, .steam, .descale, .recipe] s t
        ∧ t.startup = { s.startup with workChannels := s.startup.workChannels.set r c }
        ∧ Queued (.result .setup .accepted 0) t)
    ∧ (∀ (s : State) (c : Channel) (fields : List Byte), PanelFree s → s.startup.setup = .opened → fields.length = 8 →
      ¬ ChannelBytesValid c fields →
      ∃ t, exec (.setupChannel (channelSection c) fields) s = .next t ∧ PanelFrame s t ∧ ProgramStands s t
        ∧ OnlyTouches [.power, .share, .line, .steam, .descale, .recipe] s t
        ∧ ∃ field : Nat, 1 ≤ field ∧ field ≤ 8 ∧ Queued (.result .setup .refusedField field) t)
    ∧ (∀ (s : State) (c : Instr) (field : Nat), PanelFree s → s.startup.setup = .opened → c.wellFormed = true →
      (∃ sec fields, c = .setupChannel sec fields ∧ (sec.toNat < 16 ∨ 21 < sec.toNat) ∧ field = 0)
        ∨ (∃ fields, c = .setupSupply fields ∧ fields.length ≠ 19 ∧ field = 65535)
        ∨ (∃ k fields, c = .setupChannel (channelSection k) fields ∧ fields.length ≠ 8 ∧ field = 65535)
        ∨ (∃ fields, c = .setupEnd fields ∧ fields ≠ [] ∧ field = 65535) →
      ∃ t, exec c s = .next t ∧ PanelFrame s t ∧ ProgramStands s t
        ∧ OnlyTouches [.power, .share, .line, .steam, .descale, .recipe] s t
        ∧ Queued (.result .setup .refusedField field) t)
    ∧ (∀ (s : State) (c : Instr), PanelFree s → GenSettled s → frozen s = true → c.wellFormed = true →
      panelKind c = some .setup →
      ∃ t, exec c s = .next t ∧ PanelFrame s t ∧ ProgramStands s t
        ∧ OnlyTouches [.power, .share, .line, .steam, .descale, .recipe] s t
        ∧ Queued (.result .setup .refusedFrozen 0) t)

/-- R167, R170, R171: at an accepted END and at the expiry of the window the configuration freezes: the working copies,
the SUPPLY section as checked, become the configuration, the floor share is C divided by N, judging begins, the
generator takes its state from LOW, the descale holds acid where the marker is set, and the join window opens with a
STATUS. R154: the start check closes the relay where no channel stands beyond a limit, and every side starts CLEAR or,
on the readings as they stand, PENDING. END is answered with its RESULT. R57: a leak state that has changed before the
freeze is told now, by TRIP in WET and TRIP_CLEAR in DRY with the frozen water group. Before the freeze the
configuration reads as its defaults, and the frame of the leak state waits for it (log entry 6); that the standing
readings are judged at the freeze too is read from R154 (log entry 50); that a CORE which shows its probe absent counts as
inside in the start check is the model's choice (log entry 64). -/
def Obligations.ConfigurationFreezes : Prop :=
  ∀ (s : State) (c : Instr),
    (c = .setupEnd [] ∧ PanelFree s) ∨ (c = .setupWindowExpiry ∧ unnumbered s = false ∧ s.startup.restarting = false) →
    s.startup.setup = .opened → s.recipe.state = .idle → s.descale.phase = .off → s.line.numberClash = false →
    ∃ t, exec c s = .next t ∧ t.pending = s.pending
      ∧ FreezesTo s.startup.workSupply t.startup.supply
      ∧ t.startup = { s.startup with
          setup := .frozen, windowMs := 0, supply := t.startup.supply, channels := s.startup.workChannels }
      ∧ t.share.floor = t.startup.supply.capacity / t.startup.supply.stations
      ∧ t.share.link = .joining ∧ t.share.joinMs = some 0 ∧ Queued .status t
      ∧ t.superv.judging = true ∧ t.superv.checkValue = checkField (configBytes t.startup)
      ∧ t.superv.readings = s.superv.readings ∧ t.superv.strikes = PerChannel.all 0
      ∧ (∀ k d, (sideRec t.superv k d).state = .clear ∨ (sideRec t.superv k d).state = .pending)
      ∧ (s.superv.relayClosed = false → (t.superv.relayClosed = true ↔ StartCheckPasses t))
      ∧ (c = .setupEnd [] → s.line.queue = [] → Queued (.result .setup .accepted 0) t)
      ∧ t.steam.gen = (if s.steam.levels.low then .cooling else .empty)
      ∧ t.descale.phase = (if s.steam.acid then .holdAcid else .off)
      ∧ t.climate.sampleMs = 0 ∧ t.recipe.state = .idle
      ∧ t.share.leakWet = s.share.leakWet ∧ t.share.tripSet = s.share.tripSet ∧ t.share.safetyOwed = false
      ∧ (s.share.safetyOwed = true →
          Queued (if s.share.leakWet then .trip s.startup.station t.startup.supply.waterGroup
            else .tripClear s.startup.station t.startup.supply.waterGroup) t)
      ∧ (s.share.safetyOwed = false → sendingFrame s = none →
          ∀ e ∈ t.line.queue, e.frame.isSafety = true → e ∈ s.line.queue)

/-- R178: the check value kept at the freeze is the line's check over 69 bytes: the station and partner numbers, bytes 1
to 19 of the SUPPLY section that froze, the defaults where it reverted, and bytes 1 to 8 of each channel record from CAV
to BOARD, the defaults where none was sent since power-on. -/
def Obligations.CheckValueCoversTheConfiguration : Prop :=
  (∀ (s : State) (c : Instr),
      (c = .setupEnd [] ∧ PanelFree s) ∨ (c = .setupWindowExpiry ∧ unnumbered s = false ∧ s.startup.restarting = false) →
      s.startup.setup = .opened →
      ∃ t, exec c s = .next t
        ∧ t.superv.checkValue = checkField
            ([byteOf s.startup.station, byteOf s.startup.partner] ++ t.startup.supply.bytes
              ++ (s.startup.workChannels.get .cav).bytes ++ (s.startup.workChannels.get .core).bytes
              ++ (s.startup.workChannels.get .boil).bytes ++ (s.startup.workChannels.get .moist).bytes
              ++ (s.startup.workChannels.get .mains).bytes ++ (s.startup.workChannels.get .board).bytes)
        ∧ FreezesTo s.startup.workSupply t.startup.supply ∧ t.startup.channels = s.startup.workChannels
        ∧ t.startup.supply.bytes.length = 19 ∧ (∀ k, (t.startup.channels.get k).bytes.length = 8)
        ∧ (configBytes t.startup).length = 69)
    ∧ (∀ (station partner : Nibble) (s : State), ∃ t, exec (.powerOn station partner) s = .next t
        ∧ t.startup.workSupply = Supply.defaults ∧ t.startup.workChannels = ChannelRecord.defaults)

/-- R159, R60: a RESTART that is taken winds every block down: relay OPEN with the TRIP latch as it was, gates and base
actuators off and the frame abandoned, holds 0 with a LOWER for each that was not, the program gone, the climate NONE,
the service request withdrawn and the descale's phase kept. R160: with no hold to give back the re-initialisation
follows at once. That it comes in the step that brings its moment is the model's choice (log entry 16), and so are the
generator state that stands during the restart (log entry 54), DESCALE_DUE before DESCALE_PHASE behind the RESULT (log
entry 17), no end notice for an excursion that is cleared (log entry 47) and a CORE that shows its probe absent inside its
limits in the start check (log entry 64); that a descale ended in OFF raises its notice, with the cause RESTART, is read
from R114 and R160 (log entry 14). -/
def Obligations.RestartWindsDown : Prop :=
  (∀ s : State, PanelFree s → frozen s = true → s.share.holds ≠ PerPool.all 0 →
    ∃ t, exec .restart s = .next t ∧ t.pending = s.pending
      ∧ t.startup = { s.startup with
          restarting := true, restartMs := 0
          restartLowers := ⟨decide (s.share.holds.power ≠ 0), decide (s.share.holds.inlet ≠ 0),
            decide (s.share.holds.drain ≠ 0)⟩ }
      ∧ t.share.holds = PerPool.all 0
      ∧ (∀ p, s.share.holds.get p ≠ 0 → Queued (.lower p (ownGroup s.startup.supply p) 0) t)
      ∧ t.superv.relayClosed = false ∧ t.superv.trip = s.superv.trip
      ∧ t.power.inFrame = false ∧ t.power.gates = PerElement.all false ∧ t.power.base = PerActuator.all false
      ∧ t.power.grants = s.power.grants ∧ t.power.starved = s.power.starved ∧ t.power.want = s.power.want
      ∧ ClimateLeft s t
      ∧ t.recipe = { Recipe.reset with
          probePresent := s.recipe.probePresent, probeShows := s.recipe.probeShows, probeMs := s.recipe.probeMs }
      ∧ t.descale.phase = s.descale.phase ∧ t.descale.rinse = s.descale.rinse
      ∧ t.steam.request = .none ∧ t.steam.fill = none ∧ t.steam.drain = none
      ∧ t.steam.boilerDemand = 0 ∧ t.steam.gate = false ∧ t.steam.acid = s.steam.acid ∧ t.steam.gen = s.steam.gen)
    ∧ (∀ s : State, PanelFree s → frozen s = true → s.share.holds = PerPool.all 0 →
      ∃ t, exec .restart s = .next t ∧ Restarted s t ∧ t.line.state = .idle)

/-- R160, R60, R78, R115, R154: at the re-initialisation the queue begins again with the RESULT for the RESTART and
holds behind it only what the resets call for, the shares and the program are empty, the join window opens, the
generator takes its state from LOW, the start check is made, and a descale that was active becomes HOLD_ACID or OFF by
the acid marker, with its notice; latch, faults, levels, S, sub-count, marker and configuration stand. That S, the sub-count and the
marker stand is read from R100 (log entry 18), and the cause RESTART in OFF from R114 and R160 (log entry 14); that the
row waits for no LOWER is the model's choice (log entry 16), and so are DESCALE_DUE before DESCALE_PHASE
(log entry 17), no end notice for an excursion that is cleared (log entry 47), no notice with the cause RESTART for a
descale that a fault has ended during the restart (log entry 58), and a CORE that shows its probe absent inside its limits
in the start check (log entry 64). R66, R67: a received frame to which an own frame loses
the line is taken as after the loss (log entry 5), so that a re-initialisation that waited for the own frame alone comes
first, and the received frame is judged by the restarted part (log entry 16). -/
def Obligations.ReInitialisationEndsRestart : Prop :=
  (∀ s : State, s.startup.restarting = true → sendingFrame s = none → unnumbered s = false → frozen s = true →
    ∃ t, exec .reInitialisation s = .next t ∧ Restarted s t ∧ t.line.state = s.line.state)
    ∧ (∀ (s u : State) (c : Instr), unnumbered s = false → (sendingFrame s).isSome = true → receivesFrame c = true →
      exec .arbitrationLost s = .next u → exec c s = exec c u)

/-- R155, R153, R159: while a CONFIG_FAULT is held or a RESTART is in progress every panel command but QUERY is refused,
with the RESULT that says so, and does nothing else. -/
def Obligations.CommandsRefusedUnderFaultOrRestart : Prop :=
  ∀ (s : State) (c : Instr) (k : CmdKind), LineFree s → GenSettled s → c.wellFormed = true → panelKind c = some k →
    k ≠ .query → s.superv.configFault = true ∨ s.startup.restarting = true →
    ∃ t, exec c s = .next t
      ∧ Queued (.result k (if s.superv.configFault then .refusedConfig else .refusedState) 0) t
      ∧ PanelFrame s t ∧ ProgramStands s t
      ∧ OnlyTouches [.power, .share, .line, .steam, .descale, .recipe] s t

/-! ### Commands of the partner panel -/

/-- R162: QUERY is accepted in every state, under a CONFIG_FAULT, during a restart and before the freeze: a RESULT
ACCEPTED is queued and a READING of its own directly behind it, behind the frames of its class that wait, and nothing
else follows. A READING is a REPORT, and its contents are those of the state in which its opening mark begins, at each
attempt. R174, R179: its 24 bytes carry the readings, the program, the descale, the scale, the holds, the generator, the
held faults, the excursions and the flags, each value in its bits; a remaining time that has run out is 0, and the
recipe tag is 0 while the store is empty, both the model's choice (log entries 52 and 60). -/
def Obligations.QueryAnswersWithReading : Prop :=
  (∀ s : State, LineFree s → GenSettled s →
    ∃ t, exec .query s = .next t
      ∧ Queued .reading t
      ∧ (sendingFrame s = none → s.line.queue.countP (·.frame.isReport) ≤ 3 → s.line.queue.length ≤ 6 →
          t.line.queue = s.line.queue.takeWhile (fun e => decide (e.frame.cls ≤ TxFrame.reading.cls))
            ++ [⟨.result .query .accepted 0, false⟩, ⟨.reading, false⟩]
            ++ s.line.queue.dropWhile (fun e => decide (e.frame.cls ≤ TxFrame.reading.cls)))
      ∧ PanelFrame s t ∧ ProgramStands s t
      ∧ OnlyTouches [.power, .share, .line, .steam, .descale, .recipe] s t)
    ∧ (∀ (s : State) (rest : List QEntry), s.line.state = .idle → unnumbered s = false → sendingFrame s = none →
      s.line.queue = ⟨.reading, false⟩ :: rest →
      ∃ t, exec .frameBegin s = .next t
        ∧ t.line.queue = ⟨.reading, true⟩ :: rest
        ∧ t.line.txBytes =
            ([byteOf (5 * 16 + s.startup.station), byteOf (s.startup.partner * 16 + TxFrame.reading.kind), byteOf 24]
              ++ readingBytes s)
            ++ bytes2 (checkField
                ([byteOf (5 * 16 + s.startup.station), byteOf (s.startup.partner * 16 + TxFrame.reading.kind), byteOf 24]
                  ++ readingBytes s)).toNat
        ∧ (ReportFits s → ReadingLaid s (sentBody t)))

/-- R119, R123: LOAD_OPEN in IDLE or LOADED with no descale active opens a session of 1 to 24 stages, empties the store
and sets the tag; a count outside that range, another program state and an active descale are refused and change
nothing. R120, R121: in LOADING a STAGE of the expected index whose record R117 and R118 take is stored at the end of
the store, restarts the gap timer, and lowers the count that remains; the last one makes the program LOADED where the
check of R121 passes, and otherwise ends the session with the store emptied. Another index, or a record that is refused,
restarts the gap timer and leaves the session; outside LOADING a STAGE changes nothing. That the detail of a program with a
failing stage and no HEAT stage is the index of that stage is the model's choice (log entry 63). -/
def Obligations.LoadSessionTakesStages : Prop :=
  (∀ (s : State) (count : Byte) (tag : Word16), PanelFree s → GenSettled s → frozen s = true →
    ∃ t, exec (.loadOpen count tag) s = .next t
      ∧ PanelFrame s t ∧ OnlyTouches [.power, .share, .line, .steam, .descale, .recipe] s t
      ∧ (descaleActive s.descale = true ∨ (s.recipe.state ≠ .idle ∧ s.recipe.state ≠ .loaded) →
          ProgramStands s t ∧ Queued (.result .loadOpen .refusedState 0) t)
      ∧ (descaleActive s.descale = false → s.recipe.state = .idle ∨ s.recipe.state = .loaded →
          (count.toNat = 0 ∨ 24 < count.toNat →
            ProgramStands s t ∧ Queued (.result .loadOpen .refusedField 0) t)
          ∧ (1 ≤ count.toNat → count.toNat ≤ 24 →
            t.recipe = { s.recipe with
              state := .loading, store := [], count := count.toNat, tag := tag.toNat
              remaining := count.toNat, cur := 0, gapMs := 0, withheldMs := t.recipe.withheldMs }
            ∧ Queued (.result .loadOpen .accepted 0) t)))
    ∧ (∀ (s : State) (index : Byte) (record : List Byte) (r : StageRecord) (clamped : Option Nat), PanelFree s →
      GenSettled s → s.recipe.state = .loading → 1 ≤ s.recipe.remaining →
      recordLengthOk record = true → index.toNat = s.recipe.count - s.recipe.remaining + 1 →
      judgeRecord 1 record = .taken r clamped →
      ∃ t, exec (.stage index record) s = .next t
        ∧ PanelFrame s t ∧ OnlyTouches [.power, .share, .line, .steam, .descale, .recipe] s t
        ∧ (2 ≤ s.recipe.remaining →
            t.recipe = { s.recipe with
              gapMs := 0, store := s.recipe.store ++ [r], remaining := s.recipe.remaining - 1
              withheldMs := t.recipe.withheldMs }
            ∧ Queued (.result .stage (takenCode clamped) (clamped.getD 0)) t)
        ∧ (s.recipe.remaining = 1 → programCheck s.recipe.count (s.recipe.store ++ [r]) = none →
            t.recipe = { s.recipe with
              gapMs := 0, store := s.recipe.store ++ [r], remaining := 0, state := .loaded
              withheldMs := t.recipe.withheldMs }
            ∧ Queued (.result .stage (takenCode clamped) (clamped.getD 0)) t)
        ∧ (s.recipe.remaining = 1 → programCheck s.recipe.count (s.recipe.store ++ [r]) ≠ none →
            t.recipe.state = .idle ∧ t.recipe.store = [] ∧ t.recipe.tag = 0 ∧ t.recipe.count = 0
            ∧ Queued (.result .stage .refusedProgram
                ((programCheck s.recipe.count (s.recipe.store ++ [r])).getD 0)) t))
    ∧ (∀ (s : State) (index : Byte) (record : List Byte) (field : Nat), PanelFree s → GenSettled s →
      recordLengthOk record = true →
      s.recipe.state ≠ .loading ∨ index.toNat ≠ s.recipe.count - s.recipe.remaining + 1
        ∨ judgeRecord 1 record = .refused field →
      ∃ t, exec (.stage index record) s = .next t
        ∧ PanelFrame s t ∧ OnlyTouches [.power, .share, .line, .steam, .descale, .recipe] s t
        ∧ t.recipe = { s.recipe with
            gapMs := if s.recipe.state = .loading then 0 else s.recipe.gapMs, withheldMs := t.recipe.withheldMs }
        ∧ Queued (
            if s.recipe.state ≠ .loading then .result .stage .refusedState 0
            else if index.toNat ≠ s.recipe.count - s.recipe.remaining + 1 then
              .result .stage .refusedOrder (s.recipe.count - s.recipe.remaining + 1)
            else .result .stage .refusedField field) t)

/-- R117, R118, R177: the bytes of a stage record, laid out by R177, are taken where every field is one that its kind
takes, none that it requires is missing, every name is defined, and prompt code, branch offsets and call target lie in
range; the stage is then the one sent with every other value brought to the nearer bound of its range, and a clamp is
told if and only if a value was changed. Any other record is refused, with the offset of a field in it, and bytes too
many or too few are refused with 65535 (R173). That a branch list with the count 0 is absent in every kind is the
model's choice (log entry 53). R121: the program's check fails with the lowest index of a stage whose branch list or
call target misses the program, or with 0 where no stage heats, and with nothing else; that a program of which both are true
fails with the index is the model's choice (log entry 63). -/
def Obligations.StageRecordsAreJudged : Prop :=
  (∀ (base : Nat) (r : RawRecord), RecordFits r → RecordTaken r →
      ∃ clamped, judgeRecord base r.bytes = .taken r.clamped.asSent clamped
        ∧ (clamped = none ↔ r.clamped = r)
        ∧ ∀ d ∈ clamped, base + 3 ≤ d ∧ d < base + r.bytes.length)
    ∧ (∀ (base : Nat) (r : RawRecord), RecordFits r → ¬ RecordTaken r →
      ∃ d, judgeRecord base r.bytes = .refused d ∧ base ≤ d ∧ d ≤ base + r.bytes.length)
    ∧ (∀ (base : Nat) (r : RawRecord) (extra : List Byte), RecordFits r → extra ≠ [] →
      judgeRecord base (r.bytes ++ extra) = .refused 65535)
    ∧ (∀ (base n : Nat) (r : RawRecord), RecordFits r → n < r.bytes.length →
      judgeRecord base (r.bytes.take n) = .refused 65535)
    ∧ (∀ (count : Nat) (store : List StageRecord),
      (programCheck count store = none ↔
          (∀ i r, store[i]? = some r → ¬ StageMisses count (i + 1) r) ∧ ∃ h skip, .heat h skip ∈ store)
        ∧ (∀ k, programCheck count store = some (k + 1) ↔
            (∃ r, store[k]? = some r ∧ StageMisses count (k + 1) r)
              ∧ ∀ i < k, ∀ r, store[i]? = some r → ¬ StageMisses count (i + 1) r)
        ∧ (programCheck count store = some 0 ↔
            (∀ i r, store[i]? = some r → ¬ StageMisses count (i + 1) r) ∧ ∀ h skip, .heat h skip ∉ store))

/-- R124, R125, R126, R137, R157, R2: START of a loaded program whose first stage is a HEAT stage that holds and is not
skipped enters it: strikes 0, index 1, empty return stack, mode and targets to the climate; of the REPORTs then queued the
RESULT is the first, STAGE_BEGIN stands behind it, PROMPT behind that for a PROMPT stage, and there is no other. RUN_MANUAL
makes a program of the one record it carries, with tag 0, and starts it in the same way, also where its skip condition
holds and the program ends with it. START is refused, and changes nothing, outside LOADED and during a descale with
REFUSED_STATE, then with REFUSED_ACID under the acid marker, and with REFUSED_TRIP under the latch, an open relay or a
RELAY_WELDED fault; RUN_MANUAL likewise outside IDLE and LOADED, then with REFUSED_FIELD for its record and REFUSED_PROGRAM
for a branch list, and then for START's own reasons (CALL and RETURN: log entry 45). R82, R93, R125, R135, R136: the
generator leaves FAULT and follows the steam that the program wants (cold water: log entry 21); a chain of skipped stages,
CALLs and RETURNs is followed from stage 1 in one instant to the HEAT stage that begins, to the end of the program with
index 0, or to STACK_FAULT, whose index before any HEAT stage has begun is the model's choice (log entry 55), and the
RESULT stands before the notices of its rest; a chain has at most 17000 entries (log entry 31). -/
def Obligations.StartEntersTheFirstStage : Prop :=
  (∀ (s : State) (h : HeatStage) (rest : List StageRecord), PanelFree s → s.recipe.state = .loaded →
      s.recipe.store = .heat h none :: rest → StageHolds s h →
      descaleActive s.descale = false → s.steam.acid = false → tripRefuses s = false → s.line.queue = [] →
      ∃ t, exec .start s = .next t
        ∧ EntersHeat 1 h s t ∧ t.recipe.stack = []
        ∧ t.superv = { s.superv with strikes := PerChannel.all 0 }
        ∧ ReportsAre t (.result .start .accepted 0 :: beginNotices s.recipe.tag 1 h)
        ∧ (frozen s = true → GeneratorFollows (genAtStart s) s t)
        ∧ (s.steam.gen = .fault → t.steam.faultKind = none)
        ∧ FrameClosed false s t ∧ WaitOnly s t
        ∧ OnlyTouches [.climate, .power, .share, .line, .steam, .descale, .recipe, .superv] s t)
    ∧ (∀ (s : State) (h : HeatStage) (record : List Byte) (clamped : Option Nat), PanelFree s → frozen s = true →
      s.recipe.state = .idle ∨ s.recipe.state = .loaded →
      recordLengthOk record = true → judgeRecord 0 record = .taken (.heat h none) clamped → h.branches = [] →
      StageHolds s h → descaleActive s.descale = false → s.steam.acid = false → tripRefuses s = false →
      s.line.queue = [] →
      ∃ t, exec (.runManual record) s = .next t
        ∧ EntersHeat 1 h { s with recipe := { s.recipe with store := [.heat h none] } } t ∧ t.recipe.stack = []
        ∧ t.recipe.tag = 0 ∧ t.recipe.count = 1
        ∧ t.superv = { s.superv with strikes := PerChannel.all 0 }
        ∧ ReportsAre t (.result .runManual (takenCode clamped) (clamped.getD 0) :: beginNotices 0 1 h)
        ∧ FrameClosed false s t ∧ WaitOnly s t
        ∧ GeneratorFollows (genAtStart s) s t ∧ (s.steam.gen = .fault → t.steam.faultKind = none)
        ∧ OnlyTouches [.climate, .power, .share, .line, .steam, .descale, .recipe, .superv] s t)
    ∧ (∀ s : State, PanelFree s → GenSettled s →
      s.recipe.state ≠ .loaded ∨ descaleActive s.descale = true ∨ s.steam.acid = true
        ∨ s.superv.trip = true ∨ s.superv.relayClosed = false ∨ s.superv.welded = true →
      ∃ t, exec .start s = .next t
        ∧ PanelFrame s t ∧ ProgramStands s t ∧ OnlyTouches [.power, .share, .line, .steam, .descale, .recipe] s t
        ∧ Queued (.result .start
            (if s.recipe.state ≠ .loaded ∨ descaleActive s.descale = true then .refusedState
              else if s.steam.acid then .refusedAcid else .refusedTrip) 0) t)
    ∧ (∀ (s : State) (links : Nat) (r : Rest), PanelFree s → s.recipe.state = .loaded → links ≤ 17000 →
      EntryRests s links 1 [] r → descaleActive s.descale = false → s.steam.acid = false → tripRefuses s = false →
      s.line.queue = [] →
      ∃ t, exec .start s = .next t
        ∧ RestsAs 0 s t r ∧ t.superv = { s.superv with strikes := PerChannel.all 0 }
        ∧ ReportsAre t (.result .start .accepted 0 :: restNotices (noticeTag s.recipe) 0 r)
        ∧ (frozen s = true → GeneratorFollows (genAtStart s) s t)
        ∧ FrameClosed false s t ∧ WaitOnly s t
        ∧ OnlyTouches [.climate, .power, .share, .line, .steam, .descale, .recipe, .superv] s t)
    ∧ (∀ (s : State) (h : HeatStage) (skip : Option Skip) (record : List Byte) (clamped : Option Nat) (links : Nat)
      (r : Rest), PanelFree s → frozen s = true → s.recipe.state = .idle ∨ s.recipe.state = .loaded →
      recordLengthOk record = true → judgeRecord 0 record = .taken (.heat h skip) clamped → h.branches = [] →
      descaleActive s.descale = false → s.steam.acid = false → tripRefuses s = false → s.line.queue = [] →
      EntryRests { s with recipe := { s.recipe with store := [.heat h skip], tag := 0 } } links 1 [] r →
      ∃ t, exec (.runManual record) s = .next t
        ∧ RestsAs 0 { s with recipe := { s.recipe with store := [.heat h skip], tag := 0 } } t r
        ∧ t.superv = { s.superv with strikes := PerChannel.all 0 }
        ∧ ReportsAre t (.result .runManual (takenCode clamped) (clamped.getD 0) :: restNotices 0 0 r)
        ∧ GeneratorFollows (genAtStart s) s t ∧ FrameClosed false s t ∧ WaitOnly s t
        ∧ OnlyTouches [.climate, .power, .share, .line, .steam, .descale, .recipe, .superv] s t)
    ∧ (∀ (s : State) (record : List Byte) (code : ResultCode) (detail : Nat), PanelFree s → GenSettled s →
      recordLengthOk record = true → manualRefusal s record = some (code, detail) →
      ∃ t, exec (.runManual record) s = .next t
        ∧ PanelFrame s t ∧ ProgramStands s t ∧ OnlyTouches [.power, .share, .line, .steam, .descale, .recipe] s t
        ∧ Queued (.result .runManual code detail) t)

/-- R133, R2: PAUSE keeps the state it was taken from and leaves the climate and the stage as they are; RESUME returns
to it, and a stage that runs on hands its mode and targets over again. In any other state each is refused. A stage
paused at the prompt 250 goes on PROMPTING, and with its probe still absent the PROMPT is raised again; both are read
from R130 and R131 (log entry 26). R135, R136: FINISH_ACK takes a FINISHED program to LOADED, and a FAULTED one while
the relay is commanded closed and not welded; otherwise a FAULTED one is refused with REFUSED_TRIP, and any other state
with REFUSED_STATE. -/
def Obligations.PauseResumeAndFinishAck : Prop :=
  (∀ s : State, PanelFree s → GenSettled s →
      ∃ t, exec .pause s = .next t
        ∧ PanelFrame s t ∧ OnlyTouches [.power, .share, .line, .steam, .descale, .recipe] s t
        ∧ (s.recipe.state = .running ∨ s.recipe.state = .prompting →
            t.recipe = { s.recipe with
              state := .paused, pausedFrom := s.recipe.state, withheldMs := t.recipe.withheldMs }
            ∧ Queued (.result .pause .accepted 0) t)
        ∧ (s.recipe.state ≠ .running → s.recipe.state ≠ .prompting →
            ProgramStands s t ∧ Queued (.result .pause .refusedState 0) t))
    ∧ (∀ (s : State) (h : HeatStage), PanelFree s → GenSettled s →
      (s.recipe.state = .paused → heatAt s.recipe s.recipe.cur = some h
        ∧ ((s.recipe.pausedFrom = .prompting ∧ (h.endKind = .prompt ∨ s.recipe.probePresent = true))
          ∨ (s.recipe.pausedFrom = .running ∧ StageHolds s h ∧ h.endKind ≠ .prompt
              ∧ durationReached s.recipe h = false))) →
      ∃ t, exec .resume s = .next t
        ∧ PanelFrame s t ∧ OnlyTouches [.climate, .power, .share, .line, .steam, .descale, .recipe] s t
        ∧ (s.recipe.state = .paused →
            t.recipe = { s.recipe with state := s.recipe.pausedFrom, withheldMs := t.recipe.withheldMs }
            ∧ Queued (.result .resume .accepted 0) t
            ∧ t.climate.demTop = s.climate.demTop ∧ t.climate.demBottom = s.climate.demBottom
            ∧ t.climate.demRing = s.climate.demRing
            ∧ (s.recipe.pausedFrom = .running →
                t.climate.profile = some h.mode ∧ t.climate.cavityTarget = some h.cavity))
        ∧ (s.recipe.state ≠ .paused →
            ProgramStands s t ∧ t.climate = s.climate ∧ Queued (.result .resume .refusedState 0) t))
    ∧ (∀ (s : State) (h : HeatStage), PanelFree s → GenSettled s → s.line.queue = [] →
      heatAt s.recipe s.recipe.cur = some h → h.endKind = .core → h.duration = none →
      s.recipe.state = .paused → s.recipe.pausedFrom = .prompting → s.recipe.prompt = 250 →
      ∃ t, exec .resume s = .next t
        ∧ PanelFrame s t ∧ OnlyTouches [.power, .share, .line, .steam, .descale, .recipe] s t
        ∧ t.recipe = { s.recipe with state := .prompting, withheldMs := t.recipe.withheldMs }
        ∧ Queued (.result .resume .accepted 0) t
        ∧ (s.recipe.probePresent = false → Queued (.notice .prompt (noticeTag s.recipe) s.recipe.cur 250) t)
        ∧ (s.recipe.probePresent = true → t.line.queue = [⟨.result .resume .accepted 0, false⟩]))
    ∧ (∀ s : State, PanelFree s → GenSettled s →
      ∃ t, exec .finishAck s = .next t
        ∧ PanelFrame s t ∧ OnlyTouches [.power, .share, .line, .steam, .descale, .recipe] s t
        ∧ (s.recipe.state = .finished
              ∨ (s.recipe.state = .faulted ∧ s.superv.relayClosed = true ∧ s.superv.welded = false) →
            t.recipe = { s.recipe with state := .loaded, cur := 0, withheldMs := t.recipe.withheldMs }
            ∧ Queued (.result .finishAck .accepted 0) t)
        ∧ (s.recipe.state = .faulted → s.superv.relayClosed = false ∨ s.superv.welded = true →
            ProgramStands s t ∧ Queued (.result .finishAck .refusedTrip 0) t)
        ∧ (s.recipe.state ≠ .finished → s.recipe.state ≠ .faulted →
            ProgramStands s t ∧ Queued (.result .finishAck .refusedState 0) t))

/-- R82, R111, R122, R134: with no descale active, ABORT of an active program leaves it LOADED with index 0 and an empty
return stack, and raises PROGRAM_ABORTED with the index it stood at; steam is no longer wanted, so that FILLING, HEATING
and READY become COOLING, or DRAINING at once where the water is cold (log entry 21). In LOADING it empties the store;
in any other state it is refused. An ABORT while a descale is active never reaches the program: in PREP and DRAIN_OUT,
and in DOSE before the acid, the descale goes to OFF; in DOSE with acid, SOAK_HEAT and SOAK to ACID_DRAIN; from
ACID_DRAIN on it is refused. -/
def Obligations.AbortStopsProgramOrDescale : Prop :=
  (∀ s : State, PanelFree s → descaleActive s.descale = false → s.line.queue = [] →
      ∃ t, exec .abort s = .next t
        ∧ FrameClosed false s t ∧ WaitOnly s t
        ∧ OnlyTouches [.climate, .power, .share, .line, .steam, .descale, .recipe] s t
        ∧ (programActive s.recipe = true →
            t.recipe = { s.recipe with state := .loaded, cur := 0, stack := [], prompt := 0, withheldMs := 0 }
            ∧ ClimateLeft s t ∧ Queued (.result .abort .accepted 0) t
            ∧ (frozen s = true → steamWanted t = false ∧ GeneratorFollows s.steam.gen s t)
            ∧ Queued (.notice .programAborted (noticeTag s.recipe) s.recipe.cur 0) t)
        ∧ (s.recipe.state = .loading →
            t.recipe.state = .idle ∧ t.recipe.store = [] ∧ t.recipe.tag = 0 ∧ t.recipe.count = 0
            ∧ t.climate = s.climate ∧ Queued (.result .abort .accepted 0) t)
        ∧ (programActive s.recipe = false → s.recipe.state ≠ .loading →
            ProgramStands s t ∧ t.climate = s.climate ∧ Queued (.result .abort .refusedState 0) t))
    ∧ (∀ s : State, PanelFree s → GenSettled s → programActive s.recipe = false →
      s.descale.phase ≠ .off → s.descale.phase ≠ .holdAcid → s.descale.phase ≠ .complete → s.line.queue = [] →
      ∃ t, exec .abort s = .next t
        ∧ ProgramStands s t ∧ OnlyTouches [.power, .share, .line, .steam, .descale, .recipe] s t
        ∧ t.steam.acid = s.steam.acid ∧ t.steam.scale = s.steam.scale
        ∧ (s.descale.phase = .prep ∨ s.descale.phase = .drainOut ∨ (s.descale.phase = .dose ∧ s.steam.acid = false) →
            t.descale.phase = .off ∧ t.steam.request = .none
            ∧ t.steam.gen = (if s.steam.levels.low then .cooling else .empty)
            ∧ Queued (.result .abort .accepted 0) t
            ∧ Queued (.notice .descalePhase (noticeTag s.recipe) s.recipe.cur 2) t)
        ∧ ((s.descale.phase = .dose ∧ s.steam.acid = true) ∨ s.descale.phase = .soakHeat ∨ s.descale.phase = .soak →
            t.descale.phase = .acidDrain ∧ t.steam.request = .drain ∧ t.steam.drain = some ⟨0, 0⟩ ∧ t.steam.fill = none
            ∧ Queued (.result .abort .accepted 0) t
            ∧ Queued (.notice .descalePhase (noticeTag s.recipe) s.recipe.cur 1538) t)
        ∧ (s.descale.phase = .acidDrain ∨ s.descale.phase = .rinseFill ∨ s.descale.phase = .rinseHeat
              ∨ s.descale.phase = .rinseDrain →
            t.descale.phase = s.descale.phase ∧ t.descale.rinse = s.descale.rinse ∧ t.steam.request = s.steam.request
            ∧ Queued (.result .abort .refusedState 1) t))

/-- R131, R125, R135: an ANSWER to a PROMPT stage goes to the branch at its position, or to the next stage: a HEAT stage
there that holds and is not skipped is entered, and an index past the stages ends the program. It is refused, and
changes nothing, outside PROMPTING, above 2, for another stage than the current one, and at the prompt 250 while the
probe is absent. At the prompt 250 with the probe present any answer is accepted: the state becomes RUNNING and the
stage goes on with its timer as it stood, its mode and targets handed over again (R2). R125, R136: from the stage
answered for a chain of skipped stages, CALLs and RETURNs is followed in one instant to the HEAT stage that begins, to
the end of the program, or to STACK_FAULT at a CALL with two indices on the return stack; R157: the RESULT stands before the
notices of its rest. A chain has at most 17000 entries (log entry 31). -/
def Obligations.AnswerGoesToItsBranchOrIsRefused : Prop :=
  (∀ (s : State) (index reply : Byte) (h h' : HeatStage), PanelFree s → s.line.queue = [] →
      s.recipe.state = .prompting → heatAt s.recipe s.recipe.cur = some h → s.recipe.prompt ≠ 250 →
      index.toNat = s.recipe.cur → reply.toNat ≤ 2 →
      (stageAt s.recipe (s.recipe.cur + (h.branches[reply.toNat]?).getD 1) = some (.heat h' none) ∧ StageHolds s h')
        ∨ stageAt s.recipe (s.recipe.cur + (h.branches[reply.toNat]?).getD 1) = none →
      ∃ t, exec (.answer index reply) s = .next t
        ∧ FrameClosed false s t ∧ WaitOnly s t ∧ Queued (.result .answer .accepted 0) t
        ∧ OnlyTouches [.climate, .power, .share, .line, .steam, .descale, .recipe] s t
        ∧ (stageAt s.recipe (s.recipe.cur + (h.branches[reply.toNat]?).getD 1) = none →
            t.recipe.state = .finished ∧ t.recipe.cur = s.recipe.lastHeat ∧ t.recipe.stack = []
            ∧ t.recipe.store = s.recipe.store ∧ ClimateLeft s t
            ∧ Queued (.notice .programFinished (noticeTag s.recipe) s.recipe.lastHeat 0) t)
        ∧ (stageAt s.recipe (s.recipe.cur + (h.branches[reply.toNat]?).getD 1) = some (.heat h' none) →
            EntersHeat (s.recipe.cur + (h.branches[reply.toNat]?).getD 1) h' s t
            ∧ t.recipe.stack = s.recipe.stack))
    ∧ (∀ (s : State) (index reply : Byte), PanelFree s → GenSettled s →
      s.recipe.state ≠ .prompting ∨ 2 < reply.toNat ∨ index.toNat ≠ s.recipe.cur
        ∨ (s.recipe.prompt = 250 ∧ s.recipe.probePresent = false) →
      ∃ t, exec (.answer index reply) s = .next t
        ∧ PanelFrame s t ∧ ProgramStands s t ∧ OnlyTouches [.power, .share, .line, .steam, .descale, .recipe] s t
        ∧ Queued (
            if s.recipe.state ≠ .prompting then .result .answer .refusedState 0
            else if 2 < reply.toNat then .result .answer .refusedField 1
            else if index.toNat ≠ s.recipe.cur then .result .answer .refusedOrder s.recipe.cur
            else .result .answer .refusedState 2) t)
    ∧ (∀ (s : State) (index reply : Byte) (h : HeatStage), PanelFree s → GenSettled s → s.recipe.state = .prompting →
      s.recipe.prompt = 250 → s.recipe.probePresent = true → index.toNat = s.recipe.cur → reply.toNat ≤ 2 →
      heatAt s.recipe s.recipe.cur = some h → h.endKind = .core → StageHolds s h →
      ∃ t, exec (.answer index reply) s = .next t
        ∧ PanelFrame s t ∧ OnlyTouches [.climate, .power, .share, .line, .steam, .descale, .recipe] s t
        ∧ t.recipe = { s.recipe with state := .running, prompt := 0, withheldMs := t.recipe.withheldMs }
        ∧ t.climate.profile = some h.mode ∧ t.climate.cavityTarget = some h.cavity
        ∧ t.climate.demTop = s.climate.demTop ∧ t.climate.demBottom = s.climate.demBottom
        ∧ t.climate.demRing = s.climate.demRing
        ∧ Queued (.result .answer .accepted 0) t)
    ∧ (∀ (s : State) (index reply : Byte) (h : HeatStage) (links : Nat) (r : Rest), PanelFree s → s.line.queue = [] →
      s.recipe.state = .prompting → heatAt s.recipe s.recipe.cur = some h → s.recipe.prompt ≠ 250 →
      index.toNat = s.recipe.cur → reply.toNat ≤ 2 → links ≤ 17000 →
      EntryRests s links (s.recipe.cur + (h.branches[reply.toNat]?).getD 1) s.recipe.stack r →
      ∃ t, exec (.answer index reply) s = .next t
        ∧ RestsAs s.recipe.lastHeat s t r
        ∧ ReportsAre t (.result .answer .accepted 0 :: restNotices (noticeTag s.recipe) s.recipe.lastHeat r)
        ∧ FrameClosed false s t ∧ WaitOnly s t
        ∧ OnlyTouches [.climate, .power, .share, .line, .steam, .descale, .recipe] s t)

/-- R152: RELAY_RESTORE closes the relay command, clears the TRIP latch and every strike count; it is refused with
REFUSED_TRIP under a RELAY_WELDED fault, and with REFUSED_STATE and the channel's code plus 1 while an excursion of an
enabled channel or of the fixed limit is in progress. -/
def Obligations.RelayRestoreClosesTheRelay : Prop :=
  ∀ s : State, PanelFree s → GenSettled s → frozen s = true →
    ∃ t, exec .relayRestore s = .next t
      ∧ PanelFrame s t ∧ ProgramStands s t
      ∧ OnlyTouches [.power, .share, .line, .steam, .descale, .recipe, .superv] s t
      ∧ (s.superv.welded = false → (∀ c, inExcursion s c = false) →
          t.superv = { s.superv with
            relayClosed := true, trip := false, strikes := PerChannel.all 0
            mismatchMs := if s.superv.relayClosed then s.superv.mismatchMs else 0 }
          ∧ Queued (.result .relayRestore .accepted 0) t)
      ∧ (s.superv.welded = true →
          t.superv = s.superv ∧ Queued (.result .relayRestore .refusedTrip 0) t)
      ∧ (s.superv.welded = false → ∀ c, inExcursion s c = true →
          (∀ x, channelCode x < channelCode c → inExcursion s x = false) →
          t.superv = s.superv ∧ Queued (.result .relayRestore .refusedState (channelCode c + 1)) t)

/-- R102 to R105, R94: DESCALE_START in IDLE or LOADED takes the generator into SERVICE, from OFF to PREP with the soak
mark clear, and from HOLD_ACID to ACID_DRAIN with a DRAIN request. DESCALE_CONFIRM in PREP goes to DRAIN_OUT with a
DRAIN request while LOW reads WET, and otherwise through it to DOSE with FILL 600 while HIGH reads DRY; in any other
phase it is refused and changes nothing. R102, R115: DESCALE_START is refused, and changes nothing, before the freeze,
in any phase but OFF and HOLD_ACID and with the engine neither IDLE nor LOADED with REFUSED_STATE, and then with
REFUSED_TRIP under the latch, an open relay or a RELAY_WELDED fault. -/
def Obligations.DescaleBeginsOnCommand : Prop :=
  (∀ s : State, PanelFree s → frozen s = true → s.recipe.state = .idle ∨ s.recipe.state = .loaded →
      s.descale.phase = .off ∨ s.descale.phase = .holdAcid → tripRefuses s = false → s.line.queue = [] →
      ∃ t, exec .descaleStart s = .next t
        ∧ t.steam.gen = .service ∧ t.steam.fill = none ∧ t.steam.acid = s.steam.acid ∧ t.steam.lock = false
        ∧ Queued (.result .descaleStart .accepted 0) t
        ∧ (s.descale.phase = .off →
            t.descale.phase = .prep ∧ t.descale.soakMark = false ∧ t.descale.prepMs = 0 ∧ t.steam.request = .none
            ∧ Queued (.notice .descalePhase (noticeTag s.recipe) s.recipe.cur 256) t)
        ∧ (s.descale.phase = .holdAcid →
            t.descale.phase = .acidDrain ∧ t.steam.request = .drain ∧ t.steam.drain = some ⟨0, 0⟩
            ∧ Queued (.notice .descalePhase (noticeTag s.recipe) s.recipe.cur 1536) t)
        ∧ ProgramStands s t ∧ FrameClosed false s t
        ∧ OnlyTouches [.power, .share, .line, .steam, .descale, .recipe] s t)
    ∧ (∀ s : State, PanelFree s → GenSettled s → s.line.queue = [] →
      ∃ t, exec .descaleConfirm s = .next t
        ∧ ProgramStands s t ∧ FrameClosed false s t
        ∧ OnlyTouches [.power, .share, .line, .steam, .descale, .recipe] s t
        ∧ (s.descale.phase = .prep → s.steam.gen = .service →
            Queued (.result .descaleConfirm .accepted 0) t ∧ t.steam.gen = .service
            ∧ (s.steam.levels.low = true →
                t.descale.phase = .drainOut ∧ t.steam.request = .drain ∧ t.steam.drain = some ⟨0, 0⟩)
            ∧ (s.steam.levels.low = false → s.steam.levels.high = false →
                t.descale.phase = .dose ∧ t.steam.request = .fill 600 ∧ t.steam.fill = some ⟨.service, 600, 0, false⟩))
        ∧ (s.descale.phase ≠ .prep →
            Queued (.result .descaleConfirm .refusedState 0) t ∧ WaitOnly s t ∧ OutputsOnly s t))
    ∧ (∀ s : State, PanelFree s → GenSettled s →
      frozen s = false ∨ (s.descale.phase ≠ .off ∧ s.descale.phase ≠ .holdAcid)
        ∨ (s.recipe.state ≠ .idle ∧ s.recipe.state ≠ .loaded)
        ∨ s.superv.trip = true ∨ s.superv.relayClosed = false ∨ s.superv.welded = true →
      ∃ t, exec .descaleStart s = .next t
        ∧ PanelFrame s t ∧ ProgramStands s t ∧ OnlyTouches [.power, .share, .line, .steam, .descale, .recipe] s t
        ∧ Queued (.result .descaleStart
            (if frozen s = false ∨ (s.descale.phase ≠ .off ∧ s.descale.phase ≠ .holdAcid)
                ∨ (s.recipe.state ≠ .idle ∧ s.recipe.state ≠ .loaded)
              then .refusedState else .refusedTrip) 0) t)

/-- R104: entering DRAIN_OUT from PREP the Sequencer reads LOW: WET begins a DRAIN, and DRY goes to DOSE at once with no
DRAIN. Its DONE leads to DOSE, and its FAILED faults the descale with the cause DRAIN_FAULT. A dose ends early when HIGH
becomes WET. -/
def Obligations.DrainOutReadsLow : Prop :=
  (∀ s : State, PanelFree s → GenSettled s → s.line.queue = [] → s.descale.phase = .prep → s.steam.gen = .service →
      ∃ t, exec .descaleConfirm s = .next t
        ∧ (s.steam.levels.low = true →
            t.descale.phase = .drainOut ∧ t.steam.request = .drain ∧ t.steam.drain = some ⟨0, 0⟩)
        ∧ (s.steam.levels.low = false →
            t.descale.phase ≠ .drainOut ∧ t.steam.request ≠ .drain
            ∧ (s.steam.levels.high = false →
                t.descale.phase = .dose ∧ t.steam.request = .fill 600
                ∧ t.steam.fill = some ⟨.service, 600, 0, false⟩ ∧ t.steam.drain = none)))
    ∧ (∀ (s : State) (d : Drain), s.steam.gen = .service → s.descale.phase = .drainOut → s.steam.drain = some d →
      s.power.base.pump = true → s.steam.levels.low = false → s.steam.levels.high = false →
      ∃ t, exec .drainDryTimeEnd s = .next t
        ∧ t.descale.phase = .dose ∧ t.steam.request = .fill 600 ∧ t.steam.fill = some ⟨.service, 600, 0, false⟩
        ∧ t.steam.drain = none ∧ t.steam.gen = .service ∧ t.steam.acid = s.steam.acid
        ∧ ProgramStands s t ∧ OnlyTouches [.power, .share, .line, .steam, .descale, .recipe] s t)
    ∧ (∀ (s : State) (d : Drain), unnumbered s = false → s.line.queue = [] → programActive s.recipe = false →
      s.steam.gen = .service → s.descale.phase = .drainOut → s.steam.drain = some d → s.power.base.pump = true →
      ∃ t, exec .pumpTimeLimit s = .next t
        ∧ t.descale.phase = (if s.steam.acid then .holdAcid else .off)
        ∧ Queued (.notice .descalePhase (noticeTag s.recipe) s.recipe.cur
            ((if s.steam.acid then 17 else 0) * 256 + DescaleCause.drainFault.code)) t
        ∧ t.steam.request = .none ∧ t.steam.acid = s.steam.acid
        ∧ ProgramStands s t ∧ OnlyTouches [.power, .share, .line, .steam, .descale, .recipe] s t)
    ∧ (∀ (s : State) (f : Fill), s.steam.gen = .service → s.descale.phase = .dose → s.steam.fill = some f →
      f.kind = .service → s.steam.levels.high = false → s.steam.levelInputs.high = true →
      ∃ t, exec (.levelReadingChange .high) s = .next t
        ∧ t.descale.phase ≠ .dose ∧ t.steam.fill = none ∧ t.steam.acid = s.steam.acid
        ∧ ProgramStands s t ∧ OnlyTouches [.power, .share, .line, .steam, .descale, .recipe] s t)

/-! ### The climate -/

/-- R5, R7, R8, R9, R10, R11, R12, R14: a sample that runs the loops moves the integrator by the error and the
starvation flag, forms D as P plus I within 0 to 20, splits the whole of D over the cavity elements by the profile's
shares, rounded down, with none for an absent element and the rest for the largest share present, forms the steam demand
and the vent request, and presents the profile's order and fan. R6: without a valid CAV reading the element demands are
0 and the integrator stands, and without a valid MOIST reading a humid mode asks for no steam and an open vent. R6, R18:
a forced-zero sample sets every demand to 0, holds the integrator, and sets fan and vent by the table of R18: off and
closed with the door OPEN or the profile NONE, and otherwise as the profile and open. -/
def Obligations.ClimateSamples : Prop :=
  (∀ (s : State) (m : Mode) (cav moist : Int) (target humidity : Nat), LoopsRun s → GenSettled s →
      s.climate.profile = some m → s.climate.cavityTarget = some target →
      reading s .cav = some cav → reading s .moist = some moist → (m.humid = true → s.climate.humidityTarget = some humidity) →
      ∃ t, exec .climateSample s = .next t
        ∧ t.climate.integ = (
            if 5 < (target : Int) - cav then (if s.power.starved then max (-20) (min 20 s.climate.integ)
                else max (-20) (min 20 (s.climate.integ + 1)))
            else if (target : Int) - cav < -5 then max (-20) (min 20 (s.climate.integ - 1))
            else max (-20) (min 20 s.climate.integ))
        ∧ ((∃ e : Element, e ≠ .boiler ∧ s.startup.supply.ratings.get e ≠ 0) →
            ((t.climate.demTop + t.climate.demBottom + t.climate.demRing : Nat) : Int)
              = max 0 (min 20 ((max (-500) (min 500 ((target : Int) - cav)) * (profile m).kp).tdiv 100 + t.climate.integ)))
        ∧ (∀ e : Element, s.startup.supply.ratings.get e = 0 → cavityDemand t.climate e = 0)
        ∧ (∀ e : Element, e ≠ .boiler → s.startup.supply.ratings.get e ≠ 0 →
            OutrankedBy s.startup.supply.ratings (profile m) e →
            cavityDemand t.climate e
              = (t.climate.demTop + t.climate.demBottom + t.climate.demRing) * cavityShare (profile m) e / 100)
        ∧ (m.humid = true →
            (humidity : Int) - moist ≤ -3 → t.climate.steamDemand = 0 ∧ t.climate.ventReq = true)
        ∧ (m.humid = true → -3 < (humidity : Int) - moist →
            (t.climate.steamDemand : Int)
                = max 0 (min 20 ((((humidity : Int) - moist) * (profile m).ks).fdiv 10 + (profile m).sb))
              ∧ t.climate.ventReq = false)
        ∧ (m.humid = false → t.climate.steamDemand = 0 ∧ t.climate.ventReq = true)
        ∧ t.climate.fanReq = (profile m).fan ∧ t.climate.order = (profile m).order ∧ t.climate.sampleMs = 0
        ∧ t.climate.profile = s.climate.profile ∧ t.climate.cavityTarget = s.climate.cavityTarget
        ∧ t.climate.doorOpen = s.climate.doorOpen
        ∧ SettlesOnly s t ∧ ProgramStands s t ∧ OnlyTouches [.climate, .power, .steam, .descale, .recipe] s t)
    ∧ (∀ (s : State) (m : Mode), LoopsRun s → GenSettled s → s.climate.profile = some m →
      ∃ t, exec .climateSample s = .next t
        ∧ (reading s .cav = none →
            t.climate.demTop = 0 ∧ t.climate.demBottom = 0 ∧ t.climate.demRing = 0 ∧ t.climate.integ = s.climate.integ)
        ∧ (m.humid = true → reading s .moist = none → t.climate.steamDemand = 0 ∧ t.climate.ventReq = true)
        ∧ t.climate.fanReq = (profile m).fan ∧ t.climate.order = (profile m).order ∧ t.climate.sampleMs = 0
        ∧ t.climate.profile = s.climate.profile ∧ t.climate.cavityTarget = s.climate.cavityTarget
        ∧ t.climate.humidityTarget = s.climate.humidityTarget ∧ t.climate.doorOpen = s.climate.doorOpen
        ∧ SettlesOnly s t ∧ ProgramStands s t ∧ OnlyTouches [.climate, .power, .steam, .descale, .recipe] s t)
    ∧ (∀ s : State, frozen s = true → s.startup.restarting = false → GenSettled s →
      s.climate.doorOpen = true ∨ cutInForce s.superv = true ∨ s.superv.relayClosed = false ∨ s.climate.profile = none →
      ∃ t, exec .climateSample s = .next t
        ∧ t.climate = { s.climate with
            demTop := 0, demBottom := 0, demRing := 0, steamDemand := 0, sampleMs := 0
            order := (s.climate.profile.map fun m => (profile m).order).getD [.boiler]
            fanReq := !s.climate.doorOpen && s.climate.profile.any fun m => (profile m).fan
            ventReq := !s.climate.doorOpen && s.climate.profile.isSome }
        ∧ SettlesOnly s t ∧ ProgramStands s t ∧ OnlyTouches [.climate, .power, .steam, .descale, .recipe] s t)

/-- R15, R16, R32: a changed door input starts its count again; the door that has shown open for its 50 ms becomes OPEN,
with demands 0, fan and vent withdrawn and the cavity elements taken off at the next crossing; the door that has shown
closed becomes CLOSED and leaves demands and requests to the next sample. -/
def Obligations.DoorTakesTheHeatAway : Prop :=
  (∀ (s : State) (isOpen : Bool), ∃ t, exec (.doorInputChange isOpen) s = .next t
      ∧ t.climate = { s.climate with doorInputOpen := isOpen, doorMs := 0 } ∧ OnlyTouches [.climate] s t)
    ∧ (∀ s : State, s.climate.doorInputOpen = true → s.climate.doorOpen = false → GenSettled s →
        ∃ t, exec .doorOpens s = .next t
          ∧ t.climate = { s.climate with
              doorOpen := true, doorMs := 0, demTop := 0, demBottom := 0, demRing := 0, steamDemand := 0
              fanReq := false, ventReq := false }
          ∧ (s.power.inFrame = true →
              t.power.shed.top = true ∧ t.power.shed.bottom = true ∧ t.power.shed.ring = true
                ∧ t.power.cavityZeroed = true)
          ∧ t.power.base.fan = false ∧ t.power.base.vent = false ∧ t.steam.gate = false
          ∧ SettlesOnly s t ∧ ProgramStands s t ∧ OnlyTouches [.climate, .power, .steam, .descale, .recipe] s t)
    ∧ (∀ s : State, s.climate.doorInputOpen = false → s.climate.doorOpen = true →
        ∃ t, exec .doorCloses s = .next t
          ∧ t.climate = { s.climate with doorOpen := false, doorMs := 0 } ∧ OnlyTouches [.climate] s t)

/-! ### The Power Scheduler -/

/-- R20, R31, R32: a crossing within a frame begins the next slot: its elements are gated and counted, the slots that
have ended stand, elements are only ever taken out of the others, and what was shed or no longer fits a fallen hold is
out. With nothing shed and no fall of the hold the layout stands. What was shed is all that goes where the hold has not
fallen, and a fallen hold takes elements out of each slot in the reverse of the placement order, none more than it must.
The order of R32 before R31 is the model's choice (log entry 10); the statement holds of both orders. -/
def Obligations.CrossingBeginsTheNextSlot : Prop :=
  ∀ (s : State) (interval volts : Nat), s.power.inFrame = true → s.power.slot < 19 → s.power.freq ≠ .undecided →
    s.power.layout.length = 20 → (∀ x ∈ s.power.layout, ∀ e, x.get e = true → e ∈ s.power.frameOrder) →
    ∃ t, exec (.zeroCrossing interval volts) s = .next t
      ∧ t.power.slot = s.power.slot + 1 ∧ t.power.inFrame = true ∧ t.power.misses = 0 ∧ t.power.sinceCrossUs = 0
      ∧ t.power.layout[t.power.slot]? = some t.power.gates
      ∧ (∀ e, t.power.onCount.get e = s.power.onCount.get e + (if t.power.gates.get e then 1 else 0))
      ∧ (∀ k : Nat, k < 20 → k ≤ s.power.slot → t.power.layout[k]? = s.power.layout[k]?)
      ∧ (∀ k : Nat, k < 20 → ∀ x ∈ t.power.layout[k]?, ∀ y ∈ s.power.layout[k]?, ∀ e, x.get e = true → y.get e = true)
      ∧ (∀ x ∈ t.power.layout.drop t.power.slot, ∀ e, s.power.shed.get e = true → x.get e = false)
      ∧ (∀ h ∈ s.power.holdFall, ∀ x ∈ t.power.layout.drop t.power.slot,
          slotLoad s.power.corrected x ≤ fallenCapacity s.startup.supply.baseLoad s.power.carriesBase h)
      ∧ (s.power.shed = PerElement.all false → s.power.holdFall = none → t.power.layout = s.power.layout)
      ∧ (s.power.holdFall = none → ∀ k : Nat, k < 20 → s.power.slot < k → ∀ x ∈ t.power.layout[k]?,
          ∀ y ∈ s.power.layout[k]?, ∀ e, x.get e = (y.get e && !s.power.shed.get e))
      ∧ (∀ h ∈ s.power.holdFall, s.power.shed = PerElement.all false →
          ∀ k : Nat, k < 20 → s.power.slot < k → ∀ x ∈ t.power.layout[k]?, ∀ y ∈ s.power.layout[k]?,
            ∃ j ≤ s.power.frameOrder.length, x = y.minus (s.power.frameOrder.reverse.take j)
              ∧ ∀ i < j, fallenCapacity s.startup.supply.baseLoad s.power.carriesBase h
                  < slotLoad s.power.corrected (y.minus (s.power.frameOrder.reverse.take i)))
      ∧ t.power = { s.power with
          slot := t.power.slot, layout := t.power.layout, gates := t.power.gates, onCount := t.power.onCount
          misses := 0, sinceCrossUs := 0, shed := PerElement.all false, holdFall := none, avail := t.power.avail }
      ∧ OnlyTouches [.power] s t

/-- R23, R25, R26, R27, R29: a crossing that may start a frame, the first or the one that ends slot 19, lays one out: on
the nominal voltage, or on the voltage measured over the frame before. No slot holds more than the available capacity A. An
element is placed at most as often as its demand asks and only where it is eligible; its scan goes up from its stagger
offset, so that a slot it leaves out while it falls short, or before one it joins, had no room for it beside the elements
placed earlier in the order. The want is the base load and the eligible elements, within the circuit capacity. R25: the
frame carries base load where a base actuator is requested and the POWER hold is at least B, and then every requested one
runs; otherwise none runs. That takes a B within the circuit capacity, as the ranges of R168 make it, since the want that
may be lowered to is capped there. R25, R33: while the frame lasts, a new request starts its output at once where the frame
carries base load and stays pending where it does not, a withdrawn request stops its output at once, and the frame carries
base load to its end unless the hold falls below B. A frame that carries none comes to carry none, outside a frame no
output starts, and none runs during a restart. A fall of the hold below B stops every output at once, in a frame and
outside one; the completion of an own frame can only raise the hold (R46). Every step is covered, one in which time alone
passes too (idle step: log entry 2). -/
def Obligations.CrossingLaysOutAFrame : Prop :=
  (∀ (s : State) (interval volts : Nat),
    s.power.inFrame = false ∨ (s.power.inFrame = true ∧ s.power.slot = 19) →
    frozen s = true → s.startup.restarting = false → s.power.freq ≠ .undecided → s.climate.order.Nodup →
    ∃ t, exec (.zeroCrossing interval volts) s = .next t
      ∧ t.power.inFrame = true ∧ t.power.slot = 0 ∧ t.power.layout.length = 20
      ∧ t.power.vc = (if s.power.inFrame = false then s.startup.supply.vNom
          else if s.startup.supply.vNom = 120 then max 96 (min 138 volts) else max 184 (min 264 volts))
      ∧ t.power.frameOrder = s.climate.order ∧ t.power.demands = demandsNow s
      ∧ t.power.avail = (if baseRequested s && decide (s.startup.supply.baseLoad ≤ s.share.holds.power)
          then s.share.holds.power - s.startup.supply.baseLoad else s.share.holds.power)
      ∧ (∀ x ∈ t.power.layout, slotLoad t.power.corrected x ≤ t.power.avail)
      ∧ (∀ e, t.power.placed.get e = t.power.layout.countP (fun x => x.get e)
          ∧ t.power.placed.get e ≤ (demandsNow s).get e)
      ∧ (∀ x ∈ t.power.layout, ∀ e, x.get e = true →
          eligible s t.power.corrected e = true ∧ e ∈ s.climate.order)
      ∧ (∀ e ∈ s.climate.order, eligible s t.power.corrected e = true →
          ∀ k : Nat, k < 20 → ∀ x ∈ t.power.layout[k]?, x.get e = false →
            (t.power.placed.get e < (demandsNow s).get e
              ∨ ∃ j : Nat, j < 20 ∧ visitBefore e k < visitBefore e j
                  ∧ ∃ y ∈ t.power.layout[j]?, y.get e = true) →
            t.power.avail
              < slotLoad t.power.corrected (x.minus (s.climate.order.dropWhile fun o => decide (o ≠ e)))
                + t.power.corrected.get e)
      ∧ (some t.power.gates = t.power.layout[0]?)
      ∧ t.power.want = min s.startup.supply.capacity
          ((if baseRequested s then s.startup.supply.baseLoad else 0)
            + (([Element.top, .bottom, .ring, .boiler].filter (eligible s t.power.corrected)).map
                t.power.corrected.get).sum)
      ∧ (s.startup.supply.baseLoad ≤ s.startup.supply.capacity →
          t.power.carriesBase = (baseRequested s && decide (s.startup.supply.baseLoad ≤ s.share.holds.power)))
      ∧ t.power.base = (if t.power.carriesBase then baseRequests t else PerActuator.all false)
      ∧ (GenSettled s → SteamOutputs s → baseRequests t = baseRequests s)
      ∧ (s.power.inFrame = false → t.superv = s.superv)
      ∧ t.startup = s.startup ∧ t.climate = s.climate ∧ t.pending = s.pending)
    ∧ (∀ s t : State, BaseFollows s → step s = .next t → BaseFollows t)
    ∧ (∀ s t : State, step s = .next t → s.power.inFrame = true → s.power.slot < 20 → t.power.inFrame = true →
      (∀ interval volts : Nat, s.pending.head? = some (.zeroCrossing interval volts) → s.power.slot ≠ 19) →
      (t.power.carriesBase = true → s.power.carriesBase = true)
        ∧ (s.power.carriesBase = true → s.startup.supply.baseLoad ≤ t.share.holds.power → t.power.carriesBase = true))
    ∧ (∀ (s t : State) (a : Actuator), step s = .next t → s.power.inFrame = false → t.power.inFrame = false →
      t.power.base.get a = true → s.power.base.get a = true)
    ∧ (∀ s t : State, step s = .next t → (∀ vetoed : Bool, s.pending.head? ≠ some (.ownFrameComplete vetoed)) →
      t.startup.supply = s.startup.supply → s.startup.supply.baseLoad ≤ s.share.holds.power →
      t.share.holds.power < s.startup.supply.baseLoad → t.power.base = PerActuator.all false)

/-- R24: at a frame start the corrected rating of each element is its configured rating times Vc squared over V_nom
squared, rounded up in whole-number arithmetic, so that a rating of 0 stays 0; and while the frame lasts no command and
no time that passes changes a corrected rating (idle step: log entry 2). -/
def Obligations.CorrectedRatingsRoundUp : Prop :=
  (∀ (s : State) (interval volts : Nat) (e : Element),
      (s.power.inFrame = true ∧ s.power.slot = 19) ∨ s.power.inFrame = false → frozen s = true →
      s.startup.restarting = false → s.power.freq ≠ .undecided → 0 < s.startup.supply.vNom →
      ∃ t, exec (.zeroCrossing interval volts) s = .next t
        ∧ s.startup.supply.ratings.get e * t.power.vc * t.power.vc
            ≤ t.power.corrected.get e * (s.startup.supply.vNom * s.startup.supply.vNom)
        ∧ t.power.corrected.get e * (s.startup.supply.vNom * s.startup.supply.vNom)
            < s.startup.supply.ratings.get e * t.power.vc * t.power.vc
              + s.startup.supply.vNom * s.startup.supply.vNom
        ∧ (s.startup.supply.ratings.get e = 0 → t.power.corrected.get e = 0))
    ∧ (∀ (c : Instr) (s t : State), exec c s = .next t → s.power.inFrame = true → s.power.slot < 20 →
      t.power.inFrame = true → (∀ interval volts : Nat, c = .zeroCrossing interval volts → s.power.slot ≠ 19) →
      t.power.corrected = s.power.corrected)
    ∧ (∀ s t : State, s.pending = [] → step s = .next t → s.power.inFrame = true → s.power.slot < 20 →
      t.power.inFrame = true → t.power.corrected = s.power.corrected)

/-- R28, R23, R140, R20: the crossing that ends slot 19 completes the frame: the grants are the on counts, the frame is
starved when the cavity got less than it asked for and its demands were not taken away, MAINS presents the measured
voltage, and the next frame starts on that voltage within the clamp of its supply. -/
def Obligations.CrossingCompletesTheFrame : Prop :=
  ∀ (s : State) (interval volts : Nat), s.power.inFrame = true → s.power.slot = 19 → s.power.freq ≠ .undecided →
    ∃ t, exec (.zeroCrossing interval volts) s = .next t
      ∧ t.power.grants = s.power.onCount
      ∧ t.power.starved = (!s.power.cavityZeroed
          && decide (s.power.onCount.top + s.power.onCount.bottom + s.power.onCount.ring
              < s.power.demands.top + s.power.demands.bottom + s.power.demands.ring))
      ∧ (t.power.starved = false → t.power.starveMs = none)
      ∧ (t.power.starved = true → t.power.starveMs = some (s.power.starveMs.getD 0))
      ∧ reading t .mains = some (min 300 volts : Nat) ∧ t.superv.mainsArmed = true
      ∧ t.power.inFrame = true ∧ t.power.slot = 0
      ∧ t.power.vc = (if s.startup.supply.vNom = 120 then max 96 (min 138 volts) else max 184 (min 264 volts))
      ∧ t.startup = s.startup ∧ t.climate = s.climate ∧ t.pending = s.pending

/-- R39, R40, R41, R42: at a frame start the Share Unit decides by the want W that is handed over. With a raise allowed
and worth making it queues RAISE(POWER, T), T within the headroom and, while a FRESH neighbour is short, within the
larger of hold and floor share. With none it asks for what is lacking to the floor share, where headroom or veto mark
call for it and 2 s have passed, and clears the veto mark. A third frame start in a row with a want 10 pu below the
hold, or of 0, lowers the hold to the want and tells it; any other ends the run, and no other hold changes. -/
def Obligations.FrameStartDecidesThePowerHold : Prop :=
  ∀ (s : State) (interval volts : Nat),
    s.power.inFrame = false ∨ (s.power.inFrame = true ∧ s.power.slot = 19) →
    frozen s = true → s.startup.restarting = false → s.power.freq ≠ .undecided → unnumbered s = false → GenSettled s →
    s.line.queue = [] →
    ∃ t, exec (.zeroCrossing interval volts) s = .next t ∧
      ∃ (headroom T : Int) (need : Nat) (worth lacks counts : Bool),
        headroom = (s.startup.supply.capacity : Int) - (s.share.table.map (charge s .power)).sum - s.share.holds.power
        ∧ T = (if (∃ e ∈ s.share.table, e.expired = false ∧ e.belowFloor = true
                  ∧ e.circuit = some s.startup.supply.circuitGroup)
              then min (min (t.power.want : Int) (s.share.holds.power + headroom))
                (max s.share.holds.power s.share.floor : Nat)
              else min (t.power.want : Int) (s.share.holds.power + headroom))
        ∧ (worth = true ↔ s.share.link = .member ∧ s.line.malformed < 8 ∧ s.superv.configFault = false
            ∧ s.share.backoffMs = none
            ∧ ((s.share.holds.power : Int) + 10 ≤ T
              ∨ (s.share.holds.power < s.startup.supply.baseLoad ∧ (s.startup.supply.baseLoad : Int) ≤ T)))
        ∧ need = min t.power.want s.share.floor - s.share.holds.power
        ∧ (lacks = true ↔ worth = false ∧ s.share.link = .member ∧ s.share.holds.power < s.share.floor
            ∧ s.share.holds.power < t.power.want ∧ (headroom < need ∨ s.share.vetoMark = true)
            ∧ ∀ ms ∈ s.share.sinceYieldMs, 2000 ≤ ms)
        ∧ (counts = true ↔ t.power.want + 10 ≤ s.share.holds.power
            ∨ (t.power.want = 0 ∧ s.share.holds.power ≠ 0))
        ∧ (worth = true → Queued (.raise .power s.startup.supply.circuitGroup T.toNat) t)
        ∧ (worth = false → raiseQueued .power t = false)
        ∧ (lacks = true → Queued (.yields s.startup.supply.circuitGroup need) t
            ∧ t.share.vetoMark = false ∧ t.share.sinceYieldMs = some 0)
        ∧ (lacks = false → (∀ e ∈ t.line.queue, e.frame.isYield = false)
            ∧ t.share.vetoMark = s.share.vetoMark ∧ t.share.sinceYieldMs = s.share.sinceYieldMs)
        ∧ t.share.lowerRun = (if counts ∧ s.share.lowerRun < 2 then s.share.lowerRun + 1 else 0)
        ∧ t.share.holds = (if counts ∧ 2 ≤ s.share.lowerRun
            then { s.share.holds with power := t.power.want } else s.share.holds)
        ∧ (counts = true → 2 ≤ s.share.lowerRun →
            Queued (.lower .power s.startup.supply.circuitGroup t.power.want) t)
        ∧ t.share.table = s.share.table ∧ t.share.link = s.share.link ∧ t.share.tripSet = s.share.tripSet
        ∧ t.startup = s.startup ∧ t.climate = s.climate ∧ t.pending = s.pending

/-- R21: the 101st crossing since power-on decides the mains frequency from the 100 intervals before it: 50 Hz, 60 Hz,
or a MAINS fault with its notice; with 100 intervals not seen in time the fault carries 0. Nothing else changes, and no
frame starts at the deciding crossing. Whole tenths of a hertz, rounded down, and the half-period of 8333 microseconds
are the model's choice (log entry 20). R22, R34: the first missed crossing releases every gate, and the third abandons
the frame: the layout goes, the grants, the flag and the want stand, and MAINS presents 0 V; before the third the frame
goes on. A starvation run that has lasted 60 s raises SUPPLY_STARVED with the own POWER hold, counts again, and changes
no demand, hold or layout. Whether the half-cycle of a released gate counts as on is a free value (log entry 9), and the
statement holds of both. -/
def Obligations.MainsFrequencyGapsAndStarvation : Prop :=
  (∀ (s : State) (interval volts : Nat), s.power.inFrame = false → unnumbered s = false →
      s.power.freq = .undecided → s.power.crossings = 100 → 0 < s.power.intervalUs + interval →
      ∃ t, exec (.zeroCrossing interval volts) s = .next t
        ∧ (450 ≤ 500000000 / (s.power.intervalUs + interval) → 500000000 / (s.power.intervalUs + interval) < 550 →
            t.power.freq = .hz50 ∧ t.power.halfPeriodUs = some 10000 ∧ t.line = s.line)
        ∧ (550 ≤ 500000000 / (s.power.intervalUs + interval) → 500000000 / (s.power.intervalUs + interval) ≤ 650 →
            t.power.freq = .hz60 ∧ t.power.halfPeriodUs = some 8333 ∧ t.line = s.line)
        ∧ (500000000 / (s.power.intervalUs + interval) < 450 ∨ 650 < 500000000 / (s.power.intervalUs + interval) →
            t.power.freq = .mainsFault (500000000 / (s.power.intervalUs + interval))
              ∧ t.power.halfPeriodUs = some ((s.power.intervalUs + interval) / 200)
              ∧ Queued (.notice .channelExcursion (noticeTag s.recipe) s.recipe.cur
                  (32768 + min (500000000 / (s.power.intervalUs + interval)) 32767)) t)
        ∧ t.power.inFrame = false ∧ OnlyTouches [.power, .line] s t)
    ∧ (∀ s : State, unnumbered s = false → s.power.freq = .undecided →
        ∃ t, exec .frequencyTimeout s = .next t
          ∧ t.power = { s.power with freq := .mainsFault 0, halfPeriodUs := none }
          ∧ Queued (.notice .channelExcursion (noticeTag s.recipe) s.recipe.cur 32768) t
          ∧ OnlyTouches [.power, .line] s t)
    ∧ (∀ s : State, s.power.inFrame = true → GenSettled s →
      ∃ t, exec .missedCrossing s = .next t
        ∧ (s.power.misses = 0 → t.power.gates = PerElement.all false)
        ∧ (s.power.misses < 2 → t.power.inFrame = true ∧ t.power.misses = s.power.misses + 1
            ∧ t.power.layout = s.power.layout ∧ t.power.slot = s.power.slot
            ∧ (0 < s.power.misses → t.power.onCount = s.power.onCount)
            ∧ (∀ e, t.power.onCount.get e ≤ s.power.onCount.get e) ∧ OnlyTouches [.power] s t)
        ∧ (2 ≤ s.power.misses → t.power.inFrame = false ∧ t.power.layout = []
            ∧ t.power.gates = PerElement.all false ∧ t.power.starveMs = none ∧ reading t .mains = some 0
            ∧ OnlyTouches [.power, .steam, .descale, .recipe, .superv] s t)
        ∧ t.power.grants = s.power.grants ∧ t.power.starved = s.power.starved ∧ t.power.want = s.power.want
        ∧ t.power.freq = s.power.freq ∧ t.share = s.share ∧ t.line = s.line)
    ∧ (∀ (s : State), unnumbered s = false → s.power.starveMs.isSome = true →
      ∃ t, exec .supplyStarved s = .next t
        ∧ t.power = { s.power with starveMs := some 0 }
        ∧ Queued (.notice .supplyStarved (noticeTag s.recipe) s.recipe.cur s.share.holds.power) t
        ∧ OnlyTouches [.power, .line] s t)


/-! ### The shares -/

/-- R38, R45, R46, R47, R50, R69: a RAISE of another station is vetoed where the pool's capacity or the water trip set
asks for it; vetoed by anyone, it is recorded by no one. A RAISE or LOWER that is not vetoed sets the sender's hold and
group and creates its entry where there was none; no other entry changes, and an own hold is lowered only where the
others' charges have risen above what the capacity leaves. That an EXPIRED sender whose vetoed frame carries a hold takes
the holds it was charged is the model's choice (log entry 61). -/
def Obligations.RaiseAndLowerAreRecorded : Prop :=
  (∀ (s : State) (n : Nibble) (p : Pool) (group : Byte) (hold : Word16) (otherVeto : Bool), LineFree s → GenSettled s →
      n ≠ 0 → n.toNat ≠ s.startup.station →
      ∃ t, exec (.raiseReceived n p group hold otherVeto) s = .next t
        ∧ t.line.verdictDriven =
            (decide (group.toNat = ownGroup s.startup.supply p ∧ s.share.link ≠ .joining
                ∧ poolCapacity s.startup.supply p
                  < (((s.share.table.filter fun e => e.station ≠ n.toNat).map (charge s p)).sum
                    + s.share.holds.get p + holdTaken p hold))
              || decide (p = .inlet ∧ group.toNat = s.startup.supply.waterGroup ∧ s.share.tripSet ≠ []))
        ∧ FrameClosed t.line.verdictDriven s t
        ∧ (otherVeto = true ∨ t.line.verdictDriven = true → SenderHeard n.toNat s t ∧ SettlesOnly s t)
        ∧ (otherVeto = false → t.line.verdictDriven = false →
            ((findEntry t.share.table n.toNat).any fun e =>
              e.holds.get p = holdTaken p hold ∧ e.group p = some group.toNat ∧ e.expired = false ∧ e.heardMs = 0) = true)
        ∧ (∀ m : Nat, m < 16 → m ≠ n.toNat → findEntry t.share.table m = findEntry s.share.table m)
        ∧ (∀ q, t.share.holds.get q =
            if othersCharges s q < othersCharges t q
            then min (s.share.holds.get q) (poolCapacity s.startup.supply q - othersCharges t q)
            else s.share.holds.get q)
        ∧ ProgramStands s t ∧ OnlyTouches [.power, .share, .line, .steam, .descale, .recipe] s t)
    ∧ (∀ (s : State) (n : Nibble) (p : Pool) (group : Byte) (hold : Word16) (otherVeto : Bool), LineFree s →
      GenSettled s → n ≠ 0 → n.toNat ≠ s.startup.station →
      ∃ t, exec (.lowerReceived n p group hold otherVeto) s = .next t
        ∧ FrameClosed false s t
        ∧ (otherVeto = true → SenderHeard n.toNat s t ∧ SettlesOnly s t)
        ∧ (otherVeto = false →
            ((findEntry t.share.table n.toNat).any fun e =>
              e.holds.get p = holdTaken p hold ∧ e.group p = some group.toNat ∧ e.expired = false ∧ e.heardMs = 0) = true)
        ∧ (∀ m : Nat, m < 16 → m ≠ n.toNat → findEntry t.share.table m = findEntry s.share.table m)
        ∧ (∀ q, t.share.holds.get q =
            if othersCharges s q < othersCharges t q
            then min (s.share.holds.get q) (poolCapacity s.startup.supply q - othersCharges t q)
            else s.share.holds.get q)
        ∧ ProgramStands s t ∧ OnlyTouches [.power, .share, .line, .steam, .descale, .recipe] s t)

/-- R49, R58, R69: a STATUS that is not vetoed leaves its sender's entry as its body says; a sender that is new, or
that newly joins, is answered with a STATUS; in the own water group the leak flag puts the sender into the water trip
set or takes it out. That a new sender is answered even where it is not joining is read from R49 (log entry 30). That an EXPIRED sender of a vetoed STATUS takes
the holds it was charged is the model's choice (log entry 61). -/
def Obligations.StatusIsRecorded : Prop :=
  ∀ (s : State) (n : Nibble) (b : StatusBody) (otherVeto : Bool), LineFree s → GenSettled s → frozen s = true →
    n ≠ 0 → n.toNat ≠ s.startup.station → s.line.queue = [] →
    ∃ t, exec (.statusReceived n b otherVeto) s = .next t
      ∧ FrameClosed false s t ∧ (otherVeto = true → SenderHeard n.toNat s t)
      ∧ (otherVeto = false →
          findEntry t.share.table n.toNat = some
            { station := n.toNat, expired := false, circuit := some b.circuitGroup.toNat
              water := some b.waterGroup.toNat
              holds := ⟨min 1100 b.power.toNat, if b.inlet then 1 else 0, if b.drain then 1 else 0⟩
              heardMs := 0, belowFloor := b.belowFloor, leak := b.leak, joining := b.joining }
          ∧ ((findEntry s.share.table n.toNat).all (fun e => b.joining && !e.joining) = true → Queued .status t)
          ∧ (b.waterGroup.toNat = s.startup.supply.waterGroup → b.leak = true →
              n.toNat ∈ t.share.tripSet ∧ (s.share.tripSet = [] → t.share.holds.inlet = 0))
          ∧ (b.waterGroup.toNat = s.startup.supply.waterGroup → b.leak = true → n.toNat ∉ s.share.tripSet →
              Queued (.notice .waterTrip (noticeTag s.recipe) s.recipe.cur n.toNat) t)
          ∧ (b.waterGroup.toNat = s.startup.supply.waterGroup → b.leak = false → n.toNat ∉ t.share.tripSet))
      ∧ (∀ m : Nat, m < 16 → m ≠ n.toNat →
          findEntry t.share.table m = findEntry s.share.table m ∧ (m ∈ t.share.tripSet ↔ m ∈ s.share.tripSet))
      ∧ (∀ q, t.share.holds.get q ≤ s.share.holds.get q)
      ∧ t.share.link = s.share.link ∧ t.share.floor = s.share.floor
      ∧ ProgramStands s t ∧ OnlyTouches [.power, .share, .line, .steam, .descale, .recipe] s t

/-- R51: a YIELD for the own circuit group takes from a MEMBER above its floor share what was asked for, down to the
floor share and no further, starts the back-off and sends a LOWER; any other YIELD does nothing but tell that its sender
is there. -/
def Obligations.YieldGivesWay : Prop :=
  ∀ (s : State) (n : Nibble) (group : Byte) (need : Word16), LineFree s → GenSettled s → frozen s = true → n ≠ 0 →
    n.toNat ≠ s.startup.station →
    ∃ t, exec (.yieldReceived n group need) s = .next t
      ∧ FrameClosed false s t
      ∧ (group.toNat = s.startup.supply.circuitGroup → s.share.link = .member → s.share.floor < s.share.holds.power →
          t.share.holds.power = s.share.holds.power - min (s.share.holds.power - s.share.floor) (min 1100 need.toNat)
          ∧ t.share.holds.inlet = s.share.holds.inlet ∧ t.share.holds.drain = s.share.holds.drain
          ∧ s.share.floor ≤ t.share.holds.power ∧ t.share.backoffMs = some 0
          ∧ (need.toNat ≠ 0 → Queued (.lower .power s.startup.supply.circuitGroup t.share.holds.power) t))
      ∧ (group.toNat ≠ s.startup.supply.circuitGroup ∨ s.share.link ≠ .member ∨ s.share.holds.power ≤ s.share.floor →
          SenderHeard n.toNat s t ∧ SettlesOnly s t)
      ∧ t.share.table = updateEntry n.toNat (refreshEntry s.share.floor) s.share.table
      ∧ ProgramStands s t ∧ OnlyTouches [.power, .share, .line, .steam, .descale, .recipe] s t

/-- R58, R59, R176: a TRIP of type WATER in the own water group adds its origin, raises WATER_TRIP where it is new,
and takes the INLET unit and the valve away as the set fills; any other TRIP acts on nothing. A TRIP_CLEAR takes its
sender out, or, from another, an origin whose leak flag is not known set; the own number is never taken out by a
frame. That an origin above 15 acts on nothing is read from R176 (log entry 7). -/
def Obligations.WaterTripsAreLearned : Prop :=
  (∀ (s : State) (n : Nibble) (type origin group : Byte), LineFree s → GenSettled s → n ≠ 0 →
      n.toNat ≠ s.startup.station →
      ∃ t, exec (.tripReceived n type origin group) s = .next t
        ∧ FrameClosed false s t
        ∧ (type = 0 → 1 ≤ origin.toNat → origin.toNat ≤ 15 → group.toNat = s.startup.supply.waterGroup →
            origin.toNat ∈ t.share.tripSet
            ∧ (s.share.tripSet = [] → t.share.holds.inlet = 0)
            ∧ t.steam.fillReq = false ∧ t.power.base.fill = false
            ∧ (origin.toNat ∉ s.share.tripSet →
                Queued (.notice .waterTrip (noticeTag s.recipe) s.recipe.cur origin.toNat) t))
        ∧ (type ≠ 0 ∨ origin.toNat = 0 ∨ 15 < origin.toNat ∨ group.toNat ≠ s.startup.supply.waterGroup →
            SenderHeard n.toNat s t)
        ∧ (∀ m : Nat, m < 16 → m ≠ origin.toNat → (m ∈ t.share.tripSet ↔ m ∈ s.share.tripSet))
        ∧ t.share.holds.power = s.share.holds.power ∧ t.share.holds.drain = s.share.holds.drain
        ∧ ProgramStands s t ∧ OnlyTouches [.power, .share, .line, .steam, .descale, .recipe] s t)
    ∧ (∀ (s : State) (n : Nibble) (origin group : Byte), LineFree s → GenSettled s → n ≠ 0 →
      n.toNat ≠ s.startup.station → 1 ≤ origin.toNat → origin.toNat ≤ 15 →
      ∃ t, exec (.tripClearReceived n 0 origin group) s = .next t
        ∧ FrameClosed false s t
        ∧ (origin.toNat = s.startup.station → t.share.tripSet = s.share.tripSet)
        ∧ (origin.toNat = n.toNat → group.toNat = s.startup.supply.waterGroup → origin.toNat ∉ t.share.tripSet)
        ∧ (origin.toNat = n.toNat → group.toNat ≠ s.startup.supply.waterGroup → t.share.tripSet = s.share.tripSet)
        ∧ (origin.toNat ≠ n.toNat → origin.toNat ≠ s.startup.station →
            (if (findEntry (updateEntry n.toNat (refreshEntry s.share.floor) s.share.table) origin.toNat).all
                (fun e => e.expired || !e.leak) = true
              then origin.toNat ∉ t.share.tripSet else t.share.tripSet = s.share.tripSet))
        ∧ (∀ m : Nat, m < 16 → m ≠ origin.toNat → (m ∈ t.share.tripSet ↔ m ∈ s.share.tripSet))
        ∧ t.share.holds = s.share.holds ∧ SettlesOnly s t
        ∧ ProgramStands s t ∧ OnlyTouches [.power, .share, .line, .steam, .descale, .recipe] s t)

/-- R57, R59: a changed leak input starts its count again; a leak that is taken puts the own number into the water trip
set, sends TRIP, raises WATER_TRIP and takes the INLET unit away; its end takes the number out and sends TRIP_CLEAR.
Before the freeze the set and the notice are the same, and the frame is owed until the freeze (log entry 6). -/
def Obligations.LeakTripsTheWater : Prop :=
  (∀ (s : State) (wet : Bool), ∃ t, exec (.leakInputChange wet) s = .next t
      ∧ t.share = { s.share with leakInputWet := wet, leakMs := 0 } ∧ OnlyTouches [.share] s t)
    ∧ (∀ s : State, unnumbered s = false → frozen s = true → GenSettled s → s.share.leakInputWet = true →
      s.share.leakWet = false →
      ∃ t, exec .leakWet s = .next t
        ∧ t.share.leakWet = true ∧ s.startup.station ∈ t.share.tripSet
        ∧ (s.share.tripSet = [] → t.share.holds.inlet = 0) ∧ t.steam.fillReq = false ∧ t.power.base.fill = false
        ∧ Queued (.trip s.startup.station s.startup.supply.waterGroup) t
        ∧ Queued (.notice .waterTrip (noticeTag s.recipe) s.recipe.cur s.startup.station) t
        ∧ t.share.holds.power = s.share.holds.power ∧ t.share.holds.drain = s.share.holds.drain
        ∧ t.share.table = s.share.table
        ∧ ProgramStands s t ∧ OnlyTouches [.power, .share, .line, .steam, .descale, .recipe] s t)
    ∧ (∀ s : State, unnumbered s = false → frozen s = true → GenSettled s → s.share.leakInputWet = false →
      s.share.leakWet = true →
      ∃ t, exec .leakDry s = .next t
        ∧ t.share.leakWet = false ∧ s.startup.station ∉ t.share.tripSet
        ∧ Queued (.tripClear s.startup.station s.startup.supply.waterGroup) t
        ∧ t.share.holds = s.share.holds ∧ t.share.table = s.share.table
        ∧ SettlesOnly s t ∧ ProgramStands s t
        ∧ OnlyTouches [.power, .share, .line, .steam, .descale, .recipe] s t)
    ∧ (∀ (s : State) (c : Instr), unnumbered s = false → frozen s = false →
      (c = .leakWet ∧ s.share.leakInputWet = true ∧ s.share.leakWet = false)
        ∨ (c = .leakDry ∧ s.share.leakInputWet = false ∧ s.share.leakWet = true) →
      ∃ t, exec c s = .next t
        ∧ t.share.leakWet = decide (c = .leakWet) ∧ t.share.safetyOwed = true
        ∧ (s.startup.station ∈ t.share.tripSet ↔ c = .leakWet)
        ∧ (∀ e ∈ t.line.queue, e.frame.isSafety = true → e ∈ s.line.queue)
        ∧ (c = .leakWet → Queued (.notice .waterTrip (noticeTag s.recipe) s.recipe.cur s.startup.station) t)
        ∧ t.share.table = s.share.table ∧ ProgramStands s t
        ∧ OnlyTouches [.power, .share, .line, .steam, .descale, .recipe] s t)

/-- R53, R54, R56, R51: isolation keeps the floor share of POWER and gives up the water units, with its notice and no
RAISE left waiting; after 60 s of it the POWER hold goes to 0 and an active program faults with LINE_LOST; the end of
the join window makes a MEMBER and changes no hold; the end of the back-off changes nothing else. R52, R43, R48: a
silent neighbour's entry becomes EXPIRED, and later is removed; every other entry and every own hold stands. A water
raise that was refused is asked again each second where its unit is still wanted and the capacity leaves one, and a
STATUS is queued at each period. -/
def Obligations.LinkStateSilenceAndPeriods : Prop :=
  (∀ s : State, unnumbered s = false → GenSettled s → s.share.link ≠ .isolated → s.share.sinceOwnMs.isSome = true →
      ∃ t, exec .lineIsolated s = .next t
        ∧ t.share.link = .isolated ∧ t.share.joinMs = none ∧ t.share.isolatedMs = 0 ∧ t.share.lost = false
        ∧ t.share.holds = ⟨min s.share.holds.power s.share.floor, 0, 0⟩
        ∧ (∀ p, anyWaiting (TxFrame.isRaise p) t.line.queue = false)
        ∧ Queued (.notice .lineIsolated (noticeTag s.recipe) s.recipe.cur 0) t
        ∧ t.share.table = s.share.table ∧ t.share.tripSet = s.share.tripSet
        ∧ ProgramStands s t ∧ OnlyTouches [.power, .share, .line, .steam, .descale, .recipe] s t)
    ∧ (∀ s : State, unnumbered s = false → s.line.queue = [] → s.share.link = .isolated → s.share.lost = false →
      ∃ t, exec .lineLost s = .next t
        ∧ t.share.link = .isolated ∧ t.share.lost = true ∧ t.share.holds.power = 0
        ∧ Queued (.notice .lineLost (noticeTag s.recipe) s.recipe.cur 0) t
        ∧ (programActive s.recipe = true →
            t.recipe.state = .faulted ∧ t.recipe.cur = s.recipe.lastHeat ∧ t.recipe.stack = []
            ∧ t.recipe.store = s.recipe.store ∧ ClimateLeft s t
            ∧ Queued (.notice .programFault (noticeTag s.recipe) s.recipe.lastHeat 2) t)
        ∧ (programActive s.recipe = false → t.recipe.state = s.recipe.state ∧ t.climate = s.climate)
        ∧ OnlyTouches [.climate, .power, .share, .line, .steam, .descale, .recipe] s t)
    ∧ (∀ s : State, s.share.link = .joining → s.share.joinMs.isSome = true →
      ∃ t, exec .joinWindowEnd s = .next t
        ∧ t.share = { s.share with link := .member, joinMs := none } ∧ OnlyTouches [.share, .line] s t)
    ∧ (∀ s : State, ∃ t, exec .yieldBackoffEnd s = .next t
        ∧ t.share = { s.share with backoffMs := none } ∧ OnlyTouches [.share] s t)
    ∧ (∀ (s : State) (n : Nibble) (e : Entry), findEntry s.share.table n.toNat = some e → e.expired = false →
      ∃ t, exec (.entryExpired n) s = .next t
        ∧ findEntry t.share.table n.toNat = some { e with expired := true, heardMs := max 3500 e.heardMs }
        ∧ (∀ m : Nat, m < 16 → m ≠ n.toNat → findEntry t.share.table m = findEntry s.share.table m)
        ∧ t.share = { s.share with table := t.share.table } ∧ OnlyTouches [.share, .line] s t)
    ∧ (∀ (s : State) (n : Nibble) (e : Entry), findEntry s.share.table n.toNat = some e →
      ∃ t, exec (.entryRemoved n) s = .next t
        ∧ findEntry t.share.table n.toNat = none
        ∧ (∀ m : Nat, m < 16 → m ≠ n.toNat → findEntry t.share.table m = findEntry s.share.table m)
        ∧ t.share = { s.share with table := t.share.table } ∧ OnlyTouches [.share, .line] s t)
    ∧ (∀ (s : State) (p : Pool), unnumbered s = false → frozen s = true → s.share.link = .member →
      s.line.malformed < 8 → s.superv.configFault = false → s.startup.restarting = false →
      p ≠ .power → waterWant s p = true → s.share.holds.get p = 0 →
      othersCharges s p < poolCapacity s.startup.supply p → (p = .inlet → s.share.tripSet = []) →
      anyWaiting (TxFrame.isLower p) s.line.queue = false → raiseQueued p s = false →
      ∃ t, exec .waterRaiseRetry s = .next t
        ∧ Queued (.raise p s.startup.supply.waterGroup 1) t
        ∧ t.share = { s.share with retryMs := 0 } ∧ OnlyTouches [.share, .line] s t)
    ∧ (∀ s : State, unnumbered s = false → frozen s = true →
      ∃ t, exec .statusPeriod s = .next t
        ∧ Queued .status t ∧ t.share = { s.share with statusMs := 0 } ∧ OnlyTouches [.share, .line] s t)

/-- R46, R55, R77: an own frame that completes leaves the queue, where every other frame stays in its place, leaves the
line IDLE, clears the clash count and starts the isolation count again. A RAISE that was not vetoed gives the hold its
value, unless a decrease came while it was sent; a vetoed one changes no hold and, for POWER, sets the veto mark; and
completion ends an isolation that NUMBER_CLASH does not hold. R160: the last LOWER of a restart, or the frame it waited
for, brings the re-initialisation. That a decrease which changes nothing does not bind the RAISE is read from R42 (log
entry 34), and the cause RESTART of a descale ended in OFF from R114 and R160 (log entry 14); that a RAISE from a hold of
0 is recorded also under a CONFIG_FAULT decided while it was sent is the model's choice (log entry 62), and so are the
re-initialisation in that same step (log entry 16), DESCALE_DUE before DESCALE_PHASE (log entry 17), no
end notice for an excursion that is cleared (log entry 47), no notice with the cause RESTART for a descale that a fault has
ended during the restart (log entry 58), and a CORE that shows its probe absent inside its limits in the start check (log
entry 64). -/
def Obligations.OwnFrameCompletes : Prop :=
  (∀ (s : State) (vetoed : Bool) (f : TxFrame), GenSettled s → unnumbered s = false → frozen s = true →
      sendingFrame s = some f →
      s.startup.restarting = false ∨ ((∃ p, s.startup.restartLowers.get p = true ∧ ∀ g, f ≠ .lower p g 0)
        ∧ s.startup.restartMs < 1000) →
      ∃ t, exec (.ownFrameComplete vetoed) s = .next t
        ∧ t.line.state = .idle ∧ sendingFrame t = none ∧ t.line.clashes = 0 ∧ t.line.txBytes = []
        ∧ (s.share.sinceOwnMs.isSome = true → t.share.sinceOwnMs = some 0)
        ∧ (s.share.link ≠ .isolated ∨ s.line.numberClash = true → vetoed = true ∨ (∀ p, f.raiseValue p = none) →
            t.line.queue = s.line.queue.filter fun e => !e.sending)
        ∧ ((∃ p, f.raiseValue p ≠ none) → vetoed = true → t.share.holds = s.share.holds)
        ∧ (vetoed = true → t.share.vetoMark = (s.share.vetoMark || (f.raiseValue .power).isSome))
        ∧ (∀ v ∈ f.raiseValue .power, vetoed = false →
            t.share.vetoMark = false
            ∧ t.share.holds = { s.share.holds with power := if s.share.fell.power then s.share.holds.power else v })
        ∧ (∀ v ∈ f.raiseValue .inlet, vetoed = false → s.steam.inletWant = true → s.share.tripSet = [] →
            t.share.holds = { s.share.holds with inlet := if s.share.fell.inlet then s.share.holds.inlet else v })
        ∧ (∀ v ∈ f.raiseValue .drain, vetoed = false → s.steam.drainWant = true →
            t.share.holds = { s.share.holds with drain := if s.share.fell.drain then s.share.holds.drain else v })
        ∧ ((∀ p, f.raiseValue p = none) → t.share.holds = s.share.holds)
        ∧ (s.share.link = .isolated → s.line.numberClash = false →
            t.share.link = .joining ∧ t.share.joinMs = some 0 ∧ Queued .status t)
        ∧ (s.share.link ≠ .isolated ∨ s.line.numberClash = true → t.share.link = s.share.link)
        ∧ t.share.table = s.share.table ∧ t.share.tripSet = s.share.tripSet
        ∧ (f = .lower .power s.startup.supply.circuitGroup 0 → t.startup.restartLowers.power = false)
        ∧ t.startup.restarting = s.startup.restarting
        ∧ ProgramStands s t ∧ OnlyTouches [.startup, .power, .share, .line, .steam, .descale, .recipe] s t)
    ∧ (∀ (s : State) (vetoed : Bool) (f : TxFrame), unnumbered s = false → frozen s = true →
      s.startup.restarting = true → sendingFrame s = some f →
      1000 ≤ s.startup.restartMs ∨ (∀ p, s.startup.restartLowers.get p = true → ∃ g, f = .lower p g 0) →
      ∃ t, exec (.ownFrameComplete vetoed) s = .next t ∧ Restarted s t ∧ t.line.state = .idle)

/-! ### The line -/

/-- R62, R66, R44: 300 recessive bits end WAIT, and ten end a break; the head of the queue begins on an IDLE line, with
the header, destination and length bytes of R63; another station's opening mark makes the line BUSY and voids every
RAISE that waits. R48, R174, R175, R179: the body between the length byte and the check field carries what the frame was
queued with, group and hold, group and need, type, origin and group, kind, code and detail, or code, tag, index and
detail, and for a STATUS or a READING what the state then holds, each value in its bytes and bits; a remaining time that
has run out is 0, and the tag in a READING is 0 while the store is empty, both the model's choice (log entries 52 and
60). -/
def Obligations.LineStateChanges : Prop :=
  (∀ s : State, s.line.state = .wait → unnumbered s = false →
      ∃ t, exec .lineIdle s = .next t ∧ t.line = { s.line with state := .idle } ∧ OnlyTouches [.line] s t)
    ∧ (∀ s : State, s.line.state = .busy → s.line.breakSeen = true →
      ∃ t, exec .lineIdleAfterBreak s = .next t
        ∧ t.line = { s.line with state := .idle, breakSeen := false } ∧ OnlyTouches [.line] s t)
    ∧ (∀ (s : State) (e : QEntry) (rest : List QEntry), s.line.state = .idle → unnumbered s = false →
      sendingFrame s = none → s.line.queue = e :: rest →
      ∃ t, exec .frameBegin s = .next t
        ∧ t.line = { s.line with
            state := .busy, queue := ⟨e.frame, true⟩ :: rest, txBytes := t.line.txBytes }
        ∧ t.line.txBytes.take 3 =
            [byteOf (e.frame.cls * 16 + s.startup.station),
              byteOf ((if e.frame.cls = 5 then s.startup.partner else 0) * 16 + e.frame.kind),
              byteOf (t.line.txBytes.length - 5)]
        ∧ t.line.txBytes.drop (t.line.txBytes.length - 2)
            = bytes2 (checkField (t.line.txBytes.take (t.line.txBytes.length - 2))).toNat
        ∧ (FrameFits s e.frame → FrameLaid s (sentBody t) e.frame)
        ∧ t.share = { s.share with fell := t.share.fell } ∧ OnlyTouches [.line, .share] s t)
    ∧ (∀ s : State, s.line.state ≠ .busy → unnumbered s = false →
      ∃ t, exec .openingMarkSeen s = .next t
        ∧ t.line.state = .busy ∧ (∀ p, anyWaiting (TxFrame.isRaise p) t.line.queue = false)
        ∧ (∀ p, t.share.redecide.get p
            = (s.share.redecide.get p || anyWaiting (TxFrame.isRaise p) s.line.queue))
        ∧ t.share = { s.share with redecide := t.share.redecide } ∧ OnlyTouches [.line, .share] s t)

/-- R67, R72, R77, R44: a frame that loses arbitration, has a drive fault, clashes or has its closing mark broken is no
longer being sent; a RAISE so stopped is gone, and any other frame, of whatever class, waits again at its place, while
every other frame keeps its own. Lost arbitration voids the RAISEs that wait, and their pools are decided again at the
winner's closing mark; after a clash, a drive fault or a broken mark the RAISE is decided at its next ordinary occasion,
which is the model's choice (log entry 15), as is which of two frames of one sort then waits (log entry 32). R73, R53,
R55: the third clash without a completed own frame is NUMBER_CLASH, told once, and the station is ISOLATED, with POWER
at the floor share at most, no water unit and no RAISE; that it is ISOLATED at once before the freeze too is the model's
choice (log entry 65). R160: a restart that waited for the frame alone re-initialises with it (log entry 16), DESCALE_DUE
before DESCALE_PHASE (log entry 17), no end notice for a cleared excursion (log entry 47), none with the cause RESTART for
a descale that a fault has ended meanwhile (log entry 58), a CORE that shows its probe absent inside its limits in the start
check (log entry 64), and that cause for a descale ended in OFF, which is read from R114 and R160 (log entry 14). -/
def Obligations.StoppedFramesWaitAgain : Prop :=
  (∀ (s : State) (f : TxFrame), sendingFrame s = some f → s.line.queue.countP (·.sending) = 1 →
      s.startup.restarting = false →
      ∃ t, exec .arbitrationLost s = .next t
        ∧ t.line.state = .busy ∧ t.line.breakSeen = false ∧ sendingFrame t = none ∧ t.line.txBytes = []
        ∧ (∀ p, raiseQueued p t = false)
        ∧ (∀ p, t.share.redecide.get p = (s.share.redecide.get p || raiseQueued p s))
        ∧ ((∀ p, f.isRaise p = false) →
            (∀ e ∈ s.line.queue, e.sending = false → f.sameSort e.frame = false ∧ f.removes e.frame = false) →
            t.line.queue = (s.line.queue.filter fun e =>
                !(e.frame.isRaise .power || e.frame.isRaise .inlet || e.frame.isRaise .drain)).map
              fun e => ⟨e.frame, false⟩)
        ∧ t.share = { s.share with redecide := t.share.redecide } ∧ OnlyTouches [.line, .share] s t)
    ∧ (∀ (s : State) (f : TxFrame) (c : Instr), sendingFrame s = some f → s.line.queue.countP (·.sending) = 1 →
      s.startup.restarting = false → c = .driveFault ∨ c = .closingMarkBroken
        ∨ (c = .clash ∧ GenSettled s ∧ (s.line.clashes < 2 ∨ s.line.numberClash = true)) →
      ∃ t, exec c s = .next t
        ∧ t.line.state = (if c = .driveFault then .wait else .busy) ∧ t.line.breakSeen = decide (c ≠ .driveFault)
        ∧ sendingFrame t = none ∧ t.line.txBytes = []
        ∧ t.line.clashes = (if c = .clash then s.line.clashes + 1 else s.line.clashes)
        ∧ (∀ p, f.isRaise p = true → t.line.queue = s.line.queue.filter fun e => !e.sending)
        ∧ ((∀ p, f.isRaise p = false) →
            (∀ e ∈ s.line.queue, e.sending = false → f.sameSort e.frame = false ∧ f.removes e.frame = false) →
            t.line.queue = s.line.queue.map fun e => ⟨e.frame, false⟩)
        ∧ t.share = s.share ∧ SettlesOnly s t ∧ ProgramStands s t
        ∧ (c ≠ .clash → OnlyTouches [.line] s t) ∧ OnlyTouches [.power, .line, .steam, .descale, .recipe] s t)
    ∧ (∀ (s : State) (f : TxFrame), s.line.queue = [⟨f, true⟩] → unnumbered s = false → s.startup.restarting = false →
      GenSettled s → 2 ≤ s.line.clashes → s.line.numberClash = false →
      ∃ t, exec .clash s = .next t
        ∧ t.line.state = .busy ∧ t.line.breakSeen = true ∧ sendingFrame t = none ∧ t.line.txBytes = []
        ∧ t.line.clashes = s.line.clashes + 1 ∧ t.line.numberClash = true ∧ t.share.link = .isolated
        ∧ Queued (.notice .numberClash (noticeTag s.recipe) s.recipe.cur s.startup.station) t
        ∧ (∀ p, raiseQueued p t = false)
        ∧ (s.share.link ≠ .isolated →
            t.share.holds = ⟨min s.share.holds.power s.share.floor, 0, 0⟩ ∧ t.share.joinMs = none
            ∧ t.share.isolatedMs = 0 ∧ t.share.lost = false
            ∧ Queued (.notice .lineIsolated (noticeTag s.recipe) s.recipe.cur 0) t)
        ∧ (s.share.link = .isolated → t.share = s.share)
        ∧ t.share.table = s.share.table ∧ t.share.tripSet = s.share.tripSet
        ∧ ProgramStands s t ∧ OnlyTouches [.power, .share, .line, .steam, .descale, .recipe] s t)
    ∧ (∀ (s : State) (c : Instr), unnumbered s = false → frozen s = true → s.startup.restarting = true →
      (sendingFrame s).isSome = true → s.startup.restartLowers = PerPool.all false ∨ 1000 ≤ s.startup.restartMs →
      c = .arbitrationLost ∨ c = .driveFault ∨ c = .closingMarkBroken
        ∨ (c = .clash ∧ (s.line.clashes < 2 ∨ s.line.numberClash = true)) →
      ∃ t, exec c s = .next t ∧ Restarted s t)

/-- R73, R55, R36: a frame with the own number counts a clash and neither creates nor refreshes an entry; at the third
clash without a completed own frame NUMBER_CLASH is held, with its notice, and the station is ISOLATED. R49, R58: in
other respects the frame is taken, so that a STATUS that is not vetoed is answered where it is joining, and in the own
water group its leak flag puts the own number into the water trip set or takes it out. Those two for a sender without an
entry are read from R73 (log entry 49); that the station is ISOLATED at once before the freeze too is the model's choice
(log entry 65). -/
def Obligations.OwnNumberCountsAClash : Prop :=
  (∀ (s : State) (content : FrameContent) (otherVeto : Bool), LineFree s → GenSettled s → s.line.queue = [] →
      ∃ t, exec (.ownNumberFrame content otherVeto) s = .next t
        ∧ t.line.clashes = s.line.clashes + 1 ∧ t.share.table = s.share.table ∧ t.line.state = .idle
        ∧ (2 ≤ s.line.clashes → s.line.numberClash = false →
            t.line.numberClash = true ∧ t.share.link = .isolated
            ∧ Queued (.notice .numberClash (noticeTag s.recipe) s.recipe.cur s.startup.station) t)
        ∧ (s.line.clashes < 2 ∨ s.line.numberClash = true →
            t.line.numberClash = s.line.numberClash ∧ t.share.link = s.share.link)
        ∧ ProgramStands s t ∧ OnlyTouches [.power, .share, .line, .steam, .descale, .recipe] s t)
    ∧ (∀ (s : State) (b : StatusBody), LineFree s → GenSettled s → s.line.queue = [] → frozen s = true →
      ∃ t, exec (.ownNumberFrame (.status b) false) s = .next t
        ∧ t.share.table = s.share.table
        ∧ (b.joining = true → Queued .status t)
        ∧ (b.joining = false → ∀ e ∈ t.line.queue, e.frame.isStatus = false)
        ∧ (b.waterGroup.toNat = s.startup.supply.waterGroup → b.leak = true →
            s.startup.station ∈ t.share.tripSet ∧ (s.share.tripSet = [] → t.share.holds.inlet = 0)
            ∧ (s.startup.station ∉ s.share.tripSet →
                Queued (.notice .waterTrip (noticeTag s.recipe) s.recipe.cur s.startup.station) t))
        ∧ (b.waterGroup.toNat = s.startup.supply.waterGroup → b.leak = false → s.startup.station ∉ t.share.tripSet)
        ∧ (b.waterGroup.toNat ≠ s.startup.supply.waterGroup → t.share.tripSet = s.share.tripSet)
        ∧ (∀ m : Nat, m ≠ s.startup.station → (m ∈ t.share.tripSet ↔ m ∈ s.share.tripSet)))

/-- R68, R70, R71, R62: a malformed frame raises the count and is handed to no block; its verdict slot is driven where
it can be found and the station is not suspended; the line is IDLE at its closing mark, WAIT where the frame's end is
not known, and BUSY until ten recessive bits after a break or a dominant closing mark. R45, R74: a frame that only its
closing mark broke was well-formed at its verdict slot, and was vetoed there as its content asks: a RAISE by capacity or
trip set, a COMMAND to this station by its sender. R69, R71, R74: a COMMAND to this station from a sender that is not
its partner is vetoed, and a well-formed frame that no block takes is not; of each, the malformation count returns to 0,
its sender is heard, and nothing else follows. That the eighth malformed frame is still vetoed is read from R71 (log
entry 13). -/
def Obligations.FramesAreVetoedAndHeard : Prop :=
  (∀ (s : State) (g : MalformGround), LineFree s → groundOk g = true →
      ∃ t, exec (.malformedFrame g) s = .next t
        ∧ t.line.malformed = s.line.malformed + 1
        ∧ (closingMarkOf g = none →
            t.line.verdictDriven = (decide (s.line.malformed < 8) && decide (g ≠ .lengthAbove24 ∧ g ≠ .breakInside))
            ∧ t.line.state = (if g = .lengthAbove24 then .wait else if g = .breakInside then .busy else .idle)
            ∧ t.line.breakSeen = decide (g = .breakInside))
        ∧ ((closingMarkOf g).isSome = true → t.line.state = .busy ∧ t.line.breakSeen = true)
        ∧ (closingMarkOf g = some none → t.line.verdictDriven = decide (s.line.malformed < 8))
        ∧ (∀ (n : Nibble) (p : Pool) (group : Byte) (hold : Word16),
            g = .closingMarkDominant n (some (.raise p group hold)) →
            t.line.verdictDriven =
              (decide (group.toNat = ownGroup s.startup.supply p ∧ s.share.link ≠ .joining
                  ∧ poolCapacity s.startup.supply p
                    < (((s.share.table.filter fun e => e.station ≠ n.toNat).map (charge s p)).sum
                      + s.share.holds.get p + holdTaken p hold))
                || decide (p = .inlet ∧ group.toNat = s.startup.supply.waterGroup ∧ s.share.tripSet ≠ [])))
        ∧ (∀ n dest : Nibble, g = .closingMarkDominant n (some (.command dest)) →
            t.line.verdictDriven = decide (dest.toNat = s.startup.station ∧ n.toNat ≠ s.startup.partner))
        ∧ (∀ (n : Nibble) (c : FrameContent), g = .closingMarkDominant n (some c) →
            (∀ (p : Pool) (group : Byte) (hold : Word16), c ≠ .raise p group hold) → (∀ dest : Nibble, c ≠ .command dest) →
            t.line.verdictDriven = false)
        ∧ t.line.clashes = s.line.clashes ∧ OnlyTouches [.line] s t)
    ∧ (∀ (s : State) (n : Nibble), LineFree s → GenSettled s → n ≠ 0 → n.toNat ≠ s.startup.station →
      n.toNat ≠ s.startup.partner → s.startup.station ≤ 15 →
      ∃ t, exec (.partnerVeto n) s = .next t
        ∧ FrameClosed true s t ∧ SenderHeard n.toNat s t ∧ SettlesOnly s t ∧ ProgramStands s t
        ∧ OnlyTouches [.power, .share, .line, .steam, .descale, .recipe] s t)
    ∧ (∀ (s : State) (n : Nibble), LineFree s → GenSettled s → n ≠ 0 → n.toNat ≠ s.startup.station →
      ∃ t, exec (.wellFormedFrameNotTaken n) s = .next t
        ∧ FrameClosed false s t ∧ SenderHeard n.toNat s t ∧ SettlesOnly s t ∧ ProgramStands s t
        ∧ OnlyTouches [.power, .share, .line, .steam, .descale, .recipe] s t)

/-! ### The steam generator -/

/-- R79, R83, R85, R86, R87, R89, R90: a changed electrode input starts its count again; a reading changes to what its
electrode shows and nothing happens where it shows the same. LOW going DRY while the generator heats or is ready locks
the BOILER demand at 0 and begins a top-up where WORK and HIGH read DRY; WORK going WET ends a cooking fill in HEATING
and gives the INLET unit back. WORK going DRY while the generator heats or is ready begins a top-up where none is in
progress, which ends at once where HIGH reads WET; WORK going WET ends the top-up and the lock, and the BOILER demand
and the gate are formed afresh; HIGH going WET ends a cooking fill or a top-up, and leaves a lock. -/
def Obligations.LevelsStartAndEndFills : Prop :=
  (∀ (s : State) (e : Electrode) (wet : Bool), ∃ t, exec (.levelInputChange e wet) s = .next t
      ∧ t.steam = { s.steam with
          levelInputs := s.steam.levelInputs.set wet e, levelMs := s.steam.levelMs.set 0 e }
      ∧ OnlyTouches [.steam] s t)
    ∧ (∀ (s : State) (e : Electrode), ∃ t, exec (.levelReadingChange e) s = .next t
      ∧ t.steam.levels = s.steam.levels.set (s.steam.levelInputs.get e) e
      ∧ (s.steam.levelInputs.get e = s.steam.levels.get e → t = s)
      ∧ t.steam.scale = s.steam.scale ∧ t.steam.sub = s.steam.sub ∧ t.steam.acid = s.steam.acid
      ∧ t.startup = s.startup ∧ t.climate = s.climate ∧ t.superv = s.superv ∧ t.pending = s.pending)
    ∧ (∀ s : State, GenSettled s → frozen s = true → s.startup.restarting = false →
      s.steam.gen = .heating ∨ s.steam.gen = .ready → s.steam.levels.low = true → s.steam.levelInputs.low = false →
      ∃ t, exec (.levelReadingChange .low) s = .next t
        ∧ t.steam.lock = true ∧ t.steam.boilerDemand = 0 ∧ t.steam.gen = s.steam.gen
        ∧ (s.steam.fill = none → s.steam.levels.work = false → s.steam.levels.high = false →
            t.steam.fill = some ⟨.topUp, 750, 0, false⟩ ∧ t.steam.inletWant = true ∧ t.share = s.share)
        ∧ (∀ f ∈ s.steam.fill, t.steam.fill = some f ∧ t.share = s.share)
        ∧ t.share.holds.power = s.share.holds.power ∧ t.share.holds.drain = s.share.holds.drain
        ∧ ProgramStands s t ∧ OnlyTouches [.power, .share, .line, .steam, .descale, .recipe] s t)
    ∧ (∀ (s : State) (f : Fill), GenSettled s → frozen s = true → s.startup.restarting = false →
      s.steam.gen = .filling → s.steam.fill = some f → f.kind = .cooking → s.steam.levels.work = false →
      s.steam.levelInputs.work = true →
      ∃ t, exec (.levelReadingChange .work) s = .next t
        ∧ t.steam.gen = .heating ∧ t.steam.fill = none ∧ t.steam.lock = false ∧ t.steam.fillReq = false
        ∧ t.power.base.fill = false ∧ t.steam.inletWant = false
        ∧ (s.steam.inletWant = true → t.share.holds.inlet = 0)
        ∧ t.share.holds.power = s.share.holds.power ∧ t.share.holds.drain = s.share.holds.drain
        ∧ ProgramStands s t ∧ OnlyTouches [.power, .share, .line, .steam, .descale, .recipe] s t)
    ∧ (∀ s : State, GenSettled s → frozen s = true → s.startup.restarting = false →
      s.steam.gen = .heating ∨ s.steam.gen = .ready → s.steam.levels.work = true → s.steam.levelInputs.work = false →
      ∃ t, exec (.levelReadingChange .work) s = .next t
        ∧ t.steam.gen = s.steam.gen ∧ t.steam.lock = s.steam.lock
        ∧ (s.steam.fill = none → s.steam.levels.high = false →
            t.steam.fill = some ⟨.topUp, 750, 0, false⟩ ∧ t.steam.inletWant = true ∧ t.share = s.share)
        ∧ (s.steam.fill = none → s.steam.levels.high = true → t.steam.fill = none ∧ t.steam.inletWant = false)
        ∧ (∀ f ∈ s.steam.fill, t.steam.fill = some f ∧ t.share = s.share)
        ∧ t.share.holds.power = s.share.holds.power ∧ t.share.holds.drain = s.share.holds.drain
        ∧ ProgramStands s t ∧ OnlyTouches [.power, .share, .line, .steam, .descale, .recipe] s t)
    ∧ (∀ s : State, GenSettled s → frozen s = true → s.startup.restarting = false →
      s.steam.gen = .heating ∨ s.steam.gen = .ready → s.steam.levels.work = false → s.steam.levelInputs.work = true →
      (∀ f ∈ s.steam.fill, f.kind = .topUp) →
      ∃ t, exec (.levelReadingChange .work) s = .next t
        ∧ t.steam.gen = s.steam.gen ∧ t.steam.lock = false ∧ t.steam.fill = none ∧ t.steam.fillReq = false
        ∧ (s.steam.fill = none → t.share = s.share)
        ∧ (s.steam.fill.isSome = true → t.steam.inletWant = false
            ∧ (s.steam.inletWant = true → t.share.holds.inlet = 0))
        ∧ (s.steam.gen = .heating → reading s .boil ≠ none →
            t.steam.boilerDemand = (if levelNow s = .derate then 15 else 20))
        ∧ t.steam.gate = decide (s.steam.gen = .ready ∧ 0 < s.climate.steamDemand)
        ∧ t.share.holds.power = s.share.holds.power ∧ t.share.holds.drain = s.share.holds.drain
        ∧ ProgramStands s t ∧ OnlyTouches [.power, .share, .line, .steam, .descale, .recipe] s t)
    ∧ (∀ (s : State) (f : Fill), GenSettled s → frozen s = true → s.startup.restarting = false →
      s.steam.fill = some f → s.steam.levels.high = false → s.steam.levelInputs.high = true →
      (s.steam.gen = .filling ∧ f.kind = .cooking)
        ∨ ((s.steam.gen = .heating ∨ s.steam.gen = .ready) ∧ f.kind = .topUp) →
      ∃ t, exec (.levelReadingChange .high) s = .next t
        ∧ t.steam.gen = (if s.steam.gen = .filling then .heating else s.steam.gen)
        ∧ t.steam.lock = (if s.steam.gen = .filling then false else s.steam.lock)
        ∧ t.steam.fill = none ∧ t.steam.fillReq = false ∧ t.power.base.fill = false ∧ t.steam.inletWant = false
        ∧ (s.steam.inletWant = true → t.share.holds.inlet = 0)
        ∧ t.share.holds.power = s.share.holds.power ∧ t.share.holds.drain = s.share.holds.drain
        ∧ ProgramStands s t ∧ OnlyTouches [.power, .share, .line, .steam, .descale, .recipe] s t)

/-- R83, R85, R97, R98, R99, R100, R105: a flow pulse outside a fill counts for nothing; in a cooking fill or top-up
it is taken from the budget and counted toward scale, which rises by the hardness at every 50th pulse; the last pulse
of the budget without its level is FILL_FAULT. The first pulse of a dose sets the acid marker. A completed write holds
what was being written, and one asked for meanwhile is made with the values current then. That the scale count comes
before the end of the budget is read from R98 (log entry 11). -/
def Obligations.PulsesCountWaterAndScale : Prop :=
  (∀ s : State, s.steam.fill = none → ∃ t, exec .flowPulse s = .next t ∧ t = s)
    ∧ (∀ (s : State) (f : Fill), GenSettled s → s.steam.fill = some f → f.kind ≠ .service → 2 ≤ f.budget →
      s.steam.sub < 49 →
      ∃ t, exec .flowPulse s = .next t
        ∧ t.steam = { s.steam with
            sub := s.steam.sub + 1, fill := some { f with budget := f.budget - 1, counted := true }
            fillReq := t.steam.fillReq, pumpReq := t.steam.pumpReq
            boilerDemand := t.steam.boilerDemand, gate := t.steam.gate }
        ∧ ProgramStands s t ∧ OnlyTouches [.power, .steam, .descale, .recipe] s t)
    ∧ (∀ (s : State) (f : Fill), GenSettled s → s.steam.fill = some f → f.kind ≠ .service → 2 ≤ f.budget →
      s.steam.sub = 49 → s.steam.scale ≤ 65535 → unnumbered s = false →
      scaleLevel (min 65535 (s.steam.scale + s.startup.supply.hardness)) s.startup.supply.tDue ≠ .block →
      ∃ t, exec .flowPulse s = .next t
        ∧ t.steam.sub = 0 ∧ t.steam.scale = min 65535 (s.steam.scale + s.startup.supply.hardness)
        ∧ t.steam.fill = some { f with budget := f.budget - 1, counted := true }
        ∧ ((levelNow s).code < (levelNow t).code →
            Queued (.notice .descaleDue (noticeTag s.recipe) s.recipe.cur (levelNow t).code) t)
        ∧ ((lastWritten s.steam).scale + 16 ≤ t.steam.scale → t.steam.writing.isSome = true)
        ∧ t.steam.acid = s.steam.acid ∧ t.share = s.share
        ∧ ProgramStands s t ∧ OnlyTouches [.power, .line, .steam, .descale, .recipe] s t)
    ∧ (∀ (s : State) (f : Fill), GenSettled s → unnumbered s = false → s.steam.fill = some f → f.kind ≠ .service →
      f.budget ≤ 1 → s.steam.sub < 49 → s.steam.levels.work = false → s.steam.levels.high = false →
      ∃ t, exec .flowPulse s = .next t
        ∧ t.steam.gen = .fault ∧ t.steam.faultKind = some .fillFault ∧ t.steam.fill = none ∧ t.steam.drain = none
        ∧ t.steam.boilerDemand = 0 ∧ t.steam.gate = false ∧ t.steam.sub = s.steam.sub + 1
        ∧ Queued (.notice .steamWithheld (noticeTag s.recipe) s.recipe.cur 513) t
        ∧ ProgramStands s t ∧ OnlyTouches [.power, .share, .line, .steam, .descale, .recipe] s t)
    ∧ (∀ (s : State) (f : Fill), s.steam.gen = .service → s.steam.fill = some f → f.kind = .service → 2 ≤ f.budget →
      ∃ t, exec .flowPulse s = .next t
        ∧ t.steam.fill = some { f with budget := f.budget - 1, counted := true }
        ∧ t.steam.scale = s.steam.scale ∧ t.steam.sub = s.steam.sub
        ∧ t.steam.acid = (s.steam.acid || (!f.counted && decide (s.descale.phase = .dose)))
        ∧ (s.steam.acid = false → t.steam.acid = true → t.steam.writing.isSome = true)
        ∧ WaitOnly s t ∧ ProgramStands s t ∧ OnlyTouches [.power, .steam, .descale, .recipe] s t)
    ∧ (∀ (s : State) (r : ServiceRecord), s.steam.writing = some r →
      ∃ t, exec .serviceRecordWritten s = .next t
        ∧ t.steam = { s.steam with
            record := r, writeAgain := false
            writing := if s.steam.writeAgain then some ⟨s.steam.scale, s.steam.sub, s.steam.acid⟩ else none }
        ∧ OnlyTouches [.steam] s t)

/-- R85, R89, R91, R92, R93, R94: a fill whose valve has been driven for 180 s without its level, and a drain whose pump
has run for 240 s, put the generator into FAULT; the cooling timer leads from COOLING to DRAINING; a drain that has run
dry ends in FILLING while steam is wanted and otherwise in EMPTY. R95, R112, R114: the same limits end a service
request, a FILL as a DRAIN, and fault the descale by its acid marker, with the cause told, FILL_FAULT or DRAIN_FAULT. -/
def Obligations.LimitsEndFillsAndDrains : Prop :=
  (∀ (s : State) (f : Fill), unnumbered s = false → s.steam.fill = some f → f.kind ≠ .service →
      s.power.base.fill = true → s.steam.levels.work = false → s.steam.levels.high = false →
      ∃ t, exec .valveTimeLimit s = .next t
        ∧ t.steam.gen = .fault ∧ t.steam.faultKind = some .fillFault ∧ t.steam.fill = none
        ∧ t.steam.boilerDemand = 0 ∧ t.power.base.fill = false
        ∧ Queued (.notice .steamWithheld (noticeTag s.recipe) s.recipe.cur 513) t
        ∧ t.steam.scale = s.steam.scale ∧ ProgramStands s t
        ∧ OnlyTouches [.power, .share, .line, .steam, .descale, .recipe] s t)
    ∧ (∀ (s : State) (f : Fill), unnumbered s = false → s.line.queue = [] → s.steam.fill = some f → f.kind = .service →
      s.power.base.fill = true → programActive s.recipe = false → descaleActive s.descale = true →
      ∃ t, exec .valveTimeLimit s = .next t
        ∧ t.descale.phase = (if s.steam.acid then .holdAcid else .off) ∧ t.steam.request = .none
        ∧ t.steam.fill = none ∧ t.steam.inletWant = false ∧ t.steam.fillReq = false ∧ t.power.base.fill = false
        ∧ t.steam.gen = (if s.steam.levels.low then .cooling else .empty)
        ∧ t.steam.acid = s.steam.acid ∧ t.steam.scale = s.steam.scale ∧ t.descale.soakMark = s.descale.soakMark
        ∧ Queued (.notice .descalePhase (noticeTag s.recipe) s.recipe.cur
            ((if s.steam.acid then 17 else 0) * 256 + DescaleCause.fillFault.code)) t
        ∧ ProgramStands s t ∧ OnlyTouches [.power, .share, .line, .steam, .descale, .recipe] s t)
    ∧ (∀ (s : State) (d : Drain), unnumbered s = false → s.steam.drain = some d → s.power.base.pump = true →
      s.steam.gen ≠ .service →
      ∃ t, exec .pumpTimeLimit s = .next t
        ∧ t.steam.gen = .fault ∧ t.steam.faultKind = some .drainFault ∧ t.steam.drain = none
        ∧ t.power.base.pump = false ∧ Queued (.notice .steamWithheld (noticeTag s.recipe) s.recipe.cur 514) t
        ∧ ProgramStands s t ∧ OnlyTouches [.power, .share, .line, .steam, .descale, .recipe] s t)
    ∧ (∀ (s : State) (d : Drain), unnumbered s = false → s.line.queue = [] → programActive s.recipe = false →
      s.steam.gen = .service → s.descale.phase = .acidDrain ∨ s.descale.phase = .rinseDrain →
      s.steam.drain = some d → s.power.base.pump = true →
      ∃ t, exec .pumpTimeLimit s = .next t
        ∧ t.descale.phase = (if s.steam.acid then .holdAcid else .off) ∧ t.steam.request = .none
        ∧ t.steam.drain = none ∧ t.power.base.pump = false
        ∧ t.steam.gen = (if s.steam.levels.low then .cooling else .empty)
        ∧ t.steam.acid = s.steam.acid ∧ t.steam.scale = s.steam.scale ∧ t.descale.soakMark = s.descale.soakMark
        ∧ Queued (.notice .descalePhase (noticeTag s.recipe) s.recipe.cur
            ((if s.steam.acid then 17 else 0) * 256 + DescaleCause.drainFault.code)) t
        ∧ ProgramStands s t ∧ OnlyTouches [.power, .share, .line, .steam, .descale, .recipe] s t)
    ∧ (∀ s : State, s.steam.gen = .cooling → s.startup.restarting = false →
      ∃ t, exec .coolingTimerExpiry s = .next t
        ∧ t.steam.gen = .draining ∧ t.steam.drain = some ⟨0, 0⟩ ∧ t.steam.drainWant = true
        ∧ t.share = s.share ∧ ProgramStands s t ∧ OnlyTouches [.power, .line, .steam, .descale, .recipe] s t)
    ∧ (∀ (s : State) (d : Drain), frozen s = true → s.startup.restarting = false → s.steam.gen = .draining →
      s.steam.drain = some d → s.power.base.pump = true → s.steam.levels.low = false → s.steam.levels.work = false →
      s.steam.levels.high = false →
      ∃ t, exec .drainDryTimeEnd s = .next t
        ∧ t.steam.gen = (if steamWanted s then .filling else .empty) ∧ t.steam.drain = none
        ∧ (steamWanted s = true → t.steam.fill = some ⟨.cooking, 750, 0, false⟩ ∧ t.steam.inletWant = true)
        ∧ t.power.base.pump = false ∧ (s.steam.drainWant = true → t.share.holds.drain = 0)
        ∧ t.share.holds.power = s.share.holds.power
        ∧ ProgramStands s t ∧ OnlyTouches [.power, .share, .line, .steam, .descale, .recipe] s t)

/-! ### Supervision -/

/-- R140, R141, R127, R145, R86, R91: a reading of the inputs presents each readable value, a value beyond its channel's
range at the nearer end, CORE's above 1300 too; an open CORE presents its last value until the probe state is ABSENT (log
entry 8). The reading holds the last value of an input that has become unreadable, and takes the generator from HEATING to
READY with BOIL at 96.0 °C, and from COOLING to DRAINING with BOIL at 70.0 °C or less, whatever the program state, where
the reading does not end the stage; a hold that has run out leaves the channel without a value, failed to its side, and so
does the first reading of an input that has shown no value. That READY and the 700 mark are judged at a reading is read
from R86 and R91 (log entry 21). R143, R144, R145, R149, R154: at each reading every side that is judged moves by the table
of R144: CLEAR and PENDING by its limit, ACTIVE and RECOVERING by its limit and hysteresis, a failed channel on its failed
side and against it on the other, a held value as a value, and the fixed cavity limit at 300.0 °C and 298.0 °C whether or
not CAV is enabled; a failure to the low side is back inside of that limit, which is read from R149 (log entry 37). While
CORE shows its probe absent its PENDING sides return to CLEAR and the others stand. The sides of a channel that fails as
its hold runs out move in that step, MAINS is judged at each completed frame and, once armed, at a mains gap alone, and a
side that is not judged stands. -/
def Obligations.ReadingsAreHeldThenFail : Prop :=
  (∀ (s : State) (x : SensorInputs) (cav boil moist core : Int), x.cav = .readable cav → x.boil = .readable boil →
      x.moist = .readable moist →
      ∃ t, exec (.sensorReading x) s = .next t
        ∧ reading t .cav = some (max 0 (min 3000 cav)) ∧ reading t .boil = some (max 0 (min 1600 boil))
        ∧ reading t .moist = some (max 0 (min 100 moist)) ∧ reading t .board = some (max (-400) (min 1500 x.board))
        ∧ reading t .mains = reading s .mains ∧ t.recipe.probeShows = !coreAbsent x.core
        ∧ (x.core = .readable core → reading t .core = some (max 0 (min 1300 core)))
        ∧ (x.core = .openCircuit → reading t .core = if s.recipe.probePresent then reading s .core else none)
        ∧ (frozen s = true → s.startup.restarting = false → s.steam.request = .none → GenSettled s →
            (s.recipe.state = .running → ∀ h, currentHeat s.recipe = some h → OutlastsReading s x cav h) →
            t.recipe.state = s.recipe.state ∧ t.recipe.cur = s.recipe.cur
            ∧ (s.steam.gen = .heating → t.steam.gen = (if 960 ≤ boil then .ready else .heating))
            ∧ (s.steam.gen = .cooling →
                if boil ≤ 700
                then t.steam.gen = .draining ∧ t.steam.drain = some ⟨0, 0⟩ ∧ t.steam.drainWant = true
                else t.steam.gen = .cooling ∧ t.steam.coolMs = s.steam.coolMs))
        ∧ t.startup = s.startup ∧ t.pending = s.pending)
    ∧ (∀ (s : State) (x : SensorInputs) (c : Channel) (i : AnalogInput),
      (c = .cav ∧ i = x.cav) ∨ (c = .boil ∧ i = x.boil) ∨ (c = .moist ∧ i = x.moist)
        ∨ (c = .core ∧ i = x.core ∧ i = .shortCircuit) →
      i = .openCircuit ∨ i = .shortCircuit →
      ∃ t, exec (.sensorReading x) s = .next t
        ∧ (∀ v, reading s c = some v → (s.superv.readings.get c).failed = none →
            reading t c = some v ∧ (t.superv.readings.get c).holding = true ∧ (t.superv.readings.get c).failed = none)
        ∧ ((s.superv.readings.get c).failed ≠ none ∨ (reading s c = none ∧ (s.superv.readings.get c).holding = false) →
            reading t c = reading s c
            ∧ (t.superv.readings.get c).failed = some (if i = .shortCircuit then .high else .low))
        ∧ t.startup = s.startup ∧ t.pending = s.pending)
    ∧ (∀ (s : State) (x : SensorInputs), ∃ t, exec (.sensorReading x) s = .next t
        ∧ (∀ (c : Channel) (d : Side), c ≠ .mains → d ≠ .fixed ∨ c = .cav → SideJudged s t c d)
        ∧ (∀ d : Side, d ≠ .fixed → sideRec t.superv .mains d = sideRec s.superv .mains d)
        ∧ t.superv = { s.superv with
            readings := t.superv.readings, low := t.superv.low, high := t.superv.high, fixed := t.superv.fixed }
        ∧ t.startup = s.startup ∧ t.pending = s.pending)
    ∧ (∀ (s : State) (c : Instr),
      (∃ interval volts : Nat, c = .zeroCrossing interval volts ∧ s.power.inFrame = true ∧ s.power.slot = 19)
        ∨ (c = .missedCrossing ∧ s.power.inFrame = true ∧ 2 ≤ s.power.misses) →
      ∃ t, exec c s = .next t
        ∧ (∀ d : Side, d ≠ .fixed → SideJudged s t .mains d)
        ∧ (∀ (k : Channel) (d : Side), k ≠ .mains → sideRec t.superv k d = sideRec s.superv k d)
        ∧ t.superv.mainsArmed = (s.superv.mainsArmed || decide (c ≠ .missedCrossing))
        ∧ t.startup = s.startup ∧ t.climate = s.climate ∧ t.pending = s.pending)
    ∧ (∀ (s : State) (c : Channel), (s.superv.readings.get c).holding = true → GenSettled s →
      ∃ t, exec (.channelFailed c) s = .next t
        ∧ reading t c = none ∧ (t.superv.readings.get c).holding = false
        ∧ (t.superv.readings.get c).failed
            = some (if (s.superv.readings.get c).cond = .shortCircuit then .high else .low)
        ∧ (∀ d, d ≠ c → t.superv.readings.get d = s.superv.readings.get d)
        ∧ (∀ d : Side, d ≠ .fixed ∨ c = .cav → SideJudged s t c d)
        ∧ (∀ (k : Channel) (d : Side), k ≠ c → d ≠ .fixed ∨ k = .cav → sideRec t.superv k d = sideRec s.superv k d)
        ∧ t.superv.relayClosed = s.superv.relayClosed ∧ t.superv.trip = s.superv.trip
        ∧ SettlesOnly s t ∧ ProgramStands s t ∧ OnlyTouches [.power, .steam, .descale, .recipe, .superv] s t)

/-- R142, R144, R146, R147, R148, R149: an excursion that starts counts a strike, takes the consequence of its map or
TRIP at the strike limit, and is told with its detail: NOTE does nothing more, CUT takes every demand and every element
away, and TRIP sets the latch, opens the relay, gives the POWER hold up and faults an active program. An excursion that
ends leaves its side CLEAR, lifts its consequence and leaves the latch and the relay as they are; while CORE shows its
probe absent no recovery runs out. That a TRIP with the latch already set leaves the hold is read from R42 (log entry
35); that an active descale faults at once also during a RESTART is the model's choice (log entry 58). -/
def Obligations.ExcursionsTakeTheirConsequence : Prop :=
  (∀ (s : State) (c : Channel) (d : Side), unnumbered s = false → GenSettled s → s.line.queue = [] →
      d ≠ .fixed ∨ c = .cav → (sideRec s.superv c d).state = .pending → otherInExcursion s.superv c d = false →
      ∃ t, exec (.excursionStart c d) s = .next t
        ∧ sideRec t.superv c d = ⟨.active, 0, (sideRec t.superv c d).cons⟩
        ∧ (sideRec t.superv c d).cons
            = (if d = .fixed then .trip
              else if (s.startup.channels.get c).strikeLimit ≠ 0
                  ∧ (s.startup.channels.get c).strikeLimit ≤ min 15 (s.superv.strikes.get c + 1) then .trip
              else if d = .low then (s.startup.channels.get c).lowMap else (s.startup.channels.get c).highMap)
        ∧ t.superv.strikes.get c
            = (if d = .fixed then s.superv.strikes.get c else min 15 (s.superv.strikes.get c + 1))
        ∧ Queued (.notice .channelExcursion (noticeTag s.recipe) s.recipe.cur
            (channelCode c * 256 + sideCode d * 64 + (sideRec t.superv c d).cons.code * 16 + 1)) t
        ∧ ((sideRec t.superv c d).cons = .note →
            t.superv.trip = s.superv.trip ∧ t.superv.relayClosed = s.superv.relayClosed
            ∧ ProgramStands s t ∧ OnlyTouches [.line, .recipe, .superv] s t)
        ∧ ((sideRec t.superv c d).cons = .cut →
            t.superv.trip = s.superv.trip ∧ t.superv.relayClosed = s.superv.relayClosed
            ∧ (cutInForce s.superv = false → cutInForce t.superv = true → t.climate.demTop = 0 ∧ t.climate.demBottom = 0
              ∧ t.climate.demRing = 0 ∧ t.climate.steamDemand = 0 ∧ t.climate.integ = s.climate.integ
              ∧ (s.power.inFrame = true → t.power.shed = PerElement.all true))
            ∧ ProgramStands s t ∧ t.share = s.share)
        ∧ ((sideRec t.superv c d).cons = .trip →
            t.superv.trip = true ∧ t.superv.relayClosed = false
            ∧ (s.superv.trip = false → t.share.holds.power = 0)
            ∧ t.climate.demTop = 0 ∧ t.climate.demBottom = 0 ∧ t.climate.demRing = 0 ∧ t.climate.steamDemand = 0
            ∧ (s.power.inFrame = true → t.power.shed = PerElement.all true)
            ∧ (programActive s.recipe = true → t.recipe.state = .faulted ∧ t.recipe.store = s.recipe.store
              ∧ t.climate.profile = none)
            ∧ (descaleActive s.descale = true → t.descale.phase = (if s.steam.acid then .holdAcid else .off)))
        ∧ t.startup = s.startup ∧ t.pending = s.pending)
    ∧ (∀ (s : State) (c : Channel) (d : Side), unnumbered s = false → GenSettled s → d ≠ .fixed ∨ c = .cav →
      (sideRec s.superv c d).state = .recovering → (s.superv.readings.get c).cond.showsAbsent = false →
      (∀ o ∈ otherSide d, (sideRec s.superv c o).state ≠ .pending) →
      ∃ t, exec (.excursionEnd c d) s = .next t
        ∧ sideRec t.superv c d = SideRec.cleared
        ∧ Queued (.notice .channelExcursion (noticeTag s.recipe) s.recipe.cur
            (channelCode c * 256 + sideCode d * 64 + (sideRec s.superv c d).cons.code * 16)) t
        ∧ t.superv.trip = s.superv.trip ∧ t.superv.relayClosed = s.superv.relayClosed
        ∧ t.superv.strikes = s.superv.strikes ∧ t.climate = s.climate
        ∧ SettlesOnly s t ∧ ProgramStands s t ∧ OnlyTouches [.power, .line, .steam, .descale, .recipe, .superv] s t)
    ∧ (∀ (s : State) (d : Side), (s.superv.readings.get .core).cond.showsAbsent = true →
      exec (.excursionEnd .core d) s = .next s)

/-- R150, R151, R148: a changed feedback starts the mismatch timer again. A relay commanded CLOSED whose feedback stays
OPEN is told and tripped, with no strike. A relay commanded OPEN whose feedback stays CLOSED is RELAY_WELDED: it is
told, every element leaves the frame, an active descale faults, and latch and command stand. R153, R178: the check
compares the configuration with the value kept at the freeze; where they agree it only starts its period again. Where
they differ the CONFIG_FAULT is told, the TRIP is taken, the program faults with its own cause, and every own hold goes
to 0 with no RAISE left waiting. No check is made while it is held. That a TRIP with the latch already set leaves the
hold, and that no RAISE is left waiting, is read from R42 (log entries 35 and 23); that an active descale faults at once
also during a RESTART is the model's choice (log entry 58). -/
def Obligations.RelayAndConfigurationFaultsAreTaken : Prop :=
  (∀ (s : State) (closed : Bool), ∃ t, exec (.relayFeedbackChange closed) s = .next t
      ∧ t.superv = { s.superv with feedbackClosed := closed, mismatchMs := 0 } ∧ OnlyTouches [.superv] s t)
    ∧ (∀ s : State, unnumbered s = false → s.line.queue = [] → s.superv.relayClosed = true →
      s.superv.feedbackClosed = false →
      ∃ t, exec .relayOpenFault s = .next t
        ∧ t.superv = { s.superv with relayClosed := false, trip := true, mismatchMs := 0 }
        ∧ (s.superv.trip = false → t.share.holds.power = 0)
        ∧ Queued (.notice .relayFault (noticeTag s.recipe) s.recipe.cur 1) t
        ∧ t.climate.demTop = 0 ∧ t.climate.demBottom = 0 ∧ t.climate.demRing = 0 ∧ t.climate.steamDemand = 0
        ∧ (s.power.inFrame = true → t.power.shed = PerElement.all true)
        ∧ (programActive s.recipe = true → t.recipe.state = .faulted ∧ t.climate.profile = none)
        ∧ (descaleActive s.descale = true → t.descale.phase = (if s.steam.acid then .holdAcid else .off))
        ∧ t.startup = s.startup ∧ t.pending = s.pending)
    ∧ (∀ s : State, unnumbered s = false → s.line.queue = [] → s.superv.relayClosed = false →
      s.superv.feedbackClosed = true → s.superv.welded = false →
      ∃ t, exec .relayWelded s = .next t
        ∧ t.superv = { s.superv with welded := true }
        ∧ Queued (.notice .relayFault (noticeTag s.recipe) s.recipe.cur 2) t
        ∧ (s.power.inFrame = true → t.power.shed = PerElement.all true)
        ∧ (descaleActive s.descale = true → t.descale.phase = (if s.steam.acid then .holdAcid else .off))
        ∧ t.climate = s.climate ∧ t.startup = s.startup ∧ t.share.holds.power = s.share.holds.power
        ∧ ProgramStands s t ∧ t.pending = s.pending)
    ∧ (∀ s : State, frozen s = true → s.superv.configFault = false →
      checkField (configBytes s.startup) = s.superv.checkValue →
      ∃ t, exec .configCheck s = .next t
        ∧ t.superv = { s.superv with checkMs := 0 } ∧ OnlyTouches [.superv] s t)
    ∧ (∀ s : State, frozen s = true → unnumbered s = false → s.superv.configFault = false → s.line.queue = [] →
      checkField (configBytes s.startup) ≠ s.superv.checkValue →
      ∃ t, exec .configCheck s = .next t
        ∧ t.superv.configFault = true ∧ t.superv.trip = true ∧ t.superv.relayClosed = false
        ∧ t.share.holds = PerPool.all 0 ∧ (∀ p, raiseQueued p t = false)
        ∧ Queued (.notice .relayFault (noticeTag s.recipe) s.recipe.cur 3) t
        ∧ (programActive s.recipe = true → t.recipe.state = .faulted
            ∧ Queued (.notice .programFault (noticeTag s.recipe) s.recipe.lastHeat 4) t)
        ∧ (descaleActive s.descale = true → t.descale.phase = (if s.steam.acid then .holdAcid else .off))
        ∧ t.climate.demTop = 0 ∧ t.climate.demBottom = 0 ∧ t.climate.demRing = 0
        ∧ t.startup = s.startup ∧ t.pending = s.pending)
    ∧ (∀ s : State, s.superv.configFault = true → ∃ t, exec .configCheck s = .next t ∧ t = s)

/-! ### The descale -/

/-- R103, R106, R107, R110, R112: PREP that waits too long ends in OFF; heat that runs too long, and water missing for
60 s in a heating phase or in SOAK, fault the descale, which holds acid where the marker is set; SOAK that has run sets
the soak mark and drains; and a wait of 10 min for a pool is told once. -/
def Obligations.DescaleTimersEndTheirPhases : Prop :=
  (∀ s : State, unnumbered s = false → s.startup.restarting = false → s.descale.phase = .prep →
      programActive s.recipe = false → s.line.queue = [] →
      ∃ t, exec .prepTimeout s = .next t
        ∧ t.descale.phase = .off ∧ t.steam.request = .none
        ∧ t.steam.gen = (if s.steam.levels.low then .cooling else .empty)
        ∧ Queued (.notice .descalePhase (noticeTag s.recipe) s.recipe.cur 1) t
        ∧ t.steam.acid = s.steam.acid ∧ t.steam.scale = s.steam.scale
        ∧ ProgramStands s t ∧ OnlyTouches [.power, .share, .line, .steam, .descale, .recipe] s t)
    ∧ (∀ (s : State) (c : Instr), unnumbered s = false → s.startup.restarting = false → programActive s.recipe = false →
      s.line.queue = [] →
      (c = .heatLimit ∧ heatingPhase s.descale = true ∧ (s.power.freq = .hz50 ∨ s.power.freq = .hz60))
        ∨ (c = .descaleLowWater ∧ s.steam.levels.low = false
            ∧ (heatingPhase s.descale = true ∨ s.descale.phase = .soak)) →
      ∃ t, exec c s = .next t
        ∧ t.descale.phase = (if s.steam.acid then .holdAcid else .off) ∧ t.steam.request = .none
        ∧ t.steam.gen = (if s.steam.levels.low then .cooling else .empty)
        ∧ Queued (.notice .descalePhase (noticeTag s.recipe) s.recipe.cur
            ((if s.steam.acid then 17 else 0) * 256 + (if c = .heatLimit then 5 else 6))) t
        ∧ t.steam.acid = s.steam.acid ∧ t.steam.scale = s.steam.scale ∧ t.descale.soakMark = s.descale.soakMark
        ∧ ProgramStands s t ∧ OnlyTouches [.power, .share, .line, .steam, .descale, .recipe] s t)
    ∧ (∀ (s : State) (v : Int), unnumbered s = false → s.startup.restarting = false → s.descale.phase = .soak →
      s.steam.gen = .service → reading s .boil = some v → 650 ≤ v →
      ∃ t, exec .soakTimerEnd s = .next t
        ∧ t.descale.phase = .acidDrain ∧ t.descale.soakMark = true ∧ t.steam.request = .drain
        ∧ t.steam.drain = some ⟨0, 0⟩ ∧ t.steam.gen = .service ∧ t.steam.acid = s.steam.acid
        ∧ ProgramStands s t ∧ OnlyTouches [.power, .share, .line, .steam, .descale, .recipe] s t)
    ∧ (∀ (s : State) (p : Pool), unnumbered s = false → waitingPool s = some p → s.descale.waitNoted = false →
      ∃ t, exec .waitingForPool s = .next t
        ∧ t.descale = { s.descale with waitNoted := true }
        ∧ Queued (.notice .waitingForPool (noticeTag s.recipe) s.recipe.cur
            (poolCode p * 256 + descaleCode s.descale.phase s.descale.rinse)) t
        ∧ OnlyTouches [.line, .descale] s t)

/-- R105, R106, R108, R109, R95: the descale from the dose to its end: the last pulse of the dose, or HIGH that becomes
WET, begins SOAK_HEAT, BOIL at 70.0 °C begins SOAK, the end of ACID_DRAIN and of each rinse drain begins the next rinse
fill, its last pulse or HIGH the rinse heat, and BOIL at 80.0 °C the rinse drain. The end of the third rinse drain
clears the acid marker: with the soak mark S and sub-count go to 0 in the same write and DESCALE_COMPLETE carries the
old S; without it S stands and the cause is RINSED. Every phase is told, and the generator is released at the end alone.
That a HEAT request is judged at a reading is read from R95 (log entry 21). -/
def Obligations.DescaleRunsToItsEnd : Prop :=
  (∀ (s : State) (f : Fill), unnumbered s = false → s.line.queue = [] → s.steam.gen = .service →
      s.steam.fill = some f → f.kind = .service → f.budget ≤ 1 → f.counted = true →
      s.descale.phase = .dose ∨ s.descale.phase = .rinseFill →
      ∃ t, exec .flowPulse s = .next t
        ∧ t.descale.phase = (if s.descale.phase = .dose then .soakHeat else .rinseHeat)
        ∧ t.descale.rinse = (if s.descale.phase = .dose then 0 else s.descale.rinse)
        ∧ t.steam.request = .heat (if s.descale.phase = .dose then 700 else 800)
        ∧ t.descale.heatClock = 0 ∧ t.descale.lowMs = 0 ∧ t.descale.soakMark = s.descale.soakMark
        ∧ t.steam.gen = .service ∧ t.steam.fill = none ∧ t.steam.inletWant = false ∧ t.steam.fillReq = false
        ∧ t.steam.acid = s.steam.acid ∧ t.steam.scale = s.steam.scale ∧ t.steam.sub = s.steam.sub
        ∧ Queued (.notice .descalePhase (noticeTag s.recipe) s.recipe.cur
            (descaleCode t.descale.phase t.descale.rinse * 256)) t
        ∧ ProgramStands s t ∧ OnlyTouches [.power, .share, .line, .steam, .descale, .recipe] s t)
    ∧ (∀ (s : State) (f : Fill), unnumbered s = false → s.line.queue = [] → s.steam.gen = .service →
      s.steam.levels.high = false → s.steam.levelInputs.high = true → s.steam.fill = some f → f.kind = .service →
      s.descale.phase = .dose ∨ s.descale.phase = .rinseFill →
      ∃ t, exec (.levelReadingChange .high) s = .next t
        ∧ t.steam.levels = { s.steam.levels with high := true }
        ∧ t.descale.phase = (if s.descale.phase = .dose then .soakHeat else .rinseHeat)
        ∧ t.descale.rinse = (if s.descale.phase = .dose then 0 else s.descale.rinse)
        ∧ t.steam.request = .heat (if s.descale.phase = .dose then 700 else 800)
        ∧ t.descale.heatClock = 0 ∧ t.descale.lowMs = 0 ∧ t.descale.soakMark = s.descale.soakMark
        ∧ t.steam.gen = .service ∧ t.steam.fill = none ∧ t.steam.inletWant = false ∧ t.steam.fillReq = false
        ∧ t.steam.acid = s.steam.acid ∧ t.steam.scale = s.steam.scale ∧ t.steam.sub = s.steam.sub
        ∧ Queued (.notice .descalePhase (noticeTag s.recipe) s.recipe.cur
            (descaleCode t.descale.phase t.descale.rinse * 256)) t
        ∧ ProgramStands s t ∧ OnlyTouches [.power, .share, .line, .steam, .descale, .recipe] s t)
    ∧ (∀ (s : State) (x : SensorInputs) (v : Int), unnumbered s = false → s.line.queue = [] → s.steam.gen = .service →
      programActive s.recipe = false → x.boil = .readable v →
      (s.descale.phase = .soakHeat ∧ s.steam.request = .heat 700)
        ∨ (s.descale.phase = .rinseHeat ∧ s.steam.request = .heat 800) →
      ∃ t, exec (.sensorReading x) s = .next t
        ∧ (s.descale.phase = .soakHeat → 700 ≤ v →
            t.descale.phase = .soak ∧ t.descale.soakMs = 0 ∧ t.steam.request = .hold 680 4
            ∧ Queued (.notice .descalePhase (noticeTag s.recipe) s.recipe.cur (5 * 256)) t)
        ∧ (s.descale.phase = .rinseHeat → 800 ≤ v →
            t.descale.phase = .rinseDrain ∧ t.descale.rinse = s.descale.rinse ∧ t.steam.request = .drain
            ∧ t.steam.drain = some ⟨0, 0⟩ ∧ t.steam.drainWant = true
            ∧ Queued (.notice .descalePhase (noticeTag s.recipe) s.recipe.cur
                ((12 + s.descale.rinse) * 256)) t)
        ∧ (v < (if s.descale.phase = .soakHeat then 700 else 800) →
            WaitOnly s t ∧ t.steam.request = s.steam.request)
        ∧ t.steam.gen = .service ∧ t.steam.acid = s.steam.acid ∧ t.steam.scale = s.steam.scale
        ∧ t.descale.soakMark = s.descale.soakMark
        ∧ OnlyTouches [.power, .share, .line, .steam, .descale, .recipe, .superv] s t)
    ∧ (∀ (s : State) (d : Drain), unnumbered s = false → s.line.queue = [] → s.steam.gen = .service →
      s.steam.drain = some d → s.power.base.pump = true → s.steam.levels.low = false → s.steam.levels.high = false →
      s.descale.phase = .acidDrain ∨ (s.descale.phase = .rinseDrain ∧ s.descale.rinse < 3) →
      ∃ t, exec .drainDryTimeEnd s = .next t
        ∧ t.descale.phase = .rinseFill
        ∧ t.descale.rinse = (if s.descale.phase = .acidDrain then 1 else s.descale.rinse + 1)
        ∧ t.steam.request = .fill 500 ∧ t.steam.fill = some ⟨.service, 500, 0, false⟩ ∧ t.steam.inletWant = true
        ∧ t.steam.drain = none ∧ t.power.base.pump = false ∧ t.steam.gen = .service
        ∧ (s.steam.drainWant = true → t.share.holds.drain = 0)
        ∧ t.steam.acid = s.steam.acid ∧ t.steam.scale = s.steam.scale ∧ t.descale.soakMark = s.descale.soakMark
        ∧ Queued (.notice .descalePhase (noticeTag s.recipe) s.recipe.cur ((6 + t.descale.rinse) * 256)) t
        ∧ ProgramStands s t ∧ OnlyTouches [.power, .share, .line, .steam, .descale, .recipe] s t)
    ∧ (∀ (s : State) (d : Drain), unnumbered s = false → s.line.queue = [] → s.steam.gen = .service →
      programActive s.recipe = false → s.steam.drain = some d → s.power.base.pump = true → s.steam.levels.low = false →
      s.descale.phase = .rinseDrain → 3 ≤ s.descale.rinse →
      ∃ t, exec .drainDryTimeEnd s = .next t
        ∧ t.descale.phase = .off ∧ t.descale.rinse = 0 ∧ t.steam.acid = false
        ∧ t.steam.gen = .empty ∧ t.steam.request = .none ∧ t.steam.drain = none ∧ t.power.base.pump = false
        ∧ (s.steam.writing = none → t.steam.writing = some ⟨t.steam.scale, t.steam.sub, false⟩)
        ∧ (s.steam.writing.isSome = true → t.steam.writeAgain = true)
        ∧ (s.descale.soakMark = true →
            t.steam.scale = 0 ∧ t.steam.sub = 0
            ∧ Queued (.notice .descalePhase (noticeTag s.recipe) s.recipe.cur (16 * 256)) t
            ∧ Queued (.notice .descaleComplete (noticeTag s.recipe) s.recipe.cur s.steam.scale) t
            ∧ Queued (.notice .descalePhase (noticeTag s.recipe) s.recipe.cur 0) t)
        ∧ (s.descale.soakMark = false →
            t.steam.scale = s.steam.scale ∧ t.steam.sub = s.steam.sub
            ∧ Queued (.notice .descalePhase (noticeTag s.recipe) s.recipe.cur 9) t)
        ∧ ProgramStands s t ∧ OnlyTouches [.power, .share, .line, .steam, .descale, .recipe] s t)

/-! ### Programs in time -/

/-- R122, R125, R127, R129, R130, R132, R138: a load session that waits too long ends with its notice and an empty
store; a stage whose duration has run ends, and a PROMPT that is not answered takes answer 0, each entering the next
HEAT stage or ending the program; a changed probe state is taken, and a CORE stage without probe and duration asks for
it, with no CORE value from then on (log entry 8) but for one above the range, which is still presented (R140); a withheld
reason that has stood is told once in its stage. R128, R129, R130: at a reading of the inputs a stage in RUNNING whose end
condition is met, TEMP by CAV within 2.0 °C of its target, CORE by the core target with the probe PRESENT, EITHER and TIME
by theirs, ends, and the chain of entries from the next stage comes to rest in the same instant; a chain has at most 17000
entries (log entry 31). A reading that does not end the stage leaves the program as it stands, but that the timed phase of an
AT_TARGET stage starts at the first reading of CAV within 2.0 °C of the target, and stays started. A CORE or EITHER stage
whose probe is PRESENT is judged on the value presented above 1300 and at an open circuit too (log entry 8). -/
def Obligations.ProgramTimersMoveOn : Prop :=
  (∀ s : State, unnumbered s = false → s.recipe.state = .loading →
      ∃ t, exec .loadTimeout s = .next t
        ∧ t.recipe = { s.recipe with state := .idle, store := [], count := 0, tag := 0, remaining := 0, cur := 0 }
        ∧ Queued (.notice .loadTimeout s.recipe.tag s.recipe.cur (s.recipe.count - s.recipe.remaining + 1)) t
        ∧ OnlyTouches [.line, .recipe] s t)
    ∧ (∀ (s : State) (h h' : HeatStage) (d : Nat), s.recipe.state = .running → heatAt s.recipe s.recipe.cur = some h →
      h.duration = some d → h.endKind = .time ∨ h.endKind = .either → s.recipe.phaseStarted = true →
      s.climate.doorOpen = false → cutInForce s.superv = false →
      (stageAt s.recipe (s.recipe.cur + 1) = some (.heat h' none) ∧ StageHolds s h')
        ∨ stageAt s.recipe (s.recipe.cur + 1) = none →
      ∃ t, exec .stageTimeEnd s = .next t
        ∧ (stageAt s.recipe (s.recipe.cur + 1) = some (.heat h' none) → EntersHeat (s.recipe.cur + 1) h' s t)
        ∧ (stageAt s.recipe (s.recipe.cur + 1) = none →
            t.recipe.state = .finished ∧ t.recipe.cur = s.recipe.lastHeat ∧ ClimateLeft s t)
        ∧ WaitOnly s t ∧ OnlyTouches [.climate, .power, .share, .line, .steam, .descale, .recipe] s t)
    ∧ (∀ (s : State) (h h' : HeatStage) (d : Nat), s.recipe.state = .prompting → heatAt s.recipe s.recipe.cur = some h →
      h.duration = some d → h.endKind = .prompt → s.recipe.phaseStarted = true →
      s.climate.doorOpen = false → cutInForce s.superv = false →
      (stageAt s.recipe (s.recipe.cur + h.branches.headD 1) = some (.heat h' none) ∧ StageHolds s h')
        ∨ stageAt s.recipe (s.recipe.cur + h.branches.headD 1) = none →
      ∃ t, exec .promptTimeout s = .next t
        ∧ (stageAt s.recipe (s.recipe.cur + h.branches.headD 1) = some (.heat h' none) →
            EntersHeat (s.recipe.cur + h.branches.headD 1) h' s t)
        ∧ (stageAt s.recipe (s.recipe.cur + h.branches.headD 1) = none →
            t.recipe.state = .finished ∧ t.recipe.cur = s.recipe.lastHeat ∧ ClimateLeft s t)
        ∧ WaitOnly s t ∧ OnlyTouches [.climate, .power, .share, .line, .steam, .descale, .recipe] s t)
    ∧ (∀ (s : State) (h : HeatStage), unnumbered s = false → GenSettled s → s.line.queue = [] →
      s.recipe.probeShows = false → s.recipe.probePresent = true → s.recipe.state = .running →
      heatAt s.recipe s.recipe.cur = some h → h.endKind = .core → h.duration = none →
      s.superv.low.core = SideRec.cleared → s.superv.high.core = SideRec.cleared →
      ∃ t, exec .probeStateChange s = .next t
        ∧ t.recipe = { s.recipe with
            probePresent := false, probeMs := 0, state := .prompting, prompt := 250
            withheldMs := t.recipe.withheldMs }
        ∧ reading t .core = (if s.superv.readings.core.cond = .aboveRange then reading s .core else none)
        ∧ Queued (.notice .prompt (noticeTag s.recipe) s.recipe.cur 250) t
        ∧ t.climate = s.climate ∧ SettlesOnly s t
        ∧ OnlyTouches [.power, .line, .steam, .descale, .recipe, .superv] s t)
    ∧ (∀ s : State, GenSettled s → s.recipe.probeShows = true → s.recipe.probePresent = false →
      s.recipe.state ≠ .running →
      ∃ t, exec .probeStateChange s = .next t
        ∧ t.recipe = { s.recipe with probePresent := true, probeMs := 0, withheldMs := t.recipe.withheldMs }
        ∧ SettlesOnly s t ∧ OnlyTouches [.power, .steam, .descale, .recipe] s t)
    ∧ (∀ (s : State) (x : SensorInputs) (h : HeatStage) (links : Nat) (r : Rest), unnumbered s = false →
      s.line.queue = [] → s.steam.request = .none → s.recipe.state = .running → currentHeat s.recipe = some h →
      EndsNow (withReadings x s) h → links ≤ 17000 →
      EntryRests (withReadings x s) links (s.recipe.cur + 1) s.recipe.stack r →
      ∃ t, exec (.sensorReading x) s = .next t
        ∧ RestsAs s.recipe.lastHeat (withReadings x s) t r
        ∧ ReportsAre t (restNotices (noticeTag s.recipe) s.recipe.lastHeat r)
        ∧ t.superv.readings = (withReadings x s).superv.readings ∧ t.recipe.probePresent = s.recipe.probePresent
        ∧ WaitOnly s t ∧ OnlyTouches [.climate, .power, .share, .line, .steam, .descale, .recipe, .superv] s t)
    ∧ (∀ (s : State) (x : SensorInputs) (h : HeatStage), currentHeat s.recipe = some h →
      (s.recipe.state = .running → ¬ EndsNow (withReadings x s) h) →
      ∃ t, exec (.sensorReading x) s = .next t
        ∧ t.recipe = { s.recipe with
            phaseStarted := t.recipe.phaseStarted, withheldMs := t.recipe.withheldMs
            probeShows := !coreAbsent x.core
            probeMs := if s.recipe.probeShows = !coreAbsent x.core then s.recipe.probeMs else 0 }
        ∧ (t.recipe.phaseStarted = true ↔ s.recipe.phaseStarted = true ∨ AtTarget (withReadings x s) h)
        ∧ t.superv.readings = (withReadings x s).superv.readings ∧ t.climate = s.climate
        ∧ OnlyTouches [.power, .share, .line, .steam, .descale, .recipe, .superv] s t)
    ∧ (∀ (s : State) (h : HeatStage), unnumbered s = false → programActive s.recipe = true →
      heatAt s.recipe s.recipe.cur = some h → h.mode.humid = true → s.recipe.withheldMark = false →
      withheldReason s ≠ .none →
      ∃ t, exec .steamWithheld s = .next t
        ∧ t.recipe = { s.recipe with withheldMark := true, withheldMs := 0 }
        ∧ Queued (.notice .steamWithheld (noticeTag s.recipe) s.recipe.cur
            ((withheldReason s).code * 256
              + (if withheldReason s = .fault then faultKindCode s.steam.faultKind else 0))) t
        ∧ OnlyTouches [.line, .recipe] s t)
end

