-- ==== Sys2Proof/Laws/State.lean ====
section
/-!
SUPPORT. One lemma per block for each update of a block: the updated block is the new one, every other stands.
-/
namespace Sys2Proof.Machine

@[simp] theorem State.setPending_pending (s : State) (x : List Instr) : (s.setPending x).pending = x := rfl
@[simp] theorem State.setPending_startup (s : State) (x : List Instr) : (s.setPending x).startup = s.startup := rfl
@[simp] theorem State.setPending_climate (s : State) (x : List Instr) : (s.setPending x).climate = s.climate := rfl
@[simp] theorem State.setPending_power (s : State) (x : List Instr) : (s.setPending x).power = s.power := rfl
@[simp] theorem State.setPending_share (s : State) (x : List Instr) : (s.setPending x).share = s.share := rfl
@[simp] theorem State.setPending_line (s : State) (x : List Instr) : (s.setPending x).line = s.line := rfl
@[simp] theorem State.setPending_steam (s : State) (x : List Instr) : (s.setPending x).steam = s.steam := rfl
@[simp] theorem State.setPending_descale (s : State) (x : List Instr) : (s.setPending x).descale = s.descale := rfl
@[simp] theorem State.setPending_recipe (s : State) (x : List Instr) : (s.setPending x).recipe = s.recipe := rfl
@[simp] theorem State.setPending_superv (s : State) (x : List Instr) : (s.setPending x).superv = s.superv := rfl

@[simp] theorem State.setStartup_pending (s : State) (x : Startup) : (s.setStartup x).pending = s.pending := rfl
@[simp] theorem State.setStartup_startup (s : State) (x : Startup) : (s.setStartup x).startup = x := rfl
@[simp] theorem State.setStartup_climate (s : State) (x : Startup) : (s.setStartup x).climate = s.climate := rfl
@[simp] theorem State.setStartup_power (s : State) (x : Startup) : (s.setStartup x).power = s.power := rfl
@[simp] theorem State.setStartup_share (s : State) (x : Startup) : (s.setStartup x).share = s.share := rfl
@[simp] theorem State.setStartup_line (s : State) (x : Startup) : (s.setStartup x).line = s.line := rfl
@[simp] theorem State.setStartup_steam (s : State) (x : Startup) : (s.setStartup x).steam = s.steam := rfl
@[simp] theorem State.setStartup_descale (s : State) (x : Startup) : (s.setStartup x).descale = s.descale := rfl
@[simp] theorem State.setStartup_recipe (s : State) (x : Startup) : (s.setStartup x).recipe = s.recipe := rfl
@[simp] theorem State.setStartup_superv (s : State) (x : Startup) : (s.setStartup x).superv = s.superv := rfl

@[simp] theorem State.setClimate_pending (s : State) (x : Climate) : (s.setClimate x).pending = s.pending := rfl
@[simp] theorem State.setClimate_startup (s : State) (x : Climate) : (s.setClimate x).startup = s.startup := rfl
@[simp] theorem State.setClimate_climate (s : State) (x : Climate) : (s.setClimate x).climate = x := rfl
@[simp] theorem State.setClimate_power (s : State) (x : Climate) : (s.setClimate x).power = s.power := rfl
@[simp] theorem State.setClimate_share (s : State) (x : Climate) : (s.setClimate x).share = s.share := rfl
@[simp] theorem State.setClimate_line (s : State) (x : Climate) : (s.setClimate x).line = s.line := rfl
@[simp] theorem State.setClimate_steam (s : State) (x : Climate) : (s.setClimate x).steam = s.steam := rfl
@[simp] theorem State.setClimate_descale (s : State) (x : Climate) : (s.setClimate x).descale = s.descale := rfl
@[simp] theorem State.setClimate_recipe (s : State) (x : Climate) : (s.setClimate x).recipe = s.recipe := rfl
@[simp] theorem State.setClimate_superv (s : State) (x : Climate) : (s.setClimate x).superv = s.superv := rfl

@[simp] theorem State.setPower_pending (s : State) (x : Power) : (s.setPower x).pending = s.pending := rfl
@[simp] theorem State.setPower_startup (s : State) (x : Power) : (s.setPower x).startup = s.startup := rfl
@[simp] theorem State.setPower_climate (s : State) (x : Power) : (s.setPower x).climate = s.climate := rfl
@[simp] theorem State.setPower_power (s : State) (x : Power) : (s.setPower x).power = x := rfl
@[simp] theorem State.setPower_share (s : State) (x : Power) : (s.setPower x).share = s.share := rfl
@[simp] theorem State.setPower_line (s : State) (x : Power) : (s.setPower x).line = s.line := rfl
@[simp] theorem State.setPower_steam (s : State) (x : Power) : (s.setPower x).steam = s.steam := rfl
@[simp] theorem State.setPower_descale (s : State) (x : Power) : (s.setPower x).descale = s.descale := rfl
@[simp] theorem State.setPower_recipe (s : State) (x : Power) : (s.setPower x).recipe = s.recipe := rfl
@[simp] theorem State.setPower_superv (s : State) (x : Power) : (s.setPower x).superv = s.superv := rfl

@[simp] theorem State.setShare_pending (s : State) (x : Share) : (s.setShare x).pending = s.pending := rfl
@[simp] theorem State.setShare_startup (s : State) (x : Share) : (s.setShare x).startup = s.startup := rfl
@[simp] theorem State.setShare_climate (s : State) (x : Share) : (s.setShare x).climate = s.climate := rfl
@[simp] theorem State.setShare_power (s : State) (x : Share) : (s.setShare x).power = s.power := rfl
@[simp] theorem State.setShare_share (s : State) (x : Share) : (s.setShare x).share = x := rfl
@[simp] theorem State.setShare_line (s : State) (x : Share) : (s.setShare x).line = s.line := rfl
@[simp] theorem State.setShare_steam (s : State) (x : Share) : (s.setShare x).steam = s.steam := rfl
@[simp] theorem State.setShare_descale (s : State) (x : Share) : (s.setShare x).descale = s.descale := rfl
@[simp] theorem State.setShare_recipe (s : State) (x : Share) : (s.setShare x).recipe = s.recipe := rfl
@[simp] theorem State.setShare_superv (s : State) (x : Share) : (s.setShare x).superv = s.superv := rfl

@[simp] theorem State.setLine_pending (s : State) (x : Line) : (s.setLine x).pending = s.pending := rfl
@[simp] theorem State.setLine_startup (s : State) (x : Line) : (s.setLine x).startup = s.startup := rfl
@[simp] theorem State.setLine_climate (s : State) (x : Line) : (s.setLine x).climate = s.climate := rfl
@[simp] theorem State.setLine_power (s : State) (x : Line) : (s.setLine x).power = s.power := rfl
@[simp] theorem State.setLine_share (s : State) (x : Line) : (s.setLine x).share = s.share := rfl
@[simp] theorem State.setLine_line (s : State) (x : Line) : (s.setLine x).line = x := rfl
@[simp] theorem State.setLine_steam (s : State) (x : Line) : (s.setLine x).steam = s.steam := rfl
@[simp] theorem State.setLine_descale (s : State) (x : Line) : (s.setLine x).descale = s.descale := rfl
@[simp] theorem State.setLine_recipe (s : State) (x : Line) : (s.setLine x).recipe = s.recipe := rfl
@[simp] theorem State.setLine_superv (s : State) (x : Line) : (s.setLine x).superv = s.superv := rfl

@[simp] theorem State.setSteam_pending (s : State) (x : Steam) : (s.setSteam x).pending = s.pending := rfl
@[simp] theorem State.setSteam_startup (s : State) (x : Steam) : (s.setSteam x).startup = s.startup := rfl
@[simp] theorem State.setSteam_climate (s : State) (x : Steam) : (s.setSteam x).climate = s.climate := rfl
@[simp] theorem State.setSteam_power (s : State) (x : Steam) : (s.setSteam x).power = s.power := rfl
@[simp] theorem State.setSteam_share (s : State) (x : Steam) : (s.setSteam x).share = s.share := rfl
@[simp] theorem State.setSteam_line (s : State) (x : Steam) : (s.setSteam x).line = s.line := rfl
@[simp] theorem State.setSteam_steam (s : State) (x : Steam) : (s.setSteam x).steam = x := rfl
@[simp] theorem State.setSteam_descale (s : State) (x : Steam) : (s.setSteam x).descale = s.descale := rfl
@[simp] theorem State.setSteam_recipe (s : State) (x : Steam) : (s.setSteam x).recipe = s.recipe := rfl
@[simp] theorem State.setSteam_superv (s : State) (x : Steam) : (s.setSteam x).superv = s.superv := rfl

@[simp] theorem State.setDescale_pending (s : State) (x : Descale) : (s.setDescale x).pending = s.pending := rfl
@[simp] theorem State.setDescale_startup (s : State) (x : Descale) : (s.setDescale x).startup = s.startup := rfl
@[simp] theorem State.setDescale_climate (s : State) (x : Descale) : (s.setDescale x).climate = s.climate := rfl
@[simp] theorem State.setDescale_power (s : State) (x : Descale) : (s.setDescale x).power = s.power := rfl
@[simp] theorem State.setDescale_share (s : State) (x : Descale) : (s.setDescale x).share = s.share := rfl
@[simp] theorem State.setDescale_line (s : State) (x : Descale) : (s.setDescale x).line = s.line := rfl
@[simp] theorem State.setDescale_steam (s : State) (x : Descale) : (s.setDescale x).steam = s.steam := rfl
@[simp] theorem State.setDescale_descale (s : State) (x : Descale) : (s.setDescale x).descale = x := rfl
@[simp] theorem State.setDescale_recipe (s : State) (x : Descale) : (s.setDescale x).recipe = s.recipe := rfl
@[simp] theorem State.setDescale_superv (s : State) (x : Descale) : (s.setDescale x).superv = s.superv := rfl

@[simp] theorem State.setRecipe_pending (s : State) (x : Recipe) : (s.setRecipe x).pending = s.pending := rfl
@[simp] theorem State.setRecipe_startup (s : State) (x : Recipe) : (s.setRecipe x).startup = s.startup := rfl
@[simp] theorem State.setRecipe_climate (s : State) (x : Recipe) : (s.setRecipe x).climate = s.climate := rfl
@[simp] theorem State.setRecipe_power (s : State) (x : Recipe) : (s.setRecipe x).power = s.power := rfl
@[simp] theorem State.setRecipe_share (s : State) (x : Recipe) : (s.setRecipe x).share = s.share := rfl
@[simp] theorem State.setRecipe_line (s : State) (x : Recipe) : (s.setRecipe x).line = s.line := rfl
@[simp] theorem State.setRecipe_steam (s : State) (x : Recipe) : (s.setRecipe x).steam = s.steam := rfl
@[simp] theorem State.setRecipe_descale (s : State) (x : Recipe) : (s.setRecipe x).descale = s.descale := rfl
@[simp] theorem State.setRecipe_recipe (s : State) (x : Recipe) : (s.setRecipe x).recipe = x := rfl
@[simp] theorem State.setRecipe_superv (s : State) (x : Recipe) : (s.setRecipe x).superv = s.superv := rfl

@[simp] theorem State.setSuperv_pending (s : State) (x : Superv) : (s.setSuperv x).pending = s.pending := rfl
@[simp] theorem State.setSuperv_startup (s : State) (x : Superv) : (s.setSuperv x).startup = s.startup := rfl
@[simp] theorem State.setSuperv_climate (s : State) (x : Superv) : (s.setSuperv x).climate = s.climate := rfl
@[simp] theorem State.setSuperv_power (s : State) (x : Superv) : (s.setSuperv x).power = s.power := rfl
@[simp] theorem State.setSuperv_share (s : State) (x : Superv) : (s.setSuperv x).share = s.share := rfl
@[simp] theorem State.setSuperv_line (s : State) (x : Superv) : (s.setSuperv x).line = s.line := rfl
@[simp] theorem State.setSuperv_steam (s : State) (x : Superv) : (s.setSuperv x).steam = s.steam := rfl
@[simp] theorem State.setSuperv_descale (s : State) (x : Superv) : (s.setSuperv x).descale = s.descale := rfl
@[simp] theorem State.setSuperv_recipe (s : State) (x : Superv) : (s.setSuperv x).recipe = s.recipe := rfl
@[simp] theorem State.setSuperv_superv (s : State) (x : Superv) : (s.setSuperv x).superv = x := rfl

/-! The fields of a register group, one by one. -/

@[simp] theorem PerChannel.get_set_self {α : Type} (p : PerChannel α) (x : α) (c : Channel) : (p.set x c).get c = x := by
  cases c <;> rfl

theorem PerChannel.get_set_of_ne {α : Type} (p : PerChannel α) (x : α) {c d : Channel} (h : d ≠ c) :
    (p.set x c).get d = p.get d := by
  cases c <;> cases d <;> first | rfl | exact absurd rfl h

@[simp] theorem PerActuator.get_all {α : Type} (x : α) (a : Actuator) : (PerActuator.all x).get a = x := by
  cases a <;> rfl

/-- Two groups of actuators with the same actuators are the same. -/
theorem PerActuator.ext_get {p q : PerActuator Bool} (h : ∀ a, p.get a = q.get a) : p = q := by
  have h1 : p.fan = q.fan := h .fan
  have h2 : p.vent = q.vent := h .vent
  have h3 : p.fill = q.fill := h .fill
  have h4 : p.pump = q.pump := h .pump
  cases p; cases q; simp_all

end Sys2Proof.Machine
end

