-- ==== Sys2Proof/Laws/BlockFrames.lean ====
section
/-!
SUPPORT. For each operation of the shared operations, the generator, the climate, the descale, the programs and the supervision: the blocks of State that it leaves as
they are, said once, so that no later proof unfolds it for them.
-/
namespace Sys2Proof.Machine

@[simp] theorem setQueue_frame (q : List QEntry) (s : State) :
    (setQueue q s).pending = s.pending ∧ (setQueue q s).startup = s.startup ∧ (setQueue q s).climate = s.climate
      ∧ (setQueue q s).power = s.power ∧ (setQueue q s).share = s.share ∧ (setQueue q s).steam = s.steam
      ∧ (setQueue q s).descale = s.descale ∧ (setQueue q s).recipe = s.recipe ∧ (setQueue q s).superv = s.superv := by
  simp [setQueue]

@[simp] theorem enqueue_frame (f : TxFrame) (s : State) :
    (enqueue f s).pending = s.pending ∧ (enqueue f s).startup = s.startup ∧ (enqueue f s).climate = s.climate
      ∧ (enqueue f s).power = s.power ∧ (enqueue f s).share = s.share ∧ (enqueue f s).steam = s.steam
      ∧ (enqueue f s).descale = s.descale ∧ (enqueue f s).recipe = s.recipe ∧ (enqueue f s).superv = s.superv := by
  unfold enqueue
  (repeat' split) <;> simp

@[simp] theorem enqueueShare_frame (f : TxFrame) (s : State) :
    (enqueueShare f s).pending = s.pending ∧ (enqueueShare f s).startup = s.startup
      ∧ (enqueueShare f s).climate = s.climate ∧ (enqueueShare f s).power = s.power
      ∧ (enqueueShare f s).share = s.share ∧ (enqueueShare f s).steam = s.steam
      ∧ (enqueueShare f s).descale = s.descale ∧ (enqueueShare f s).recipe = s.recipe
      ∧ (enqueueShare f s).superv = s.superv := by
  unfold enqueueShare
  (repeat' split) <;> simp

@[simp] theorem dropRaise_frame (p : Pool) (s : State) :
    (dropRaise p s).pending = s.pending ∧ (dropRaise p s).startup = s.startup
      ∧ (dropRaise p s).climate = s.climate ∧ (dropRaise p s).power = s.power ∧ (dropRaise p s).share = s.share
      ∧ (dropRaise p s).steam = s.steam ∧ (dropRaise p s).descale = s.descale
      ∧ (dropRaise p s).recipe = s.recipe ∧ (dropRaise p s).superv = s.superv := by
  simp [dropRaise]

@[simp] theorem noticeAt_frame (code : NoticeCode) (index detail : Nat) (s : State) :
    (noticeAt code index detail s).pending = s.pending ∧ (noticeAt code index detail s).startup = s.startup
      ∧ (noticeAt code index detail s).climate = s.climate ∧ (noticeAt code index detail s).power = s.power
      ∧ (noticeAt code index detail s).share = s.share ∧ (noticeAt code index detail s).steam = s.steam
      ∧ (noticeAt code index detail s).descale = s.descale ∧ (noticeAt code index detail s).recipe = s.recipe
      ∧ (noticeAt code index detail s).superv = s.superv := by
  simp [noticeAt]

@[simp] theorem notice_frame (code : NoticeCode) (detail : Nat) (s : State) :
    (notice code detail s).pending = s.pending ∧ (notice code detail s).startup = s.startup
      ∧ (notice code detail s).climate = s.climate ∧ (notice code detail s).power = s.power
      ∧ (notice code detail s).share = s.share ∧ (notice code detail s).steam = s.steam
      ∧ (notice code detail s).descale = s.descale ∧ (notice code detail s).recipe = s.recipe
      ∧ (notice code detail s).superv = s.superv := by
  simp [notice]

@[simp] theorem respond_frame (kind : CmdKind) (code : ResultCode) (detail : Nat) (s : State) :
    (respond kind code detail s).pending = s.pending ∧ (respond kind code detail s).startup = s.startup
      ∧ (respond kind code detail s).climate = s.climate ∧ (respond kind code detail s).power = s.power
      ∧ (respond kind code detail s).share = s.share ∧ (respond kind code detail s).steam = s.steam
      ∧ (respond kind code detail s).descale = s.descale ∧ (respond kind code detail s).recipe = s.recipe
      ∧ (respond kind code detail s).superv = s.superv := by
  simp [respond]

@[simp] theorem settleBase_frame (s : State) :
    (settleBase s).pending = s.pending ∧ (settleBase s).startup = s.startup ∧ (settleBase s).climate = s.climate
      ∧ (settleBase s).share = s.share ∧ (settleBase s).line = s.line ∧ (settleBase s).steam = s.steam
      ∧ (settleBase s).descale = s.descale ∧ (settleBase s).recipe = s.recipe ∧ (settleBase s).superv = s.superv := by
  simp [settleBase]

@[simp] theorem powerFalls_frame (v : Nat) (s : State) :
    (powerFalls v s).pending = s.pending ∧ (powerFalls v s).startup = s.startup
      ∧ (powerFalls v s).climate = s.climate ∧ (powerFalls v s).share = s.share ∧ (powerFalls v s).line = s.line
      ∧ (powerFalls v s).steam = s.steam ∧ (powerFalls v s).descale = s.descale
      ∧ (powerFalls v s).recipe = s.recipe ∧ (powerFalls v s).superv = s.superv := by
  simp [powerFalls]

@[simp] theorem setHold_frame (p : Pool) (v : Nat) (s : State) :
    (setHold p v s).pending = s.pending ∧ (setHold p v s).startup = s.startup
      ∧ (setHold p v s).climate = s.climate ∧ (setHold p v s).power = s.power ∧ (setHold p v s).line = s.line
      ∧ (setHold p v s).steam = s.steam ∧ (setHold p v s).descale = s.descale
      ∧ (setHold p v s).recipe = s.recipe ∧ (setHold p v s).superv = s.superv := by
  simp [setHold]

@[simp] theorem lowerHold_frame (p : Pool) (v : Nat) (s : State) :
    (lowerHold p v s).pending = s.pending ∧ (lowerHold p v s).startup = s.startup
      ∧ (lowerHold p v s).climate = s.climate ∧ (lowerHold p v s).steam = s.steam
      ∧ (lowerHold p v s).descale = s.descale ∧ (lowerHold p v s).recipe = s.recipe
      ∧ (lowerHold p v s).superv = s.superv := by
  unfold lowerHold
  (repeat' split) <;> simp

@[simp] theorem decideRaise_frame (s : State) :
    (decideRaise s).pending = s.pending ∧ (decideRaise s).startup = s.startup
      ∧ (decideRaise s).climate = s.climate ∧ (decideRaise s).power = s.power ∧ (decideRaise s).share = s.share
      ∧ (decideRaise s).steam = s.steam ∧ (decideRaise s).descale = s.descale
      ∧ (decideRaise s).recipe = s.recipe ∧ (decideRaise s).superv = s.superv := by
  unfold decideRaise
  (repeat' split) <;> simp

@[simp] theorem decideYield_frame (s : State) :
    (decideYield s).pending = s.pending ∧ (decideYield s).startup = s.startup
      ∧ (decideYield s).climate = s.climate ∧ (decideYield s).power = s.power ∧ (decideYield s).steam = s.steam
      ∧ (decideYield s).descale = s.descale ∧ (decideYield s).recipe = s.recipe
      ∧ (decideYield s).superv = s.superv := by
  unfold decideYield
  (repeat' split) <;> simp

@[simp] theorem decideLower_frame (s : State) :
    (decideLower s).pending = s.pending ∧ (decideLower s).startup = s.startup
      ∧ (decideLower s).climate = s.climate ∧ (decideLower s).steam = s.steam
      ∧ (decideLower s).descale = s.descale ∧ (decideLower s).recipe = s.recipe
      ∧ (decideLower s).superv = s.superv := by
  unfold decideLower
  (repeat' split) <;> simp

@[simp] theorem frameStartDecisions_frame (s : State) :
    (frameStartDecisions s).pending = s.pending ∧ (frameStartDecisions s).startup = s.startup
      ∧ (frameStartDecisions s).climate = s.climate ∧ (frameStartDecisions s).steam = s.steam
      ∧ (frameStartDecisions s).descale = s.descale ∧ (frameStartDecisions s).recipe = s.recipe
      ∧ (frameStartDecisions s).superv = s.superv := by
  simp [frameStartDecisions]

@[simp] theorem evalWater_frame (p : Pool) (s : State) :
    (evalWater p s).pending = s.pending ∧ (evalWater p s).startup = s.startup
      ∧ (evalWater p s).climate = s.climate ∧ (evalWater p s).power = s.power ∧ (evalWater p s).share = s.share
      ∧ (evalWater p s).steam = s.steam ∧ (evalWater p s).descale = s.descale
      ∧ (evalWater p s).recipe = s.recipe ∧ (evalWater p s).superv = s.superv := by
  unfold evalWater
  (repeat' split) <;> simp

@[simp] theorem decideAgain_frame (p : Pool) (s : State) :
    (decideAgain p s).pending = s.pending ∧ (decideAgain p s).startup = s.startup
      ∧ (decideAgain p s).climate = s.climate ∧ (decideAgain p s).power = s.power
      ∧ (decideAgain p s).share = s.share ∧ (decideAgain p s).steam = s.steam
      ∧ (decideAgain p s).descale = s.descale ∧ (decideAgain p s).recipe = s.recipe
      ∧ (decideAgain p s).superv = s.superv := by
  unfold decideAgain
  (repeat' split) <;> simp

@[simp] theorem wantInlet_frame (s : State) :
    (wantInlet s).pending = s.pending ∧ (wantInlet s).startup = s.startup ∧ (wantInlet s).climate = s.climate
      ∧ (wantInlet s).power = s.power ∧ (wantInlet s).share = s.share ∧ (wantInlet s).descale = s.descale
      ∧ (wantInlet s).recipe = s.recipe ∧ (wantInlet s).superv = s.superv := by
  unfold wantInlet
  (repeat' split) <;> simp

@[simp] theorem wantDrain_frame (s : State) :
    (wantDrain s).pending = s.pending ∧ (wantDrain s).startup = s.startup ∧ (wantDrain s).climate = s.climate
      ∧ (wantDrain s).power = s.power ∧ (wantDrain s).share = s.share ∧ (wantDrain s).descale = s.descale
      ∧ (wantDrain s).recipe = s.recipe ∧ (wantDrain s).superv = s.superv := by
  unfold wantDrain
  (repeat' split) <;> simp

@[simp] theorem releaseWater_frame (p : Pool) (s : State) :
    (releaseWater p s).pending = s.pending ∧ (releaseWater p s).startup = s.startup
      ∧ (releaseWater p s).climate = s.climate ∧ (releaseWater p s).steam = s.steam
      ∧ (releaseWater p s).descale = s.descale ∧ (releaseWater p s).recipe = s.recipe
      ∧ (releaseWater p s).superv = s.superv := by
  unfold releaseWater
  (repeat' split) <;> simp

@[simp] theorem unwantInlet_frame (s : State) :
    (unwantInlet s).pending = s.pending ∧ (unwantInlet s).startup = s.startup
      ∧ (unwantInlet s).climate = s.climate ∧ (unwantInlet s).descale = s.descale
      ∧ (unwantInlet s).recipe = s.recipe ∧ (unwantInlet s).superv = s.superv := by
  unfold unwantInlet
  (repeat' split) <;> simp

@[simp] theorem unwantDrain_frame (s : State) :
    (unwantDrain s).pending = s.pending ∧ (unwantDrain s).startup = s.startup
      ∧ (unwantDrain s).climate = s.climate ∧ (unwantDrain s).descale = s.descale
      ∧ (unwantDrain s).recipe = s.recipe ∧ (unwantDrain s).superv = s.superv := by
  unfold unwantDrain
  (repeat' split) <;> simp

@[simp] theorem queueStatus_frame (s : State) :
    (queueStatus s).pending = s.pending ∧ (queueStatus s).startup = s.startup
      ∧ (queueStatus s).climate = s.climate ∧ (queueStatus s).power = s.power ∧ (queueStatus s).steam = s.steam
      ∧ (queueStatus s).descale = s.descale ∧ (queueStatus s).recipe = s.recipe
      ∧ (queueStatus s).superv = s.superv := by
  simp [queueStatus]

@[simp] theorem beginFill_frame (kind : FillKind) (budget : Nat) (s : State) :
    (beginFill kind budget s).pending = s.pending ∧ (beginFill kind budget s).startup = s.startup
      ∧ (beginFill kind budget s).climate = s.climate ∧ (beginFill kind budget s).power = s.power
      ∧ (beginFill kind budget s).share = s.share ∧ (beginFill kind budget s).descale = s.descale
      ∧ (beginFill kind budget s).recipe = s.recipe ∧ (beginFill kind budget s).superv = s.superv := by
  simp [beginFill]

@[simp] theorem clearFill_frame (s : State) :
    (clearFill s).pending = s.pending ∧ (clearFill s).startup = s.startup ∧ (clearFill s).climate = s.climate
      ∧ (clearFill s).descale = s.descale ∧ (clearFill s).recipe = s.recipe ∧ (clearFill s).superv = s.superv := by
  simp [clearFill]

@[simp] theorem beginDrain_frame (s : State) :
    (beginDrain s).pending = s.pending ∧ (beginDrain s).startup = s.startup ∧ (beginDrain s).climate = s.climate
      ∧ (beginDrain s).power = s.power ∧ (beginDrain s).share = s.share ∧ (beginDrain s).descale = s.descale
      ∧ (beginDrain s).recipe = s.recipe ∧ (beginDrain s).superv = s.superv := by
  simp [beginDrain]

@[simp] theorem clearDrain_frame (s : State) :
    (clearDrain s).pending = s.pending ∧ (clearDrain s).startup = s.startup ∧ (clearDrain s).climate = s.climate
      ∧ (clearDrain s).descale = s.descale ∧ (clearDrain s).recipe = s.recipe ∧ (clearDrain s).superv = s.superv := by
  simp [clearDrain]

@[simp] theorem enterHeating_frame (s : State) :
    (enterHeating s).pending = s.pending ∧ (enterHeating s).startup = s.startup
      ∧ (enterHeating s).climate = s.climate ∧ (enterHeating s).power = s.power
      ∧ (enterHeating s).share = s.share ∧ (enterHeating s).line = s.line ∧ (enterHeating s).descale = s.descale
      ∧ (enterHeating s).recipe = s.recipe ∧ (enterHeating s).superv = s.superv := by
  simp [enterHeating]

@[simp] theorem enterCooling_frame (s : State) :
    (enterCooling s).pending = s.pending ∧ (enterCooling s).startup = s.startup
      ∧ (enterCooling s).climate = s.climate ∧ (enterCooling s).power = s.power
      ∧ (enterCooling s).share = s.share ∧ (enterCooling s).line = s.line ∧ (enterCooling s).descale = s.descale
      ∧ (enterCooling s).recipe = s.recipe ∧ (enterCooling s).superv = s.superv := by
  simp [enterCooling]

@[simp] theorem enterEmpty_frame (s : State) :
    (enterEmpty s).pending = s.pending ∧ (enterEmpty s).startup = s.startup ∧ (enterEmpty s).climate = s.climate
      ∧ (enterEmpty s).power = s.power ∧ (enterEmpty s).share = s.share ∧ (enterEmpty s).line = s.line
      ∧ (enterEmpty s).descale = s.descale ∧ (enterEmpty s).recipe = s.recipe ∧ (enterEmpty s).superv = s.superv := by
  simp [enterEmpty]

@[simp] theorem enterDraining_frame (s : State) :
    (enterDraining s).pending = s.pending ∧ (enterDraining s).startup = s.startup
      ∧ (enterDraining s).climate = s.climate ∧ (enterDraining s).power = s.power
      ∧ (enterDraining s).share = s.share ∧ (enterDraining s).descale = s.descale
      ∧ (enterDraining s).recipe = s.recipe ∧ (enterDraining s).superv = s.superv := by
  simp [enterDraining]

@[simp] theorem endCookingFill_frame (s : State) :
    (endCookingFill s).pending = s.pending ∧ (endCookingFill s).startup = s.startup
      ∧ (endCookingFill s).climate = s.climate ∧ (endCookingFill s).descale = s.descale
      ∧ (endCookingFill s).recipe = s.recipe ∧ (endCookingFill s).superv = s.superv := by
  simp [endCookingFill]

@[simp] theorem enterFilling_frame (s : State) :
    (enterFilling s).pending = s.pending ∧ (enterFilling s).startup = s.startup
      ∧ (enterFilling s).climate = s.climate ∧ (enterFilling s).descale = s.descale
      ∧ (enterFilling s).recipe = s.recipe ∧ (enterFilling s).superv = s.superv := by
  simp only [enterFilling]
  (repeat' split) <;> simp

@[simp] theorem beginTopUp_frame (s : State) :
    (beginTopUp s).pending = s.pending ∧ (beginTopUp s).startup = s.startup ∧ (beginTopUp s).climate = s.climate
      ∧ (beginTopUp s).descale = s.descale ∧ (beginTopUp s).recipe = s.recipe ∧ (beginTopUp s).superv = s.superv := by
  simp only [beginTopUp]
  (repeat' split) <;> simp

@[simp] theorem genFromLevels_frame (s : State) :
    (genFromLevels s).pending = s.pending ∧ (genFromLevels s).startup = s.startup
      ∧ (genFromLevels s).climate = s.climate ∧ (genFromLevels s).power = s.power
      ∧ (genFromLevels s).share = s.share ∧ (genFromLevels s).line = s.line
      ∧ (genFromLevels s).descale = s.descale ∧ (genFromLevels s).recipe = s.recipe
      ∧ (genFromLevels s).superv = s.superv := by
  unfold genFromLevels
  (repeat' split) <;> simp

@[simp] theorem drainIfCool_frame (s : State) :
    (drainIfCool s).pending = s.pending
      ∧ (drainIfCool s).startup = s.startup
      ∧ (drainIfCool s).climate = s.climate
      ∧ (drainIfCool s).power = s.power
      ∧ (drainIfCool s).share = s.share
      ∧ (drainIfCool s).descale = s.descale
      ∧ (drainIfCool s).recipe = s.recipe
      ∧ (drainIfCool s).superv = s.superv := by
  unfold drainIfCool
  (repeat' split) <;> simp

@[simp] theorem endSteam_frame (s : State) :
    (endSteam s).pending = s.pending
      ∧ (endSteam s).startup = s.startup
      ∧ (endSteam s).climate = s.climate
      ∧ (endSteam s).descale = s.descale
      ∧ (endSteam s).recipe = s.recipe
      ∧ (endSteam s).superv = s.superv := by
  simp [endSteam]

@[simp] theorem judgeSteam_frame (s : State) :
    (judgeSteam s).pending = s.pending ∧ (judgeSteam s).startup = s.startup ∧ (judgeSteam s).climate = s.climate
      ∧ (judgeSteam s).descale = s.descale ∧ (judgeSteam s).recipe = s.recipe ∧ (judgeSteam s).superv = s.superv := by
  unfold judgeSteam
  (repeat' split) <;> simp

@[simp] theorem judgeBoil_frame (s : State) :
    (judgeBoil s).pending = s.pending ∧ (judgeBoil s).startup = s.startup ∧ (judgeBoil s).climate = s.climate
      ∧ (judgeBoil s).power = s.power ∧ (judgeBoil s).share = s.share ∧ (judgeBoil s).descale = s.descale
      ∧ (judgeBoil s).recipe = s.recipe ∧ (judgeBoil s).superv = s.superv := by
  unfold judgeBoil
  (repeat' split) <;> simp

@[simp] theorem settleOutputs_frame (s : State) :
    (settleOutputs s).pending = s.pending ∧ (settleOutputs s).startup = s.startup
      ∧ (settleOutputs s).climate = s.climate ∧ (settleOutputs s).share = s.share
      ∧ (settleOutputs s).line = s.line ∧ (settleOutputs s).descale = s.descale
      ∧ (settleOutputs s).recipe = s.recipe ∧ (settleOutputs s).superv = s.superv := by
  unfold settleOutputs
  (repeat' split) <;> simp

@[simp] theorem settleWaits_frame (s : State) :
    (settleWaits s).pending = s.pending ∧ (settleWaits s).startup = s.startup
      ∧ (settleWaits s).climate = s.climate ∧ (settleWaits s).power = s.power ∧ (settleWaits s).share = s.share
      ∧ (settleWaits s).line = s.line ∧ (settleWaits s).steam = s.steam ∧ (settleWaits s).superv = s.superv := by
  unfold settleWaits
  (repeat' split) <;> simp

@[simp] theorem settle_frame (s : State) :
    (settle s).pending = s.pending ∧ (settle s).startup = s.startup ∧ (settle s).climate = s.climate
      ∧ (settle s).superv = s.superv := by
  simp [settle]

@[simp] theorem enterFault_frame (kind : FaultKind) (s : State) :
    (enterFault kind s).pending = s.pending ∧ (enterFault kind s).startup = s.startup
      ∧ (enterFault kind s).climate = s.climate ∧ (enterFault kind s).descale = s.descale
      ∧ (enterFault kind s).recipe = s.recipe ∧ (enterFault kind s).superv = s.superv := by
  simp [enterFault]

@[simp] theorem leaveFault_frame (s : State) :
    (leaveFault s).pending = s.pending ∧ (leaveFault s).startup = s.startup ∧ (leaveFault s).climate = s.climate
      ∧ (leaveFault s).power = s.power ∧ (leaveFault s).share = s.share ∧ (leaveFault s).line = s.line
      ∧ (leaveFault s).descale = s.descale ∧ (leaveFault s).recipe = s.recipe ∧ (leaveFault s).superv = s.superv := by
  unfold leaveFault
  (repeat' split) <;> simp

@[simp] theorem clearRequest_frame (s : State) :
    (clearRequest s).pending = s.pending ∧ (clearRequest s).startup = s.startup
      ∧ (clearRequest s).climate = s.climate ∧ (clearRequest s).descale = s.descale
      ∧ (clearRequest s).recipe = s.recipe ∧ (clearRequest s).superv = s.superv := by
  simp [clearRequest]

@[simp] theorem enterService_frame (s : State) :
    (enterService s).pending = s.pending ∧ (enterService s).startup = s.startup
      ∧ (enterService s).climate = s.climate ∧ (enterService s).descale = s.descale
      ∧ (enterService s).recipe = s.recipe ∧ (enterService s).superv = s.superv := by
  simp [enterService]

@[simp] theorem releaseGenerator_frame (s : State) :
    (releaseGenerator s).pending = s.pending ∧ (releaseGenerator s).startup = s.startup
      ∧ (releaseGenerator s).climate = s.climate ∧ (releaseGenerator s).descale = s.descale
      ∧ (releaseGenerator s).recipe = s.recipe ∧ (releaseGenerator s).superv = s.superv := by
  simp [releaseGenerator]

@[simp] theorem askWrite_frame (s : State) :
    (askWrite s).pending = s.pending ∧ (askWrite s).startup = s.startup ∧ (askWrite s).climate = s.climate
      ∧ (askWrite s).power = s.power ∧ (askWrite s).share = s.share ∧ (askWrite s).line = s.line
      ∧ (askWrite s).descale = s.descale ∧ (askWrite s).recipe = s.recipe ∧ (askWrite s).superv = s.superv := by
  unfold askWrite
  (repeat' split) <;> simp

@[simp] theorem noticeScale_frame (s : State) :
    (noticeScale s).pending = s.pending ∧ (noticeScale s).startup = s.startup
      ∧ (noticeScale s).climate = s.climate ∧ (noticeScale s).power = s.power ∧ (noticeScale s).share = s.share
      ∧ (noticeScale s).steam = s.steam ∧ (noticeScale s).descale = s.descale
      ∧ (noticeScale s).recipe = s.recipe ∧ (noticeScale s).superv = s.superv := by
  simp [noticeScale]

@[simp] theorem scaleStep_frame (s : State) :
    (scaleStep s).pending = s.pending ∧ (scaleStep s).startup = s.startup ∧ (scaleStep s).climate = s.climate
      ∧ (scaleStep s).power = s.power ∧ (scaleStep s).share = s.share ∧ (scaleStep s).descale = s.descale
      ∧ (scaleStep s).recipe = s.recipe ∧ (scaleStep s).superv = s.superv := by
  simp only [scaleStep]
  (repeat' split) <;> simp

@[simp] theorem countPulse_frame (s : State) :
    (countPulse s).pending = s.pending ∧ (countPulse s).startup = s.startup ∧ (countPulse s).climate = s.climate
      ∧ (countPulse s).power = s.power ∧ (countPulse s).share = s.share ∧ (countPulse s).descale = s.descale
      ∧ (countPulse s).recipe = s.recipe ∧ (countPulse s).superv = s.superv := by
  unfold countPulse
  (repeat' split) <;> simp

@[simp] theorem setAcid_frame (b : Bool) (s : State) :
    (setAcid b s).pending = s.pending ∧ (setAcid b s).startup = s.startup ∧ (setAcid b s).climate = s.climate
      ∧ (setAcid b s).power = s.power ∧ (setAcid b s).share = s.share ∧ (setAcid b s).line = s.line
      ∧ (setAcid b s).descale = s.descale ∧ (setAcid b s).recipe = s.recipe ∧ (setAcid b s).superv = s.superv := by
  simp [setAcid]

@[simp] theorem completionStep_frame (s : State) :
    (completionStep s).pending = s.pending ∧ (completionStep s).startup = s.startup
      ∧ (completionStep s).climate = s.climate ∧ (completionStep s).power = s.power
      ∧ (completionStep s).share = s.share ∧ (completionStep s).line = s.line
      ∧ (completionStep s).descale = s.descale ∧ (completionStep s).recipe = s.recipe
      ∧ (completionStep s).superv = s.superv := by
  simp [completionStep]

@[simp] theorem shedCavity_frame (s : State) :
    (shedCavity s).pending = s.pending ∧ (shedCavity s).startup = s.startup ∧ (shedCavity s).climate = s.climate
      ∧ (shedCavity s).share = s.share ∧ (shedCavity s).line = s.line ∧ (shedCavity s).steam = s.steam
      ∧ (shedCavity s).descale = s.descale ∧ (shedCavity s).recipe = s.recipe ∧ (shedCavity s).superv = s.superv := by
  unfold shedCavity
  (repeat' split) <;> simp

@[simp] theorem zeroDemands_frame (s : State) :
    (zeroDemands s).pending = s.pending ∧ (zeroDemands s).startup = s.startup ∧ (zeroDemands s).share = s.share
      ∧ (zeroDemands s).line = s.line ∧ (zeroDemands s).steam = s.steam ∧ (zeroDemands s).descale = s.descale
      ∧ (zeroDemands s).recipe = s.recipe ∧ (zeroDemands s).superv = s.superv := by
  simp [zeroDemands]

@[simp] theorem leaveClimate_frame (s : State) :
    (leaveClimate s).pending = s.pending ∧ (leaveClimate s).startup = s.startup
      ∧ (leaveClimate s).share = s.share ∧ (leaveClimate s).line = s.line ∧ (leaveClimate s).steam = s.steam
      ∧ (leaveClimate s).descale = s.descale ∧ (leaveClimate s).recipe = s.recipe
      ∧ (leaveClimate s).superv = s.superv := by
  simp [leaveClimate]

@[simp] theorem forceZero_frame (s : State) :
    (forceZero s).pending = s.pending ∧ (forceZero s).startup = s.startup ∧ (forceZero s).share = s.share
      ∧ (forceZero s).line = s.line ∧ (forceZero s).steam = s.steam ∧ (forceZero s).descale = s.descale
      ∧ (forceZero s).recipe = s.recipe ∧ (forceZero s).superv = s.superv := by
  simp [forceZero]

@[simp] theorem handOver_frame (h : HeatStage) (s : State) :
    (handOver h s).pending = s.pending ∧ (handOver h s).startup = s.startup ∧ (handOver h s).power = s.power
      ∧ (handOver h s).share = s.share ∧ (handOver h s).line = s.line ∧ (handOver h s).steam = s.steam
      ∧ (handOver h s).descale = s.descale ∧ (handOver h s).recipe = s.recipe ∧ (handOver h s).superv = s.superv := by
  simp [handOver]

@[simp] theorem climateSample_frame (s : State) :
    (climateSample s).pending = s.pending ∧ (climateSample s).startup = s.startup
      ∧ (climateSample s).superv = s.superv := by
  unfold climateSample
  (repeat' split) <;> simp

@[simp] theorem doorInput_frame (isOpen : Bool) (s : State) :
    (doorInput isOpen s).pending = s.pending ∧ (doorInput isOpen s).startup = s.startup
      ∧ (doorInput isOpen s).power = s.power ∧ (doorInput isOpen s).share = s.share
      ∧ (doorInput isOpen s).line = s.line ∧ (doorInput isOpen s).steam = s.steam
      ∧ (doorInput isOpen s).descale = s.descale ∧ (doorInput isOpen s).recipe = s.recipe
      ∧ (doorInput isOpen s).superv = s.superv := by
  simp [doorInput]

@[simp] theorem openDoor_frame (s : State) :
    (openDoor s).pending = s.pending ∧ (openDoor s).startup = s.startup ∧ (openDoor s).superv = s.superv := by
  simp [openDoor]

@[simp] theorem doorOpens_frame (s : State) :
    (doorOpens s).pending = s.pending ∧ (doorOpens s).startup = s.startup ∧ (doorOpens s).superv = s.superv := by
  unfold doorOpens
  (repeat' split) <;> simp

@[simp] theorem doorCloses_frame (s : State) :
    (doorCloses s).pending = s.pending ∧ (doorCloses s).startup = s.startup ∧ (doorCloses s).power = s.power
      ∧ (doorCloses s).share = s.share ∧ (doorCloses s).line = s.line ∧ (doorCloses s).steam = s.steam
      ∧ (doorCloses s).descale = s.descale ∧ (doorCloses s).recipe = s.recipe ∧ (doorCloses s).superv = s.superv := by
  unfold doorCloses
  (repeat' split) <;> simp

@[simp] theorem enterPhase_frame (phase : Phase) (rinse : Nat) (cause : DescaleCause) (s : State) :
    (enterPhase phase rinse cause s).pending = s.pending ∧ (enterPhase phase rinse cause s).startup = s.startup
      ∧ (enterPhase phase rinse cause s).climate = s.climate ∧ (enterPhase phase rinse cause s).power = s.power
      ∧ (enterPhase phase rinse cause s).share = s.share ∧ (enterPhase phase rinse cause s).steam = s.steam
      ∧ (enterPhase phase rinse cause s).recipe = s.recipe ∧ (enterPhase phase rinse cause s).superv = s.superv := by
  simp [enterPhase]

@[simp] theorem giveRequest_frame (r : ServiceRequest) (s : State) :
    (giveRequest r s).pending = s.pending ∧ (giveRequest r s).startup = s.startup
      ∧ (giveRequest r s).climate = s.climate ∧ (giveRequest r s).descale = s.descale
      ∧ (giveRequest r s).recipe = s.recipe ∧ (giveRequest r s).superv = s.superv := by
  unfold giveRequest
  (repeat' split) <;> simp

@[simp] theorem endPhase_frame (phase : Phase) (cause : DescaleCause) (s : State) :
    (endPhase phase cause s).pending = s.pending ∧ (endPhase phase cause s).startup = s.startup
      ∧ (endPhase phase cause s).climate = s.climate ∧ (endPhase phase cause s).recipe = s.recipe
      ∧ (endPhase phase cause s).superv = s.superv := by
  simp [endPhase]

@[simp] theorem enterAcidDrain_frame (cause : DescaleCause) (s : State) :
    (enterAcidDrain cause s).pending = s.pending ∧ (enterAcidDrain cause s).startup = s.startup
      ∧ (enterAcidDrain cause s).climate = s.climate ∧ (enterAcidDrain cause s).recipe = s.recipe
      ∧ (enterAcidDrain cause s).superv = s.superv := by
  simp [enterAcidDrain]

@[simp] theorem enterSoak_frame (s : State) :
    (enterSoak s).pending = s.pending ∧ (enterSoak s).startup = s.startup ∧ (enterSoak s).climate = s.climate
      ∧ (enterSoak s).recipe = s.recipe ∧ (enterSoak s).superv = s.superv := by
  simp [enterSoak]

@[simp] theorem enterSoakHeat_frame (s : State) :
    (enterSoakHeat s).pending = s.pending ∧ (enterSoakHeat s).startup = s.startup
      ∧ (enterSoakHeat s).climate = s.climate ∧ (enterSoakHeat s).recipe = s.recipe
      ∧ (enterSoakHeat s).superv = s.superv := by
  simp [enterSoakHeat]

@[simp] theorem enterDose_frame (s : State) :
    (enterDose s).pending = s.pending ∧ (enterDose s).startup = s.startup ∧ (enterDose s).climate = s.climate
      ∧ (enterDose s).recipe = s.recipe ∧ (enterDose s).superv = s.superv := by
  simp only [enterDose]
  (repeat' split) <;> simp

@[simp] theorem enterDrainOut_frame (s : State) :
    (enterDrainOut s).pending = s.pending ∧ (enterDrainOut s).startup = s.startup
      ∧ (enterDrainOut s).climate = s.climate ∧ (enterDrainOut s).recipe = s.recipe
      ∧ (enterDrainOut s).superv = s.superv := by
  simp only [enterDrainOut]
  (repeat' split) <;> simp

@[simp] theorem enterRinseDrain_frame (k : Nat) (s : State) :
    (enterRinseDrain k s).pending = s.pending ∧ (enterRinseDrain k s).startup = s.startup
      ∧ (enterRinseDrain k s).climate = s.climate ∧ (enterRinseDrain k s).recipe = s.recipe
      ∧ (enterRinseDrain k s).superv = s.superv := by
  simp [enterRinseDrain]

@[simp] theorem enterRinseHeat_frame (k : Nat) (s : State) :
    (enterRinseHeat k s).pending = s.pending ∧ (enterRinseHeat k s).startup = s.startup
      ∧ (enterRinseHeat k s).climate = s.climate ∧ (enterRinseHeat k s).recipe = s.recipe
      ∧ (enterRinseHeat k s).superv = s.superv := by
  simp [enterRinseHeat]

@[simp] theorem enterRinseFill_frame (k : Nat) (s : State) :
    (enterRinseFill k s).pending = s.pending ∧ (enterRinseFill k s).startup = s.startup
      ∧ (enterRinseFill k s).climate = s.climate ∧ (enterRinseFill k s).recipe = s.recipe
      ∧ (enterRinseFill k s).superv = s.superv := by
  simp only [enterRinseFill]
  (repeat' split) <;> simp

@[simp] theorem finishDescale_frame (s : State) :
    (finishDescale s).pending = s.pending ∧ (finishDescale s).startup = s.startup
      ∧ (finishDescale s).climate = s.climate ∧ (finishDescale s).recipe = s.recipe
      ∧ (finishDescale s).superv = s.superv := by
  unfold finishDescale
  (repeat' split) <;> simp

@[simp] theorem fillDone_frame (s : State) :
    (fillDone s).pending = s.pending ∧ (fillDone s).startup = s.startup ∧ (fillDone s).climate = s.climate
      ∧ (fillDone s).recipe = s.recipe ∧ (fillDone s).superv = s.superv := by
  unfold fillDone
  (repeat' split) <;> simp

@[simp] theorem drainDone_frame (s : State) :
    (drainDone s).pending = s.pending ∧ (drainDone s).startup = s.startup ∧ (drainDone s).climate = s.climate
      ∧ (drainDone s).recipe = s.recipe ∧ (drainDone s).superv = s.superv := by
  unfold drainDone
  (repeat' split) <;> simp

@[simp] theorem judgeHeat_frame (s : State) :
    (judgeHeat s).pending = s.pending ∧ (judgeHeat s).startup = s.startup ∧ (judgeHeat s).climate = s.climate
      ∧ (judgeHeat s).recipe = s.recipe ∧ (judgeHeat s).superv = s.superv := by
  unfold judgeHeat
  (repeat' split) <;> simp

@[simp] theorem descaleFault_frame (cause : DescaleCause) (s : State) :
    (descaleFault cause s).pending = s.pending ∧ (descaleFault cause s).startup = s.startup
      ∧ (descaleFault cause s).climate = s.climate ∧ (descaleFault cause s).recipe = s.recipe
      ∧ (descaleFault cause s).superv = s.superv := by
  unfold descaleFault
  (repeat' split) <;> simp

@[simp] theorem reportFirstPulse_frame (s : State) :
    (reportFirstPulse s).pending = s.pending ∧ (reportFirstPulse s).startup = s.startup
      ∧ (reportFirstPulse s).climate = s.climate ∧ (reportFirstPulse s).power = s.power
      ∧ (reportFirstPulse s).share = s.share ∧ (reportFirstPulse s).line = s.line
      ∧ (reportFirstPulse s).descale = s.descale ∧ (reportFirstPulse s).recipe = s.recipe
      ∧ (reportFirstPulse s).superv = s.superv := by
  unfold reportFirstPulse
  (repeat' split) <;> simp

@[simp] theorem frameForDescale_frame (boilerDemand boilerGrant : Nat) (barred : Bool) (s : State) :
    (frameForDescale boilerDemand boilerGrant barred s).pending = s.pending
      ∧ (frameForDescale boilerDemand boilerGrant barred s).startup = s.startup
      ∧ (frameForDescale boilerDemand boilerGrant barred s).climate = s.climate
      ∧ (frameForDescale boilerDemand boilerGrant barred s).power = s.power
      ∧ (frameForDescale boilerDemand boilerGrant barred s).share = s.share
      ∧ (frameForDescale boilerDemand boilerGrant barred s).line = s.line
      ∧ (frameForDescale boilerDemand boilerGrant barred s).steam = s.steam
      ∧ (frameForDescale boilerDemand boilerGrant barred s).recipe = s.recipe
      ∧ (frameForDescale boilerDemand boilerGrant barred s).superv = s.superv := by
  simp [frameForDescale]

@[simp] theorem descaleStart_frame (s : State) :
    (descaleStart s).pending = s.pending ∧ (descaleStart s).startup = s.startup
      ∧ (descaleStart s).climate = s.climate ∧ (descaleStart s).superv = s.superv := by
  unfold descaleStart
  (repeat' split) <;> simp

@[simp] theorem descaleConfirm_frame (s : State) :
    (descaleConfirm s).pending = s.pending ∧ (descaleConfirm s).startup = s.startup
      ∧ (descaleConfirm s).climate = s.climate ∧ (descaleConfirm s).superv = s.superv := by
  unfold descaleConfirm
  (repeat' split) <;> simp

@[simp] theorem abortDescale_frame (s : State) :
    (abortDescale s).pending = s.pending ∧ (abortDescale s).startup = s.startup
      ∧ (abortDescale s).climate = s.climate ∧ (abortDescale s).superv = s.superv := by
  unfold abortDescale
  (repeat' split) <;> simp

@[simp] theorem prepTimeout_frame (s : State) :
    (prepTimeout s).pending = s.pending ∧ (prepTimeout s).startup = s.startup
      ∧ (prepTimeout s).climate = s.climate ∧ (prepTimeout s).superv = s.superv := by
  unfold prepTimeout
  (repeat' split) <;> simp

@[simp] theorem heatLimit_frame (s : State) :
    (heatLimit s).pending = s.pending ∧ (heatLimit s).startup = s.startup ∧ (heatLimit s).climate = s.climate
      ∧ (heatLimit s).superv = s.superv := by
  unfold heatLimit
  (repeat' split) <;> simp

@[simp] theorem descaleLowWater_frame (s : State) :
    (descaleLowWater s).pending = s.pending ∧ (descaleLowWater s).startup = s.startup
      ∧ (descaleLowWater s).climate = s.climate ∧ (descaleLowWater s).superv = s.superv := by
  unfold descaleLowWater
  (repeat' split) <;> simp

@[simp] theorem soakTimerEnd_frame (s : State) :
    (soakTimerEnd s).pending = s.pending ∧ (soakTimerEnd s).startup = s.startup
      ∧ (soakTimerEnd s).climate = s.climate ∧ (soakTimerEnd s).superv = s.superv := by
  unfold soakTimerEnd
  (repeat' split) <;> simp

@[simp] theorem waitNotice_frame (s : State) :
    (waitNotice s).pending = s.pending ∧ (waitNotice s).startup = s.startup ∧ (waitNotice s).climate = s.climate
      ∧ (waitNotice s).power = s.power ∧ (waitNotice s).share = s.share ∧ (waitNotice s).steam = s.steam
      ∧ (waitNotice s).recipe = s.recipe ∧ (waitNotice s).superv = s.superv := by
  unfold waitNotice
  (repeat' split) <;> simp

@[simp] theorem finishProgram_frame (s : State) :
    (finishProgram s).pending = s.pending ∧ (finishProgram s).startup = s.startup
      ∧ (finishProgram s).share = s.share ∧ (finishProgram s).steam = s.steam
      ∧ (finishProgram s).descale = s.descale ∧ (finishProgram s).superv = s.superv := by
  simp [finishProgram]

@[simp] theorem faultProgram_frame (cause : ProgramFault) (s : State) :
    (faultProgram cause s).pending = s.pending ∧ (faultProgram cause s).startup = s.startup
      ∧ (faultProgram cause s).share = s.share ∧ (faultProgram cause s).steam = s.steam
      ∧ (faultProgram cause s).descale = s.descale ∧ (faultProgram cause s).superv = s.superv := by
  unfold faultProgram
  (repeat' split) <;> simp

@[simp] theorem endSession_frame (s : State) :
    (endSession s).pending = s.pending ∧ (endSession s).startup = s.startup ∧ (endSession s).climate = s.climate
      ∧ (endSession s).power = s.power ∧ (endSession s).share = s.share ∧ (endSession s).line = s.line
      ∧ (endSession s).steam = s.steam ∧ (endSession s).descale = s.descale ∧ (endSession s).superv = s.superv := by
  simp [endSession]

@[simp] theorem beginStage_frame (i : Nat) (h : HeatStage) (s : State) :
    (beginStage i h s).pending = s.pending ∧ (beginStage i h s).startup = s.startup
      ∧ (beginStage i h s).descale = s.descale ∧ (beginStage i h s).superv = s.superv := by
  simp only [beginStage]
  (repeat' split) <;> simp

@[simp] theorem probeRule_frame (s : State) :
    (probeRule s).pending = s.pending ∧ (probeRule s).startup = s.startup ∧ (probeRule s).climate = s.climate
      ∧ (probeRule s).power = s.power ∧ (probeRule s).share = s.share ∧ (probeRule s).steam = s.steam
      ∧ (probeRule s).descale = s.descale ∧ (probeRule s).superv = s.superv := by
  unfold probeRule
  (repeat' split) <;> simp

@[simp] theorem enterStage_frame (fuel : Nat) : ∀ (i : Nat) (s : State),
    (enterStage fuel i s).pending = s.pending ∧ (enterStage fuel i s).startup = s.startup
      ∧ (enterStage fuel i s).descale = s.descale ∧ (enterStage fuel i s).superv = s.superv := by
  induction fuel with
  | zero => intro i s; simp [enterStage]
  | succ n ih =>
    intro i s
    unfold enterStage
    dsimp only
    split
    · simp
    · simp only [State.setRecipe_recipe]
      split <;> simp [ih]
    · (repeat' split) <;> simp [ih]
    · (repeat' split) <;> simp [ih]

@[simp] theorem enter_frame (i : Nat) (s : State) :
    (enter i s).pending = s.pending ∧ (enter i s).startup = s.startup ∧ (enter i s).descale = s.descale
      ∧ (enter i s).superv = s.superv := by
  simp [enter]

@[simp] theorem judgeStage_frame (s : State) :
    (judgeStage s).pending = s.pending ∧ (judgeStage s).startup = s.startup ∧ (judgeStage s).descale = s.descale
      ∧ (judgeStage s).superv = s.superv := by
  unfold judgeStage
  (repeat' split) <;> simp

@[simp] theorem judgeStageAndProbe_frame (s : State) :
    (judgeStageAndProbe s).pending = s.pending ∧ (judgeStageAndProbe s).startup = s.startup
      ∧ (judgeStageAndProbe s).descale = s.descale ∧ (judgeStageAndProbe s).superv = s.superv := by
  unfold judgeStageAndProbe
  (repeat' split) <;> simp

@[simp] theorem judgeTimedPhase_frame (s : State) :
    (judgeTimedPhase s).pending = s.pending ∧ (judgeTimedPhase s).startup = s.startup
      ∧ (judgeTimedPhase s).climate = s.climate ∧ (judgeTimedPhase s).power = s.power
      ∧ (judgeTimedPhase s).share = s.share ∧ (judgeTimedPhase s).line = s.line
      ∧ (judgeTimedPhase s).steam = s.steam ∧ (judgeTimedPhase s).descale = s.descale
      ∧ (judgeTimedPhase s).superv = s.superv := by
  unfold judgeTimedPhase
  (repeat' split) <;> simp

@[simp] theorem loadOpen_frame (count : Byte) (tag : Word16) (s : State) :
    (loadOpen count tag s).pending = s.pending ∧ (loadOpen count tag s).startup = s.startup
      ∧ (loadOpen count tag s).climate = s.climate ∧ (loadOpen count tag s).power = s.power
      ∧ (loadOpen count tag s).share = s.share ∧ (loadOpen count tag s).steam = s.steam
      ∧ (loadOpen count tag s).descale = s.descale ∧ (loadOpen count tag s).superv = s.superv := by
  unfold loadOpen
  (repeat' split) <;> simp

@[simp] theorem storeStage_frame (r : StageRecord) (clamped : Option Nat) (s : State) :
    (storeStage r clamped s).pending = s.pending ∧ (storeStage r clamped s).startup = s.startup
      ∧ (storeStage r clamped s).climate = s.climate ∧ (storeStage r clamped s).power = s.power
      ∧ (storeStage r clamped s).share = s.share ∧ (storeStage r clamped s).steam = s.steam
      ∧ (storeStage r clamped s).descale = s.descale ∧ (storeStage r clamped s).superv = s.superv := by
  simp only [storeStage]
  (repeat' split) <;> simp

@[simp] theorem stageCommand_frame (index : Byte) (record : List Byte) (s : State) :
    (stageCommand index record s).pending = s.pending ∧ (stageCommand index record s).startup = s.startup
      ∧ (stageCommand index record s).climate = s.climate ∧ (stageCommand index record s).steam = s.steam
      ∧ (stageCommand index record s).descale = s.descale ∧ (stageCommand index record s).superv = s.superv := by
  unfold stageCommand
  (repeat' split) <;> simp

@[simp] theorem startProgram_frame (s : State) :
    (startProgram s).pending = s.pending ∧ (startProgram s).startup = s.startup := by
  simp [startProgram]

@[simp] theorem startCommand_frame (s : State) :
    (startCommand s).pending = s.pending ∧ (startCommand s).startup = s.startup := by
  unfold startCommand
  (repeat' split) <;> simp

@[simp] theorem runManual_frame (record : List Byte) (s : State) :
    (runManual record s).pending = s.pending ∧ (runManual record s).startup = s.startup := by
  unfold runManual
  (repeat' split) <;> simp

@[simp] theorem applyAnswer_frame (a : Nat) (s : State) :
    (applyAnswer a s).pending = s.pending ∧ (applyAnswer a s).startup = s.startup
      ∧ (applyAnswer a s).descale = s.descale ∧ (applyAnswer a s).superv = s.superv := by
  unfold applyAnswer
  (repeat' split) <;> simp

@[simp] theorem continueStage_frame (s : State) :
    (continueStage s).pending = s.pending ∧ (continueStage s).startup = s.startup
      ∧ (continueStage s).descale = s.descale ∧ (continueStage s).superv = s.superv := by
  simp only [continueStage]
  (repeat' split) <;> simp

@[simp] theorem answerCommand_frame (index a : Byte) (s : State) :
    (answerCommand index a s).pending = s.pending ∧ (answerCommand index a s).startup = s.startup
      ∧ (answerCommand index a s).superv = s.superv := by
  unfold answerCommand
  (repeat' split) <;> simp

@[simp] theorem pauseCommand_frame (s : State) :
    (pauseCommand s).pending = s.pending ∧ (pauseCommand s).startup = s.startup
      ∧ (pauseCommand s).climate = s.climate ∧ (pauseCommand s).superv = s.superv := by
  unfold pauseCommand
  (repeat' split) <;> simp

@[simp] theorem resumeCommand_frame (s : State) :
    (resumeCommand s).pending = s.pending ∧ (resumeCommand s).startup = s.startup
      ∧ (resumeCommand s).superv = s.superv := by
  simp only [resumeCommand]
  (repeat' split) <;> simp

@[simp] theorem abortProgram_frame (s : State) :
    (abortProgram s).pending = s.pending ∧ (abortProgram s).startup = s.startup
      ∧ (abortProgram s).superv = s.superv := by
  simp [abortProgram]

@[simp] theorem abortCommand_frame (s : State) :
    (abortCommand s).pending = s.pending ∧ (abortCommand s).startup = s.startup
      ∧ (abortCommand s).superv = s.superv := by
  unfold abortCommand
  (repeat' split) <;> simp

@[simp] theorem acknowledge_frame (s : State) :
    (acknowledge s).pending = s.pending ∧ (acknowledge s).startup = s.startup
      ∧ (acknowledge s).climate = s.climate ∧ (acknowledge s).power = s.power ∧ (acknowledge s).share = s.share
      ∧ (acknowledge s).steam = s.steam ∧ (acknowledge s).descale = s.descale
      ∧ (acknowledge s).superv = s.superv := by
  simp [acknowledge]

@[simp] theorem finishAck_frame (s : State) :
    (finishAck s).pending = s.pending ∧ (finishAck s).startup = s.startup ∧ (finishAck s).climate = s.climate
      ∧ (finishAck s).power = s.power ∧ (finishAck s).share = s.share ∧ (finishAck s).steam = s.steam
      ∧ (finishAck s).descale = s.descale ∧ (finishAck s).superv = s.superv := by
  unfold finishAck
  (repeat' split) <;> simp

@[simp] theorem loadTimeout_frame (s : State) :
    (loadTimeout s).pending = s.pending ∧ (loadTimeout s).startup = s.startup
      ∧ (loadTimeout s).climate = s.climate ∧ (loadTimeout s).power = s.power ∧ (loadTimeout s).share = s.share
      ∧ (loadTimeout s).steam = s.steam ∧ (loadTimeout s).descale = s.descale
      ∧ (loadTimeout s).superv = s.superv := by
  unfold loadTimeout
  (repeat' split) <;> simp

@[simp] theorem elapse_frame (h : HeatStage) (s : State) :
    (elapse h s).pending = s.pending ∧ (elapse h s).startup = s.startup ∧ (elapse h s).climate = s.climate
      ∧ (elapse h s).power = s.power ∧ (elapse h s).share = s.share ∧ (elapse h s).line = s.line
      ∧ (elapse h s).steam = s.steam ∧ (elapse h s).descale = s.descale ∧ (elapse h s).superv = s.superv := by
  simp [elapse]

@[simp] theorem stageTimeEnd_frame (s : State) :
    (stageTimeEnd s).pending = s.pending ∧ (stageTimeEnd s).startup = s.startup
      ∧ (stageTimeEnd s).superv = s.superv := by
  unfold stageTimeEnd
  (repeat' split) <;> simp

@[simp] theorem promptTimeout_frame (s : State) :
    (promptTimeout s).pending = s.pending ∧ (promptTimeout s).startup = s.startup
      ∧ (promptTimeout s).superv = s.superv := by
  unfold promptTimeout
  (repeat' split) <;> simp

@[simp] theorem steamWithheld_frame (s : State) :
    (steamWithheld s).pending = s.pending ∧ (steamWithheld s).startup = s.startup
      ∧ (steamWithheld s).climate = s.climate ∧ (steamWithheld s).power = s.power
      ∧ (steamWithheld s).share = s.share ∧ (steamWithheld s).steam = s.steam
      ∧ (steamWithheld s).descale = s.descale ∧ (steamWithheld s).superv = s.superv := by
  unfold steamWithheld
  (repeat' split) <;> simp

@[simp] theorem barHeat_frame (s : State) :
    (barHeat s).pending = s.pending ∧ (barHeat s).startup = s.startup ∧ (barHeat s).climate = s.climate
      ∧ (barHeat s).share = s.share ∧ (barHeat s).line = s.line ∧ (barHeat s).steam = s.steam
      ∧ (barHeat s).descale = s.descale ∧ (barHeat s).recipe = s.recipe ∧ (barHeat s).superv = s.superv := by
  unfold barHeat
  (repeat' split) <;> simp

@[simp] theorem commandRelay_frame (closed : Bool) (s : State) :
    (commandRelay closed s).pending = s.pending ∧ (commandRelay closed s).startup = s.startup
      ∧ (commandRelay closed s).climate = s.climate ∧ (commandRelay closed s).power = s.power
      ∧ (commandRelay closed s).share = s.share ∧ (commandRelay closed s).line = s.line
      ∧ (commandRelay closed s).steam = s.steam ∧ (commandRelay closed s).descale = s.descale
      ∧ (commandRelay closed s).recipe = s.recipe := by
  simp [commandRelay]

@[simp] theorem takeTrip_frame (cause : ProgramFault) (s : State) :
    (takeTrip cause s).pending = s.pending ∧ (takeTrip cause s).startup = s.startup := by
  unfold takeTrip
  (repeat' split) <;> simp

@[simp] theorem beginCut_frame (s : State) :
    (beginCut s).pending = s.pending ∧ (beginCut s).startup = s.startup ∧ (beginCut s).superv = s.superv := by
  simp [beginCut]

@[simp] theorem judgeChannelSides_frame (c : Channel) (s : State) :
    (judgeChannelSides c s).pending = s.pending ∧ (judgeChannelSides c s).startup = s.startup
      ∧ (judgeChannelSides c s).climate = s.climate ∧ (judgeChannelSides c s).power = s.power
      ∧ (judgeChannelSides c s).share = s.share ∧ (judgeChannelSides c s).line = s.line
      ∧ (judgeChannelSides c s).steam = s.steam ∧ (judgeChannelSides c s).descale = s.descale
      ∧ (judgeChannelSides c s).recipe = s.recipe := by
  simp only [judgeChannelSides]
  (repeat' split) <;> simp

@[simp] theorem judgeFixed_frame (s : State) :
    (judgeFixed s).pending = s.pending ∧ (judgeFixed s).startup = s.startup ∧ (judgeFixed s).climate = s.climate
      ∧ (judgeFixed s).power = s.power ∧ (judgeFixed s).share = s.share ∧ (judgeFixed s).line = s.line
      ∧ (judgeFixed s).steam = s.steam ∧ (judgeFixed s).descale = s.descale ∧ (judgeFixed s).recipe = s.recipe := by
  unfold judgeFixed
  (repeat' split) <;> simp

@[simp] theorem judgeReadings_frame (s : State) :
    (judgeReadings s).pending = s.pending
      ∧ (judgeReadings s).startup = s.startup
      ∧ (judgeReadings s).climate = s.climate
      ∧ (judgeReadings s).power = s.power
      ∧ (judgeReadings s).share = s.share
      ∧ (judgeReadings s).line = s.line
      ∧ (judgeReadings s).steam = s.steam
      ∧ (judgeReadings s).descale = s.descale
      ∧ (judgeReadings s).recipe = s.recipe := by
  simp [judgeReadings]

@[simp] theorem startExcursion_frame (c : Channel) (d : Side) (s : State) :
    (startExcursion c d s).pending = s.pending ∧ (startExcursion c d s).startup = s.startup := by
  simp only [startExcursion]
  (repeat' split) <;> simp

@[simp] theorem debounced_frame (c : Channel) (d : Side) (s : State) :
    (debounced c d s).pending = s.pending ∧ (debounced c d s).startup = s.startup := by
  unfold debounced
  (repeat' split) <;> simp

@[simp] theorem startWaiting_frame (c : Channel) (d : Side) (s : State) :
    (startWaiting c d s).pending = s.pending ∧ (startWaiting c d s).startup = s.startup := by
  unfold startWaiting
  (repeat' split) <;> simp

@[simp] theorem endExcursion_frame (c : Channel) (d : Side) (s : State) :
    (endExcursion c d s).pending = s.pending ∧ (endExcursion c d s).startup = s.startup := by
  simp [endExcursion]

@[simp] theorem excursionStart_frame (c : Channel) (d : Side) (s : State) :
    (excursionStart c d s).pending = s.pending ∧ (excursionStart c d s).startup = s.startup := by
  unfold excursionStart
  (repeat' split) <;> simp

@[simp] theorem excursionEnd_frame (c : Channel) (d : Side) (s : State) :
    (excursionEnd c d s).pending = s.pending ∧ (excursionEnd c d s).startup = s.startup := by
  unfold excursionEnd
  (repeat' split) <;> simp

@[simp] theorem probeInput_frame (shows : Bool) (s : State) :
    (probeInput shows s).pending = s.pending ∧ (probeInput shows s).startup = s.startup
      ∧ (probeInput shows s).climate = s.climate ∧ (probeInput shows s).power = s.power
      ∧ (probeInput shows s).share = s.share ∧ (probeInput shows s).line = s.line
      ∧ (probeInput shows s).steam = s.steam ∧ (probeInput shows s).descale = s.descale
      ∧ (probeInput shows s).superv = s.superv := by
  simp [probeInput]

@[simp] theorem sensorReading_frame (x : SensorInputs) (s : State) :
    (sensorReading x s).pending = s.pending ∧ (sensorReading x s).startup = s.startup := by
  simp [sensorReading]

@[simp] theorem channelFails_frame (c : Channel) (s : State) :
    (channelFails c s).pending = s.pending ∧ (channelFails c s).startup = s.startup
      ∧ (channelFails c s).climate = s.climate := by
  simp only [channelFails]
  (repeat' split) <;> simp

@[simp] theorem presentMains_frame (v : Nat) (s : State) :
    (presentMains v s).pending = s.pending ∧ (presentMains v s).startup = s.startup
      ∧ (presentMains v s).climate = s.climate ∧ (presentMains v s).power = s.power
      ∧ (presentMains v s).share = s.share ∧ (presentMains v s).line = s.line
      ∧ (presentMains v s).steam = s.steam ∧ (presentMains v s).descale = s.descale
      ∧ (presentMains v s).recipe = s.recipe := by
  simp [presentMains]

@[simp] theorem endCoreExcursion_frame (d : Side) (s : State) :
    (endCoreExcursion d s).pending = s.pending ∧ (endCoreExcursion d s).startup = s.startup := by
  unfold endCoreExcursion
  (repeat' split) <;> simp

@[simp] theorem probeLost_frame (s : State) :
    (probeLost s).pending = s.pending ∧ (probeLost s).startup = s.startup := by
  simp [probeLost]

@[simp] theorem probeStateChange_frame (s : State) :
    (probeStateChange s).pending = s.pending ∧ (probeStateChange s).startup = s.startup := by
  unfold probeStateChange
  (repeat' split) <;> simp

@[simp] theorem relayFeedback_frame (closed : Bool) (s : State) :
    (relayFeedback closed s).pending = s.pending ∧ (relayFeedback closed s).startup = s.startup
      ∧ (relayFeedback closed s).climate = s.climate ∧ (relayFeedback closed s).power = s.power
      ∧ (relayFeedback closed s).share = s.share ∧ (relayFeedback closed s).line = s.line
      ∧ (relayFeedback closed s).steam = s.steam ∧ (relayFeedback closed s).descale = s.descale
      ∧ (relayFeedback closed s).recipe = s.recipe := by
  simp [relayFeedback]

@[simp] theorem relayOpenFault_frame (s : State) :
    (relayOpenFault s).pending = s.pending ∧ (relayOpenFault s).startup = s.startup := by
  unfold relayOpenFault
  (repeat' split) <;> simp

@[simp] theorem relayWelded_frame (s : State) :
    (relayWelded s).pending = s.pending ∧ (relayWelded s).startup = s.startup
      ∧ (relayWelded s).climate = s.climate := by
  unfold relayWelded
  (repeat' split) <;> simp

@[simp] theorem relayRestore_frame (s : State) :
    (relayRestore s).pending = s.pending ∧ (relayRestore s).startup = s.startup
      ∧ (relayRestore s).climate = s.climate ∧ (relayRestore s).power = s.power
      ∧ (relayRestore s).share = s.share ∧ (relayRestore s).steam = s.steam
      ∧ (relayRestore s).descale = s.descale ∧ (relayRestore s).recipe = s.recipe := by
  unfold relayRestore
  (repeat' split) <;> simp

@[simp] theorem startCheck_frame (s : State) :
    (startCheck s).pending = s.pending ∧ (startCheck s).startup = s.startup ∧ (startCheck s).climate = s.climate
      ∧ (startCheck s).power = s.power ∧ (startCheck s).share = s.share ∧ (startCheck s).line = s.line
      ∧ (startCheck s).steam = s.steam ∧ (startCheck s).descale = s.descale ∧ (startCheck s).recipe = s.recipe := by
  unfold startCheck
  (repeat' split) <;> simp

@[simp] theorem clearJudging_frame (s : State) :
    (clearJudging s).pending = s.pending
      ∧ (clearJudging s).startup = s.startup
      ∧ (clearJudging s).climate = s.climate
      ∧ (clearJudging s).power = s.power
      ∧ (clearJudging s).share = s.share
      ∧ (clearJudging s).line = s.line
      ∧ (clearJudging s).steam = s.steam
      ∧ (clearJudging s).descale = s.descale
      ∧ (clearJudging s).recipe = s.recipe := by
  simp [clearJudging]

@[simp] theorem startJudging_frame (s : State) :
    (startJudging s).pending = s.pending ∧ (startJudging s).startup = s.startup
      ∧ (startJudging s).climate = s.climate ∧ (startJudging s).power = s.power
      ∧ (startJudging s).share = s.share ∧ (startJudging s).line = s.line ∧ (startJudging s).steam = s.steam
      ∧ (startJudging s).descale = s.descale ∧ (startJudging s).recipe = s.recipe := by
  simp [startJudging]

@[simp] theorem takeConfigFault_frame (s : State) :
    (takeConfigFault s).pending = s.pending ∧ (takeConfigFault s).startup = s.startup := by
  simp [takeConfigFault]

@[simp] theorem configCheck_frame (s : State) :
    (configCheck s).pending = s.pending ∧ (configCheck s).startup = s.startup := by
  unfold configCheck
  (repeat' split) <;> simp

end Sys2Proof.Machine
end

