-- ==== Sys2Proof/Laws/LineFrames.lean ====
section
/-!
SUPPORT. For each operation of the scheduler, the shares and the line: the blocks of State that it leaves as
they are, said once, so that no later proof unfolds it for them.
-/
namespace Sys2Proof.Machine

@[simp] theorem decideMainsFault_frame (tenths : Nat) (half : Option Nat) (s : State) :
    (decideMainsFault tenths half s).pending = s.pending ∧ (decideMainsFault tenths half s).startup = s.startup
      ∧ (decideMainsFault tenths half s).climate = s.climate ∧ (decideMainsFault tenths half s).share = s.share
      ∧ (decideMainsFault tenths half s).steam = s.steam ∧ (decideMainsFault tenths half s).descale = s.descale
      ∧ (decideMainsFault tenths half s).recipe = s.recipe ∧ (decideMainsFault tenths half s).superv = s.superv := by
  simp [decideMainsFault]

@[simp] theorem decideFrequency_frame (total : Nat) (s : State) :
    (decideFrequency total s).pending = s.pending ∧ (decideFrequency total s).startup = s.startup
      ∧ (decideFrequency total s).climate = s.climate ∧ (decideFrequency total s).share = s.share
      ∧ (decideFrequency total s).steam = s.steam ∧ (decideFrequency total s).descale = s.descale
      ∧ (decideFrequency total s).recipe = s.recipe ∧ (decideFrequency total s).superv = s.superv := by
  simp only [decideFrequency]
  (repeat' split) <;> simp

@[simp] theorem timeCrossing_frame (interval : Nat) (s : State) :
    (timeCrossing interval s).pending = s.pending ∧ (timeCrossing interval s).startup = s.startup
      ∧ (timeCrossing interval s).climate = s.climate ∧ (timeCrossing interval s).share = s.share
      ∧ (timeCrossing interval s).steam = s.steam ∧ (timeCrossing interval s).descale = s.descale
      ∧ (timeCrossing interval s).recipe = s.recipe ∧ (timeCrossing interval s).superv = s.superv := by
  unfold timeCrossing
  (repeat' split) <;> simp

@[simp] theorem frequencyTimeout_frame (s : State) :
    (frequencyTimeout s).pending = s.pending ∧ (frequencyTimeout s).startup = s.startup
      ∧ (frequencyTimeout s).climate = s.climate ∧ (frequencyTimeout s).share = s.share
      ∧ (frequencyTimeout s).steam = s.steam ∧ (frequencyTimeout s).descale = s.descale
      ∧ (frequencyTimeout s).recipe = s.recipe ∧ (frequencyTimeout s).superv = s.superv := by
  unfold frequencyTimeout
  (repeat' split) <;> simp

@[simp] theorem driveSlot_frame (k : Nat) (s : State) :
    (driveSlot k s).pending = s.pending ∧ (driveSlot k s).startup = s.startup
      ∧ (driveSlot k s).climate = s.climate ∧ (driveSlot k s).share = s.share ∧ (driveSlot k s).line = s.line
      ∧ (driveSlot k s).steam = s.steam ∧ (driveSlot k s).descale = s.descale
      ∧ (driveSlot k s).recipe = s.recipe ∧ (driveSlot k s).superv = s.superv := by
  simp [driveSlot]

@[simp] theorem layOut_frame (volts : Option Nat) (s : State) :
    (layOut volts s).pending = s.pending ∧ (layOut volts s).startup = s.startup
      ∧ (layOut volts s).climate = s.climate ∧ (layOut volts s).share = s.share ∧ (layOut volts s).line = s.line
      ∧ (layOut volts s).steam = s.steam ∧ (layOut volts s).descale = s.descale
      ∧ (layOut volts s).recipe = s.recipe ∧ (layOut volts s).superv = s.superv := by
  simp [layOut]

@[simp] theorem frameStart_frame (volts : Option Nat) (s : State) :
    (frameStart volts s).pending = s.pending ∧ (frameStart volts s).startup = s.startup
      ∧ (frameStart volts s).climate = s.climate ∧ (frameStart volts s).superv = s.superv := by
  simp [frameStart]

@[simp] theorem completeFrame_frame (volts : Nat) (s : State) :
    (completeFrame volts s).pending = s.pending ∧ (completeFrame volts s).startup = s.startup
      ∧ (completeFrame volts s).climate = s.climate ∧ (completeFrame volts s).share = s.share
      ∧ (completeFrame volts s).line = s.line ∧ (completeFrame volts s).steam = s.steam
      ∧ (completeFrame volts s).recipe = s.recipe := by
  simp [completeFrame]

@[simp] theorem applyChanges_frame (k : Nat) (s : State) :
    (applyChanges k s).pending = s.pending ∧ (applyChanges k s).startup = s.startup
      ∧ (applyChanges k s).climate = s.climate ∧ (applyChanges k s).share = s.share
      ∧ (applyChanges k s).line = s.line ∧ (applyChanges k s).steam = s.steam
      ∧ (applyChanges k s).descale = s.descale ∧ (applyChanges k s).recipe = s.recipe
      ∧ (applyChanges k s).superv = s.superv := by
  unfold applyChanges
  (repeat' split) <;> simp

@[simp] theorem zeroCrossing_frame (interval volts : Nat) (s : State) :
    (zeroCrossing interval volts s).pending = s.pending ∧ (zeroCrossing interval volts s).startup = s.startup
      ∧ (zeroCrossing interval volts s).climate = s.climate := by
  simp only [zeroCrossing]
  (repeat' split) <;> simp

@[simp] theorem abandonFrame_frame (s : State) :
    (abandonFrame s).pending = s.pending ∧ (abandonFrame s).startup = s.startup
      ∧ (abandonFrame s).climate = s.climate ∧ (abandonFrame s).share = s.share ∧ (abandonFrame s).line = s.line
      ∧ (abandonFrame s).steam = s.steam ∧ (abandonFrame s).descale = s.descale
      ∧ (abandonFrame s).recipe = s.recipe ∧ (abandonFrame s).superv = s.superv := by
  simp [abandonFrame]

@[simp] theorem releaseGates_frame (s : State) :
    (releaseGates s).pending = s.pending ∧ (releaseGates s).startup = s.startup
      ∧ (releaseGates s).climate = s.climate ∧ (releaseGates s).share = s.share ∧ (releaseGates s).line = s.line
      ∧ (releaseGates s).steam = s.steam ∧ (releaseGates s).descale = s.descale
      ∧ (releaseGates s).recipe = s.recipe ∧ (releaseGates s).superv = s.superv := by
  simp [releaseGates]

@[simp] theorem missedCrossing_frame (s : State) :
    (missedCrossing s).pending = s.pending ∧ (missedCrossing s).startup = s.startup
      ∧ (missedCrossing s).climate = s.climate := by
  simp only [missedCrossing]
  (repeat' split) <;> simp

@[simp] theorem supplyStarved_frame (s : State) :
    (supplyStarved s).pending = s.pending ∧ (supplyStarved s).startup = s.startup
      ∧ (supplyStarved s).climate = s.climate ∧ (supplyStarved s).share = s.share
      ∧ (supplyStarved s).steam = s.steam ∧ (supplyStarved s).descale = s.descale
      ∧ (supplyStarved s).recipe = s.recipe ∧ (supplyStarved s).superv = s.superv := by
  unfold supplyStarved
  (repeat' split) <;> simp

@[simp] theorem refreshSender_frame (n : Nat) (s : State) :
    (refreshSender n s).pending = s.pending ∧ (refreshSender n s).startup = s.startup
      ∧ (refreshSender n s).climate = s.climate ∧ (refreshSender n s).power = s.power
      ∧ (refreshSender n s).line = s.line ∧ (refreshSender n s).steam = s.steam
      ∧ (refreshSender n s).descale = s.descale ∧ (refreshSender n s).recipe = s.recipe
      ∧ (refreshSender n s).superv = s.superv := by
  simp [refreshSender]

@[simp] theorem correct_frame (p : Pool) (s : State) :
    (correct p s).pending = s.pending ∧ (correct p s).startup = s.startup ∧ (correct p s).climate = s.climate
      ∧ (correct p s).steam = s.steam ∧ (correct p s).descale = s.descale ∧ (correct p s).recipe = s.recipe
      ∧ (correct p s).superv = s.superv := by
  simp [correct]

@[simp] theorem correctIfRisen_frame (before : State) (p : Pool) (s : State) :
    (correctIfRisen before p s).pending = s.pending ∧ (correctIfRisen before p s).startup = s.startup
      ∧ (correctIfRisen before p s).climate = s.climate ∧ (correctIfRisen before p s).steam = s.steam
      ∧ (correctIfRisen before p s).descale = s.descale ∧ (correctIfRisen before p s).recipe = s.recipe
      ∧ (correctIfRisen before p s).superv = s.superv := by
  unfold correctIfRisen
  (repeat' split) <;> simp

@[simp] theorem evalIfChanged_frame (before : State) (p : Pool) (s : State) :
    (evalIfChanged before p s).pending = s.pending ∧ (evalIfChanged before p s).startup = s.startup
      ∧ (evalIfChanged before p s).climate = s.climate ∧ (evalIfChanged before p s).power = s.power
      ∧ (evalIfChanged before p s).share = s.share ∧ (evalIfChanged before p s).steam = s.steam
      ∧ (evalIfChanged before p s).descale = s.descale ∧ (evalIfChanged before p s).recipe = s.recipe
      ∧ (evalIfChanged before p s).superv = s.superv := by
  unfold evalIfChanged
  (repeat' split) <;> simp

@[simp] theorem afterRecording_frame (before s : State) :
    (afterRecording before s).pending = s.pending ∧ (afterRecording before s).startup = s.startup
      ∧ (afterRecording before s).climate = s.climate ∧ (afterRecording before s).steam = s.steam
      ∧ (afterRecording before s).descale = s.descale ∧ (afterRecording before s).recipe = s.recipe
      ∧ (afterRecording before s).superv = s.superv := by
  simp [afterRecording]

@[simp] theorem record_frame (n : Nat) (f : Entry → Entry) (s : State) :
    (record n f s).pending = s.pending ∧ (record n f s).startup = s.startup ∧ (record n f s).climate = s.climate
      ∧ (record n f s).steam = s.steam ∧ (record n f s).descale = s.descale ∧ (record n f s).recipe = s.recipe
      ∧ (record n f s).superv = s.superv := by
  unfold record
  (repeat' split) <;> simp

@[simp] theorem recordShare_frame (n : Nat) (p : Pool) (group : Byte) (hold : Word16) (s : State) :
    (recordShare n p group hold s).pending = s.pending ∧ (recordShare n p group hold s).startup = s.startup
      ∧ (recordShare n p group hold s).climate = s.climate ∧ (recordShare n p group hold s).steam = s.steam
      ∧ (recordShare n p group hold s).descale = s.descale ∧ (recordShare n p group hold s).recipe = s.recipe
      ∧ (recordShare n p group hold s).superv = s.superv := by
  simp [recordShare]

@[simp] theorem dropInlet_frame (s : State) :
    (dropInlet s).pending = s.pending ∧ (dropInlet s).startup = s.startup ∧ (dropInlet s).climate = s.climate
      ∧ (dropInlet s).steam = s.steam ∧ (dropInlet s).descale = s.descale ∧ (dropInlet s).recipe = s.recipe
      ∧ (dropInlet s).superv = s.superv := by
  simp [dropInlet]

@[simp] theorem addOrigin_frame (n : Nat) (s : State) :
    (addOrigin n s).pending = s.pending ∧ (addOrigin n s).startup = s.startup
      ∧ (addOrigin n s).climate = s.climate ∧ (addOrigin n s).steam = s.steam
      ∧ (addOrigin n s).descale = s.descale ∧ (addOrigin n s).recipe = s.recipe
      ∧ (addOrigin n s).superv = s.superv := by
  unfold addOrigin
  (repeat' split) <;> simp

@[simp] theorem learnOrigin_frame (n : Nat) (s : State) :
    (learnOrigin n s).pending = s.pending ∧ (learnOrigin n s).startup = s.startup
      ∧ (learnOrigin n s).climate = s.climate ∧ (learnOrigin n s).steam = s.steam
      ∧ (learnOrigin n s).descale = s.descale ∧ (learnOrigin n s).recipe = s.recipe
      ∧ (learnOrigin n s).superv = s.superv := by
  unfold learnOrigin
  (repeat' split) <;> simp

@[simp] theorem removeOrigin_frame (n : Nat) (s : State) :
    (removeOrigin n s).pending = s.pending ∧ (removeOrigin n s).startup = s.startup
      ∧ (removeOrigin n s).climate = s.climate ∧ (removeOrigin n s).power = s.power
      ∧ (removeOrigin n s).steam = s.steam ∧ (removeOrigin n s).descale = s.descale
      ∧ (removeOrigin n s).recipe = s.recipe ∧ (removeOrigin n s).superv = s.superv := by
  simp only [removeOrigin]
  (repeat' split) <;> simp

@[simp] theorem takeWaterTrip_frame (type origin group : Byte) (s : State) :
    (takeWaterTrip type origin group s).pending = s.pending
      ∧ (takeWaterTrip type origin group s).startup = s.startup
      ∧ (takeWaterTrip type origin group s).climate = s.climate
      ∧ (takeWaterTrip type origin group s).steam = s.steam
      ∧ (takeWaterTrip type origin group s).descale = s.descale
      ∧ (takeWaterTrip type origin group s).recipe = s.recipe
      ∧ (takeWaterTrip type origin group s).superv = s.superv := by
  unfold takeWaterTrip
  (repeat' split) <;> simp

@[simp] theorem takeTripClear_frame (sender : Nat) (type origin group : Byte) (s : State) :
    (takeTripClear sender type origin group s).pending = s.pending
      ∧ (takeTripClear sender type origin group s).startup = s.startup
      ∧ (takeTripClear sender type origin group s).climate = s.climate
      ∧ (takeTripClear sender type origin group s).power = s.power
      ∧ (takeTripClear sender type origin group s).steam = s.steam
      ∧ (takeTripClear sender type origin group s).descale = s.descale
      ∧ (takeTripClear sender type origin group s).recipe = s.recipe
      ∧ (takeTripClear sender type origin group s).superv = s.superv := by
  unfold takeTripClear
  (repeat' split) <;> simp

@[simp] theorem leakFlag_frame (n : Nat) (b : StatusBody) (s : State) :
    (leakFlag n b s).pending = s.pending ∧ (leakFlag n b s).startup = s.startup
      ∧ (leakFlag n b s).climate = s.climate ∧ (leakFlag n b s).steam = s.steam
      ∧ (leakFlag n b s).descale = s.descale ∧ (leakFlag n b s).recipe = s.recipe
      ∧ (leakFlag n b s).superv = s.superv := by
  unfold leakFlag
  (repeat' split) <;> simp

@[simp] theorem recordStatus_frame (n : Nat) (b : StatusBody) (s : State) :
    (recordStatus n b s).pending = s.pending ∧ (recordStatus n b s).startup = s.startup
      ∧ (recordStatus n b s).climate = s.climate ∧ (recordStatus n b s).steam = s.steam
      ∧ (recordStatus n b s).descale = s.descale ∧ (recordStatus n b s).recipe = s.recipe
      ∧ (recordStatus n b s).superv = s.superv := by
  unfold recordStatus
  (repeat' split) <;> simp

@[simp] theorem takeYield_frame (group : Byte) (need : Word16) (s : State) :
    (takeYield group need s).pending = s.pending ∧ (takeYield group need s).startup = s.startup
      ∧ (takeYield group need s).climate = s.climate ∧ (takeYield group need s).steam = s.steam
      ∧ (takeYield group need s).descale = s.descale ∧ (takeYield group need s).recipe = s.recipe
      ∧ (takeYield group need s).superv = s.superv := by
  unfold takeYield
  (repeat' split) <;> simp

@[simp] theorem isolate_frame (s : State) :
    (isolate s).pending = s.pending ∧ (isolate s).startup = s.startup ∧ (isolate s).climate = s.climate
      ∧ (isolate s).steam = s.steam ∧ (isolate s).descale = s.descale ∧ (isolate s).recipe = s.recipe
      ∧ (isolate s).superv = s.superv := by
  simp [isolate]

@[simp] theorem openJoinWindow_frame (s : State) :
    (openJoinWindow s).pending = s.pending ∧ (openJoinWindow s).startup = s.startup
      ∧ (openJoinWindow s).climate = s.climate ∧ (openJoinWindow s).power = s.power
      ∧ (openJoinWindow s).steam = s.steam ∧ (openJoinWindow s).descale = s.descale
      ∧ (openJoinWindow s).recipe = s.recipe ∧ (openJoinWindow s).superv = s.superv := by
  simp [openJoinWindow]

@[simp] theorem lineIsolated_frame (s : State) :
    (lineIsolated s).pending = s.pending ∧ (lineIsolated s).startup = s.startup
      ∧ (lineIsolated s).climate = s.climate ∧ (lineIsolated s).superv = s.superv := by
  unfold lineIsolated
  (repeat' split) <;> simp

@[simp] theorem lineLost_frame (s : State) :
    (lineLost s).pending = s.pending ∧ (lineLost s).startup = s.startup ∧ (lineLost s).superv = s.superv := by
  unfold lineLost
  (repeat' split) <;> simp

@[simp] theorem joinWindowEnd_frame (s : State) :
    (joinWindowEnd s).pending = s.pending ∧ (joinWindowEnd s).startup = s.startup
      ∧ (joinWindowEnd s).climate = s.climate ∧ (joinWindowEnd s).power = s.power
      ∧ (joinWindowEnd s).steam = s.steam ∧ (joinWindowEnd s).descale = s.descale
      ∧ (joinWindowEnd s).recipe = s.recipe ∧ (joinWindowEnd s).superv = s.superv := by
  unfold joinWindowEnd
  (repeat' split) <;> simp

@[simp] theorem yieldBackoffEnd_frame (s : State) :
    (yieldBackoffEnd s).pending = s.pending ∧ (yieldBackoffEnd s).startup = s.startup
      ∧ (yieldBackoffEnd s).climate = s.climate ∧ (yieldBackoffEnd s).power = s.power
      ∧ (yieldBackoffEnd s).line = s.line ∧ (yieldBackoffEnd s).steam = s.steam
      ∧ (yieldBackoffEnd s).descale = s.descale ∧ (yieldBackoffEnd s).recipe = s.recipe
      ∧ (yieldBackoffEnd s).superv = s.superv := by
  simp [yieldBackoffEnd]

@[simp] theorem statusPeriod_frame (s : State) :
    (statusPeriod s).pending = s.pending ∧ (statusPeriod s).startup = s.startup
      ∧ (statusPeriod s).climate = s.climate ∧ (statusPeriod s).power = s.power
      ∧ (statusPeriod s).steam = s.steam ∧ (statusPeriod s).descale = s.descale
      ∧ (statusPeriod s).recipe = s.recipe ∧ (statusPeriod s).superv = s.superv := by
  unfold statusPeriod
  (repeat' split) <;> simp

@[simp] theorem waterRaiseRetry_frame (s : State) :
    (waterRaiseRetry s).pending = s.pending ∧ (waterRaiseRetry s).startup = s.startup
      ∧ (waterRaiseRetry s).climate = s.climate ∧ (waterRaiseRetry s).power = s.power
      ∧ (waterRaiseRetry s).steam = s.steam ∧ (waterRaiseRetry s).descale = s.descale
      ∧ (waterRaiseRetry s).recipe = s.recipe ∧ (waterRaiseRetry s).superv = s.superv := by
  simp [waterRaiseRetry]

@[simp] theorem evalFor_frame (e : Entry) (s : State) :
    (evalFor e s).pending = s.pending ∧ (evalFor e s).startup = s.startup ∧ (evalFor e s).climate = s.climate
      ∧ (evalFor e s).power = s.power ∧ (evalFor e s).share = s.share ∧ (evalFor e s).steam = s.steam
      ∧ (evalFor e s).descale = s.descale ∧ (evalFor e s).recipe = s.recipe ∧ (evalFor e s).superv = s.superv := by
  unfold evalFor
  (repeat' split) <;> simp

@[simp] theorem entryExpired_frame (n : Nat) (s : State) :
    (entryExpired n s).pending = s.pending ∧ (entryExpired n s).startup = s.startup
      ∧ (entryExpired n s).climate = s.climate ∧ (entryExpired n s).power = s.power
      ∧ (entryExpired n s).steam = s.steam ∧ (entryExpired n s).descale = s.descale
      ∧ (entryExpired n s).recipe = s.recipe ∧ (entryExpired n s).superv = s.superv := by
  unfold entryExpired
  (repeat' split) <;> simp

@[simp] theorem entryRemoved_frame (n : Nat) (s : State) :
    (entryRemoved n s).pending = s.pending ∧ (entryRemoved n s).startup = s.startup
      ∧ (entryRemoved n s).climate = s.climate ∧ (entryRemoved n s).power = s.power
      ∧ (entryRemoved n s).steam = s.steam ∧ (entryRemoved n s).descale = s.descale
      ∧ (entryRemoved n s).recipe = s.recipe ∧ (entryRemoved n s).superv = s.superv := by
  unfold entryRemoved
  (repeat' split) <;> simp

@[simp] theorem leakInput_frame (wet : Bool) (s : State) :
    (leakInput wet s).pending = s.pending ∧ (leakInput wet s).startup = s.startup
      ∧ (leakInput wet s).climate = s.climate ∧ (leakInput wet s).power = s.power
      ∧ (leakInput wet s).line = s.line ∧ (leakInput wet s).steam = s.steam
      ∧ (leakInput wet s).descale = s.descale ∧ (leakInput wet s).recipe = s.recipe
      ∧ (leakInput wet s).superv = s.superv := by
  simp [leakInput]

@[simp] theorem tellLeak_frame (s : State) :
    (tellLeak s).pending = s.pending ∧ (tellLeak s).startup = s.startup
      ∧ (tellLeak s).climate = s.climate ∧ (tellLeak s).power = s.power
      ∧ (tellLeak s).steam = s.steam ∧ (tellLeak s).descale = s.descale
      ∧ (tellLeak s).recipe = s.recipe ∧ (tellLeak s).superv = s.superv := by
  unfold tellLeak
  (repeat' split) <;> simp

@[simp] theorem leakChanged_frame (s : State) :
    (leakChanged s).pending = s.pending ∧ (leakChanged s).startup = s.startup
      ∧ (leakChanged s).climate = s.climate ∧ (leakChanged s).power = s.power
      ∧ (leakChanged s).steam = s.steam ∧ (leakChanged s).descale = s.descale
      ∧ (leakChanged s).recipe = s.recipe ∧ (leakChanged s).superv = s.superv := by
  unfold leakChanged
  (repeat' split) <;> simp

@[simp] theorem tellOwedLeak_frame (s : State) :
    (tellOwedLeak s).pending = s.pending ∧ (tellOwedLeak s).startup = s.startup
      ∧ (tellOwedLeak s).climate = s.climate ∧ (tellOwedLeak s).power = s.power
      ∧ (tellOwedLeak s).steam = s.steam ∧ (tellOwedLeak s).descale = s.descale
      ∧ (tellOwedLeak s).recipe = s.recipe ∧ (tellOwedLeak s).superv = s.superv := by
  unfold tellOwedLeak
  (repeat' split) <;> simp

@[simp] theorem leakWet_frame (s : State) :
    (leakWet s).pending = s.pending ∧ (leakWet s).startup = s.startup ∧ (leakWet s).climate = s.climate
      ∧ (leakWet s).superv = s.superv := by
  unfold leakWet
  (repeat' split) <;> simp

@[simp] theorem leakDry_frame (s : State) :
    (leakDry s).pending = s.pending ∧ (leakDry s).startup = s.startup ∧ (leakDry s).climate = s.climate
      ∧ (leakDry s).superv = s.superv := by
  unfold leakDry
  (repeat' split) <;> simp

@[simp] theorem voidRaise_frame (p : Pool) (s : State) :
    (voidRaise p s).pending = s.pending ∧ (voidRaise p s).startup = s.startup
      ∧ (voidRaise p s).climate = s.climate ∧ (voidRaise p s).power = s.power ∧ (voidRaise p s).steam = s.steam
      ∧ (voidRaise p s).descale = s.descale ∧ (voidRaise p s).recipe = s.recipe
      ∧ (voidRaise p s).superv = s.superv := by
  unfold voidRaise
  (repeat' split) <;> simp

@[simp] theorem voidRaises_frame (s : State) :
    (voidRaises s).pending = s.pending ∧ (voidRaises s).startup = s.startup ∧ (voidRaises s).climate = s.climate
      ∧ (voidRaises s).power = s.power ∧ (voidRaises s).steam = s.steam ∧ (voidRaises s).descale = s.descale
      ∧ (voidRaises s).recipe = s.recipe ∧ (voidRaises s).superv = s.superv := by
  simp [voidRaises]

@[simp] theorem stopSending_frame (state : LineState) (afterBreak : Bool) (s : State) :
    (stopSending state afterBreak s).pending = s.pending ∧ (stopSending state afterBreak s).startup = s.startup
      ∧ (stopSending state afterBreak s).climate = s.climate ∧ (stopSending state afterBreak s).power = s.power
      ∧ (stopSending state afterBreak s).share = s.share ∧ (stopSending state afterBreak s).steam = s.steam
      ∧ (stopSending state afterBreak s).descale = s.descale
      ∧ (stopSending state afterBreak s).recipe = s.recipe ∧ (stopSending state afterBreak s).superv = s.superv := by
  simp [stopSending]

@[simp] theorem breakOff_frame (state : LineState) (afterBreak : Bool) (s : State) :
    (breakOff state afterBreak s).pending = s.pending ∧ (breakOff state afterBreak s).startup = s.startup
      ∧ (breakOff state afterBreak s).climate = s.climate ∧ (breakOff state afterBreak s).power = s.power
      ∧ (breakOff state afterBreak s).share = s.share ∧ (breakOff state afterBreak s).steam = s.steam
      ∧ (breakOff state afterBreak s).descale = s.descale ∧ (breakOff state afterBreak s).recipe = s.recipe
      ∧ (breakOff state afterBreak s).superv = s.superv := by
  simp [breakOff]

@[simp] theorem redecidePool_frame (p : Pool) (s : State) :
    (redecidePool p s).pending = s.pending ∧ (redecidePool p s).startup = s.startup
      ∧ (redecidePool p s).climate = s.climate ∧ (redecidePool p s).power = s.power
      ∧ (redecidePool p s).steam = s.steam ∧ (redecidePool p s).descale = s.descale
      ∧ (redecidePool p s).recipe = s.recipe ∧ (redecidePool p s).superv = s.superv := by
  unfold redecidePool
  (repeat' split) <;> simp

@[simp] theorem redecide_frame (s : State) :
    (redecide s).pending = s.pending ∧ (redecide s).startup = s.startup ∧ (redecide s).climate = s.climate
      ∧ (redecide s).power = s.power ∧ (redecide s).steam = s.steam ∧ (redecide s).descale = s.descale
      ∧ (redecide s).recipe = s.recipe ∧ (redecide s).superv = s.superv := by
  simp [redecide]

@[simp] theorem lineIdle_frame (s : State) :
    (lineIdle s).pending = s.pending ∧ (lineIdle s).startup = s.startup ∧ (lineIdle s).climate = s.climate
      ∧ (lineIdle s).power = s.power ∧ (lineIdle s).share = s.share ∧ (lineIdle s).steam = s.steam
      ∧ (lineIdle s).descale = s.descale ∧ (lineIdle s).recipe = s.recipe ∧ (lineIdle s).superv = s.superv := by
  unfold lineIdle
  (repeat' split) <;> simp

@[simp] theorem lineIdleAfterBreak_frame (s : State) :
    (lineIdleAfterBreak s).pending = s.pending ∧ (lineIdleAfterBreak s).startup = s.startup
      ∧ (lineIdleAfterBreak s).climate = s.climate ∧ (lineIdleAfterBreak s).power = s.power
      ∧ (lineIdleAfterBreak s).share = s.share ∧ (lineIdleAfterBreak s).steam = s.steam
      ∧ (lineIdleAfterBreak s).descale = s.descale ∧ (lineIdleAfterBreak s).recipe = s.recipe
      ∧ (lineIdleAfterBreak s).superv = s.superv := by
  unfold lineIdleAfterBreak
  (repeat' split) <;> simp

@[simp] theorem clearFell_frame (f : TxFrame) (s : State) :
    (clearFell f s).pending = s.pending ∧ (clearFell f s).startup = s.startup
      ∧ (clearFell f s).climate = s.climate ∧ (clearFell f s).power = s.power ∧ (clearFell f s).line = s.line
      ∧ (clearFell f s).steam = s.steam ∧ (clearFell f s).descale = s.descale
      ∧ (clearFell f s).recipe = s.recipe ∧ (clearFell f s).superv = s.superv := by
  unfold clearFell
  (repeat' split) <;> simp

@[simp] theorem frameBegin_frame (s : State) :
    (frameBegin s).pending = s.pending ∧ (frameBegin s).startup = s.startup ∧ (frameBegin s).climate = s.climate
      ∧ (frameBegin s).power = s.power ∧ (frameBegin s).steam = s.steam ∧ (frameBegin s).descale = s.descale
      ∧ (frameBegin s).recipe = s.recipe ∧ (frameBegin s).superv = s.superv := by
  unfold frameBegin
  (repeat' split) <;> simp

@[simp] theorem openingMarkSeen_frame (s : State) :
    (openingMarkSeen s).pending = s.pending ∧ (openingMarkSeen s).startup = s.startup
      ∧ (openingMarkSeen s).climate = s.climate ∧ (openingMarkSeen s).power = s.power
      ∧ (openingMarkSeen s).steam = s.steam ∧ (openingMarkSeen s).descale = s.descale
      ∧ (openingMarkSeen s).recipe = s.recipe ∧ (openingMarkSeen s).superv = s.superv := by
  unfold openingMarkSeen
  (repeat' split) <;> simp

@[simp] theorem arbitrationLost_frame (s : State) :
    (arbitrationLost s).pending = s.pending ∧ (arbitrationLost s).startup = s.startup
      ∧ (arbitrationLost s).climate = s.climate ∧ (arbitrationLost s).power = s.power
      ∧ (arbitrationLost s).steam = s.steam ∧ (arbitrationLost s).descale = s.descale
      ∧ (arbitrationLost s).recipe = s.recipe ∧ (arbitrationLost s).superv = s.superv := by
  unfold arbitrationLost
  (repeat' split) <;> simp

@[simp] theorem driveFault_frame (s : State) :
    (driveFault s).pending = s.pending ∧ (driveFault s).startup = s.startup ∧ (driveFault s).climate = s.climate
      ∧ (driveFault s).power = s.power ∧ (driveFault s).share = s.share ∧ (driveFault s).steam = s.steam
      ∧ (driveFault s).descale = s.descale ∧ (driveFault s).recipe = s.recipe ∧ (driveFault s).superv = s.superv := by
  unfold driveFault
  (repeat' split) <;> simp

@[simp] theorem closingMarkBroken_frame (s : State) :
    (closingMarkBroken s).pending = s.pending ∧ (closingMarkBroken s).startup = s.startup
      ∧ (closingMarkBroken s).climate = s.climate ∧ (closingMarkBroken s).power = s.power
      ∧ (closingMarkBroken s).share = s.share ∧ (closingMarkBroken s).steam = s.steam
      ∧ (closingMarkBroken s).descale = s.descale ∧ (closingMarkBroken s).recipe = s.recipe
      ∧ (closingMarkBroken s).superv = s.superv := by
  unfold closingMarkBroken
  (repeat' split) <;> simp

@[simp] theorem countClash_frame (s : State) :
    (countClash s).pending = s.pending ∧ (countClash s).startup = s.startup ∧ (countClash s).climate = s.climate
      ∧ (countClash s).steam = s.steam ∧ (countClash s).descale = s.descale ∧ (countClash s).recipe = s.recipe
      ∧ (countClash s).superv = s.superv := by
  simp only [countClash]
  (repeat' split) <;> simp

@[simp] theorem clash_frame (s : State) :
    (clash s).pending = s.pending ∧ (clash s).startup = s.startup ∧ (clash s).climate = s.climate
      ∧ (clash s).superv = s.superv := by
  unfold clash
  (repeat' split) <;> simp

@[simp] theorem countMalformed_frame (driven : Bool) (s : State) :
    (countMalformed driven s).pending = s.pending ∧ (countMalformed driven s).startup = s.startup
      ∧ (countMalformed driven s).climate = s.climate ∧ (countMalformed driven s).power = s.power
      ∧ (countMalformed driven s).share = s.share ∧ (countMalformed driven s).steam = s.steam
      ∧ (countMalformed driven s).descale = s.descale ∧ (countMalformed driven s).recipe = s.recipe
      ∧ (countMalformed driven s).superv = s.superv := by
  simp [countMalformed]

@[simp] theorem markClosed_frame (s : State) :
    (markClosed s).pending = s.pending ∧ (markClosed s).startup = s.startup ∧ (markClosed s).climate = s.climate
      ∧ (markClosed s).power = s.power ∧ (markClosed s).steam = s.steam ∧ (markClosed s).descale = s.descale
      ∧ (markClosed s).recipe = s.recipe ∧ (markClosed s).superv = s.superv := by
  simp [markClosed]

@[simp] theorem markLost_frame (state : LineState) (afterBreak : Bool) (s : State) :
    (markLost state afterBreak s).pending = s.pending ∧ (markLost state afterBreak s).startup = s.startup
      ∧ (markLost state afterBreak s).climate = s.climate ∧ (markLost state afterBreak s).power = s.power
      ∧ (markLost state afterBreak s).steam = s.steam ∧ (markLost state afterBreak s).descale = s.descale
      ∧ (markLost state afterBreak s).recipe = s.recipe ∧ (markLost state afterBreak s).superv = s.superv := by
  simp [markLost]

@[simp] theorem judgeMalformed_frame (g : MalformGround) (s : State) :
    (judgeMalformed g s).pending = s.pending ∧ (judgeMalformed g s).startup = s.startup
      ∧ (judgeMalformed g s).climate = s.climate ∧ (judgeMalformed g s).power = s.power
      ∧ (judgeMalformed g s).steam = s.steam ∧ (judgeMalformed g s).descale = s.descale
      ∧ (judgeMalformed g s).recipe = s.recipe ∧ (judgeMalformed g s).superv = s.superv := by
  unfold judgeMalformed
  (repeat' split) <;> simp

@[simp] theorem takeFrame_frame (sender : Nat) (driven : Bool) (s : State) :
    (takeFrame sender driven s).pending = s.pending ∧ (takeFrame sender driven s).startup = s.startup
      ∧ (takeFrame sender driven s).climate = s.climate ∧ (takeFrame sender driven s).steam = s.steam
      ∧ (takeFrame sender driven s).descale = s.descale ∧ (takeFrame sender driven s).recipe = s.recipe
      ∧ (takeFrame sender driven s).superv = s.superv := by
  unfold takeFrame
  (repeat' split) <;> simp

@[simp] theorem closeFrame_frame (sender : Nat) (driven : Bool) (effect : State → State) (s : State) :
    (closeFrame sender driven effect s).pending = (effect (takeFrame sender driven s)).pending
      ∧ (closeFrame sender driven effect s).startup = (effect (takeFrame sender driven s)).startup
      ∧ (closeFrame sender driven effect s).climate = (effect (takeFrame sender driven s)).climate
      ∧ (closeFrame sender driven effect s).superv = (effect (takeFrame sender driven s)).superv := by
  simp [closeFrame]

@[simp] theorem contentEffect_frame (sender : Nat) (vetoed : Bool) (c : FrameContent) (s : State) :
    (contentEffect sender vetoed c s).pending = s.pending ∧ (contentEffect sender vetoed c s).startup = s.startup
      ∧ (contentEffect sender vetoed c s).climate = s.climate ∧ (contentEffect sender vetoed c s).steam = s.steam
      ∧ (contentEffect sender vetoed c s).descale = s.descale ∧ (contentEffect sender vetoed c s).recipe = s.recipe
      ∧ (contentEffect sender vetoed c s).superv = s.superv := by
  cases c <;> simp only [contentEffect] <;> (repeat' split) <;> simp

@[simp] theorem recordOwnRaise_frame (p : Pool) (v : Nat) (s : State) :
    (recordOwnRaise p v s).pending = s.pending ∧ (recordOwnRaise p v s).startup = s.startup
      ∧ (recordOwnRaise p v s).climate = s.climate ∧ (recordOwnRaise p v s).steam = s.steam
      ∧ (recordOwnRaise p v s).descale = s.descale ∧ (recordOwnRaise p v s).recipe = s.recipe
      ∧ (recordOwnRaise p v s).superv = s.superv := by
  simp only [recordOwnRaise]
  (repeat' split) <;> simp

@[simp] theorem vetoOwnRaise_frame (p : Pool) (s : State) :
    (vetoOwnRaise p s).pending = s.pending ∧ (vetoOwnRaise p s).startup = s.startup
      ∧ (vetoOwnRaise p s).climate = s.climate ∧ (vetoOwnRaise p s).power = s.power
      ∧ (vetoOwnRaise p s).line = s.line ∧ (vetoOwnRaise p s).steam = s.steam
      ∧ (vetoOwnRaise p s).descale = s.descale ∧ (vetoOwnRaise p s).recipe = s.recipe
      ∧ (vetoOwnRaise p s).superv = s.superv := by
  unfold vetoOwnRaise
  (repeat' split) <;> simp

@[simp] theorem noteLower_frame (p : Pool) (v : Nat) (s : State) :
    (noteLower p v s).pending = s.pending ∧ (noteLower p v s).climate = s.climate
      ∧ (noteLower p v s).power = s.power ∧ (noteLower p v s).share = s.share ∧ (noteLower p v s).line = s.line
      ∧ (noteLower p v s).steam = s.steam ∧ (noteLower p v s).descale = s.descale
      ∧ (noteLower p v s).recipe = s.recipe ∧ (noteLower p v s).superv = s.superv := by
  unfold noteLower
  (repeat' split) <;> simp

@[simp] theorem ownOutcome_frame (f : TxFrame) (vetoed : Bool) (s : State) :
    (ownOutcome f vetoed s).pending = s.pending ∧ (ownOutcome f vetoed s).climate = s.climate
      ∧ (ownOutcome f vetoed s).steam = s.steam ∧ (ownOutcome f vetoed s).descale = s.descale
      ∧ (ownOutcome f vetoed s).recipe = s.recipe ∧ (ownOutcome f vetoed s).superv = s.superv := by
  unfold ownOutcome
  (repeat' split) <;> simp

@[simp] theorem endIsolation_frame (s : State) :
    (endIsolation s).pending = s.pending ∧ (endIsolation s).startup = s.startup
      ∧ (endIsolation s).climate = s.climate ∧ (endIsolation s).power = s.power
      ∧ (endIsolation s).steam = s.steam ∧ (endIsolation s).descale = s.descale
      ∧ (endIsolation s).recipe = s.recipe ∧ (endIsolation s).superv = s.superv := by
  unfold endIsolation
  (repeat' split) <;> simp

@[simp] theorem finishSending_frame (s : State) :
    (finishSending s).pending = s.pending ∧ (finishSending s).startup = s.startup
      ∧ (finishSending s).climate = s.climate ∧ (finishSending s).power = s.power
      ∧ (finishSending s).steam = s.steam ∧ (finishSending s).descale = s.descale
      ∧ (finishSending s).recipe = s.recipe ∧ (finishSending s).superv = s.superv := by
  simp [finishSending]

@[simp] theorem ownFrameComplete_frame (vetoed : Bool) (s : State) :
    (ownFrameComplete vetoed s).pending = s.pending ∧ (ownFrameComplete vetoed s).climate = s.climate
      ∧ (ownFrameComplete vetoed s).superv = s.superv := by
  unfold ownFrameComplete
  (repeat' split) <;> simp

end Sys2Proof.Machine
end

