-- ==== Sys2Proof/Laws/StepFrames.lean ====
section
/-!
SUPPORT. For each operation of the generator's events, start-up, the panel's commands and the idle step: the blocks of State that it leaves as
they are, said once, so that no later proof unfolds it for them.
-/
namespace Sys2Proof.Machine

@[simp] theorem levelInput_frame (e : Electrode) (wet : Bool) (s : State) :
    (levelInput e wet s).pending = s.pending ∧ (levelInput e wet s).startup = s.startup
      ∧ (levelInput e wet s).climate = s.climate ∧ (levelInput e wet s).power = s.power
      ∧ (levelInput e wet s).share = s.share ∧ (levelInput e wet s).line = s.line
      ∧ (levelInput e wet s).descale = s.descale ∧ (levelInput e wet s).recipe = s.recipe
      ∧ (levelInput e wet s).superv = s.superv := by
  simp [levelInput]

@[simp] theorem endFillWell_frame (s : State) :
    (endFillWell s).pending = s.pending ∧ (endFillWell s).startup = s.startup
      ∧ (endFillWell s).climate = s.climate ∧ (endFillWell s).descale = s.descale
      ∧ (endFillWell s).recipe = s.recipe ∧ (endFillWell s).superv = s.superv := by
  unfold endFillWell
  (repeat' split) <;> simp

@[simp] theorem topUpIfNone_frame (s : State) :
    (topUpIfNone s).pending = s.pending ∧ (topUpIfNone s).startup = s.startup
      ∧ (topUpIfNone s).climate = s.climate ∧ (topUpIfNone s).descale = s.descale
      ∧ (topUpIfNone s).recipe = s.recipe ∧ (topUpIfNone s).superv = s.superv := by
  unfold topUpIfNone
  (repeat' split) <;> simp

@[simp] theorem lockLowWater_frame (s : State) :
    (lockLowWater s).pending = s.pending ∧ (lockLowWater s).startup = s.startup
      ∧ (lockLowWater s).climate = s.climate ∧ (lockLowWater s).descale = s.descale
      ∧ (lockLowWater s).recipe = s.recipe ∧ (lockLowWater s).superv = s.superv := by
  unfold lockLowWater
  (repeat' split) <;> simp

@[simp] theorem lowWet_frame (s : State) :
    (lowWet s).pending = s.pending ∧ (lowWet s).startup = s.startup ∧ (lowWet s).climate = s.climate
      ∧ (lowWet s).power = s.power ∧ (lowWet s).share = s.share ∧ (lowWet s).line = s.line
      ∧ (lowWet s).recipe = s.recipe ∧ (lowWet s).superv = s.superv := by
  simp [lowWet]

@[simp] theorem highWet_frame (s : State) :
    (highWet s).pending = s.pending ∧ (highWet s).startup = s.startup ∧ (highWet s).climate = s.climate
      ∧ (highWet s).recipe = s.recipe ∧ (highWet s).superv = s.superv := by
  unfold highWet
  (repeat' split) <;> simp

@[simp] theorem actOnLevel_frame (e : Electrode) (wet : Bool) (s : State) :
    (actOnLevel e wet s).pending = s.pending ∧ (actOnLevel e wet s).startup = s.startup
      ∧ (actOnLevel e wet s).climate = s.climate ∧ (actOnLevel e wet s).recipe = s.recipe
      ∧ (actOnLevel e wet s).superv = s.superv := by
  unfold actOnLevel
  (repeat' split) <;> simp

@[simp] theorem levelReadingChange_frame (e : Electrode) (s : State) :
    (levelReadingChange e s).pending = s.pending ∧ (levelReadingChange e s).startup = s.startup
      ∧ (levelReadingChange e s).climate = s.climate ∧ (levelReadingChange e s).superv = s.superv := by
  unfold levelReadingChange
  (repeat' split) <;> simp

@[simp] theorem spendPulse_frame (f : Fill) (s : State) :
    (spendPulse f s).pending = s.pending ∧ (spendPulse f s).startup = s.startup
      ∧ (spendPulse f s).climate = s.climate ∧ (spendPulse f s).power = s.power
      ∧ (spendPulse f s).share = s.share ∧ (spendPulse f s).line = s.line ∧ (spendPulse f s).descale = s.descale
      ∧ (spendPulse f s).recipe = s.recipe ∧ (spendPulse f s).superv = s.superv := by
  simp [spendPulse]

@[simp] theorem cookingPulse_frame (s : State) :
    (cookingPulse s).pending = s.pending ∧ (cookingPulse s).startup = s.startup
      ∧ (cookingPulse s).climate = s.climate ∧ (cookingPulse s).descale = s.descale
      ∧ (cookingPulse s).recipe = s.recipe ∧ (cookingPulse s).superv = s.superv := by
  simp only [cookingPulse]
  (repeat' split) <;> simp

@[simp] theorem servicePulse_frame (f : Fill) (s : State) :
    (servicePulse f s).pending = s.pending ∧ (servicePulse f s).startup = s.startup
      ∧ (servicePulse f s).climate = s.climate ∧ (servicePulse f s).recipe = s.recipe
      ∧ (servicePulse f s).superv = s.superv := by
  simp only [servicePulse]
  (repeat' split) <;> simp

@[simp] theorem flowPulse_frame (s : State) :
    (flowPulse s).pending = s.pending ∧ (flowPulse s).startup = s.startup ∧ (flowPulse s).climate = s.climate
      ∧ (flowPulse s).superv = s.superv := by
  unfold flowPulse
  (repeat' split) <;> simp

@[simp] theorem valveTimeLimit_frame (s : State) :
    (valveTimeLimit s).pending = s.pending ∧ (valveTimeLimit s).startup = s.startup
      ∧ (valveTimeLimit s).climate = s.climate ∧ (valveTimeLimit s).superv = s.superv := by
  unfold valveTimeLimit
  (repeat' split) <;> simp

@[simp] theorem coolingTimerExpiry_frame (s : State) :
    (coolingTimerExpiry s).pending = s.pending ∧ (coolingTimerExpiry s).startup = s.startup
      ∧ (coolingTimerExpiry s).climate = s.climate ∧ (coolingTimerExpiry s).superv = s.superv := by
  unfold coolingTimerExpiry
  (repeat' split) <;> simp

@[simp] theorem endDrainWell_frame (s : State) :
    (endDrainWell s).pending = s.pending ∧ (endDrainWell s).startup = s.startup
      ∧ (endDrainWell s).climate = s.climate ∧ (endDrainWell s).descale = s.descale
      ∧ (endDrainWell s).recipe = s.recipe ∧ (endDrainWell s).superv = s.superv := by
  simp only [endDrainWell]
  (repeat' split) <;> simp

@[simp] theorem drainDryTimeEnd_frame (s : State) :
    (drainDryTimeEnd s).pending = s.pending ∧ (drainDryTimeEnd s).startup = s.startup
      ∧ (drainDryTimeEnd s).climate = s.climate ∧ (drainDryTimeEnd s).superv = s.superv := by
  unfold drainDryTimeEnd
  (repeat' split) <;> simp

@[simp] theorem pumpTimeLimit_frame (s : State) :
    (pumpTimeLimit s).pending = s.pending ∧ (pumpTimeLimit s).startup = s.startup
      ∧ (pumpTimeLimit s).climate = s.climate ∧ (pumpTimeLimit s).superv = s.superv := by
  unfold pumpTimeLimit
  (repeat' split) <;> simp

@[simp] theorem serviceRecordWritten_frame (s : State) :
    (serviceRecordWritten s).pending = s.pending ∧ (serviceRecordWritten s).startup = s.startup
      ∧ (serviceRecordWritten s).climate = s.climate ∧ (serviceRecordWritten s).descale = s.descale
      ∧ (serviceRecordWritten s).recipe = s.recipe ∧ (serviceRecordWritten s).superv = s.superv := by
  unfold serviceRecordWritten
  (repeat' split) <;> simp

@[simp] theorem powerOn_frame (station partner : Nat) (s : State) :
    (powerOn station partner s).pending = s.pending := rfl

@[simp] theorem noticeIfDue_frame (s : State) :
    (noticeIfDue s).pending = s.pending ∧ (noticeIfDue s).startup = s.startup
      ∧ (noticeIfDue s).climate = s.climate ∧ (noticeIfDue s).power = s.power ∧ (noticeIfDue s).share = s.share
      ∧ (noticeIfDue s).steam = s.steam ∧ (noticeIfDue s).descale = s.descale
      ∧ (noticeIfDue s).recipe = s.recipe ∧ (noticeIfDue s).superv = s.superv := by
  unfold noticeIfDue
  (repeat' split) <;> simp

@[simp] theorem joinUnlessClash_frame (s : State) :
    (joinUnlessClash s).pending = s.pending ∧ (joinUnlessClash s).startup = s.startup
      ∧ (joinUnlessClash s).climate = s.climate ∧ (joinUnlessClash s).power = s.power
      ∧ (joinUnlessClash s).steam = s.steam ∧ (joinUnlessClash s).descale = s.descale
      ∧ (joinUnlessClash s).recipe = s.recipe ∧ (joinUnlessClash s).superv = s.superv := by
  unfold joinUnlessClash
  (repeat' split) <;> simp

@[simp] theorem freezeConfig_frame (s : State) :
    (freezeConfig s).pending = s.pending ∧ (freezeConfig s).climate = s.climate
      ∧ (freezeConfig s).power = s.power ∧ (freezeConfig s).steam = s.steam
      ∧ (freezeConfig s).descale = s.descale ∧ (freezeConfig s).recipe = s.recipe
      ∧ (freezeConfig s).superv = s.superv := by
  unfold freezeConfig
  (repeat' split) <;> simp

@[simp] theorem superviseFromFreeze_frame (s : State) :
    (superviseFromFreeze s).pending = s.pending ∧ (superviseFromFreeze s).startup = s.startup
      ∧ (superviseFromFreeze s).climate = s.climate ∧ (superviseFromFreeze s).power = s.power
      ∧ (superviseFromFreeze s).share = s.share ∧ (superviseFromFreeze s).line = s.line
      ∧ (superviseFromFreeze s).steam = s.steam ∧ (superviseFromFreeze s).descale = s.descale
      ∧ (superviseFromFreeze s).recipe = s.recipe := by
  simp [superviseFromFreeze]

@[simp] theorem descaleAtFreeze_frame (s : State) :
    (descaleAtFreeze s).pending = s.pending ∧ (descaleAtFreeze s).startup = s.startup
      ∧ (descaleAtFreeze s).climate = s.climate ∧ (descaleAtFreeze s).power = s.power
      ∧ (descaleAtFreeze s).share = s.share ∧ (descaleAtFreeze s).steam = s.steam
      ∧ (descaleAtFreeze s).recipe = s.recipe ∧ (descaleAtFreeze s).superv = s.superv := by
  unfold descaleAtFreeze
  (repeat' split) <;> simp

@[simp] theorem freeze_frame (s : State) :
    (freeze s).pending = s.pending := by
  simp [freeze]

@[simp] theorem setupWindowExpiry_frame (s : State) :
    (setupWindowExpiry s).pending = s.pending := by
  unfold setupWindowExpiry
  (repeat' split) <;> simp

@[simp] theorem setupSupply_frame (fields : List Byte) (s : State) :
    (setupSupply fields s).pending = s.pending ∧ (setupSupply fields s).climate = s.climate
      ∧ (setupSupply fields s).power = s.power ∧ (setupSupply fields s).share = s.share
      ∧ (setupSupply fields s).steam = s.steam ∧ (setupSupply fields s).descale = s.descale
      ∧ (setupSupply fields s).recipe = s.recipe ∧ (setupSupply fields s).superv = s.superv := by
  unfold setupSupply
  (repeat' split) <;> simp

@[simp] theorem setupChannel_frame (c : Channel) (fields : List Byte) (s : State) :
    (setupChannel c fields s).pending = s.pending ∧ (setupChannel c fields s).climate = s.climate
      ∧ (setupChannel c fields s).power = s.power ∧ (setupChannel c fields s).share = s.share
      ∧ (setupChannel c fields s).steam = s.steam ∧ (setupChannel c fields s).descale = s.descale
      ∧ (setupChannel c fields s).recipe = s.recipe ∧ (setupChannel c fields s).superv = s.superv := by
  unfold setupChannel
  (repeat' split) <;> simp

@[simp] theorem setupEnd_frame (fields : List Byte) (s : State) :
    (setupEnd fields s).pending = s.pending := by
  unfold setupEnd
  (repeat' split) <;> simp

@[simp] theorem setupSection_frame (sec : Byte) (fields : List Byte) (s : State) :
    (setupSection sec fields s).pending = s.pending := by
  unfold setupSection
  (repeat' split) <;> simp

@[simp] theorem setupCommand_frame (sec : Byte) (fields : List Byte) (s : State) :
    (setupCommand sec fields s).pending = s.pending := by
  unfold setupCommand
  (repeat' split) <;> simp

@[simp] theorem stopDescaleTimers_frame (s : State) :
    (stopDescaleTimers s).pending = s.pending ∧ (stopDescaleTimers s).startup = s.startup
      ∧ (stopDescaleTimers s).climate = s.climate ∧ (stopDescaleTimers s).power = s.power
      ∧ (stopDescaleTimers s).share = s.share ∧ (stopDescaleTimers s).line = s.line
      ∧ (stopDescaleTimers s).steam = s.steam ∧ (stopDescaleTimers s).recipe = s.recipe
      ∧ (stopDescaleTimers s).superv = s.superv := by
  simp [stopDescaleTimers]

@[simp] theorem writeIfDiffers_frame (s : State) :
    (writeIfDiffers s).pending = s.pending ∧ (writeIfDiffers s).startup = s.startup
      ∧ (writeIfDiffers s).climate = s.climate ∧ (writeIfDiffers s).power = s.power
      ∧ (writeIfDiffers s).share = s.share ∧ (writeIfDiffers s).line = s.line
      ∧ (writeIfDiffers s).descale = s.descale ∧ (writeIfDiffers s).recipe = s.recipe
      ∧ (writeIfDiffers s).superv = s.superv := by
  unfold writeIfDiffers
  (repeat' split) <;> simp

@[simp] theorem lowerAll_frame (s : State) :
    (lowerAll s).pending = s.pending ∧ (lowerAll s).climate = s.climate ∧ (lowerAll s).steam = s.steam
      ∧ (lowerAll s).descale = s.descale ∧ (lowerAll s).recipe = s.recipe ∧ (lowerAll s).superv = s.superv := by
  simp [lowerAll]

@[simp] theorem takeRestart_frame (s : State) :
    (takeRestart s).pending = s.pending := by
  simp [takeRestart]

@[simp] theorem descaleRestarted_frame (wasActive : Bool) (s : State) :
    (descaleRestarted wasActive s).pending = s.pending ∧ (descaleRestarted wasActive s).startup = s.startup
      ∧ (descaleRestarted wasActive s).climate = s.climate ∧ (descaleRestarted wasActive s).power = s.power
      ∧ (descaleRestarted wasActive s).share = s.share ∧ (descaleRestarted wasActive s).steam = s.steam
      ∧ (descaleRestarted wasActive s).recipe = s.recipe ∧ (descaleRestarted wasActive s).superv = s.superv := by
  simp only [descaleRestarted]
  (repeat' split) <;> simp

@[simp] theorem superviseAgain_frame (s : State) :
    (superviseAgain s).pending = s.pending ∧ (superviseAgain s).startup = s.startup
      ∧ (superviseAgain s).climate = s.climate ∧ (superviseAgain s).power = s.power
      ∧ (superviseAgain s).share = s.share ∧ (superviseAgain s).line = s.line
      ∧ (superviseAgain s).steam = s.steam ∧ (superviseAgain s).descale = s.descale
      ∧ (superviseAgain s).recipe = s.recipe := by
  simp [superviseAgain]

@[simp] theorem reInitialise_frame (s : State) : (reInitialise s).pending = s.pending := by
  simp [reInitialise]

@[simp] theorem reInitialisation_frame (s : State) :
    (reInitialisation s).pending = s.pending := by
  unfold reInitialisation
  (repeat' split) <;> simp

@[simp] theorem reInitIfDue_frame (s : State) : (reInitIfDue s).pending = s.pending := by
  unfold reInitIfDue
  (repeat' split) <;> simp

/-- The opening mark of a received frame may bring a re-initialisation (R160); the commands that wait stand. -/
@[simp] theorem beginReceive_frame (s : State) : (beginReceive s).pending = s.pending := by
  unfold beginReceive
  (repeat' split) <;> simp

@[simp] theorem malformedFrame_frame (g : MalformGround) (s : State) : (malformedFrame g s).pending = s.pending := by
  unfold malformedFrame
  (repeat' split) <;> simp

@[simp] theorem receiveFrame_frame (sender : Nat) (content : FrameContent) (otherVeto : Bool) (s : State) :
    (receiveFrame sender content otherVeto s).pending = s.pending := by
  unfold receiveFrame
  (repeat' split) <;> simp

@[simp] theorem restartCommand_frame (s : State) :
    (restartCommand s).pending = s.pending := by
  unfold restartCommand
  (repeat' split) <;> simp

@[simp] theorem queryCommand_frame (s : State) :
    (queryCommand s).pending = s.pending ∧ (queryCommand s).startup = s.startup
      ∧ (queryCommand s).climate = s.climate ∧ (queryCommand s).power = s.power
      ∧ (queryCommand s).share = s.share ∧ (queryCommand s).steam = s.steam
      ∧ (queryCommand s).descale = s.descale ∧ (queryCommand s).recipe = s.recipe
      ∧ (queryCommand s).superv = s.superv := by
  simp [queryCommand]

@[simp] theorem advanceAll_frame (s : State) :
    (advanceAll s).pending = s.pending ∧ (advanceAll s).line = s.line := ⟨rfl, rfl⟩

@[simp] theorem fireStart_frame (s : State) :
    (fireStart s).pending = s.pending := by
  simp only [fireStart, fire]
  (repeat' split) <;> simp

@[simp] theorem fireDoor_frame (s : State) :
    (fireDoor s).pending = s.pending ∧ (fireDoor s).startup = s.startup ∧ (fireDoor s).superv = s.superv := by
  simp only [fireDoor, fire]
  (repeat' split) <;> simp

@[simp] theorem firePower_frame (s : State) :
    (firePower s).pending = s.pending ∧ (firePower s).startup = s.startup ∧ (firePower s).climate = s.climate := by
  simp only [firePower, fire]
  (repeat' split) <;> simp

@[simp] theorem fireEntries_frame (s : State) :
    (fireEntries s).pending = s.pending ∧ (fireEntries s).startup = s.startup ∧ (fireEntries s).climate = s.climate
      ∧ (fireEntries s).power = s.power ∧ (fireEntries s).steam = s.steam ∧ (fireEntries s).descale = s.descale
      ∧ (fireEntries s).recipe = s.recipe ∧ (fireEntries s).superv = s.superv := by
  unfold fireEntries
  generalize s.share.table = l
  induction l generalizing s with
  | nil => simp
  | cons e l ih =>
    simp only [List.foldl_cons]
    have h := ih (if 65000 ≤ e.heardMs then entryRemoved e.station s
      else if 3500 ≤ e.heardMs then entryExpired e.station s else s)
    refine ⟨?_, ?_, ?_, ?_, ?_, ?_, ?_, ?_⟩ <;> simp only [h] <;> (repeat' split) <;> simp

@[simp] theorem fireLink_frame (s : State) :
    (fireLink s).pending = s.pending ∧ (fireLink s).startup = s.startup ∧ (fireLink s).superv = s.superv := by
  simp only [fireLink, fire]
  (repeat' split) <;> simp

@[simp] theorem fireLeak_frame (s : State) :
    (fireLeak s).pending = s.pending ∧ (fireLeak s).startup = s.startup ∧ (fireLeak s).climate = s.climate
      ∧ (fireLeak s).superv = s.superv := by
  simp only [fireLeak, fire]
  (repeat' split) <;> simp

@[simp] theorem fireShare_frame (s : State) :
    (fireShare s).pending = s.pending ∧ (fireShare s).startup = s.startup ∧ (fireShare s).superv = s.superv := by
  simp only [fireShare, fire]
  (repeat' split) <;> simp

@[simp] theorem fireLevel_frame (e : Electrode) (s : State) :
    (fireLevel e s).pending = s.pending ∧ (fireLevel e s).startup = s.startup
      ∧ (fireLevel e s).climate = s.climate ∧ (fireLevel e s).superv = s.superv := by
  simp only [fireLevel, fire]
  (repeat' split) <;> simp

@[simp] theorem fireSteam_frame (s : State) :
    (fireSteam s).pending = s.pending ∧ (fireSteam s).startup = s.startup ∧ (fireSteam s).climate = s.climate
      ∧ (fireSteam s).superv = s.superv := by
  simp only [fireSteam, fire]
  (repeat' split) <;> simp

@[simp] theorem fireFailed_frame (c : Channel) (s : State) :
    (fireFailed c s).pending = s.pending ∧ (fireFailed c s).startup = s.startup
      ∧ (fireFailed c s).climate = s.climate := by
  simp only [fireFailed, fire]
  (repeat' split) <;> simp

@[simp] theorem fireSide_frame (d : Side) (c : Channel) (s : State) :
    (fireSide d c s).pending = s.pending ∧ (fireSide d c s).startup = s.startup := by
  simp only [fireSide, fire]
  (repeat' split) <;> simp

@[simp] theorem fireChannels_frame (s : State) :
    (fireChannels s).pending = s.pending ∧ (fireChannels s).startup = s.startup := by
  simp [fireChannels, channelList]

@[simp] theorem fireRelay_frame (s : State) :
    (fireRelay s).pending = s.pending ∧ (fireRelay s).startup = s.startup := by
  simp only [fireRelay, fire]
  (repeat' split) <;> simp

@[simp] theorem fireDescale_frame (s : State) :
    (fireDescale s).pending = s.pending ∧ (fireDescale s).startup = s.startup
      ∧ (fireDescale s).climate = s.climate ∧ (fireDescale s).superv = s.superv := by
  simp only [fireDescale, fire]
  (repeat' split) <;> simp

@[simp] theorem fireRecipe_frame (s : State) :
    (fireRecipe s).pending = s.pending ∧ (fireRecipe s).startup = s.startup := by
  simp only [fireRecipe, fire]
  (repeat' split) <;> simp

@[simp] theorem tick_frame (s : State) :
    (tick s).pending = s.pending := by
  simp [tick]

end Sys2Proof.Machine
end

