-- ==== Sys2Proof/Laws/BlockFields.lean ====
section
/-!
SUPPORT. For each operation of the shared operations, the generator, the climate, the descale, the programs and the supervision: the fields that it
leaves as they are in the blocks it changes, for the fields that the rules hold fixed (numbers, configuration, faults, holds,
states).
-/
namespace Sys2Proof.Machine

@[simp] theorem setQueue_fields (q : List QEntry) (s : State) :
    (setQueue q s).line.numberClash = s.line.numberClash := by
  simp [setQueue]

@[simp] theorem enqueue_fields (f : TxFrame) (s : State) :
    (enqueue f s).line.numberClash = s.line.numberClash := by
  unfold enqueue
  (repeat' split) <;> simp

@[simp] theorem enqueueShare_fields (f : TxFrame) (s : State) :
    (enqueueShare f s).line.numberClash = s.line.numberClash := by
  unfold enqueueShare
  (repeat' split) <;> simp

@[simp] theorem dropRaise_fields (p : Pool) (s : State) :
    (dropRaise p s).line.numberClash = s.line.numberClash := by
  simp [dropRaise]

@[simp] theorem noticeAt_fields (code : NoticeCode) (index detail : Nat) (s : State) :
    (noticeAt code index detail s).line.numberClash = s.line.numberClash := by
  simp [noticeAt]

@[simp] theorem notice_fields (code : NoticeCode) (detail : Nat) (s : State) :
    (notice code detail s).line.numberClash = s.line.numberClash := by
  simp [notice]

@[simp] theorem respond_fields (kind : CmdKind) (code : ResultCode) (detail : Nat) (s : State) :
    (respond kind code detail s).line.numberClash = s.line.numberClash := by
  simp [respond]

@[simp] theorem settleBase_fields (s : State) :
    (settleBase s).power.freq = s.power.freq ∧ (settleBase s).power.want = s.power.want := by
  simp [settleBase]

@[simp] theorem powerFalls_fields (v : Nat) (s : State) :
    (powerFalls v s).power.freq = s.power.freq ∧ (powerFalls v s).power.want = s.power.want := by
  simp [powerFalls]

@[simp] theorem setHold_fields (p : Pool) (v : Nat) (s : State) :
    (setHold p v s).share.floor = s.share.floor ∧ (setHold p v s).share.link = s.share.link
      ∧ (setHold p v s).share.tripSet = s.share.tripSet ∧ (setHold p v s).share.table = s.share.table := by
  simp [setHold]

@[simp] theorem lowerHold_fields (p : Pool) (v : Nat) (s : State) :
    (lowerHold p v s).share.floor = s.share.floor ∧ (lowerHold p v s).share.link = s.share.link
      ∧ (lowerHold p v s).share.tripSet = s.share.tripSet ∧ (lowerHold p v s).share.table = s.share.table
      ∧ (lowerHold p v s).line.numberClash = s.line.numberClash ∧ (lowerHold p v s).power.freq = s.power.freq
      ∧ (lowerHold p v s).power.want = s.power.want := by
  unfold lowerHold
  (repeat' split) <;> simp

@[simp] theorem decideRaise_fields (s : State) :
    (decideRaise s).line.numberClash = s.line.numberClash := by
  unfold decideRaise
  (repeat' split) <;> simp

@[simp] theorem decideYield_fields (s : State) :
    (decideYield s).share.floor = s.share.floor ∧ (decideYield s).share.link = s.share.link
      ∧ (decideYield s).share.tripSet = s.share.tripSet ∧ (decideYield s).share.holds = s.share.holds
      ∧ (decideYield s).share.table = s.share.table ∧ (decideYield s).line.numberClash = s.line.numberClash := by
  unfold decideYield
  (repeat' split) <;> simp

@[simp] theorem decideLower_fields (s : State) :
    (decideLower s).share.floor = s.share.floor ∧ (decideLower s).share.link = s.share.link
      ∧ (decideLower s).share.tripSet = s.share.tripSet ∧ (decideLower s).share.table = s.share.table
      ∧ (decideLower s).line.numberClash = s.line.numberClash ∧ (decideLower s).power.freq = s.power.freq
      ∧ (decideLower s).power.want = s.power.want := by
  unfold decideLower
  (repeat' split) <;> simp

@[simp] theorem frameStartDecisions_fields (s : State) :
    (frameStartDecisions s).share.floor = s.share.floor ∧ (frameStartDecisions s).share.link = s.share.link
      ∧ (frameStartDecisions s).share.tripSet = s.share.tripSet
      ∧ (frameStartDecisions s).share.table = s.share.table
      ∧ (frameStartDecisions s).line.numberClash = s.line.numberClash
      ∧ (frameStartDecisions s).power.freq = s.power.freq ∧ (frameStartDecisions s).power.want = s.power.want := by
  simp [frameStartDecisions]

@[simp] theorem evalWater_fields (p : Pool) (s : State) :
    (evalWater p s).line.numberClash = s.line.numberClash := by
  unfold evalWater
  (repeat' split) <;> simp

@[simp] theorem decideAgain_fields (p : Pool) (s : State) :
    (decideAgain p s).line.numberClash = s.line.numberClash := by
  unfold decideAgain
  (repeat' split) <;> simp

@[simp] theorem wantInlet_fields (s : State) :
    (wantInlet s).line.numberClash = s.line.numberClash ∧ (wantInlet s).steam.acid = s.steam.acid
      ∧ (wantInlet s).steam.gen = s.steam.gen := by
  unfold wantInlet
  (repeat' split) <;> simp

@[simp] theorem wantDrain_fields (s : State) :
    (wantDrain s).line.numberClash = s.line.numberClash ∧ (wantDrain s).steam.acid = s.steam.acid
      ∧ (wantDrain s).steam.gen = s.steam.gen := by
  unfold wantDrain
  (repeat' split) <;> simp

@[simp] theorem releaseWater_fields (p : Pool) (s : State) :
    (releaseWater p s).share.floor = s.share.floor ∧ (releaseWater p s).share.link = s.share.link
      ∧ (releaseWater p s).share.tripSet = s.share.tripSet ∧ (releaseWater p s).share.table = s.share.table
      ∧ (releaseWater p s).line.numberClash = s.line.numberClash ∧ (releaseWater p s).power.freq = s.power.freq
      ∧ (releaseWater p s).power.want = s.power.want := by
  unfold releaseWater
  (repeat' split) <;> simp

@[simp] theorem unwantInlet_fields (s : State) :
    (unwantInlet s).share.floor = s.share.floor ∧ (unwantInlet s).share.link = s.share.link
      ∧ (unwantInlet s).share.tripSet = s.share.tripSet ∧ (unwantInlet s).share.table = s.share.table
      ∧ (unwantInlet s).line.numberClash = s.line.numberClash ∧ (unwantInlet s).steam.acid = s.steam.acid
      ∧ (unwantInlet s).steam.gen = s.steam.gen ∧ (unwantInlet s).power.freq = s.power.freq
      ∧ (unwantInlet s).power.want = s.power.want := by
  unfold unwantInlet
  (repeat' split) <;> simp

@[simp] theorem unwantDrain_fields (s : State) :
    (unwantDrain s).share.floor = s.share.floor ∧ (unwantDrain s).share.link = s.share.link
      ∧ (unwantDrain s).share.tripSet = s.share.tripSet ∧ (unwantDrain s).share.table = s.share.table
      ∧ (unwantDrain s).line.numberClash = s.line.numberClash ∧ (unwantDrain s).steam.acid = s.steam.acid
      ∧ (unwantDrain s).steam.gen = s.steam.gen ∧ (unwantDrain s).power.freq = s.power.freq
      ∧ (unwantDrain s).power.want = s.power.want := by
  unfold unwantDrain
  (repeat' split) <;> simp

@[simp] theorem queueStatus_fields (s : State) :
    (queueStatus s).share.floor = s.share.floor ∧ (queueStatus s).share.link = s.share.link
      ∧ (queueStatus s).share.tripSet = s.share.tripSet ∧ (queueStatus s).share.holds = s.share.holds
      ∧ (queueStatus s).share.table = s.share.table ∧ (queueStatus s).line.numberClash = s.line.numberClash := by
  simp [queueStatus]

@[simp] theorem beginFill_fields (kind : FillKind) (budget : Nat) (s : State) :
    (beginFill kind budget s).line.numberClash = s.line.numberClash
      ∧ (beginFill kind budget s).steam.acid = s.steam.acid ∧ (beginFill kind budget s).steam.gen = s.steam.gen := by
  simp [beginFill]

@[simp] theorem clearFill_fields (s : State) :
    (clearFill s).share.floor = s.share.floor ∧ (clearFill s).share.link = s.share.link
      ∧ (clearFill s).share.tripSet = s.share.tripSet ∧ (clearFill s).share.table = s.share.table
      ∧ (clearFill s).line.numberClash = s.line.numberClash ∧ (clearFill s).steam.acid = s.steam.acid
      ∧ (clearFill s).steam.gen = s.steam.gen ∧ (clearFill s).power.freq = s.power.freq
      ∧ (clearFill s).power.want = s.power.want := by
  simp [clearFill]

@[simp] theorem beginDrain_fields (s : State) :
    (beginDrain s).line.numberClash = s.line.numberClash ∧ (beginDrain s).steam.acid = s.steam.acid
      ∧ (beginDrain s).steam.gen = s.steam.gen := by
  simp [beginDrain]

@[simp] theorem clearDrain_fields (s : State) :
    (clearDrain s).share.floor = s.share.floor ∧ (clearDrain s).share.link = s.share.link
      ∧ (clearDrain s).share.tripSet = s.share.tripSet ∧ (clearDrain s).share.table = s.share.table
      ∧ (clearDrain s).line.numberClash = s.line.numberClash ∧ (clearDrain s).steam.acid = s.steam.acid
      ∧ (clearDrain s).steam.gen = s.steam.gen ∧ (clearDrain s).power.freq = s.power.freq
      ∧ (clearDrain s).power.want = s.power.want := by
  simp [clearDrain]

@[simp] theorem enterHeating_fields (s : State) :
    (enterHeating s).steam.acid = s.steam.acid := by
  simp [enterHeating]

@[simp] theorem enterCooling_fields (s : State) :
    (enterCooling s).steam.acid = s.steam.acid := by
  simp [enterCooling]

@[simp] theorem enterEmpty_fields (s : State) :
    (enterEmpty s).steam.acid = s.steam.acid := by
  simp [enterEmpty]

@[simp] theorem enterDraining_fields (s : State) :
    (enterDraining s).line.numberClash = s.line.numberClash ∧ (enterDraining s).steam.acid = s.steam.acid := by
  simp [enterDraining]

@[simp] theorem endCookingFill_fields (s : State) :
    (endCookingFill s).share.floor = s.share.floor ∧ (endCookingFill s).share.link = s.share.link
      ∧ (endCookingFill s).share.tripSet = s.share.tripSet ∧ (endCookingFill s).share.table = s.share.table
      ∧ (endCookingFill s).line.numberClash = s.line.numberClash ∧ (endCookingFill s).steam.acid = s.steam.acid
      ∧ (endCookingFill s).power.freq = s.power.freq ∧ (endCookingFill s).power.want = s.power.want := by
  simp [endCookingFill]

@[simp] theorem enterFilling_fields (s : State) :
    (enterFilling s).share.floor = s.share.floor ∧ (enterFilling s).share.link = s.share.link
      ∧ (enterFilling s).share.tripSet = s.share.tripSet ∧ (enterFilling s).share.table = s.share.table
      ∧ (enterFilling s).line.numberClash = s.line.numberClash ∧ (enterFilling s).steam.acid = s.steam.acid
      ∧ (enterFilling s).power.freq = s.power.freq ∧ (enterFilling s).power.want = s.power.want := by
  simp only [enterFilling]
  (repeat' split) <;> simp

@[simp] theorem beginTopUp_fields (s : State) :
    (beginTopUp s).share.floor = s.share.floor ∧ (beginTopUp s).share.link = s.share.link
      ∧ (beginTopUp s).share.tripSet = s.share.tripSet ∧ (beginTopUp s).share.table = s.share.table
      ∧ (beginTopUp s).line.numberClash = s.line.numberClash ∧ (beginTopUp s).steam.acid = s.steam.acid
      ∧ (beginTopUp s).steam.gen = s.steam.gen ∧ (beginTopUp s).power.freq = s.power.freq
      ∧ (beginTopUp s).power.want = s.power.want := by
  simp only [beginTopUp]
  (repeat' split) <;> simp

@[simp] theorem genFromLevels_fields (s : State) :
    (genFromLevels s).steam.acid = s.steam.acid := by
  unfold genFromLevels
  (repeat' split) <;> simp

@[simp] theorem drainIfCool_fields (s : State) :
    (drainIfCool s).line.numberClash = s.line.numberClash
      ∧ (drainIfCool s).steam.acid = s.steam.acid := by
  unfold drainIfCool
  (repeat' split) <;> simp

@[simp] theorem endSteam_fields (s : State) :
    (endSteam s).share.floor = s.share.floor
      ∧ (endSteam s).share.link = s.share.link
      ∧ (endSteam s).share.tripSet = s.share.tripSet
      ∧ (endSteam s).share.table = s.share.table
      ∧ (endSteam s).line.numberClash = s.line.numberClash
      ∧ (endSteam s).steam.acid = s.steam.acid
      ∧ (endSteam s).power.freq = s.power.freq
      ∧ (endSteam s).power.want = s.power.want := by
  simp [endSteam]

@[simp] theorem judgeSteam_fields (s : State) :
    (judgeSteam s).share.floor = s.share.floor ∧ (judgeSteam s).share.link = s.share.link
      ∧ (judgeSteam s).share.tripSet = s.share.tripSet ∧ (judgeSteam s).share.table = s.share.table
      ∧ (judgeSteam s).line.numberClash = s.line.numberClash ∧ (judgeSteam s).steam.acid = s.steam.acid
      ∧ (judgeSteam s).power.freq = s.power.freq ∧ (judgeSteam s).power.want = s.power.want := by
  unfold judgeSteam
  (repeat' split) <;> simp

@[simp] theorem judgeBoil_fields (s : State) :
    (judgeBoil s).line.numberClash = s.line.numberClash ∧ (judgeBoil s).steam.acid = s.steam.acid := by
  unfold judgeBoil
  (repeat' split) <;> simp

@[simp] theorem settleOutputs_fields (s : State) :
    (settleOutputs s).steam.acid = s.steam.acid ∧ (settleOutputs s).steam.gen = s.steam.gen
      ∧ (settleOutputs s).power.freq = s.power.freq ∧ (settleOutputs s).power.want = s.power.want := by
  unfold settleOutputs
  (repeat' split) <;> simp

@[simp] theorem settleWaits_fields (s : State) :
    (settleWaits s).recipe.state = s.recipe.state ∧ (settleWaits s).recipe.store = s.recipe.store
      ∧ (settleWaits s).recipe.cur = s.recipe.cur ∧ (settleWaits s).descale.phase = s.descale.phase := by
  unfold settleWaits
  (repeat' split) <;> simp

@[simp] theorem settle_fields (s : State) :
    (settle s).share.floor = s.share.floor ∧ (settle s).share.link = s.share.link
      ∧ (settle s).share.tripSet = s.share.tripSet ∧ (settle s).share.table = s.share.table
      ∧ (settle s).line.numberClash = s.line.numberClash ∧ (settle s).steam.acid = s.steam.acid
      ∧ (settle s).recipe.state = s.recipe.state ∧ (settle s).recipe.store = s.recipe.store
      ∧ (settle s).recipe.cur = s.recipe.cur ∧ (settle s).descale.phase = s.descale.phase
      ∧ (settle s).power.freq = s.power.freq ∧ (settle s).power.want = s.power.want := by
  simp [settle]

@[simp] theorem enterFault_fields (kind : FaultKind) (s : State) :
    (enterFault kind s).share.floor = s.share.floor ∧ (enterFault kind s).share.link = s.share.link
      ∧ (enterFault kind s).share.tripSet = s.share.tripSet ∧ (enterFault kind s).share.table = s.share.table
      ∧ (enterFault kind s).line.numberClash = s.line.numberClash
      ∧ (enterFault kind s).steam.acid = s.steam.acid ∧ (enterFault kind s).power.freq = s.power.freq
      ∧ (enterFault kind s).power.want = s.power.want := by
  simp [enterFault]

@[simp] theorem leaveFault_fields (s : State) :
    (leaveFault s).steam.acid = s.steam.acid := by
  unfold leaveFault
  (repeat' split) <;> simp

@[simp] theorem clearRequest_fields (s : State) :
    (clearRequest s).share.floor = s.share.floor ∧ (clearRequest s).share.link = s.share.link
      ∧ (clearRequest s).share.tripSet = s.share.tripSet ∧ (clearRequest s).share.table = s.share.table
      ∧ (clearRequest s).line.numberClash = s.line.numberClash ∧ (clearRequest s).steam.acid = s.steam.acid
      ∧ (clearRequest s).steam.gen = s.steam.gen ∧ (clearRequest s).power.freq = s.power.freq
      ∧ (clearRequest s).power.want = s.power.want := by
  simp [clearRequest]

@[simp] theorem enterService_fields (s : State) :
    (enterService s).share.floor = s.share.floor ∧ (enterService s).share.link = s.share.link
      ∧ (enterService s).share.tripSet = s.share.tripSet ∧ (enterService s).share.table = s.share.table
      ∧ (enterService s).line.numberClash = s.line.numberClash ∧ (enterService s).steam.acid = s.steam.acid
      ∧ (enterService s).power.freq = s.power.freq ∧ (enterService s).power.want = s.power.want := by
  simp [enterService]

@[simp] theorem releaseGenerator_fields (s : State) :
    (releaseGenerator s).share.floor = s.share.floor ∧ (releaseGenerator s).share.link = s.share.link
      ∧ (releaseGenerator s).share.tripSet = s.share.tripSet ∧ (releaseGenerator s).share.table = s.share.table
      ∧ (releaseGenerator s).line.numberClash = s.line.numberClash
      ∧ (releaseGenerator s).steam.acid = s.steam.acid ∧ (releaseGenerator s).power.freq = s.power.freq
      ∧ (releaseGenerator s).power.want = s.power.want := by
  simp [releaseGenerator]

@[simp] theorem askWrite_fields (s : State) :
    (askWrite s).steam.acid = s.steam.acid ∧ (askWrite s).steam.gen = s.steam.gen := by
  unfold askWrite
  (repeat' split) <;> simp

@[simp] theorem noticeScale_fields (s : State) :
    (noticeScale s).line.numberClash = s.line.numberClash := by
  simp [noticeScale]

@[simp] theorem scaleStep_fields (s : State) :
    (scaleStep s).line.numberClash = s.line.numberClash ∧ (scaleStep s).steam.acid = s.steam.acid
      ∧ (scaleStep s).steam.gen = s.steam.gen := by
  simp only [scaleStep]
  (repeat' split) <;> simp

@[simp] theorem countPulse_fields (s : State) :
    (countPulse s).line.numberClash = s.line.numberClash ∧ (countPulse s).steam.acid = s.steam.acid
      ∧ (countPulse s).steam.gen = s.steam.gen := by
  unfold countPulse
  (repeat' split) <;> simp

@[simp] theorem setAcid_fields (b : Bool) (s : State) :
    (setAcid b s).steam.gen = s.steam.gen := by
  simp [setAcid]

@[simp] theorem completionStep_fields (s : State) :
    (completionStep s).steam.gen = s.steam.gen := by
  simp [completionStep]

@[simp] theorem shedCavity_fields (s : State) :
    (shedCavity s).power.freq = s.power.freq ∧ (shedCavity s).power.want = s.power.want := by
  unfold shedCavity
  (repeat' split) <;> simp

@[simp] theorem zeroDemands_fields (s : State) :
    (zeroDemands s).climate.doorOpen = s.climate.doorOpen ∧ (zeroDemands s).power.freq = s.power.freq
      ∧ (zeroDemands s).power.want = s.power.want := by
  simp [zeroDemands]

@[simp] theorem leaveClimate_fields (s : State) :
    (leaveClimate s).climate.doorOpen = s.climate.doorOpen ∧ (leaveClimate s).power.freq = s.power.freq
      ∧ (leaveClimate s).power.want = s.power.want := by
  simp [leaveClimate]

@[simp] theorem forceZero_fields (s : State) :
    (forceZero s).climate.doorOpen = s.climate.doorOpen ∧ (forceZero s).power.freq = s.power.freq
      ∧ (forceZero s).power.want = s.power.want := by
  simp [forceZero]

@[simp] theorem handOver_fields (h : HeatStage) (s : State) :
    (handOver h s).climate.doorOpen = s.climate.doorOpen := by
  simp [handOver]

@[simp] theorem climateSample_fields (s : State) :
    (climateSample s).share.floor = s.share.floor ∧ (climateSample s).share.link = s.share.link
      ∧ (climateSample s).share.tripSet = s.share.tripSet ∧ (climateSample s).share.table = s.share.table
      ∧ (climateSample s).line.numberClash = s.line.numberClash ∧ (climateSample s).steam.acid = s.steam.acid
      ∧ (climateSample s).recipe.state = s.recipe.state ∧ (climateSample s).recipe.store = s.recipe.store
      ∧ (climateSample s).recipe.cur = s.recipe.cur ∧ (climateSample s).descale.phase = s.descale.phase
      ∧ (climateSample s).power.freq = s.power.freq ∧ (climateSample s).power.want = s.power.want := by
  unfold climateSample
  (repeat' split) <;> simp

@[simp] theorem doorInput_fields (isOpen : Bool) (s : State) :
    (doorInput isOpen s).climate.doorOpen = s.climate.doorOpen := by
  simp [doorInput]

@[simp] theorem openDoor_fields (s : State) :
    (openDoor s).share.floor = s.share.floor ∧ (openDoor s).share.link = s.share.link
      ∧ (openDoor s).share.tripSet = s.share.tripSet ∧ (openDoor s).share.table = s.share.table
      ∧ (openDoor s).line.numberClash = s.line.numberClash ∧ (openDoor s).steam.acid = s.steam.acid
      ∧ (openDoor s).recipe.state = s.recipe.state ∧ (openDoor s).recipe.store = s.recipe.store
      ∧ (openDoor s).recipe.cur = s.recipe.cur ∧ (openDoor s).descale.phase = s.descale.phase
      ∧ (openDoor s).power.freq = s.power.freq ∧ (openDoor s).power.want = s.power.want := by
  simp [openDoor]

@[simp] theorem doorOpens_fields (s : State) :
    (doorOpens s).share.floor = s.share.floor ∧ (doorOpens s).share.link = s.share.link
      ∧ (doorOpens s).share.tripSet = s.share.tripSet ∧ (doorOpens s).share.table = s.share.table
      ∧ (doorOpens s).line.numberClash = s.line.numberClash ∧ (doorOpens s).steam.acid = s.steam.acid
      ∧ (doorOpens s).recipe.state = s.recipe.state ∧ (doorOpens s).recipe.store = s.recipe.store
      ∧ (doorOpens s).recipe.cur = s.recipe.cur ∧ (doorOpens s).descale.phase = s.descale.phase
      ∧ (doorOpens s).power.freq = s.power.freq ∧ (doorOpens s).power.want = s.power.want := by
  unfold doorOpens
  (repeat' split) <;> simp

@[simp] theorem enterPhase_fields (phase : Phase) (rinse : Nat) (cause : DescaleCause) (s : State) :
    (enterPhase phase rinse cause s).line.numberClash = s.line.numberClash := by
  simp [enterPhase]

@[simp] theorem giveRequest_fields (r : ServiceRequest) (s : State) :
    (giveRequest r s).share.floor = s.share.floor ∧ (giveRequest r s).share.link = s.share.link
      ∧ (giveRequest r s).share.tripSet = s.share.tripSet ∧ (giveRequest r s).share.table = s.share.table
      ∧ (giveRequest r s).line.numberClash = s.line.numberClash ∧ (giveRequest r s).steam.acid = s.steam.acid
      ∧ (giveRequest r s).steam.gen = s.steam.gen ∧ (giveRequest r s).power.freq = s.power.freq
      ∧ (giveRequest r s).power.want = s.power.want := by
  unfold giveRequest
  (repeat' split) <;> simp

@[simp] theorem endPhase_fields (phase : Phase) (cause : DescaleCause) (s : State) :
    (endPhase phase cause s).share.floor = s.share.floor ∧ (endPhase phase cause s).share.link = s.share.link
      ∧ (endPhase phase cause s).share.tripSet = s.share.tripSet
      ∧ (endPhase phase cause s).share.table = s.share.table
      ∧ (endPhase phase cause s).line.numberClash = s.line.numberClash
      ∧ (endPhase phase cause s).steam.acid = s.steam.acid ∧ (endPhase phase cause s).power.freq = s.power.freq
      ∧ (endPhase phase cause s).power.want = s.power.want := by
  simp [endPhase]

@[simp] theorem enterAcidDrain_fields (cause : DescaleCause) (s : State) :
    (enterAcidDrain cause s).share.floor = s.share.floor ∧ (enterAcidDrain cause s).share.link = s.share.link
      ∧ (enterAcidDrain cause s).share.tripSet = s.share.tripSet
      ∧ (enterAcidDrain cause s).share.table = s.share.table
      ∧ (enterAcidDrain cause s).line.numberClash = s.line.numberClash
      ∧ (enterAcidDrain cause s).steam.acid = s.steam.acid ∧ (enterAcidDrain cause s).steam.gen = s.steam.gen
      ∧ (enterAcidDrain cause s).power.freq = s.power.freq ∧ (enterAcidDrain cause s).power.want = s.power.want := by
  simp [enterAcidDrain]

@[simp] theorem enterSoak_fields (s : State) :
    (enterSoak s).share.floor = s.share.floor ∧ (enterSoak s).share.link = s.share.link
      ∧ (enterSoak s).share.tripSet = s.share.tripSet ∧ (enterSoak s).share.table = s.share.table
      ∧ (enterSoak s).line.numberClash = s.line.numberClash ∧ (enterSoak s).steam.acid = s.steam.acid
      ∧ (enterSoak s).steam.gen = s.steam.gen ∧ (enterSoak s).power.freq = s.power.freq
      ∧ (enterSoak s).power.want = s.power.want := by
  simp [enterSoak]

@[simp] theorem enterSoakHeat_fields (s : State) :
    (enterSoakHeat s).share.floor = s.share.floor ∧ (enterSoakHeat s).share.link = s.share.link
      ∧ (enterSoakHeat s).share.tripSet = s.share.tripSet ∧ (enterSoakHeat s).share.table = s.share.table
      ∧ (enterSoakHeat s).line.numberClash = s.line.numberClash ∧ (enterSoakHeat s).steam.acid = s.steam.acid
      ∧ (enterSoakHeat s).steam.gen = s.steam.gen ∧ (enterSoakHeat s).power.freq = s.power.freq
      ∧ (enterSoakHeat s).power.want = s.power.want := by
  simp [enterSoakHeat]

@[simp] theorem enterDose_fields (s : State) :
    (enterDose s).share.floor = s.share.floor ∧ (enterDose s).share.link = s.share.link
      ∧ (enterDose s).share.tripSet = s.share.tripSet ∧ (enterDose s).share.table = s.share.table
      ∧ (enterDose s).line.numberClash = s.line.numberClash ∧ (enterDose s).steam.acid = s.steam.acid
      ∧ (enterDose s).steam.gen = s.steam.gen ∧ (enterDose s).power.freq = s.power.freq
      ∧ (enterDose s).power.want = s.power.want := by
  simp only [enterDose]
  (repeat' split) <;> simp

@[simp] theorem enterDrainOut_fields (s : State) :
    (enterDrainOut s).share.floor = s.share.floor ∧ (enterDrainOut s).share.link = s.share.link
      ∧ (enterDrainOut s).share.tripSet = s.share.tripSet ∧ (enterDrainOut s).share.table = s.share.table
      ∧ (enterDrainOut s).line.numberClash = s.line.numberClash ∧ (enterDrainOut s).steam.acid = s.steam.acid
      ∧ (enterDrainOut s).steam.gen = s.steam.gen ∧ (enterDrainOut s).power.freq = s.power.freq
      ∧ (enterDrainOut s).power.want = s.power.want := by
  simp only [enterDrainOut]
  (repeat' split) <;> simp

@[simp] theorem enterRinseDrain_fields (k : Nat) (s : State) :
    (enterRinseDrain k s).share.floor = s.share.floor ∧ (enterRinseDrain k s).share.link = s.share.link
      ∧ (enterRinseDrain k s).share.tripSet = s.share.tripSet
      ∧ (enterRinseDrain k s).share.table = s.share.table
      ∧ (enterRinseDrain k s).line.numberClash = s.line.numberClash
      ∧ (enterRinseDrain k s).steam.acid = s.steam.acid ∧ (enterRinseDrain k s).steam.gen = s.steam.gen
      ∧ (enterRinseDrain k s).power.freq = s.power.freq ∧ (enterRinseDrain k s).power.want = s.power.want := by
  simp [enterRinseDrain]

@[simp] theorem enterRinseHeat_fields (k : Nat) (s : State) :
    (enterRinseHeat k s).share.floor = s.share.floor ∧ (enterRinseHeat k s).share.link = s.share.link
      ∧ (enterRinseHeat k s).share.tripSet = s.share.tripSet ∧ (enterRinseHeat k s).share.table = s.share.table
      ∧ (enterRinseHeat k s).line.numberClash = s.line.numberClash
      ∧ (enterRinseHeat k s).steam.acid = s.steam.acid ∧ (enterRinseHeat k s).steam.gen = s.steam.gen
      ∧ (enterRinseHeat k s).power.freq = s.power.freq ∧ (enterRinseHeat k s).power.want = s.power.want := by
  simp [enterRinseHeat]

@[simp] theorem enterRinseFill_fields (k : Nat) (s : State) :
    (enterRinseFill k s).share.floor = s.share.floor ∧ (enterRinseFill k s).share.link = s.share.link
      ∧ (enterRinseFill k s).share.tripSet = s.share.tripSet ∧ (enterRinseFill k s).share.table = s.share.table
      ∧ (enterRinseFill k s).line.numberClash = s.line.numberClash
      ∧ (enterRinseFill k s).steam.acid = s.steam.acid ∧ (enterRinseFill k s).steam.gen = s.steam.gen
      ∧ (enterRinseFill k s).power.freq = s.power.freq ∧ (enterRinseFill k s).power.want = s.power.want := by
  simp only [enterRinseFill]
  (repeat' split) <;> simp

@[simp] theorem finishDescale_fields (s : State) :
    (finishDescale s).share.floor = s.share.floor ∧ (finishDescale s).share.link = s.share.link
      ∧ (finishDescale s).share.tripSet = s.share.tripSet ∧ (finishDescale s).share.table = s.share.table
      ∧ (finishDescale s).line.numberClash = s.line.numberClash ∧ (finishDescale s).power.freq = s.power.freq
      ∧ (finishDescale s).power.want = s.power.want := by
  unfold finishDescale
  (repeat' split) <;> simp

@[simp] theorem fillDone_fields (s : State) :
    (fillDone s).share.floor = s.share.floor ∧ (fillDone s).share.link = s.share.link
      ∧ (fillDone s).share.tripSet = s.share.tripSet ∧ (fillDone s).share.table = s.share.table
      ∧ (fillDone s).line.numberClash = s.line.numberClash ∧ (fillDone s).steam.acid = s.steam.acid
      ∧ (fillDone s).steam.gen = s.steam.gen ∧ (fillDone s).power.freq = s.power.freq
      ∧ (fillDone s).power.want = s.power.want := by
  unfold fillDone
  (repeat' split) <;> simp

@[simp] theorem drainDone_fields (s : State) :
    (drainDone s).share.floor = s.share.floor ∧ (drainDone s).share.link = s.share.link
      ∧ (drainDone s).share.tripSet = s.share.tripSet ∧ (drainDone s).share.table = s.share.table
      ∧ (drainDone s).line.numberClash = s.line.numberClash ∧ (drainDone s).power.freq = s.power.freq
      ∧ (drainDone s).power.want = s.power.want := by
  unfold drainDone
  (repeat' split) <;> simp

@[simp] theorem judgeHeat_fields (s : State) :
    (judgeHeat s).share.floor = s.share.floor ∧ (judgeHeat s).share.link = s.share.link
      ∧ (judgeHeat s).share.tripSet = s.share.tripSet ∧ (judgeHeat s).share.table = s.share.table
      ∧ (judgeHeat s).line.numberClash = s.line.numberClash ∧ (judgeHeat s).steam.acid = s.steam.acid
      ∧ (judgeHeat s).steam.gen = s.steam.gen ∧ (judgeHeat s).power.freq = s.power.freq
      ∧ (judgeHeat s).power.want = s.power.want := by
  unfold judgeHeat
  (repeat' split) <;> simp

@[simp] theorem descaleFault_fields (cause : DescaleCause) (s : State) :
    (descaleFault cause s).share.floor = s.share.floor ∧ (descaleFault cause s).share.link = s.share.link
      ∧ (descaleFault cause s).share.tripSet = s.share.tripSet
      ∧ (descaleFault cause s).share.table = s.share.table
      ∧ (descaleFault cause s).line.numberClash = s.line.numberClash
      ∧ (descaleFault cause s).steam.acid = s.steam.acid ∧ (descaleFault cause s).power.freq = s.power.freq
      ∧ (descaleFault cause s).power.want = s.power.want := by
  unfold descaleFault
  (repeat' split) <;> simp

@[simp] theorem reportFirstPulse_fields (s : State) :
    (reportFirstPulse s).steam.gen = s.steam.gen := by
  unfold reportFirstPulse
  (repeat' split) <;> simp

@[simp] theorem frameForDescale_fields (boilerDemand boilerGrant : Nat) (barred : Bool) (s : State) :
    (frameForDescale boilerDemand boilerGrant barred s).descale.phase = s.descale.phase := by
  simp [frameForDescale]

@[simp] theorem descaleStart_fields (s : State) :
    (descaleStart s).share.floor = s.share.floor ∧ (descaleStart s).share.link = s.share.link
      ∧ (descaleStart s).share.tripSet = s.share.tripSet ∧ (descaleStart s).share.table = s.share.table
      ∧ (descaleStart s).line.numberClash = s.line.numberClash ∧ (descaleStart s).steam.acid = s.steam.acid
      ∧ (descaleStart s).recipe.state = s.recipe.state ∧ (descaleStart s).recipe.store = s.recipe.store
      ∧ (descaleStart s).recipe.cur = s.recipe.cur ∧ (descaleStart s).power.freq = s.power.freq
      ∧ (descaleStart s).power.want = s.power.want := by
  unfold descaleStart
  (repeat' split) <;> simp

@[simp] theorem descaleConfirm_fields (s : State) :
    (descaleConfirm s).share.floor = s.share.floor ∧ (descaleConfirm s).share.link = s.share.link
      ∧ (descaleConfirm s).share.tripSet = s.share.tripSet ∧ (descaleConfirm s).share.table = s.share.table
      ∧ (descaleConfirm s).line.numberClash = s.line.numberClash ∧ (descaleConfirm s).steam.acid = s.steam.acid
      ∧ (descaleConfirm s).recipe.state = s.recipe.state ∧ (descaleConfirm s).recipe.store = s.recipe.store
      ∧ (descaleConfirm s).recipe.cur = s.recipe.cur ∧ (descaleConfirm s).power.freq = s.power.freq
      ∧ (descaleConfirm s).power.want = s.power.want := by
  unfold descaleConfirm
  (repeat' split) <;> simp

@[simp] theorem abortDescale_fields (s : State) :
    (abortDescale s).share.floor = s.share.floor ∧ (abortDescale s).share.link = s.share.link
      ∧ (abortDescale s).share.tripSet = s.share.tripSet ∧ (abortDescale s).share.table = s.share.table
      ∧ (abortDescale s).line.numberClash = s.line.numberClash ∧ (abortDescale s).steam.acid = s.steam.acid
      ∧ (abortDescale s).recipe.state = s.recipe.state ∧ (abortDescale s).recipe.store = s.recipe.store
      ∧ (abortDescale s).recipe.cur = s.recipe.cur ∧ (abortDescale s).power.freq = s.power.freq
      ∧ (abortDescale s).power.want = s.power.want := by
  unfold abortDescale
  (repeat' split) <;> simp

@[simp] theorem prepTimeout_fields (s : State) :
    (prepTimeout s).share.floor = s.share.floor ∧ (prepTimeout s).share.link = s.share.link
      ∧ (prepTimeout s).share.tripSet = s.share.tripSet ∧ (prepTimeout s).share.table = s.share.table
      ∧ (prepTimeout s).line.numberClash = s.line.numberClash ∧ (prepTimeout s).steam.acid = s.steam.acid
      ∧ (prepTimeout s).recipe.state = s.recipe.state ∧ (prepTimeout s).recipe.store = s.recipe.store
      ∧ (prepTimeout s).recipe.cur = s.recipe.cur ∧ (prepTimeout s).power.freq = s.power.freq
      ∧ (prepTimeout s).power.want = s.power.want := by
  unfold prepTimeout
  (repeat' split) <;> simp

@[simp] theorem heatLimit_fields (s : State) :
    (heatLimit s).share.floor = s.share.floor ∧ (heatLimit s).share.link = s.share.link
      ∧ (heatLimit s).share.tripSet = s.share.tripSet ∧ (heatLimit s).share.table = s.share.table
      ∧ (heatLimit s).line.numberClash = s.line.numberClash ∧ (heatLimit s).steam.acid = s.steam.acid
      ∧ (heatLimit s).recipe.state = s.recipe.state ∧ (heatLimit s).recipe.store = s.recipe.store
      ∧ (heatLimit s).recipe.cur = s.recipe.cur ∧ (heatLimit s).power.freq = s.power.freq
      ∧ (heatLimit s).power.want = s.power.want := by
  unfold heatLimit
  (repeat' split) <;> simp

@[simp] theorem descaleLowWater_fields (s : State) :
    (descaleLowWater s).share.floor = s.share.floor ∧ (descaleLowWater s).share.link = s.share.link
      ∧ (descaleLowWater s).share.tripSet = s.share.tripSet ∧ (descaleLowWater s).share.table = s.share.table
      ∧ (descaleLowWater s).line.numberClash = s.line.numberClash
      ∧ (descaleLowWater s).steam.acid = s.steam.acid ∧ (descaleLowWater s).recipe.state = s.recipe.state
      ∧ (descaleLowWater s).recipe.store = s.recipe.store ∧ (descaleLowWater s).recipe.cur = s.recipe.cur
      ∧ (descaleLowWater s).power.freq = s.power.freq ∧ (descaleLowWater s).power.want = s.power.want := by
  unfold descaleLowWater
  (repeat' split) <;> simp

@[simp] theorem soakTimerEnd_fields (s : State) :
    (soakTimerEnd s).share.floor = s.share.floor ∧ (soakTimerEnd s).share.link = s.share.link
      ∧ (soakTimerEnd s).share.tripSet = s.share.tripSet ∧ (soakTimerEnd s).share.table = s.share.table
      ∧ (soakTimerEnd s).line.numberClash = s.line.numberClash ∧ (soakTimerEnd s).steam.acid = s.steam.acid
      ∧ (soakTimerEnd s).recipe.state = s.recipe.state ∧ (soakTimerEnd s).recipe.store = s.recipe.store
      ∧ (soakTimerEnd s).recipe.cur = s.recipe.cur ∧ (soakTimerEnd s).power.freq = s.power.freq
      ∧ (soakTimerEnd s).power.want = s.power.want := by
  unfold soakTimerEnd
  (repeat' split) <;> simp

@[simp] theorem waitNotice_fields (s : State) :
    (waitNotice s).line.numberClash = s.line.numberClash ∧ (waitNotice s).descale.phase = s.descale.phase := by
  unfold waitNotice
  (repeat' split) <;> simp

@[simp] theorem finishProgram_fields (s : State) :
    (finishProgram s).line.numberClash = s.line.numberClash ∧ (finishProgram s).recipe.store = s.recipe.store
      ∧ (finishProgram s).climate.doorOpen = s.climate.doorOpen ∧ (finishProgram s).power.freq = s.power.freq
      ∧ (finishProgram s).power.want = s.power.want := by
  simp [finishProgram]

@[simp] theorem faultProgram_fields (cause : ProgramFault) (s : State) :
    (faultProgram cause s).line.numberClash = s.line.numberClash
      ∧ (faultProgram cause s).recipe.store = s.recipe.store
      ∧ (faultProgram cause s).climate.doorOpen = s.climate.doorOpen
      ∧ (faultProgram cause s).power.freq = s.power.freq ∧ (faultProgram cause s).power.want = s.power.want := by
  unfold faultProgram
  (repeat' split) <;> simp

@[simp] theorem beginStage_fields (i : Nat) (h : HeatStage) (s : State) :
    (beginStage i h s).share.floor = s.share.floor ∧ (beginStage i h s).share.link = s.share.link
      ∧ (beginStage i h s).share.tripSet = s.share.tripSet ∧ (beginStage i h s).share.table = s.share.table
      ∧ (beginStage i h s).line.numberClash = s.line.numberClash ∧ (beginStage i h s).steam.acid = s.steam.acid
      ∧ (beginStage i h s).recipe.store = s.recipe.store ∧ (beginStage i h s).recipe.cur = s.recipe.cur
      ∧ (beginStage i h s).climate.doorOpen = s.climate.doorOpen ∧ (beginStage i h s).power.freq = s.power.freq
      ∧ (beginStage i h s).power.want = s.power.want := by
  simp only [beginStage]
  (repeat' split) <;> simp

@[simp] theorem probeRule_fields (s : State) :
    (probeRule s).line.numberClash = s.line.numberClash ∧ (probeRule s).recipe.store = s.recipe.store
      ∧ (probeRule s).recipe.cur = s.recipe.cur := by
  unfold probeRule
  (repeat' split) <;> simp

@[simp] theorem enterStage_fields (fuel : Nat) : ∀ (i : Nat) (s : State),
    (enterStage fuel i s).share.floor = s.share.floor
      ∧ (enterStage fuel i s).share.link = s.share.link
      ∧ (enterStage fuel i s).share.tripSet = s.share.tripSet
      ∧ (enterStage fuel i s).share.table = s.share.table
      ∧ (enterStage fuel i s).line.numberClash = s.line.numberClash
      ∧ (enterStage fuel i s).steam.acid = s.steam.acid
      ∧ (enterStage fuel i s).recipe.store = s.recipe.store
      ∧ (enterStage fuel i s).climate.doorOpen = s.climate.doorOpen
      ∧ (enterStage fuel i s).power.freq = s.power.freq
      ∧ (enterStage fuel i s).power.want = s.power.want := by
  induction fuel with
  | zero => intro i s; simp [enterStage]
  | succ n ih =>
    intro i s
    unfold enterStage
    dsimp only
    split
    · simp
    · simp only [State.setRecipe_recipe]
      split <;> simp [ih]
    · (repeat' split) <;> simp [ih]
    · (repeat' split) <;> simp [ih]

@[simp] theorem enter_fields (i : Nat) (s : State) :
    (enter i s).share.floor = s.share.floor ∧ (enter i s).share.link = s.share.link
      ∧ (enter i s).share.tripSet = s.share.tripSet ∧ (enter i s).share.table = s.share.table
      ∧ (enter i s).line.numberClash = s.line.numberClash ∧ (enter i s).steam.acid = s.steam.acid
      ∧ (enter i s).recipe.store = s.recipe.store ∧ (enter i s).climate.doorOpen = s.climate.doorOpen
      ∧ (enter i s).power.freq = s.power.freq ∧ (enter i s).power.want = s.power.want := by
  simp [enter]

@[simp] theorem judgeStage_fields (s : State) :
    (judgeStage s).share.floor = s.share.floor ∧ (judgeStage s).share.link = s.share.link
      ∧ (judgeStage s).share.tripSet = s.share.tripSet ∧ (judgeStage s).share.table = s.share.table
      ∧ (judgeStage s).line.numberClash = s.line.numberClash ∧ (judgeStage s).steam.acid = s.steam.acid
      ∧ (judgeStage s).recipe.store = s.recipe.store ∧ (judgeStage s).climate.doorOpen = s.climate.doorOpen
      ∧ (judgeStage s).power.freq = s.power.freq ∧ (judgeStage s).power.want = s.power.want := by
  unfold judgeStage
  (repeat' split) <;> simp

@[simp] theorem judgeStageAndProbe_fields (s : State) :
    (judgeStageAndProbe s).share.floor = s.share.floor ∧ (judgeStageAndProbe s).share.link = s.share.link
      ∧ (judgeStageAndProbe s).share.tripSet = s.share.tripSet
      ∧ (judgeStageAndProbe s).share.table = s.share.table
      ∧ (judgeStageAndProbe s).line.numberClash = s.line.numberClash
      ∧ (judgeStageAndProbe s).steam.acid = s.steam.acid ∧ (judgeStageAndProbe s).recipe.store = s.recipe.store
      ∧ (judgeStageAndProbe s).climate.doorOpen = s.climate.doorOpen
      ∧ (judgeStageAndProbe s).power.freq = s.power.freq ∧ (judgeStageAndProbe s).power.want = s.power.want := by
  unfold judgeStageAndProbe
  (repeat' split) <;> simp

@[simp] theorem judgeTimedPhase_fields (s : State) :
    (judgeTimedPhase s).recipe.state = s.recipe.state ∧ (judgeTimedPhase s).recipe.store = s.recipe.store
      ∧ (judgeTimedPhase s).recipe.cur = s.recipe.cur := by
  unfold judgeTimedPhase
  (repeat' split) <;> simp

@[simp] theorem loadOpen_fields (count : Byte) (tag : Word16) (s : State) :
    (loadOpen count tag s).line.numberClash = s.line.numberClash := by
  unfold loadOpen
  (repeat' split) <;> simp

@[simp] theorem storeStage_fields (r : StageRecord) (clamped : Option Nat) (s : State) :
    (storeStage r clamped s).line.numberClash = s.line.numberClash := by
  simp only [storeStage]
  (repeat' split) <;> simp

@[simp] theorem stageCommand_fields (index : Byte) (record : List Byte) (s : State) :
    (stageCommand index record s).share.floor = s.share.floor
      ∧ (stageCommand index record s).share.link = s.share.link
      ∧ (stageCommand index record s).share.tripSet = s.share.tripSet
      ∧ (stageCommand index record s).line.numberClash = s.line.numberClash
      ∧ (stageCommand index record s).power.freq = s.power.freq
      ∧ (stageCommand index record s).power.want = s.power.want := by
  unfold stageCommand
  (repeat' split) <;> simp

@[simp] theorem startProgram_fields (s : State) :
    (startProgram s).share.floor = s.share.floor ∧ (startProgram s).share.link = s.share.link
      ∧ (startProgram s).share.tripSet = s.share.tripSet ∧ (startProgram s).share.table = s.share.table
      ∧ (startProgram s).line.numberClash = s.line.numberClash ∧ (startProgram s).steam.acid = s.steam.acid
      ∧ (startProgram s).superv.relayClosed = s.superv.relayClosed
      ∧ (startProgram s).superv.trip = s.superv.trip ∧ (startProgram s).superv.welded = s.superv.welded
      ∧ (startProgram s).superv.configFault = s.superv.configFault
      ∧ (startProgram s).recipe.store = s.recipe.store ∧ (startProgram s).descale.phase = s.descale.phase
      ∧ (startProgram s).climate.doorOpen = s.climate.doorOpen ∧ (startProgram s).power.freq = s.power.freq
      ∧ (startProgram s).power.want = s.power.want := by
  simp [startProgram]

@[simp] theorem startCommand_fields (s : State) :
    (startCommand s).share.floor = s.share.floor ∧ (startCommand s).share.link = s.share.link
      ∧ (startCommand s).share.tripSet = s.share.tripSet ∧ (startCommand s).share.table = s.share.table
      ∧ (startCommand s).line.numberClash = s.line.numberClash ∧ (startCommand s).steam.acid = s.steam.acid
      ∧ (startCommand s).superv.relayClosed = s.superv.relayClosed
      ∧ (startCommand s).superv.trip = s.superv.trip ∧ (startCommand s).superv.welded = s.superv.welded
      ∧ (startCommand s).superv.configFault = s.superv.configFault
      ∧ (startCommand s).recipe.store = s.recipe.store ∧ (startCommand s).descale.phase = s.descale.phase
      ∧ (startCommand s).climate.doorOpen = s.climate.doorOpen ∧ (startCommand s).power.freq = s.power.freq
      ∧ (startCommand s).power.want = s.power.want := by
  unfold startCommand
  (repeat' split) <;> simp

@[simp] theorem runManual_fields (record : List Byte) (s : State) :
    (runManual record s).share.floor = s.share.floor ∧ (runManual record s).share.link = s.share.link
      ∧ (runManual record s).share.tripSet = s.share.tripSet
      ∧ (runManual record s).line.numberClash = s.line.numberClash
      ∧ (runManual record s).steam.acid = s.steam.acid
      ∧ (runManual record s).superv.relayClosed = s.superv.relayClosed
      ∧ (runManual record s).superv.trip = s.superv.trip ∧ (runManual record s).superv.welded = s.superv.welded
      ∧ (runManual record s).superv.configFault = s.superv.configFault
      ∧ (runManual record s).descale.phase = s.descale.phase
      ∧ (runManual record s).climate.doorOpen = s.climate.doorOpen
      ∧ (runManual record s).power.freq = s.power.freq ∧ (runManual record s).power.want = s.power.want := by
  unfold runManual
  (repeat' split) <;> simp

@[simp] theorem applyAnswer_fields (a : Nat) (s : State) :
    (applyAnswer a s).share.floor = s.share.floor ∧ (applyAnswer a s).share.link = s.share.link
      ∧ (applyAnswer a s).share.tripSet = s.share.tripSet ∧ (applyAnswer a s).share.table = s.share.table
      ∧ (applyAnswer a s).line.numberClash = s.line.numberClash ∧ (applyAnswer a s).steam.acid = s.steam.acid
      ∧ (applyAnswer a s).recipe.store = s.recipe.store
      ∧ (applyAnswer a s).climate.doorOpen = s.climate.doorOpen ∧ (applyAnswer a s).power.freq = s.power.freq
      ∧ (applyAnswer a s).power.want = s.power.want := by
  unfold applyAnswer
  (repeat' split) <;> simp

@[simp] theorem continueStage_fields (s : State) :
    (continueStage s).share.floor = s.share.floor ∧ (continueStage s).share.link = s.share.link
      ∧ (continueStage s).share.tripSet = s.share.tripSet ∧ (continueStage s).share.table = s.share.table
      ∧ (continueStage s).line.numberClash = s.line.numberClash ∧ (continueStage s).steam.acid = s.steam.acid
      ∧ (continueStage s).recipe.store = s.recipe.store
      ∧ (continueStage s).climate.doorOpen = s.climate.doorOpen ∧ (continueStage s).power.freq = s.power.freq
      ∧ (continueStage s).power.want = s.power.want := by
  simp only [continueStage]
  (repeat' split) <;> simp

@[simp] theorem answerCommand_fields (index a : Byte) (s : State) :
    (answerCommand index a s).share.floor = s.share.floor ∧ (answerCommand index a s).share.link = s.share.link
      ∧ (answerCommand index a s).share.tripSet = s.share.tripSet
      ∧ (answerCommand index a s).share.table = s.share.table
      ∧ (answerCommand index a s).line.numberClash = s.line.numberClash
      ∧ (answerCommand index a s).steam.acid = s.steam.acid
      ∧ (answerCommand index a s).recipe.store = s.recipe.store
      ∧ (answerCommand index a s).descale.phase = s.descale.phase
      ∧ (answerCommand index a s).climate.doorOpen = s.climate.doorOpen
      ∧ (answerCommand index a s).power.freq = s.power.freq
      ∧ (answerCommand index a s).power.want = s.power.want := by
  unfold answerCommand
  (repeat' split) <;> simp

@[simp] theorem pauseCommand_fields (s : State) :
    (pauseCommand s).share.floor = s.share.floor ∧ (pauseCommand s).share.link = s.share.link
      ∧ (pauseCommand s).share.tripSet = s.share.tripSet ∧ (pauseCommand s).share.table = s.share.table
      ∧ (pauseCommand s).line.numberClash = s.line.numberClash ∧ (pauseCommand s).steam.acid = s.steam.acid
      ∧ (pauseCommand s).recipe.store = s.recipe.store ∧ (pauseCommand s).recipe.cur = s.recipe.cur
      ∧ (pauseCommand s).descale.phase = s.descale.phase ∧ (pauseCommand s).power.freq = s.power.freq
      ∧ (pauseCommand s).power.want = s.power.want := by
  unfold pauseCommand
  (repeat' split) <;> simp

@[simp] theorem resumeCommand_fields (s : State) :
    (resumeCommand s).share.floor = s.share.floor ∧ (resumeCommand s).share.link = s.share.link
      ∧ (resumeCommand s).share.tripSet = s.share.tripSet ∧ (resumeCommand s).share.table = s.share.table
      ∧ (resumeCommand s).line.numberClash = s.line.numberClash ∧ (resumeCommand s).steam.acid = s.steam.acid
      ∧ (resumeCommand s).recipe.store = s.recipe.store ∧ (resumeCommand s).descale.phase = s.descale.phase
      ∧ (resumeCommand s).climate.doorOpen = s.climate.doorOpen ∧ (resumeCommand s).power.freq = s.power.freq
      ∧ (resumeCommand s).power.want = s.power.want := by
  simp only [resumeCommand]
  (repeat' split) <;> simp

@[simp] theorem abortProgram_fields (s : State) :
    (abortProgram s).share.floor = s.share.floor ∧ (abortProgram s).share.link = s.share.link
      ∧ (abortProgram s).share.tripSet = s.share.tripSet ∧ (abortProgram s).share.table = s.share.table
      ∧ (abortProgram s).line.numberClash = s.line.numberClash ∧ (abortProgram s).steam.acid = s.steam.acid
      ∧ (abortProgram s).recipe.store = s.recipe.store ∧ (abortProgram s).descale.phase = s.descale.phase
      ∧ (abortProgram s).climate.doorOpen = s.climate.doorOpen ∧ (abortProgram s).power.freq = s.power.freq
      ∧ (abortProgram s).power.want = s.power.want := by
  simp [abortProgram]

@[simp] theorem abortCommand_fields (s : State) :
    (abortCommand s).share.floor = s.share.floor ∧ (abortCommand s).share.link = s.share.link
      ∧ (abortCommand s).share.tripSet = s.share.tripSet ∧ (abortCommand s).share.table = s.share.table
      ∧ (abortCommand s).line.numberClash = s.line.numberClash ∧ (abortCommand s).steam.acid = s.steam.acid
      ∧ (abortCommand s).climate.doorOpen = s.climate.doorOpen ∧ (abortCommand s).power.freq = s.power.freq
      ∧ (abortCommand s).power.want = s.power.want := by
  unfold abortCommand
  (repeat' split) <;> simp

@[simp] theorem acknowledge_fields (s : State) :
    (acknowledge s).line.numberClash = s.line.numberClash ∧ (acknowledge s).recipe.store = s.recipe.store := by
  simp [acknowledge]

@[simp] theorem finishAck_fields (s : State) :
    (finishAck s).line.numberClash = s.line.numberClash ∧ (finishAck s).recipe.store = s.recipe.store := by
  unfold finishAck
  (repeat' split) <;> simp

@[simp] theorem loadTimeout_fields (s : State) :
    (loadTimeout s).line.numberClash = s.line.numberClash := by
  unfold loadTimeout
  (repeat' split) <;> simp

@[simp] theorem elapse_fields (h : HeatStage) (s : State) :
    (elapse h s).recipe.state = s.recipe.state ∧ (elapse h s).recipe.store = s.recipe.store
      ∧ (elapse h s).recipe.cur = s.recipe.cur := by
  simp [elapse]

@[simp] theorem stageTimeEnd_fields (s : State) :
    (stageTimeEnd s).share.floor = s.share.floor ∧ (stageTimeEnd s).share.link = s.share.link
      ∧ (stageTimeEnd s).share.tripSet = s.share.tripSet ∧ (stageTimeEnd s).share.table = s.share.table
      ∧ (stageTimeEnd s).line.numberClash = s.line.numberClash ∧ (stageTimeEnd s).steam.acid = s.steam.acid
      ∧ (stageTimeEnd s).recipe.store = s.recipe.store ∧ (stageTimeEnd s).descale.phase = s.descale.phase
      ∧ (stageTimeEnd s).climate.doorOpen = s.climate.doorOpen ∧ (stageTimeEnd s).power.freq = s.power.freq
      ∧ (stageTimeEnd s).power.want = s.power.want := by
  unfold stageTimeEnd
  (repeat' split) <;> simp

@[simp] theorem promptTimeout_fields (s : State) :
    (promptTimeout s).share.floor = s.share.floor ∧ (promptTimeout s).share.link = s.share.link
      ∧ (promptTimeout s).share.tripSet = s.share.tripSet ∧ (promptTimeout s).share.table = s.share.table
      ∧ (promptTimeout s).line.numberClash = s.line.numberClash ∧ (promptTimeout s).steam.acid = s.steam.acid
      ∧ (promptTimeout s).recipe.store = s.recipe.store ∧ (promptTimeout s).descale.phase = s.descale.phase
      ∧ (promptTimeout s).climate.doorOpen = s.climate.doorOpen ∧ (promptTimeout s).power.freq = s.power.freq
      ∧ (promptTimeout s).power.want = s.power.want := by
  unfold promptTimeout
  (repeat' split) <;> simp

@[simp] theorem steamWithheld_fields (s : State) :
    (steamWithheld s).line.numberClash = s.line.numberClash ∧ (steamWithheld s).recipe.state = s.recipe.state
      ∧ (steamWithheld s).recipe.store = s.recipe.store ∧ (steamWithheld s).recipe.cur = s.recipe.cur := by
  unfold steamWithheld
  (repeat' split) <;> simp

@[simp] theorem barHeat_fields (s : State) :
    (barHeat s).power.freq = s.power.freq ∧ (barHeat s).power.want = s.power.want := by
  unfold barHeat
  (repeat' split) <;> simp

@[simp] theorem commandRelay_fields (closed : Bool) (s : State) :
    (commandRelay closed s).superv.trip = s.superv.trip
      ∧ (commandRelay closed s).superv.welded = s.superv.welded
      ∧ (commandRelay closed s).superv.configFault = s.superv.configFault := by
  simp [commandRelay]

@[simp] theorem takeTrip_fields (cause : ProgramFault) (s : State) :
    (takeTrip cause s).share.floor = s.share.floor ∧ (takeTrip cause s).share.link = s.share.link
      ∧ (takeTrip cause s).share.tripSet = s.share.tripSet ∧ (takeTrip cause s).share.table = s.share.table
      ∧ (takeTrip cause s).line.numberClash = s.line.numberClash ∧ (takeTrip cause s).steam.acid = s.steam.acid
      ∧ (takeTrip cause s).superv.welded = s.superv.welded
      ∧ (takeTrip cause s).superv.configFault = s.superv.configFault
      ∧ (takeTrip cause s).recipe.store = s.recipe.store
      ∧ (takeTrip cause s).climate.doorOpen = s.climate.doorOpen ∧ (takeTrip cause s).power.freq = s.power.freq
      ∧ (takeTrip cause s).power.want = s.power.want := by
  unfold takeTrip
  (repeat' split) <;> simp

@[simp] theorem beginCut_fields (s : State) :
    (beginCut s).share.floor = s.share.floor ∧ (beginCut s).share.link = s.share.link
      ∧ (beginCut s).share.tripSet = s.share.tripSet ∧ (beginCut s).share.table = s.share.table
      ∧ (beginCut s).line.numberClash = s.line.numberClash ∧ (beginCut s).steam.acid = s.steam.acid
      ∧ (beginCut s).recipe.state = s.recipe.state ∧ (beginCut s).recipe.store = s.recipe.store
      ∧ (beginCut s).recipe.cur = s.recipe.cur ∧ (beginCut s).descale.phase = s.descale.phase
      ∧ (beginCut s).climate.doorOpen = s.climate.doorOpen ∧ (beginCut s).power.freq = s.power.freq
      ∧ (beginCut s).power.want = s.power.want := by
  simp [beginCut]

@[simp] theorem judgeChannelSides_fields (c : Channel) (s : State) :
    (judgeChannelSides c s).superv.relayClosed = s.superv.relayClosed
      ∧ (judgeChannelSides c s).superv.trip = s.superv.trip
      ∧ (judgeChannelSides c s).superv.welded = s.superv.welded
      ∧ (judgeChannelSides c s).superv.configFault = s.superv.configFault := by
  simp only [judgeChannelSides]
  (repeat' split) <;> simp

@[simp] theorem judgeFixed_fields (s : State) :
    (judgeFixed s).superv.relayClosed = s.superv.relayClosed ∧ (judgeFixed s).superv.trip = s.superv.trip
      ∧ (judgeFixed s).superv.welded = s.superv.welded
      ∧ (judgeFixed s).superv.configFault = s.superv.configFault := by
  unfold judgeFixed
  (repeat' split) <;> simp

@[simp] theorem judgeReadings_fields (s : State) :
    (judgeReadings s).superv.relayClosed = s.superv.relayClosed
      ∧ (judgeReadings s).superv.trip = s.superv.trip
      ∧ (judgeReadings s).superv.welded = s.superv.welded
      ∧ (judgeReadings s).superv.configFault = s.superv.configFault := by
  simp [judgeReadings]

@[simp] theorem startExcursion_fields (c : Channel) (d : Side) (s : State) :
    (startExcursion c d s).share.floor = s.share.floor ∧ (startExcursion c d s).share.link = s.share.link
      ∧ (startExcursion c d s).share.tripSet = s.share.tripSet
      ∧ (startExcursion c d s).share.table = s.share.table
      ∧ (startExcursion c d s).line.numberClash = s.line.numberClash
      ∧ (startExcursion c d s).steam.acid = s.steam.acid ∧ (startExcursion c d s).recipe.store = s.recipe.store
      ∧ (startExcursion c d s).climate.doorOpen = s.climate.doorOpen
      ∧ (startExcursion c d s).power.freq = s.power.freq ∧ (startExcursion c d s).power.want = s.power.want := by
  simp only [startExcursion]
  (repeat' split) <;> simp

@[simp] theorem debounced_fields (c : Channel) (d : Side) (s : State) :
    (debounced c d s).share.floor = s.share.floor ∧ (debounced c d s).share.link = s.share.link
      ∧ (debounced c d s).share.tripSet = s.share.tripSet ∧ (debounced c d s).share.table = s.share.table
      ∧ (debounced c d s).line.numberClash = s.line.numberClash ∧ (debounced c d s).steam.acid = s.steam.acid
      ∧ (debounced c d s).recipe.store = s.recipe.store
      ∧ (debounced c d s).climate.doorOpen = s.climate.doorOpen ∧ (debounced c d s).power.freq = s.power.freq
      ∧ (debounced c d s).power.want = s.power.want := by
  unfold debounced
  (repeat' split) <;> simp

@[simp] theorem startWaiting_fields (c : Channel) (d : Side) (s : State) :
    (startWaiting c d s).share.floor = s.share.floor ∧ (startWaiting c d s).share.link = s.share.link
      ∧ (startWaiting c d s).share.tripSet = s.share.tripSet ∧ (startWaiting c d s).share.table = s.share.table
      ∧ (startWaiting c d s).line.numberClash = s.line.numberClash
      ∧ (startWaiting c d s).steam.acid = s.steam.acid ∧ (startWaiting c d s).recipe.store = s.recipe.store
      ∧ (startWaiting c d s).climate.doorOpen = s.climate.doorOpen
      ∧ (startWaiting c d s).power.freq = s.power.freq ∧ (startWaiting c d s).power.want = s.power.want := by
  unfold startWaiting
  (repeat' split) <;> simp

@[simp] theorem endExcursion_fields (c : Channel) (d : Side) (s : State) :
    (endExcursion c d s).share.floor = s.share.floor ∧ (endExcursion c d s).share.link = s.share.link
      ∧ (endExcursion c d s).share.tripSet = s.share.tripSet ∧ (endExcursion c d s).share.table = s.share.table
      ∧ (endExcursion c d s).line.numberClash = s.line.numberClash
      ∧ (endExcursion c d s).steam.acid = s.steam.acid ∧ (endExcursion c d s).recipe.store = s.recipe.store
      ∧ (endExcursion c d s).climate.doorOpen = s.climate.doorOpen
      ∧ (endExcursion c d s).power.freq = s.power.freq ∧ (endExcursion c d s).power.want = s.power.want := by
  simp [endExcursion]

@[simp] theorem excursionStart_fields (c : Channel) (d : Side) (s : State) :
    (excursionStart c d s).share.floor = s.share.floor ∧ (excursionStart c d s).share.link = s.share.link
      ∧ (excursionStart c d s).share.tripSet = s.share.tripSet
      ∧ (excursionStart c d s).share.table = s.share.table
      ∧ (excursionStart c d s).line.numberClash = s.line.numberClash
      ∧ (excursionStart c d s).steam.acid = s.steam.acid ∧ (excursionStart c d s).recipe.store = s.recipe.store
      ∧ (excursionStart c d s).climate.doorOpen = s.climate.doorOpen
      ∧ (excursionStart c d s).power.freq = s.power.freq ∧ (excursionStart c d s).power.want = s.power.want := by
  unfold excursionStart
  (repeat' split) <;> simp

@[simp] theorem excursionEnd_fields (c : Channel) (d : Side) (s : State) :
    (excursionEnd c d s).share.floor = s.share.floor ∧ (excursionEnd c d s).share.link = s.share.link
      ∧ (excursionEnd c d s).share.tripSet = s.share.tripSet ∧ (excursionEnd c d s).share.table = s.share.table
      ∧ (excursionEnd c d s).line.numberClash = s.line.numberClash
      ∧ (excursionEnd c d s).steam.acid = s.steam.acid ∧ (excursionEnd c d s).recipe.store = s.recipe.store
      ∧ (excursionEnd c d s).climate.doorOpen = s.climate.doorOpen
      ∧ (excursionEnd c d s).power.freq = s.power.freq ∧ (excursionEnd c d s).power.want = s.power.want := by
  unfold excursionEnd
  (repeat' split) <;> simp

@[simp] theorem probeInput_fields (shows : Bool) (s : State) :
    (probeInput shows s).recipe.state = s.recipe.state ∧ (probeInput shows s).recipe.store = s.recipe.store
      ∧ (probeInput shows s).recipe.cur = s.recipe.cur := by
  simp [probeInput]

@[simp] theorem sensorReading_fields (x : SensorInputs) (s : State) :
    (sensorReading x s).share.floor = s.share.floor ∧ (sensorReading x s).share.link = s.share.link
      ∧ (sensorReading x s).share.tripSet = s.share.tripSet ∧ (sensorReading x s).share.table = s.share.table
      ∧ (sensorReading x s).line.numberClash = s.line.numberClash
      ∧ (sensorReading x s).steam.acid = s.steam.acid
      ∧ (sensorReading x s).superv.relayClosed = s.superv.relayClosed
      ∧ (sensorReading x s).superv.trip = s.superv.trip ∧ (sensorReading x s).superv.welded = s.superv.welded
      ∧ (sensorReading x s).superv.configFault = s.superv.configFault
      ∧ (sensorReading x s).recipe.store = s.recipe.store
      ∧ (sensorReading x s).climate.doorOpen = s.climate.doorOpen
      ∧ (sensorReading x s).power.freq = s.power.freq ∧ (sensorReading x s).power.want = s.power.want := by
  simp [sensorReading]

@[simp] theorem channelFails_fields (c : Channel) (s : State) :
    (channelFails c s).share.floor = s.share.floor ∧ (channelFails c s).share.link = s.share.link
      ∧ (channelFails c s).share.tripSet = s.share.tripSet ∧ (channelFails c s).share.table = s.share.table
      ∧ (channelFails c s).line.numberClash = s.line.numberClash ∧ (channelFails c s).steam.acid = s.steam.acid
      ∧ (channelFails c s).superv.relayClosed = s.superv.relayClosed
      ∧ (channelFails c s).superv.trip = s.superv.trip ∧ (channelFails c s).superv.welded = s.superv.welded
      ∧ (channelFails c s).superv.configFault = s.superv.configFault
      ∧ (channelFails c s).recipe.state = s.recipe.state ∧ (channelFails c s).recipe.store = s.recipe.store
      ∧ (channelFails c s).recipe.cur = s.recipe.cur ∧ (channelFails c s).descale.phase = s.descale.phase
      ∧ (channelFails c s).power.freq = s.power.freq ∧ (channelFails c s).power.want = s.power.want := by
  simp only [channelFails]
  (repeat' split) <;> simp

@[simp] theorem presentMains_fields (v : Nat) (s : State) :
    (presentMains v s).superv.relayClosed = s.superv.relayClosed
      ∧ (presentMains v s).superv.trip = s.superv.trip ∧ (presentMains v s).superv.welded = s.superv.welded
      ∧ (presentMains v s).superv.configFault = s.superv.configFault := by
  simp [presentMains]

@[simp] theorem endCoreExcursion_fields (d : Side) (s : State) :
    (endCoreExcursion d s).share.floor = s.share.floor ∧ (endCoreExcursion d s).share.link = s.share.link
      ∧ (endCoreExcursion d s).share.tripSet = s.share.tripSet
      ∧ (endCoreExcursion d s).share.table = s.share.table
      ∧ (endCoreExcursion d s).line.numberClash = s.line.numberClash
      ∧ (endCoreExcursion d s).steam.acid = s.steam.acid ∧ (endCoreExcursion d s).recipe.store = s.recipe.store
      ∧ (endCoreExcursion d s).climate.doorOpen = s.climate.doorOpen
      ∧ (endCoreExcursion d s).power.freq = s.power.freq ∧ (endCoreExcursion d s).power.want = s.power.want := by
  unfold endCoreExcursion
  (repeat' split) <;> simp

@[simp] theorem probeLost_fields (s : State) :
    (probeLost s).share.floor = s.share.floor ∧ (probeLost s).share.link = s.share.link
      ∧ (probeLost s).share.tripSet = s.share.tripSet ∧ (probeLost s).share.table = s.share.table
      ∧ (probeLost s).line.numberClash = s.line.numberClash ∧ (probeLost s).steam.acid = s.steam.acid
      ∧ (probeLost s).recipe.store = s.recipe.store ∧ (probeLost s).climate.doorOpen = s.climate.doorOpen
      ∧ (probeLost s).power.freq = s.power.freq ∧ (probeLost s).power.want = s.power.want := by
  simp [probeLost]

@[simp] theorem probeStateChange_fields (s : State) :
    (probeStateChange s).share.floor = s.share.floor ∧ (probeStateChange s).share.link = s.share.link
      ∧ (probeStateChange s).share.tripSet = s.share.tripSet ∧ (probeStateChange s).share.table = s.share.table
      ∧ (probeStateChange s).line.numberClash = s.line.numberClash
      ∧ (probeStateChange s).steam.acid = s.steam.acid ∧ (probeStateChange s).recipe.store = s.recipe.store
      ∧ (probeStateChange s).climate.doorOpen = s.climate.doorOpen
      ∧ (probeStateChange s).power.freq = s.power.freq ∧ (probeStateChange s).power.want = s.power.want := by
  unfold probeStateChange
  (repeat' split) <;> simp

@[simp] theorem relayFeedback_fields (closed : Bool) (s : State) :
    (relayFeedback closed s).superv.relayClosed = s.superv.relayClosed
      ∧ (relayFeedback closed s).superv.trip = s.superv.trip
      ∧ (relayFeedback closed s).superv.welded = s.superv.welded
      ∧ (relayFeedback closed s).superv.configFault = s.superv.configFault := by
  simp [relayFeedback]

@[simp] theorem relayOpenFault_fields (s : State) :
    (relayOpenFault s).share.floor = s.share.floor ∧ (relayOpenFault s).share.link = s.share.link
      ∧ (relayOpenFault s).share.tripSet = s.share.tripSet ∧ (relayOpenFault s).share.table = s.share.table
      ∧ (relayOpenFault s).line.numberClash = s.line.numberClash ∧ (relayOpenFault s).steam.acid = s.steam.acid
      ∧ (relayOpenFault s).superv.welded = s.superv.welded
      ∧ (relayOpenFault s).superv.configFault = s.superv.configFault
      ∧ (relayOpenFault s).recipe.store = s.recipe.store
      ∧ (relayOpenFault s).climate.doorOpen = s.climate.doorOpen ∧ (relayOpenFault s).power.freq = s.power.freq
      ∧ (relayOpenFault s).power.want = s.power.want := by
  unfold relayOpenFault
  (repeat' split) <;> simp

@[simp] theorem relayWelded_fields (s : State) :
    (relayWelded s).share.floor = s.share.floor ∧ (relayWelded s).share.link = s.share.link
      ∧ (relayWelded s).share.tripSet = s.share.tripSet ∧ (relayWelded s).share.table = s.share.table
      ∧ (relayWelded s).line.numberClash = s.line.numberClash ∧ (relayWelded s).steam.acid = s.steam.acid
      ∧ (relayWelded s).superv.relayClosed = s.superv.relayClosed ∧ (relayWelded s).superv.trip = s.superv.trip
      ∧ (relayWelded s).superv.configFault = s.superv.configFault
      ∧ (relayWelded s).recipe.state = s.recipe.state ∧ (relayWelded s).recipe.store = s.recipe.store
      ∧ (relayWelded s).recipe.cur = s.recipe.cur ∧ (relayWelded s).power.freq = s.power.freq
      ∧ (relayWelded s).power.want = s.power.want := by
  unfold relayWelded
  (repeat' split) <;> simp

@[simp] theorem relayRestore_fields (s : State) :
    (relayRestore s).line.numberClash = s.line.numberClash ∧ (relayRestore s).superv.welded = s.superv.welded
      ∧ (relayRestore s).superv.configFault = s.superv.configFault := by
  unfold relayRestore
  (repeat' split) <;> simp

@[simp] theorem startCheck_fields (s : State) :
    (startCheck s).superv.trip = s.superv.trip ∧ (startCheck s).superv.welded = s.superv.welded
      ∧ (startCheck s).superv.configFault = s.superv.configFault := by
  unfold startCheck
  (repeat' split) <;> simp

@[simp] theorem clearJudging_fields (s : State) :
    (clearJudging s).superv.relayClosed = s.superv.relayClosed
      ∧ (clearJudging s).superv.trip = s.superv.trip
      ∧ (clearJudging s).superv.welded = s.superv.welded
      ∧ (clearJudging s).superv.configFault = s.superv.configFault := by
  simp [clearJudging]

@[simp] theorem startJudging_fields (s : State) :
    (startJudging s).superv.relayClosed = s.superv.relayClosed ∧ (startJudging s).superv.trip = s.superv.trip
      ∧ (startJudging s).superv.welded = s.superv.welded
      ∧ (startJudging s).superv.configFault = s.superv.configFault := by
  simp [startJudging]

@[simp] theorem takeConfigFault_fields (s : State) :
    (takeConfigFault s).share.floor = s.share.floor ∧ (takeConfigFault s).share.link = s.share.link
      ∧ (takeConfigFault s).share.tripSet = s.share.tripSet ∧ (takeConfigFault s).share.table = s.share.table
      ∧ (takeConfigFault s).line.numberClash = s.line.numberClash
      ∧ (takeConfigFault s).steam.acid = s.steam.acid ∧ (takeConfigFault s).superv.welded = s.superv.welded
      ∧ (takeConfigFault s).recipe.store = s.recipe.store
      ∧ (takeConfigFault s).climate.doorOpen = s.climate.doorOpen
      ∧ (takeConfigFault s).power.freq = s.power.freq ∧ (takeConfigFault s).power.want = s.power.want := by
  simp [takeConfigFault]

@[simp] theorem configCheck_fields (s : State) :
    (configCheck s).share.floor = s.share.floor ∧ (configCheck s).share.link = s.share.link
      ∧ (configCheck s).share.tripSet = s.share.tripSet ∧ (configCheck s).share.table = s.share.table
      ∧ (configCheck s).line.numberClash = s.line.numberClash ∧ (configCheck s).steam.acid = s.steam.acid
      ∧ (configCheck s).superv.welded = s.superv.welded ∧ (configCheck s).recipe.store = s.recipe.store
      ∧ (configCheck s).climate.doorOpen = s.climate.doorOpen ∧ (configCheck s).power.freq = s.power.freq
      ∧ (configCheck s).power.want = s.power.want := by
  unfold configCheck
  (repeat' split) <;> simp

end Sys2Proof.Machine
end

