-- ==== Sys2Proof/Laws/LineFields.lean ====
section
/-!
SUPPORT. For each operation of the scheduler, the shares, the line, the generator's events and start-up: the fields that it
leaves as they are in the blocks it changes, for the fields that the rules hold fixed (numbers, configuration, faults, holds,
states).
-/
namespace Sys2Proof.Machine

@[simp] theorem decideMainsFault_fields (tenths : Nat) (half : Option Nat) (s : State) :
    (decideMainsFault tenths half s).line.numberClash = s.line.numberClash
      ∧ (decideMainsFault tenths half s).power.want = s.power.want := by
  simp [decideMainsFault]

@[simp] theorem decideFrequency_fields (total : Nat) (s : State) :
    (decideFrequency total s).line.numberClash = s.line.numberClash
      ∧ (decideFrequency total s).power.want = s.power.want := by
  simp only [decideFrequency]
  (repeat' split) <;> simp

@[simp] theorem timeCrossing_fields (interval : Nat) (s : State) :
    (timeCrossing interval s).line.numberClash = s.line.numberClash
      ∧ (timeCrossing interval s).power.want = s.power.want := by
  unfold timeCrossing
  (repeat' split) <;> simp

@[simp] theorem frequencyTimeout_fields (s : State) :
    (frequencyTimeout s).line.numberClash = s.line.numberClash ∧ (frequencyTimeout s).power.want = s.power.want := by
  unfold frequencyTimeout
  (repeat' split) <;> simp

@[simp] theorem driveSlot_fields (k : Nat) (s : State) :
    (driveSlot k s).power.freq = s.power.freq ∧ (driveSlot k s).power.want = s.power.want := by
  simp [driveSlot]

@[simp] theorem layOut_fields (volts : Option Nat) (s : State) :
    (layOut volts s).power.freq = s.power.freq := by
  simp [layOut]

@[simp] theorem frameStart_fields (volts : Option Nat) (s : State) :
    (frameStart volts s).share.floor = s.share.floor ∧ (frameStart volts s).share.link = s.share.link
      ∧ (frameStart volts s).share.tripSet = s.share.tripSet ∧ (frameStart volts s).share.table = s.share.table
      ∧ (frameStart volts s).line.numberClash = s.line.numberClash
      ∧ (frameStart volts s).steam.acid = s.steam.acid ∧ (frameStart volts s).recipe.state = s.recipe.state
      ∧ (frameStart volts s).recipe.store = s.recipe.store ∧ (frameStart volts s).recipe.cur = s.recipe.cur
      ∧ (frameStart volts s).descale.phase = s.descale.phase ∧ (frameStart volts s).power.freq = s.power.freq := by
  simp [frameStart]

@[simp] theorem completeFrame_fields (volts : Nat) (s : State) :
    (completeFrame volts s).superv.relayClosed = s.superv.relayClosed
      ∧ (completeFrame volts s).superv.trip = s.superv.trip
      ∧ (completeFrame volts s).superv.welded = s.superv.welded
      ∧ (completeFrame volts s).superv.configFault = s.superv.configFault
      ∧ (completeFrame volts s).descale.phase = s.descale.phase
      ∧ (completeFrame volts s).power.freq = s.power.freq ∧ (completeFrame volts s).power.want = s.power.want := by
  simp [completeFrame]

@[simp] theorem zeroCrossing_fields (interval volts : Nat) (s : State) :
    (zeroCrossing interval volts s).share.floor = s.share.floor
      ∧ (zeroCrossing interval volts s).share.link = s.share.link
      ∧ (zeroCrossing interval volts s).share.tripSet = s.share.tripSet
      ∧ (zeroCrossing interval volts s).share.table = s.share.table
      ∧ (zeroCrossing interval volts s).line.numberClash = s.line.numberClash
      ∧ (zeroCrossing interval volts s).steam.acid = s.steam.acid
      ∧ (zeroCrossing interval volts s).superv.relayClosed = s.superv.relayClosed
      ∧ (zeroCrossing interval volts s).superv.trip = s.superv.trip
      ∧ (zeroCrossing interval volts s).superv.welded = s.superv.welded
      ∧ (zeroCrossing interval volts s).superv.configFault = s.superv.configFault
      ∧ (zeroCrossing interval volts s).recipe.state = s.recipe.state
      ∧ (zeroCrossing interval volts s).recipe.store = s.recipe.store
      ∧ (zeroCrossing interval volts s).recipe.cur = s.recipe.cur
      ∧ (zeroCrossing interval volts s).descale.phase = s.descale.phase := by
  simp only [zeroCrossing]
  (repeat' split) <;> simp

@[simp] theorem abandonFrame_fields (s : State) :
    (abandonFrame s).power.freq = s.power.freq ∧ (abandonFrame s).power.want = s.power.want := by
  simp [abandonFrame]

@[simp] theorem releaseGates_fields (s : State) :
    (releaseGates s).power.freq = s.power.freq ∧ (releaseGates s).power.want = s.power.want := by
  simp [releaseGates]

@[simp] theorem missedCrossing_fields (s : State) :
    (missedCrossing s).share.floor = s.share.floor ∧ (missedCrossing s).share.link = s.share.link
      ∧ (missedCrossing s).share.tripSet = s.share.tripSet ∧ (missedCrossing s).share.table = s.share.table
      ∧ (missedCrossing s).line.numberClash = s.line.numberClash ∧ (missedCrossing s).steam.acid = s.steam.acid
      ∧ (missedCrossing s).superv.relayClosed = s.superv.relayClosed
      ∧ (missedCrossing s).superv.trip = s.superv.trip ∧ (missedCrossing s).superv.welded = s.superv.welded
      ∧ (missedCrossing s).superv.configFault = s.superv.configFault
      ∧ (missedCrossing s).recipe.state = s.recipe.state ∧ (missedCrossing s).recipe.store = s.recipe.store
      ∧ (missedCrossing s).recipe.cur = s.recipe.cur ∧ (missedCrossing s).descale.phase = s.descale.phase
      ∧ (missedCrossing s).power.freq = s.power.freq ∧ (missedCrossing s).power.want = s.power.want := by
  simp only [missedCrossing]
  (repeat' split) <;> simp

@[simp] theorem supplyStarved_fields (s : State) :
    (supplyStarved s).line.numberClash = s.line.numberClash ∧ (supplyStarved s).power.freq = s.power.freq
      ∧ (supplyStarved s).power.want = s.power.want := by
  unfold supplyStarved
  (repeat' split) <;> simp

@[simp] theorem refreshSender_fields (n : Nat) (s : State) :
    (refreshSender n s).share.floor = s.share.floor ∧ (refreshSender n s).share.link = s.share.link
      ∧ (refreshSender n s).share.tripSet = s.share.tripSet ∧ (refreshSender n s).share.holds = s.share.holds := by
  simp [refreshSender]

@[simp] theorem correct_fields (p : Pool) (s : State) :
    (correct p s).share.floor = s.share.floor ∧ (correct p s).share.link = s.share.link
      ∧ (correct p s).share.tripSet = s.share.tripSet ∧ (correct p s).share.table = s.share.table
      ∧ (correct p s).line.numberClash = s.line.numberClash ∧ (correct p s).power.freq = s.power.freq
      ∧ (correct p s).power.want = s.power.want := by
  simp [correct]

@[simp] theorem correctIfRisen_fields (before : State) (p : Pool) (s : State) :
    (correctIfRisen before p s).share.floor = s.share.floor
      ∧ (correctIfRisen before p s).share.link = s.share.link
      ∧ (correctIfRisen before p s).share.tripSet = s.share.tripSet
      ∧ (correctIfRisen before p s).share.table = s.share.table
      ∧ (correctIfRisen before p s).line.numberClash = s.line.numberClash
      ∧ (correctIfRisen before p s).power.freq = s.power.freq
      ∧ (correctIfRisen before p s).power.want = s.power.want := by
  unfold correctIfRisen
  (repeat' split) <;> simp

@[simp] theorem evalIfChanged_fields (before : State) (p : Pool) (s : State) :
    (evalIfChanged before p s).line.numberClash = s.line.numberClash := by
  unfold evalIfChanged
  (repeat' split) <;> simp

@[simp] theorem afterRecording_fields (before s : State) :
    (afterRecording before s).share.floor = s.share.floor ∧ (afterRecording before s).share.link = s.share.link
      ∧ (afterRecording before s).share.tripSet = s.share.tripSet
      ∧ (afterRecording before s).share.table = s.share.table
      ∧ (afterRecording before s).line.numberClash = s.line.numberClash
      ∧ (afterRecording before s).power.freq = s.power.freq
      ∧ (afterRecording before s).power.want = s.power.want := by
  simp [afterRecording]

@[simp] theorem record_fields (n : Nat) (f : Entry → Entry) (s : State) :
    (record n f s).share.floor = s.share.floor ∧ (record n f s).share.link = s.share.link
      ∧ (record n f s).share.tripSet = s.share.tripSet ∧ (record n f s).line.numberClash = s.line.numberClash
      ∧ (record n f s).power.freq = s.power.freq ∧ (record n f s).power.want = s.power.want := by
  unfold record
  (repeat' split) <;> simp

@[simp] theorem recordShare_fields (n : Nat) (p : Pool) (group : Byte) (hold : Word16) (s : State) :
    (recordShare n p group hold s).share.floor = s.share.floor
      ∧ (recordShare n p group hold s).share.link = s.share.link
      ∧ (recordShare n p group hold s).share.tripSet = s.share.tripSet
      ∧ (recordShare n p group hold s).line.numberClash = s.line.numberClash
      ∧ (recordShare n p group hold s).power.freq = s.power.freq
      ∧ (recordShare n p group hold s).power.want = s.power.want := by
  simp [recordShare]

@[simp] theorem dropInlet_fields (s : State) :
    (dropInlet s).share.floor = s.share.floor ∧ (dropInlet s).share.link = s.share.link
      ∧ (dropInlet s).share.tripSet = s.share.tripSet ∧ (dropInlet s).share.table = s.share.table
      ∧ (dropInlet s).line.numberClash = s.line.numberClash ∧ (dropInlet s).power.freq = s.power.freq
      ∧ (dropInlet s).power.want = s.power.want := by
  simp [dropInlet]

@[simp] theorem addOrigin_fields (n : Nat) (s : State) :
    (addOrigin n s).share.floor = s.share.floor ∧ (addOrigin n s).share.link = s.share.link
      ∧ (addOrigin n s).share.table = s.share.table ∧ (addOrigin n s).line.numberClash = s.line.numberClash
      ∧ (addOrigin n s).power.freq = s.power.freq ∧ (addOrigin n s).power.want = s.power.want := by
  unfold addOrigin
  (repeat' split) <;> simp

@[simp] theorem learnOrigin_fields (n : Nat) (s : State) :
    (learnOrigin n s).share.floor = s.share.floor ∧ (learnOrigin n s).share.link = s.share.link
      ∧ (learnOrigin n s).share.table = s.share.table ∧ (learnOrigin n s).line.numberClash = s.line.numberClash
      ∧ (learnOrigin n s).power.freq = s.power.freq ∧ (learnOrigin n s).power.want = s.power.want := by
  unfold learnOrigin
  (repeat' split) <;> simp

@[simp] theorem removeOrigin_fields (n : Nat) (s : State) :
    (removeOrigin n s).share.floor = s.share.floor ∧ (removeOrigin n s).share.link = s.share.link
      ∧ (removeOrigin n s).share.holds = s.share.holds ∧ (removeOrigin n s).share.table = s.share.table
      ∧ (removeOrigin n s).line.numberClash = s.line.numberClash := by
  simp only [removeOrigin]
  (repeat' split) <;> simp

@[simp] theorem takeWaterTrip_fields (type origin group : Byte) (s : State) :
    (takeWaterTrip type origin group s).share.floor = s.share.floor
      ∧ (takeWaterTrip type origin group s).share.link = s.share.link
      ∧ (takeWaterTrip type origin group s).share.table = s.share.table
      ∧ (takeWaterTrip type origin group s).line.numberClash = s.line.numberClash
      ∧ (takeWaterTrip type origin group s).power.freq = s.power.freq
      ∧ (takeWaterTrip type origin group s).power.want = s.power.want := by
  unfold takeWaterTrip
  (repeat' split) <;> simp

@[simp] theorem takeTripClear_fields (sender : Nat) (type origin group : Byte) (s : State) :
    (takeTripClear sender type origin group s).share.floor = s.share.floor
      ∧ (takeTripClear sender type origin group s).share.link = s.share.link
      ∧ (takeTripClear sender type origin group s).share.holds = s.share.holds
      ∧ (takeTripClear sender type origin group s).share.table = s.share.table
      ∧ (takeTripClear sender type origin group s).line.numberClash = s.line.numberClash := by
  unfold takeTripClear
  (repeat' split) <;> simp

@[simp] theorem leakFlag_fields (n : Nat) (b : StatusBody) (s : State) :
    (leakFlag n b s).share.floor = s.share.floor ∧ (leakFlag n b s).share.link = s.share.link
      ∧ (leakFlag n b s).share.table = s.share.table ∧ (leakFlag n b s).line.numberClash = s.line.numberClash
      ∧ (leakFlag n b s).power.freq = s.power.freq ∧ (leakFlag n b s).power.want = s.power.want := by
  unfold leakFlag
  (repeat' split) <;> simp

@[simp] theorem recordStatus_fields (n : Nat) (b : StatusBody) (s : State) :
    (recordStatus n b s).share.floor = s.share.floor ∧ (recordStatus n b s).share.link = s.share.link
      ∧ (recordStatus n b s).line.numberClash = s.line.numberClash
      ∧ (recordStatus n b s).power.freq = s.power.freq ∧ (recordStatus n b s).power.want = s.power.want := by
  unfold recordStatus
  (repeat' split) <;> simp

@[simp] theorem takeYield_fields (group : Byte) (need : Word16) (s : State) :
    (takeYield group need s).share.floor = s.share.floor ∧ (takeYield group need s).share.link = s.share.link
      ∧ (takeYield group need s).share.tripSet = s.share.tripSet
      ∧ (takeYield group need s).share.table = s.share.table
      ∧ (takeYield group need s).line.numberClash = s.line.numberClash
      ∧ (takeYield group need s).power.freq = s.power.freq ∧ (takeYield group need s).power.want = s.power.want := by
  unfold takeYield
  (repeat' split) <;> simp

@[simp] theorem isolate_fields (s : State) :
    (isolate s).share.floor = s.share.floor ∧ (isolate s).share.tripSet = s.share.tripSet
      ∧ (isolate s).share.table = s.share.table ∧ (isolate s).line.numberClash = s.line.numberClash
      ∧ (isolate s).power.freq = s.power.freq ∧ (isolate s).power.want = s.power.want := by
  simp [isolate]

@[simp] theorem openJoinWindow_fields (s : State) :
    (openJoinWindow s).share.floor = s.share.floor ∧ (openJoinWindow s).share.tripSet = s.share.tripSet
      ∧ (openJoinWindow s).share.holds = s.share.holds ∧ (openJoinWindow s).share.table = s.share.table
      ∧ (openJoinWindow s).line.numberClash = s.line.numberClash := by
  simp [openJoinWindow]

@[simp] theorem lineIsolated_fields (s : State) :
    (lineIsolated s).share.floor = s.share.floor ∧ (lineIsolated s).share.tripSet = s.share.tripSet
      ∧ (lineIsolated s).share.table = s.share.table ∧ (lineIsolated s).line.numberClash = s.line.numberClash
      ∧ (lineIsolated s).steam.acid = s.steam.acid ∧ (lineIsolated s).recipe.state = s.recipe.state
      ∧ (lineIsolated s).recipe.store = s.recipe.store ∧ (lineIsolated s).recipe.cur = s.recipe.cur
      ∧ (lineIsolated s).descale.phase = s.descale.phase ∧ (lineIsolated s).power.freq = s.power.freq
      ∧ (lineIsolated s).power.want = s.power.want := by
  unfold lineIsolated
  (repeat' split) <;> simp

@[simp] theorem lineLost_fields (s : State) :
    (lineLost s).share.floor = s.share.floor ∧ (lineLost s).share.link = s.share.link
      ∧ (lineLost s).share.tripSet = s.share.tripSet ∧ (lineLost s).share.table = s.share.table
      ∧ (lineLost s).line.numberClash = s.line.numberClash ∧ (lineLost s).steam.acid = s.steam.acid
      ∧ (lineLost s).recipe.store = s.recipe.store ∧ (lineLost s).descale.phase = s.descale.phase
      ∧ (lineLost s).climate.doorOpen = s.climate.doorOpen ∧ (lineLost s).power.freq = s.power.freq
      ∧ (lineLost s).power.want = s.power.want := by
  unfold lineLost
  (repeat' split) <;> simp

@[simp] theorem joinWindowEnd_fields (s : State) :
    (joinWindowEnd s).share.floor = s.share.floor ∧ (joinWindowEnd s).share.tripSet = s.share.tripSet
      ∧ (joinWindowEnd s).share.holds = s.share.holds ∧ (joinWindowEnd s).share.table = s.share.table
      ∧ (joinWindowEnd s).line.numberClash = s.line.numberClash := by
  unfold joinWindowEnd
  (repeat' split) <;> simp

@[simp] theorem yieldBackoffEnd_fields (s : State) :
    (yieldBackoffEnd s).share.floor = s.share.floor ∧ (yieldBackoffEnd s).share.link = s.share.link
      ∧ (yieldBackoffEnd s).share.tripSet = s.share.tripSet ∧ (yieldBackoffEnd s).share.holds = s.share.holds
      ∧ (yieldBackoffEnd s).share.table = s.share.table := by
  simp [yieldBackoffEnd]

@[simp] theorem statusPeriod_fields (s : State) :
    (statusPeriod s).share.floor = s.share.floor ∧ (statusPeriod s).share.link = s.share.link
      ∧ (statusPeriod s).share.tripSet = s.share.tripSet ∧ (statusPeriod s).share.holds = s.share.holds
      ∧ (statusPeriod s).share.table = s.share.table ∧ (statusPeriod s).line.numberClash = s.line.numberClash := by
  unfold statusPeriod
  (repeat' split) <;> simp

@[simp] theorem waterRaiseRetry_fields (s : State) :
    (waterRaiseRetry s).share.floor = s.share.floor ∧ (waterRaiseRetry s).share.link = s.share.link
      ∧ (waterRaiseRetry s).share.tripSet = s.share.tripSet ∧ (waterRaiseRetry s).share.holds = s.share.holds
      ∧ (waterRaiseRetry s).share.table = s.share.table
      ∧ (waterRaiseRetry s).line.numberClash = s.line.numberClash := by
  simp [waterRaiseRetry]

@[simp] theorem evalFor_fields (e : Entry) (s : State) :
    (evalFor e s).line.numberClash = s.line.numberClash := by
  unfold evalFor
  (repeat' split) <;> simp

@[simp] theorem entryExpired_fields (n : Nat) (s : State) :
    (entryExpired n s).share.floor = s.share.floor ∧ (entryExpired n s).share.link = s.share.link
      ∧ (entryExpired n s).share.tripSet = s.share.tripSet ∧ (entryExpired n s).share.holds = s.share.holds
      ∧ (entryExpired n s).line.numberClash = s.line.numberClash := by
  unfold entryExpired
  (repeat' split) <;> simp

@[simp] theorem entryRemoved_fields (n : Nat) (s : State) :
    (entryRemoved n s).share.floor = s.share.floor ∧ (entryRemoved n s).share.link = s.share.link
      ∧ (entryRemoved n s).share.tripSet = s.share.tripSet ∧ (entryRemoved n s).share.holds = s.share.holds
      ∧ (entryRemoved n s).line.numberClash = s.line.numberClash := by
  unfold entryRemoved
  (repeat' split) <;> simp

@[simp] theorem leakInput_fields (wet : Bool) (s : State) :
    (leakInput wet s).share.floor = s.share.floor ∧ (leakInput wet s).share.link = s.share.link
      ∧ (leakInput wet s).share.tripSet = s.share.tripSet ∧ (leakInput wet s).share.holds = s.share.holds
      ∧ (leakInput wet s).share.table = s.share.table := by
  simp [leakInput]

@[simp] theorem tellLeak_fields (s : State) :
    (tellLeak s).share.floor = s.share.floor ∧ (tellLeak s).share.link = s.share.link
      ∧ (tellLeak s).share.tripSet = s.share.tripSet ∧ (tellLeak s).share.holds = s.share.holds
      ∧ (tellLeak s).share.table = s.share.table ∧ (tellLeak s).line.numberClash = s.line.numberClash := by
  unfold tellLeak
  (repeat' split) <;> simp

@[simp] theorem leakChanged_fields (s : State) :
    (leakChanged s).share.floor = s.share.floor ∧ (leakChanged s).share.link = s.share.link
      ∧ (leakChanged s).share.tripSet = s.share.tripSet ∧ (leakChanged s).share.holds = s.share.holds
      ∧ (leakChanged s).share.table = s.share.table ∧ (leakChanged s).line.numberClash = s.line.numberClash := by
  unfold leakChanged
  (repeat' split) <;> simp

@[simp] theorem tellOwedLeak_fields (s : State) :
    (tellOwedLeak s).share.floor = s.share.floor ∧ (tellOwedLeak s).share.link = s.share.link
      ∧ (tellOwedLeak s).share.tripSet = s.share.tripSet ∧ (tellOwedLeak s).share.holds = s.share.holds
      ∧ (tellOwedLeak s).share.table = s.share.table ∧ (tellOwedLeak s).line.numberClash = s.line.numberClash := by
  unfold tellOwedLeak
  (repeat' split) <;> simp

@[simp] theorem leakWet_fields (s : State) :
    (leakWet s).share.floor = s.share.floor ∧ (leakWet s).share.link = s.share.link
      ∧ (leakWet s).share.table = s.share.table ∧ (leakWet s).line.numberClash = s.line.numberClash
      ∧ (leakWet s).steam.acid = s.steam.acid ∧ (leakWet s).recipe.state = s.recipe.state
      ∧ (leakWet s).recipe.store = s.recipe.store ∧ (leakWet s).recipe.cur = s.recipe.cur
      ∧ (leakWet s).descale.phase = s.descale.phase ∧ (leakWet s).power.freq = s.power.freq
      ∧ (leakWet s).power.want = s.power.want := by
  unfold leakWet
  (repeat' split) <;> simp

@[simp] theorem leakDry_fields (s : State) :
    (leakDry s).share.floor = s.share.floor ∧ (leakDry s).share.link = s.share.link
      ∧ (leakDry s).share.table = s.share.table ∧ (leakDry s).line.numberClash = s.line.numberClash
      ∧ (leakDry s).steam.acid = s.steam.acid ∧ (leakDry s).recipe.state = s.recipe.state
      ∧ (leakDry s).recipe.store = s.recipe.store ∧ (leakDry s).recipe.cur = s.recipe.cur
      ∧ (leakDry s).descale.phase = s.descale.phase ∧ (leakDry s).power.freq = s.power.freq
      ∧ (leakDry s).power.want = s.power.want := by
  unfold leakDry
  (repeat' split) <;> simp

@[simp] theorem voidRaise_fields (p : Pool) (s : State) :
    (voidRaise p s).share.floor = s.share.floor ∧ (voidRaise p s).share.link = s.share.link
      ∧ (voidRaise p s).share.tripSet = s.share.tripSet ∧ (voidRaise p s).share.holds = s.share.holds
      ∧ (voidRaise p s).share.table = s.share.table ∧ (voidRaise p s).line.numberClash = s.line.numberClash := by
  unfold voidRaise
  (repeat' split) <;> simp

@[simp] theorem voidRaises_fields (s : State) :
    (voidRaises s).share.floor = s.share.floor ∧ (voidRaises s).share.link = s.share.link
      ∧ (voidRaises s).share.tripSet = s.share.tripSet ∧ (voidRaises s).share.holds = s.share.holds
      ∧ (voidRaises s).share.table = s.share.table ∧ (voidRaises s).line.numberClash = s.line.numberClash := by
  simp [voidRaises]

@[simp] theorem stopSending_fields (state : LineState) (afterBreak : Bool) (s : State) :
    (stopSending state afterBreak s).line.numberClash = s.line.numberClash := by
  simp [stopSending]

@[simp] theorem breakOff_fields (state : LineState) (afterBreak : Bool) (s : State) :
    (breakOff state afterBreak s).line.numberClash = s.line.numberClash := by
  simp [breakOff]

@[simp] theorem redecidePool_fields (p : Pool) (s : State) :
    (redecidePool p s).share.floor = s.share.floor ∧ (redecidePool p s).share.link = s.share.link
      ∧ (redecidePool p s).share.tripSet = s.share.tripSet ∧ (redecidePool p s).share.holds = s.share.holds
      ∧ (redecidePool p s).share.table = s.share.table
      ∧ (redecidePool p s).line.numberClash = s.line.numberClash := by
  unfold redecidePool
  (repeat' split) <;> simp

@[simp] theorem redecide_fields (s : State) :
    (redecide s).share.floor = s.share.floor ∧ (redecide s).share.link = s.share.link
      ∧ (redecide s).share.tripSet = s.share.tripSet ∧ (redecide s).share.holds = s.share.holds
      ∧ (redecide s).share.table = s.share.table ∧ (redecide s).line.numberClash = s.line.numberClash := by
  simp [redecide]

@[simp] theorem lineIdle_fields (s : State) :
    (lineIdle s).line.numberClash = s.line.numberClash := by
  unfold lineIdle
  (repeat' split) <;> simp

@[simp] theorem lineIdleAfterBreak_fields (s : State) :
    (lineIdleAfterBreak s).line.numberClash = s.line.numberClash := by
  unfold lineIdleAfterBreak
  (repeat' split) <;> simp

@[simp] theorem clearFell_fields (f : TxFrame) (s : State) :
    (clearFell f s).share.floor = s.share.floor ∧ (clearFell f s).share.link = s.share.link
      ∧ (clearFell f s).share.tripSet = s.share.tripSet ∧ (clearFell f s).share.holds = s.share.holds
      ∧ (clearFell f s).share.table = s.share.table := by
  unfold clearFell
  (repeat' split) <;> simp

@[simp] theorem frameBegin_fields (s : State) :
    (frameBegin s).share.floor = s.share.floor ∧ (frameBegin s).share.link = s.share.link
      ∧ (frameBegin s).share.tripSet = s.share.tripSet ∧ (frameBegin s).share.holds = s.share.holds
      ∧ (frameBegin s).share.table = s.share.table ∧ (frameBegin s).line.numberClash = s.line.numberClash := by
  unfold frameBegin
  (repeat' split) <;> simp

@[simp] theorem openingMarkSeen_fields (s : State) :
    (openingMarkSeen s).share.floor = s.share.floor ∧ (openingMarkSeen s).share.link = s.share.link
      ∧ (openingMarkSeen s).share.tripSet = s.share.tripSet ∧ (openingMarkSeen s).share.holds = s.share.holds
      ∧ (openingMarkSeen s).share.table = s.share.table
      ∧ (openingMarkSeen s).line.numberClash = s.line.numberClash := by
  unfold openingMarkSeen
  (repeat' split) <;> simp

@[simp] theorem arbitrationLost_fields (s : State) :
    (arbitrationLost s).share.floor = s.share.floor ∧ (arbitrationLost s).share.link = s.share.link
      ∧ (arbitrationLost s).share.tripSet = s.share.tripSet ∧ (arbitrationLost s).share.holds = s.share.holds
      ∧ (arbitrationLost s).share.table = s.share.table
      ∧ (arbitrationLost s).line.numberClash = s.line.numberClash := by
  unfold arbitrationLost
  (repeat' split) <;> simp

@[simp] theorem driveFault_fields (s : State) :
    (driveFault s).line.numberClash = s.line.numberClash := by
  unfold driveFault
  (repeat' split) <;> simp

@[simp] theorem closingMarkBroken_fields (s : State) :
    (closingMarkBroken s).line.numberClash = s.line.numberClash := by
  unfold closingMarkBroken
  (repeat' split) <;> simp

@[simp] theorem countClash_fields (s : State) :
    (countClash s).share.floor = s.share.floor ∧ (countClash s).share.tripSet = s.share.tripSet
      ∧ (countClash s).share.table = s.share.table ∧ (countClash s).power.freq = s.power.freq
      ∧ (countClash s).power.want = s.power.want := by
  simp only [countClash]
  (repeat' split) <;> simp

@[simp] theorem clash_fields (s : State) :
    (clash s).share.floor = s.share.floor ∧ (clash s).share.tripSet = s.share.tripSet
      ∧ (clash s).share.table = s.share.table ∧ (clash s).steam.acid = s.steam.acid
      ∧ (clash s).recipe.state = s.recipe.state ∧ (clash s).recipe.store = s.recipe.store
      ∧ (clash s).recipe.cur = s.recipe.cur ∧ (clash s).descale.phase = s.descale.phase
      ∧ (clash s).power.freq = s.power.freq ∧ (clash s).power.want = s.power.want := by
  unfold clash
  (repeat' split) <;> simp

@[simp] theorem countMalformed_fields (driven : Bool) (s : State) :
    (countMalformed driven s).line.numberClash = s.line.numberClash := by
  simp [countMalformed]

@[simp] theorem markClosed_fields (s : State) :
    (markClosed s).share.floor = s.share.floor ∧ (markClosed s).share.link = s.share.link
      ∧ (markClosed s).share.tripSet = s.share.tripSet ∧ (markClosed s).share.holds = s.share.holds
      ∧ (markClosed s).share.table = s.share.table ∧ (markClosed s).line.numberClash = s.line.numberClash := by
  simp [markClosed]

@[simp] theorem markLost_fields (state : LineState) (afterBreak : Bool) (s : State) :
    (markLost state afterBreak s).share.floor = s.share.floor
      ∧ (markLost state afterBreak s).share.link = s.share.link
      ∧ (markLost state afterBreak s).share.tripSet = s.share.tripSet
      ∧ (markLost state afterBreak s).share.holds = s.share.holds
      ∧ (markLost state afterBreak s).share.table = s.share.table
      ∧ (markLost state afterBreak s).line.numberClash = s.line.numberClash := by
  simp [markLost]

@[simp] theorem judgeMalformed_fields (g : MalformGround) (s : State) :
    (judgeMalformed g s).share.floor = s.share.floor ∧ (judgeMalformed g s).share.link = s.share.link
      ∧ (judgeMalformed g s).share.tripSet = s.share.tripSet ∧ (judgeMalformed g s).share.holds = s.share.holds
      ∧ (judgeMalformed g s).share.table = s.share.table
      ∧ (judgeMalformed g s).line.numberClash = s.line.numberClash := by
  unfold judgeMalformed
  (repeat' split) <;> simp

@[simp] theorem takeFrame_fields (sender : Nat) (driven : Bool) (s : State) :
    (takeFrame sender driven s).share.floor = s.share.floor
      ∧ (takeFrame sender driven s).share.tripSet = s.share.tripSet
      ∧ (takeFrame sender driven s).power.freq = s.power.freq
      ∧ (takeFrame sender driven s).power.want = s.power.want := by
  unfold takeFrame
  (repeat' split) <;> simp

@[simp] theorem closeFrame_fields (sender : Nat) (driven : Bool) (effect : State → State) (s : State) :
    (closeFrame sender driven effect s).share.floor = (effect (takeFrame sender driven s)).share.floor
      ∧ (closeFrame sender driven effect s).share.tripSet = (effect (takeFrame sender driven s)).share.tripSet
      ∧ (closeFrame sender driven effect s).steam.acid = (effect (takeFrame sender driven s)).steam.acid
      ∧ (closeFrame sender driven effect s).recipe.state = (effect (takeFrame sender driven s)).recipe.state
      ∧ (closeFrame sender driven effect s).recipe.store = (effect (takeFrame sender driven s)).recipe.store
      ∧ (closeFrame sender driven effect s).recipe.cur = (effect (takeFrame sender driven s)).recipe.cur
      ∧ (closeFrame sender driven effect s).descale.phase = (effect (takeFrame sender driven s)).descale.phase
      ∧ (closeFrame sender driven effect s).power.freq = (effect (takeFrame sender driven s)).power.freq
      ∧ (closeFrame sender driven effect s).power.want = (effect (takeFrame sender driven s)).power.want := by
  simp [closeFrame]

@[simp] theorem contentEffect_fields (sender : Nat) (vetoed : Bool) (c : FrameContent) (s : State) :
    (contentEffect sender vetoed c s).share.floor = s.share.floor
      ∧ (contentEffect sender vetoed c s).share.link = s.share.link
      ∧ (contentEffect sender vetoed c s).line.numberClash = s.line.numberClash
      ∧ (contentEffect sender vetoed c s).power.freq = s.power.freq
      ∧ (contentEffect sender vetoed c s).power.want = s.power.want := by
  cases c <;> simp only [contentEffect] <;> (repeat' split) <;> simp

@[simp] theorem recordOwnRaise_fields (p : Pool) (v : Nat) (s : State) :
    (recordOwnRaise p v s).share.floor = s.share.floor ∧ (recordOwnRaise p v s).share.link = s.share.link
      ∧ (recordOwnRaise p v s).share.tripSet = s.share.tripSet
      ∧ (recordOwnRaise p v s).share.table = s.share.table
      ∧ (recordOwnRaise p v s).line.numberClash = s.line.numberClash
      ∧ (recordOwnRaise p v s).power.freq = s.power.freq ∧ (recordOwnRaise p v s).power.want = s.power.want := by
  simp only [recordOwnRaise]
  (repeat' split) <;> simp

@[simp] theorem vetoOwnRaise_fields (p : Pool) (s : State) :
    (vetoOwnRaise p s).share.floor = s.share.floor ∧ (vetoOwnRaise p s).share.link = s.share.link
      ∧ (vetoOwnRaise p s).share.tripSet = s.share.tripSet ∧ (vetoOwnRaise p s).share.holds = s.share.holds
      ∧ (vetoOwnRaise p s).share.table = s.share.table := by
  unfold vetoOwnRaise
  (repeat' split) <;> simp

@[simp] theorem noteLower_fields (p : Pool) (v : Nat) (s : State) :
    (noteLower p v s).startup.station = s.startup.station
      ∧ (noteLower p v s).startup.partner = s.startup.partner
      ∧ (noteLower p v s).startup.supply = s.startup.supply
      ∧ (noteLower p v s).startup.channels = s.startup.channels
      ∧ (noteLower p v s).startup.setup = s.startup.setup
      ∧ (noteLower p v s).startup.restarting = s.startup.restarting := by
  unfold noteLower
  (repeat' split) <;> simp

@[simp] theorem ownOutcome_fields (f : TxFrame) (vetoed : Bool) (s : State) :
    (ownOutcome f vetoed s).startup.station = s.startup.station
      ∧ (ownOutcome f vetoed s).startup.partner = s.startup.partner
      ∧ (ownOutcome f vetoed s).startup.supply = s.startup.supply
      ∧ (ownOutcome f vetoed s).startup.channels = s.startup.channels
      ∧ (ownOutcome f vetoed s).startup.setup = s.startup.setup
      ∧ (ownOutcome f vetoed s).startup.restarting = s.startup.restarting
      ∧ (ownOutcome f vetoed s).share.floor = s.share.floor ∧ (ownOutcome f vetoed s).share.link = s.share.link
      ∧ (ownOutcome f vetoed s).share.tripSet = s.share.tripSet
      ∧ (ownOutcome f vetoed s).share.table = s.share.table
      ∧ (ownOutcome f vetoed s).line.numberClash = s.line.numberClash
      ∧ (ownOutcome f vetoed s).power.freq = s.power.freq ∧ (ownOutcome f vetoed s).power.want = s.power.want := by
  unfold ownOutcome
  (repeat' split) <;> simp

@[simp] theorem endIsolation_fields (s : State) :
    (endIsolation s).share.floor = s.share.floor ∧ (endIsolation s).share.tripSet = s.share.tripSet
      ∧ (endIsolation s).share.holds = s.share.holds ∧ (endIsolation s).share.table = s.share.table
      ∧ (endIsolation s).line.numberClash = s.line.numberClash := by
  unfold endIsolation
  (repeat' split) <;> simp

@[simp] theorem finishSending_fields (s : State) :
    (finishSending s).share.floor = s.share.floor ∧ (finishSending s).share.link = s.share.link
      ∧ (finishSending s).share.tripSet = s.share.tripSet ∧ (finishSending s).share.holds = s.share.holds
      ∧ (finishSending s).share.table = s.share.table ∧ (finishSending s).line.numberClash = s.line.numberClash := by
  simp [finishSending]

@[simp] theorem ownFrameComplete_fields (vetoed : Bool) (s : State) :
    (ownFrameComplete vetoed s).startup.station = s.startup.station
      ∧ (ownFrameComplete vetoed s).startup.partner = s.startup.partner
      ∧ (ownFrameComplete vetoed s).startup.supply = s.startup.supply
      ∧ (ownFrameComplete vetoed s).startup.channels = s.startup.channels
      ∧ (ownFrameComplete vetoed s).startup.setup = s.startup.setup
      ∧ (ownFrameComplete vetoed s).startup.restarting = s.startup.restarting
      ∧ (ownFrameComplete vetoed s).share.floor = s.share.floor
      ∧ (ownFrameComplete vetoed s).share.tripSet = s.share.tripSet
      ∧ (ownFrameComplete vetoed s).share.table = s.share.table
      ∧ (ownFrameComplete vetoed s).line.numberClash = s.line.numberClash
      ∧ (ownFrameComplete vetoed s).steam.acid = s.steam.acid
      ∧ (ownFrameComplete vetoed s).recipe.state = s.recipe.state
      ∧ (ownFrameComplete vetoed s).recipe.store = s.recipe.store
      ∧ (ownFrameComplete vetoed s).recipe.cur = s.recipe.cur
      ∧ (ownFrameComplete vetoed s).descale.phase = s.descale.phase
      ∧ (ownFrameComplete vetoed s).power.freq = s.power.freq
      ∧ (ownFrameComplete vetoed s).power.want = s.power.want := by
  unfold ownFrameComplete
  (repeat' split) <;> simp

@[simp] theorem levelInput_fields (e : Electrode) (wet : Bool) (s : State) :
    (levelInput e wet s).steam.acid = s.steam.acid ∧ (levelInput e wet s).steam.gen = s.steam.gen := by
  simp [levelInput]

@[simp] theorem endFillWell_fields (s : State) :
    (endFillWell s).share.floor = s.share.floor ∧ (endFillWell s).share.link = s.share.link
      ∧ (endFillWell s).share.tripSet = s.share.tripSet ∧ (endFillWell s).share.table = s.share.table
      ∧ (endFillWell s).line.numberClash = s.line.numberClash ∧ (endFillWell s).steam.acid = s.steam.acid
      ∧ (endFillWell s).power.freq = s.power.freq ∧ (endFillWell s).power.want = s.power.want := by
  unfold endFillWell
  (repeat' split) <;> simp

@[simp] theorem topUpIfNone_fields (s : State) :
    (topUpIfNone s).share.floor = s.share.floor ∧ (topUpIfNone s).share.link = s.share.link
      ∧ (topUpIfNone s).share.tripSet = s.share.tripSet ∧ (topUpIfNone s).share.table = s.share.table
      ∧ (topUpIfNone s).line.numberClash = s.line.numberClash ∧ (topUpIfNone s).steam.acid = s.steam.acid
      ∧ (topUpIfNone s).steam.gen = s.steam.gen ∧ (topUpIfNone s).power.freq = s.power.freq
      ∧ (topUpIfNone s).power.want = s.power.want := by
  unfold topUpIfNone
  (repeat' split) <;> simp

@[simp] theorem lockLowWater_fields (s : State) :
    (lockLowWater s).share.floor = s.share.floor ∧ (lockLowWater s).share.link = s.share.link
      ∧ (lockLowWater s).share.tripSet = s.share.tripSet ∧ (lockLowWater s).share.table = s.share.table
      ∧ (lockLowWater s).line.numberClash = s.line.numberClash ∧ (lockLowWater s).steam.acid = s.steam.acid
      ∧ (lockLowWater s).steam.gen = s.steam.gen ∧ (lockLowWater s).power.freq = s.power.freq
      ∧ (lockLowWater s).power.want = s.power.want := by
  unfold lockLowWater
  (repeat' split) <;> simp

@[simp] theorem lowWet_fields (s : State) :
    (lowWet s).steam.acid = s.steam.acid ∧ (lowWet s).steam.gen = s.steam.gen
      ∧ (lowWet s).descale.phase = s.descale.phase := by
  simp [lowWet]

@[simp] theorem highWet_fields (s : State) :
    (highWet s).share.floor = s.share.floor ∧ (highWet s).share.link = s.share.link
      ∧ (highWet s).share.tripSet = s.share.tripSet ∧ (highWet s).share.table = s.share.table
      ∧ (highWet s).line.numberClash = s.line.numberClash ∧ (highWet s).steam.acid = s.steam.acid
      ∧ (highWet s).power.freq = s.power.freq ∧ (highWet s).power.want = s.power.want := by
  unfold highWet
  (repeat' split) <;> simp

@[simp] theorem actOnLevel_fields (e : Electrode) (wet : Bool) (s : State) :
    (actOnLevel e wet s).share.floor = s.share.floor ∧ (actOnLevel e wet s).share.link = s.share.link
      ∧ (actOnLevel e wet s).share.tripSet = s.share.tripSet ∧ (actOnLevel e wet s).share.table = s.share.table
      ∧ (actOnLevel e wet s).line.numberClash = s.line.numberClash
      ∧ (actOnLevel e wet s).steam.acid = s.steam.acid ∧ (actOnLevel e wet s).power.freq = s.power.freq
      ∧ (actOnLevel e wet s).power.want = s.power.want := by
  unfold actOnLevel
  (repeat' split) <;> simp

@[simp] theorem levelReadingChange_fields (e : Electrode) (s : State) :
    (levelReadingChange e s).share.floor = s.share.floor ∧ (levelReadingChange e s).share.link = s.share.link
      ∧ (levelReadingChange e s).share.tripSet = s.share.tripSet
      ∧ (levelReadingChange e s).share.table = s.share.table
      ∧ (levelReadingChange e s).line.numberClash = s.line.numberClash
      ∧ (levelReadingChange e s).steam.acid = s.steam.acid
      ∧ (levelReadingChange e s).recipe.state = s.recipe.state
      ∧ (levelReadingChange e s).recipe.store = s.recipe.store
      ∧ (levelReadingChange e s).recipe.cur = s.recipe.cur ∧ (levelReadingChange e s).power.freq = s.power.freq
      ∧ (levelReadingChange e s).power.want = s.power.want := by
  unfold levelReadingChange
  (repeat' split) <;> simp

@[simp] theorem spendPulse_fields (f : Fill) (s : State) :
    (spendPulse f s).steam.acid = s.steam.acid ∧ (spendPulse f s).steam.gen = s.steam.gen := by
  simp [spendPulse]

@[simp] theorem cookingPulse_fields (s : State) :
    (cookingPulse s).share.floor = s.share.floor ∧ (cookingPulse s).share.link = s.share.link
      ∧ (cookingPulse s).share.tripSet = s.share.tripSet ∧ (cookingPulse s).share.table = s.share.table
      ∧ (cookingPulse s).line.numberClash = s.line.numberClash ∧ (cookingPulse s).steam.acid = s.steam.acid
      ∧ (cookingPulse s).power.freq = s.power.freq ∧ (cookingPulse s).power.want = s.power.want := by
  simp only [cookingPulse]
  (repeat' split) <;> simp

@[simp] theorem servicePulse_fields (f : Fill) (s : State) :
    (servicePulse f s).share.floor = s.share.floor ∧ (servicePulse f s).share.link = s.share.link
      ∧ (servicePulse f s).share.tripSet = s.share.tripSet ∧ (servicePulse f s).share.table = s.share.table
      ∧ (servicePulse f s).line.numberClash = s.line.numberClash ∧ (servicePulse f s).steam.gen = s.steam.gen
      ∧ (servicePulse f s).power.freq = s.power.freq ∧ (servicePulse f s).power.want = s.power.want := by
  simp only [servicePulse]
  (repeat' split) <;> simp

@[simp] theorem flowPulse_fields (s : State) :
    (flowPulse s).share.floor = s.share.floor ∧ (flowPulse s).share.link = s.share.link
      ∧ (flowPulse s).share.tripSet = s.share.tripSet ∧ (flowPulse s).share.table = s.share.table
      ∧ (flowPulse s).line.numberClash = s.line.numberClash ∧ (flowPulse s).recipe.state = s.recipe.state
      ∧ (flowPulse s).recipe.store = s.recipe.store ∧ (flowPulse s).recipe.cur = s.recipe.cur
      ∧ (flowPulse s).power.freq = s.power.freq ∧ (flowPulse s).power.want = s.power.want := by
  unfold flowPulse
  (repeat' split) <;> simp

@[simp] theorem valveTimeLimit_fields (s : State) :
    (valveTimeLimit s).share.floor = s.share.floor ∧ (valveTimeLimit s).share.link = s.share.link
      ∧ (valveTimeLimit s).share.tripSet = s.share.tripSet ∧ (valveTimeLimit s).share.table = s.share.table
      ∧ (valveTimeLimit s).line.numberClash = s.line.numberClash ∧ (valveTimeLimit s).steam.acid = s.steam.acid
      ∧ (valveTimeLimit s).recipe.state = s.recipe.state ∧ (valveTimeLimit s).recipe.store = s.recipe.store
      ∧ (valveTimeLimit s).recipe.cur = s.recipe.cur ∧ (valveTimeLimit s).power.freq = s.power.freq
      ∧ (valveTimeLimit s).power.want = s.power.want := by
  unfold valveTimeLimit
  (repeat' split) <;> simp

@[simp] theorem coolingTimerExpiry_fields (s : State) :
    (coolingTimerExpiry s).share.floor = s.share.floor ∧ (coolingTimerExpiry s).share.link = s.share.link
      ∧ (coolingTimerExpiry s).share.tripSet = s.share.tripSet
      ∧ (coolingTimerExpiry s).share.table = s.share.table
      ∧ (coolingTimerExpiry s).line.numberClash = s.line.numberClash
      ∧ (coolingTimerExpiry s).steam.acid = s.steam.acid ∧ (coolingTimerExpiry s).recipe.state = s.recipe.state
      ∧ (coolingTimerExpiry s).recipe.store = s.recipe.store ∧ (coolingTimerExpiry s).recipe.cur = s.recipe.cur
      ∧ (coolingTimerExpiry s).descale.phase = s.descale.phase
      ∧ (coolingTimerExpiry s).power.freq = s.power.freq ∧ (coolingTimerExpiry s).power.want = s.power.want := by
  unfold coolingTimerExpiry
  (repeat' split) <;> simp

@[simp] theorem endDrainWell_fields (s : State) :
    (endDrainWell s).share.floor = s.share.floor ∧ (endDrainWell s).share.link = s.share.link
      ∧ (endDrainWell s).share.tripSet = s.share.tripSet ∧ (endDrainWell s).share.table = s.share.table
      ∧ (endDrainWell s).line.numberClash = s.line.numberClash ∧ (endDrainWell s).steam.acid = s.steam.acid
      ∧ (endDrainWell s).power.freq = s.power.freq ∧ (endDrainWell s).power.want = s.power.want := by
  simp only [endDrainWell]
  (repeat' split) <;> simp

@[simp] theorem drainDryTimeEnd_fields (s : State) :
    (drainDryTimeEnd s).share.floor = s.share.floor ∧ (drainDryTimeEnd s).share.link = s.share.link
      ∧ (drainDryTimeEnd s).share.tripSet = s.share.tripSet ∧ (drainDryTimeEnd s).share.table = s.share.table
      ∧ (drainDryTimeEnd s).line.numberClash = s.line.numberClash
      ∧ (drainDryTimeEnd s).recipe.state = s.recipe.state ∧ (drainDryTimeEnd s).recipe.store = s.recipe.store
      ∧ (drainDryTimeEnd s).recipe.cur = s.recipe.cur ∧ (drainDryTimeEnd s).power.freq = s.power.freq
      ∧ (drainDryTimeEnd s).power.want = s.power.want := by
  unfold drainDryTimeEnd
  (repeat' split) <;> simp

@[simp] theorem pumpTimeLimit_fields (s : State) :
    (pumpTimeLimit s).share.floor = s.share.floor ∧ (pumpTimeLimit s).share.link = s.share.link
      ∧ (pumpTimeLimit s).share.tripSet = s.share.tripSet ∧ (pumpTimeLimit s).share.table = s.share.table
      ∧ (pumpTimeLimit s).line.numberClash = s.line.numberClash ∧ (pumpTimeLimit s).steam.acid = s.steam.acid
      ∧ (pumpTimeLimit s).recipe.state = s.recipe.state ∧ (pumpTimeLimit s).recipe.store = s.recipe.store
      ∧ (pumpTimeLimit s).recipe.cur = s.recipe.cur ∧ (pumpTimeLimit s).power.freq = s.power.freq
      ∧ (pumpTimeLimit s).power.want = s.power.want := by
  unfold pumpTimeLimit
  (repeat' split) <;> simp

@[simp] theorem serviceRecordWritten_fields (s : State) :
    (serviceRecordWritten s).share.floor = s.share.floor ∧ (serviceRecordWritten s).share.link = s.share.link
      ∧ (serviceRecordWritten s).share.tripSet = s.share.tripSet
      ∧ (serviceRecordWritten s).line.numberClash = s.line.numberClash
      ∧ (serviceRecordWritten s).steam.acid = s.steam.acid ∧ (serviceRecordWritten s).steam.gen = s.steam.gen
      ∧ (serviceRecordWritten s).power.freq = s.power.freq ∧ (serviceRecordWritten s).power.want = s.power.want := by
  unfold serviceRecordWritten
  (repeat' split) <;> simp

@[simp] theorem noticeIfDue_fields (s : State) :
    (noticeIfDue s).line.numberClash = s.line.numberClash := by
  unfold noticeIfDue
  (repeat' split) <;> simp

@[simp] theorem joinUnlessClash_fields (s : State) :
    (joinUnlessClash s).share.floor = s.share.floor ∧ (joinUnlessClash s).share.tripSet = s.share.tripSet
      ∧ (joinUnlessClash s).share.holds = s.share.holds ∧ (joinUnlessClash s).share.table = s.share.table
      ∧ (joinUnlessClash s).line.numberClash = s.line.numberClash := by
  unfold joinUnlessClash
  (repeat' split) <;> simp

@[simp] theorem freezeConfig_fields (s : State) :
    (freezeConfig s).startup.station = s.startup.station ∧ (freezeConfig s).startup.partner = s.startup.partner
      ∧ (freezeConfig s).startup.restarting = s.startup.restarting ∧ (freezeConfig s).share.link = s.share.link
      ∧ (freezeConfig s).share.tripSet = s.share.tripSet ∧ (freezeConfig s).share.holds = s.share.holds
      ∧ (freezeConfig s).share.table = s.share.table ∧ (freezeConfig s).line.numberClash = s.line.numberClash := by
  unfold freezeConfig
  (repeat' split) <;> simp

@[simp] theorem superviseFromFreeze_fields (s : State) :
    (superviseFromFreeze s).superv.trip = s.superv.trip
      ∧ (superviseFromFreeze s).superv.welded = s.superv.welded
      ∧ (superviseFromFreeze s).superv.configFault = s.superv.configFault := by
  simp [superviseFromFreeze]

@[simp] theorem descaleAtFreeze_fields (s : State) :
    (descaleAtFreeze s).line.numberClash = s.line.numberClash := by
  unfold descaleAtFreeze
  (repeat' split) <;> simp

@[simp] theorem freeze_fields (s : State) :
    (freeze s).startup.station = s.startup.station ∧ (freeze s).startup.partner = s.startup.partner
      ∧ (freeze s).startup.restarting = s.startup.restarting ∧ (freeze s).share.tripSet = s.share.tripSet
      ∧ (freeze s).share.table = s.share.table ∧ (freeze s).line.numberClash = s.line.numberClash
      ∧ (freeze s).steam.acid = s.steam.acid ∧ (freeze s).superv.trip = s.superv.trip
      ∧ (freeze s).superv.welded = s.superv.welded ∧ (freeze s).superv.configFault = s.superv.configFault
      ∧ (freeze s).recipe.state = s.recipe.state ∧ (freeze s).recipe.store = s.recipe.store
      ∧ (freeze s).recipe.cur = s.recipe.cur ∧ (freeze s).climate.doorOpen = s.climate.doorOpen
      ∧ (freeze s).power.freq = s.power.freq ∧ (freeze s).power.want = s.power.want := by
  simp [freeze]

@[simp] theorem setupWindowExpiry_fields (s : State) :
    (setupWindowExpiry s).startup.station = s.startup.station
      ∧ (setupWindowExpiry s).startup.partner = s.startup.partner
      ∧ (setupWindowExpiry s).startup.restarting = s.startup.restarting
      ∧ (setupWindowExpiry s).share.tripSet = s.share.tripSet
      ∧ (setupWindowExpiry s).share.table = s.share.table
      ∧ (setupWindowExpiry s).line.numberClash = s.line.numberClash
      ∧ (setupWindowExpiry s).steam.acid = s.steam.acid ∧ (setupWindowExpiry s).superv.trip = s.superv.trip
      ∧ (setupWindowExpiry s).superv.welded = s.superv.welded
      ∧ (setupWindowExpiry s).superv.configFault = s.superv.configFault
      ∧ (setupWindowExpiry s).recipe.state = s.recipe.state
      ∧ (setupWindowExpiry s).recipe.store = s.recipe.store ∧ (setupWindowExpiry s).recipe.cur = s.recipe.cur
      ∧ (setupWindowExpiry s).climate.doorOpen = s.climate.doorOpen
      ∧ (setupWindowExpiry s).power.freq = s.power.freq ∧ (setupWindowExpiry s).power.want = s.power.want := by
  unfold setupWindowExpiry
  (repeat' split) <;> simp

@[simp] theorem setupSupply_fields (fields : List Byte) (s : State) :
    (setupSupply fields s).startup.station = s.startup.station
      ∧ (setupSupply fields s).startup.partner = s.startup.partner
      ∧ (setupSupply fields s).startup.supply = s.startup.supply
      ∧ (setupSupply fields s).startup.channels = s.startup.channels
      ∧ (setupSupply fields s).startup.setup = s.startup.setup
      ∧ (setupSupply fields s).startup.restarting = s.startup.restarting
      ∧ (setupSupply fields s).line.numberClash = s.line.numberClash := by
  unfold setupSupply
  (repeat' split) <;> simp

@[simp] theorem setupChannel_fields (c : Channel) (fields : List Byte) (s : State) :
    (setupChannel c fields s).startup.station = s.startup.station
      ∧ (setupChannel c fields s).startup.partner = s.startup.partner
      ∧ (setupChannel c fields s).startup.supply = s.startup.supply
      ∧ (setupChannel c fields s).startup.channels = s.startup.channels
      ∧ (setupChannel c fields s).startup.setup = s.startup.setup
      ∧ (setupChannel c fields s).startup.restarting = s.startup.restarting
      ∧ (setupChannel c fields s).line.numberClash = s.line.numberClash := by
  unfold setupChannel
  (repeat' split) <;> simp

@[simp] theorem setupEnd_fields (fields : List Byte) (s : State) :
    (setupEnd fields s).startup.station = s.startup.station
      ∧ (setupEnd fields s).startup.partner = s.startup.partner
      ∧ (setupEnd fields s).startup.restarting = s.startup.restarting
      ∧ (setupEnd fields s).share.tripSet = s.share.tripSet ∧ (setupEnd fields s).share.table = s.share.table
      ∧ (setupEnd fields s).line.numberClash = s.line.numberClash
      ∧ (setupEnd fields s).steam.acid = s.steam.acid ∧ (setupEnd fields s).superv.trip = s.superv.trip
      ∧ (setupEnd fields s).superv.welded = s.superv.welded
      ∧ (setupEnd fields s).superv.configFault = s.superv.configFault
      ∧ (setupEnd fields s).recipe.state = s.recipe.state ∧ (setupEnd fields s).recipe.store = s.recipe.store
      ∧ (setupEnd fields s).recipe.cur = s.recipe.cur
      ∧ (setupEnd fields s).climate.doorOpen = s.climate.doorOpen
      ∧ (setupEnd fields s).power.freq = s.power.freq ∧ (setupEnd fields s).power.want = s.power.want := by
  unfold setupEnd
  (repeat' split) <;> simp

@[simp] theorem setupSection_fields (sec : Byte) (fields : List Byte) (s : State) :
    (setupSection sec fields s).startup.station = s.startup.station
      ∧ (setupSection sec fields s).startup.partner = s.startup.partner
      ∧ (setupSection sec fields s).startup.restarting = s.startup.restarting
      ∧ (setupSection sec fields s).share.tripSet = s.share.tripSet
      ∧ (setupSection sec fields s).share.table = s.share.table
      ∧ (setupSection sec fields s).line.numberClash = s.line.numberClash
      ∧ (setupSection sec fields s).steam.acid = s.steam.acid
      ∧ (setupSection sec fields s).superv.trip = s.superv.trip
      ∧ (setupSection sec fields s).superv.welded = s.superv.welded
      ∧ (setupSection sec fields s).superv.configFault = s.superv.configFault
      ∧ (setupSection sec fields s).recipe.state = s.recipe.state
      ∧ (setupSection sec fields s).recipe.store = s.recipe.store
      ∧ (setupSection sec fields s).recipe.cur = s.recipe.cur
      ∧ (setupSection sec fields s).climate.doorOpen = s.climate.doorOpen
      ∧ (setupSection sec fields s).power.freq = s.power.freq
      ∧ (setupSection sec fields s).power.want = s.power.want := by
  unfold setupSection
  (repeat' split) <;> simp

@[simp] theorem setupCommand_fields (sec : Byte) (fields : List Byte) (s : State) :
    (setupCommand sec fields s).startup.station = s.startup.station
      ∧ (setupCommand sec fields s).startup.partner = s.startup.partner
      ∧ (setupCommand sec fields s).startup.restarting = s.startup.restarting
      ∧ (setupCommand sec fields s).share.tripSet = s.share.tripSet
      ∧ (setupCommand sec fields s).share.table = s.share.table
      ∧ (setupCommand sec fields s).line.numberClash = s.line.numberClash
      ∧ (setupCommand sec fields s).steam.acid = s.steam.acid
      ∧ (setupCommand sec fields s).superv.trip = s.superv.trip
      ∧ (setupCommand sec fields s).superv.welded = s.superv.welded
      ∧ (setupCommand sec fields s).superv.configFault = s.superv.configFault
      ∧ (setupCommand sec fields s).recipe.state = s.recipe.state
      ∧ (setupCommand sec fields s).recipe.store = s.recipe.store
      ∧ (setupCommand sec fields s).recipe.cur = s.recipe.cur
      ∧ (setupCommand sec fields s).climate.doorOpen = s.climate.doorOpen
      ∧ (setupCommand sec fields s).power.freq = s.power.freq
      ∧ (setupCommand sec fields s).power.want = s.power.want := by
  unfold setupCommand
  (repeat' split) <;> simp

@[simp] theorem stopDescaleTimers_fields (s : State) :
    (stopDescaleTimers s).descale.phase = s.descale.phase := by
  simp [stopDescaleTimers]

@[simp] theorem writeIfDiffers_fields (s : State) :
    (writeIfDiffers s).steam.acid = s.steam.acid ∧ (writeIfDiffers s).steam.gen = s.steam.gen := by
  unfold writeIfDiffers
  (repeat' split) <;> simp

@[simp] theorem lowerAll_fields (s : State) :
    (lowerAll s).startup.station = s.startup.station ∧ (lowerAll s).startup.partner = s.startup.partner
      ∧ (lowerAll s).startup.supply = s.startup.supply ∧ (lowerAll s).startup.channels = s.startup.channels
      ∧ (lowerAll s).startup.setup = s.startup.setup ∧ (lowerAll s).startup.restarting = s.startup.restarting
      ∧ (lowerAll s).share.floor = s.share.floor ∧ (lowerAll s).share.link = s.share.link
      ∧ (lowerAll s).share.tripSet = s.share.tripSet ∧ (lowerAll s).share.table = s.share.table
      ∧ (lowerAll s).line.numberClash = s.line.numberClash ∧ (lowerAll s).power.freq = s.power.freq
      ∧ (lowerAll s).power.want = s.power.want := by
  simp [lowerAll]

@[simp] theorem takeRestart_fields (s : State) :
    (takeRestart s).startup.station = s.startup.station ∧ (takeRestart s).startup.partner = s.startup.partner
      ∧ (takeRestart s).startup.supply = s.startup.supply
      ∧ (takeRestart s).startup.channels = s.startup.channels ∧ (takeRestart s).startup.setup = s.startup.setup
      ∧ (takeRestart s).share.floor = s.share.floor ∧ (takeRestart s).share.link = s.share.link
      ∧ (takeRestart s).share.tripSet = s.share.tripSet ∧ (takeRestart s).share.table = s.share.table
      ∧ (takeRestart s).line.numberClash = s.line.numberClash ∧ (takeRestart s).steam.acid = s.steam.acid
      ∧ (takeRestart s).superv.trip = s.superv.trip ∧ (takeRestart s).superv.welded = s.superv.welded
      ∧ (takeRestart s).superv.configFault = s.superv.configFault
      ∧ (takeRestart s).descale.phase = s.descale.phase ∧ (takeRestart s).climate.doorOpen = s.climate.doorOpen
      ∧ (takeRestart s).power.freq = s.power.freq ∧ (takeRestart s).power.want = s.power.want := by
  simp [takeRestart]

@[simp] theorem descaleRestarted_fields (wasActive : Bool) (s : State) :
    (descaleRestarted wasActive s).line.numberClash = s.line.numberClash := by
  simp only [descaleRestarted]
  (repeat' split) <;> simp

@[simp] theorem superviseAgain_fields (s : State) :
    (superviseAgain s).superv.trip = s.superv.trip ∧ (superviseAgain s).superv.welded = s.superv.welded
      ∧ (superviseAgain s).superv.configFault = s.superv.configFault := by
  simp [superviseAgain]

@[simp] theorem shareRestarted_floor (clashHeld : Bool) (x : Share) : (shareRestarted clashHeld x).floor = x.floor := by
  unfold shareRestarted
  cases clashHeld <;> rfl

/-- What the re-initialisation leaves: configuration, held faults, acid marker, door and mains frequency (R160). -/
@[simp] theorem reInitialise_fields (s : State) :
    (reInitialise s).startup.station = s.startup.station
      ∧ (reInitialise s).startup.partner = s.startup.partner
      ∧ (reInitialise s).startup.supply = s.startup.supply
      ∧ (reInitialise s).startup.channels = s.startup.channels
      ∧ (reInitialise s).startup.setup = s.startup.setup
      ∧ (reInitialise s).share.floor = s.share.floor
      ∧ (reInitialise s).line.numberClash = s.line.numberClash
      ∧ (reInitialise s).steam.acid = s.steam.acid
      ∧ (reInitialise s).superv.trip = s.superv.trip
      ∧ (reInitialise s).superv.welded = s.superv.welded
      ∧ (reInitialise s).superv.configFault = s.superv.configFault
      ∧ (reInitialise s).climate.doorOpen = s.climate.doorOpen
      ∧ (reInitialise s).power.freq = s.power.freq := by
  simp [reInitialise, lineRestarted, steamRestarted, climateRestarted, powerRestarted]

/-- The same of the row, whether or not it is the moment. -/
@[simp] theorem reInitialisation_fields (s : State) :
    (reInitialisation s).startup.station = s.startup.station
      ∧ (reInitialisation s).startup.partner = s.startup.partner
      ∧ (reInitialisation s).startup.supply = s.startup.supply
      ∧ (reInitialisation s).startup.channels = s.startup.channels
      ∧ (reInitialisation s).startup.setup = s.startup.setup
      ∧ (reInitialisation s).share.floor = s.share.floor
      ∧ (reInitialisation s).line.numberClash = s.line.numberClash
      ∧ (reInitialisation s).steam.acid = s.steam.acid
      ∧ (reInitialisation s).superv.trip = s.superv.trip
      ∧ (reInitialisation s).superv.welded = s.superv.welded
      ∧ (reInitialisation s).superv.configFault = s.superv.configFault
      ∧ (reInitialisation s).climate.doorOpen = s.climate.doorOpen
      ∧ (reInitialisation s).power.freq = s.power.freq := by
  unfold reInitialisation
  (repeat' split) <;> simp

/-- The same where the moment comes with another command. -/
@[simp] theorem reInitIfDue_fields (s : State) :
    (reInitIfDue s).startup.station = s.startup.station
      ∧ (reInitIfDue s).startup.partner = s.startup.partner
      ∧ (reInitIfDue s).startup.supply = s.startup.supply
      ∧ (reInitIfDue s).startup.channels = s.startup.channels
      ∧ (reInitIfDue s).startup.setup = s.startup.setup
      ∧ (reInitIfDue s).share.floor = s.share.floor
      ∧ (reInitIfDue s).line.numberClash = s.line.numberClash
      ∧ (reInitIfDue s).steam.acid = s.steam.acid
      ∧ (reInitIfDue s).superv.trip = s.superv.trip
      ∧ (reInitIfDue s).superv.welded = s.superv.welded
      ∧ (reInitIfDue s).superv.configFault = s.superv.configFault
      ∧ (reInitIfDue s).climate.doorOpen = s.climate.doorOpen
      ∧ (reInitIfDue s).power.freq = s.power.freq := by
  unfold reInitIfDue
  (repeat' split) <;> simp

/-- The same of the opening mark of a received frame, which may bring the moment (R160). -/
@[simp] theorem beginReceive_fields (s : State) :
    (beginReceive s).startup.station = s.startup.station
      ∧ (beginReceive s).startup.partner = s.startup.partner
      ∧ (beginReceive s).startup.supply = s.startup.supply
      ∧ (beginReceive s).startup.channels = s.startup.channels
      ∧ (beginReceive s).startup.setup = s.startup.setup
      ∧ (beginReceive s).share.floor = s.share.floor
      ∧ (beginReceive s).line.numberClash = s.line.numberClash
      ∧ (beginReceive s).steam.acid = s.steam.acid
      ∧ (beginReceive s).superv.trip = s.superv.trip
      ∧ (beginReceive s).superv.welded = s.superv.welded
      ∧ (beginReceive s).superv.configFault = s.superv.configFault
      ∧ (beginReceive s).climate.doorOpen = s.climate.doorOpen
      ∧ (beginReceive s).power.freq = s.power.freq := by
  unfold beginReceive
  (repeat' split) <;> simp

/-- The same of a malformed frame. -/
@[simp] theorem malformedFrame_fields (g : MalformGround) (s : State) :
    (malformedFrame g s).startup.station = s.startup.station
      ∧ (malformedFrame g s).startup.partner = s.startup.partner
      ∧ (malformedFrame g s).startup.supply = s.startup.supply
      ∧ (malformedFrame g s).startup.channels = s.startup.channels
      ∧ (malformedFrame g s).startup.setup = s.startup.setup
      ∧ (malformedFrame g s).share.floor = s.share.floor
      ∧ (malformedFrame g s).line.numberClash = s.line.numberClash
      ∧ (malformedFrame g s).steam.acid = s.steam.acid
      ∧ (malformedFrame g s).superv.trip = s.superv.trip
      ∧ (malformedFrame g s).superv.welded = s.superv.welded
      ∧ (malformedFrame g s).superv.configFault = s.superv.configFault
      ∧ (malformedFrame g s).climate.doorOpen = s.climate.doorOpen
      ∧ (malformedFrame g s).power.freq = s.power.freq := by
  unfold malformedFrame
  (repeat' split) <;> simp

/-- The same of a well-formed frame, which may decide a NUMBER_CLASH (R73). -/
@[simp] theorem receiveFrame_fields (sender : Nat) (content : FrameContent) (otherVeto : Bool) (s : State) :
    (receiveFrame sender content otherVeto s).startup.station = s.startup.station
      ∧ (receiveFrame sender content otherVeto s).startup.partner = s.startup.partner
      ∧ (receiveFrame sender content otherVeto s).startup.supply = s.startup.supply
      ∧ (receiveFrame sender content otherVeto s).startup.channels = s.startup.channels
      ∧ (receiveFrame sender content otherVeto s).startup.setup = s.startup.setup
      ∧ (receiveFrame sender content otherVeto s).share.floor = s.share.floor
      ∧ (receiveFrame sender content otherVeto s).steam.acid = s.steam.acid
      ∧ (receiveFrame sender content otherVeto s).superv.trip = s.superv.trip
      ∧ (receiveFrame sender content otherVeto s).superv.welded = s.superv.welded
      ∧ (receiveFrame sender content otherVeto s).superv.configFault = s.superv.configFault
      ∧ (receiveFrame sender content otherVeto s).climate.doorOpen = s.climate.doorOpen
      ∧ (receiveFrame sender content otherVeto s).power.freq = s.power.freq := by
  unfold receiveFrame
  (repeat' split) <;> simp

/-- What a RESTART leaves, be it re-initialised at once or not (R159, R160). -/
@[simp] theorem restartCommand_fields (s : State) :
    (restartCommand s).startup.station = s.startup.station
      ∧ (restartCommand s).startup.partner = s.startup.partner
      ∧ (restartCommand s).startup.supply = s.startup.supply
      ∧ (restartCommand s).startup.channels = s.startup.channels
      ∧ (restartCommand s).startup.setup = s.startup.setup
      ∧ (restartCommand s).share.floor = s.share.floor
      ∧ (restartCommand s).line.numberClash = s.line.numberClash
      ∧ (restartCommand s).steam.acid = s.steam.acid
      ∧ (restartCommand s).superv.trip = s.superv.trip
      ∧ (restartCommand s).superv.welded = s.superv.welded
      ∧ (restartCommand s).superv.configFault = s.superv.configFault
      ∧ (restartCommand s).climate.doorOpen = s.climate.doorOpen
      ∧ (restartCommand s).power.freq = s.power.freq := by
  unfold restartCommand
  (repeat' split) <;> simp

end Sys2Proof.Machine
end

