-- ==== Sys2Proof/Laws/Receive.lean ====
section
/-!
SUPPORT. What the reception of a frame amounts to on a line that is free for it (`LineFree`): no RAISE is voided, no pool
is decided again, and the frame's effect is all that happens between the opening and the closing mark.
-/
namespace Sys2Proof.Machine

/-- A frame that is a RAISE of some pool. -/
theorem raiseQueued_false_iff (p : Pool) (s : State) :
    raiseQueued p s = false ↔ ∀ e ∈ s.line.queue, e.frame.isRaise p = false := by
  simp [raiseQueued]

/-- Without a RAISE of the pool, removing its waiting RAISE changes nothing. -/
theorem dropRaise_of_none {p : Pool} {s : State} (h : raiseQueued p s = false) : dropRaise p s = s := by
  rw [raiseQueued_false_iff] at h
  have hq : removeWaiting (TxFrame.isRaise p) s.line.queue = s.line.queue := by
    simp only [removeWaiting, List.filter_eq_self]
    intro e he
    simp [h e he]
  simp [dropRaise, setQueue, hq, State.setLine]

/-- Without a RAISE of the pool, none is voided. -/
theorem voidRaise_of_none {p : Pool} {s : State} (h : raiseQueued p s = false) : voidRaise p s = s := by
  have hd := dropRaise_of_none h
  rw [raiseQueued_false_iff] at h
  have hw : anyWaiting (TxFrame.isRaise p) s.line.queue = false := by
    simp only [anyWaiting, List.any_eq_false]
    intro e he
    simp [h e he]
  simp [voidRaise, hd, hw]

/-- Without a RAISE in the queue, an opening mark voids nothing. -/
theorem voidRaises_of_none {s : State} (h : ∀ p, raiseQueued p s = false) : voidRaises s = s := by
  simp [voidRaises, voidRaise_of_none (h .power), voidRaise_of_none (h .inlet), voidRaise_of_none (h .drain)]

/-- Every frame left by a stopped one was in the queue before. -/
theorem mem_stopQueue {q : List QEntry} {e : QEntry} (h : e ∈ stopQueue q) : ∃ x ∈ q, x.frame = e.frame := by
  unfold stopQueue at h
  split at h
  · exact ⟨e, h, rfl⟩
  · rename_i f hf
    rw [List.mem_filterMap] at h
    obtain ⟨x, hx, hxe⟩ := h
    unfold stoppedEntry at hxe
    split at hxe
    · cases hn : q.find? fun x => !x.sending && f.frame.sameSort x.frame with
      | none =>
        simp only [hn, Option.map_none, Option.getD_none, Option.some.injEq] at hxe
        exact ⟨f, List.mem_of_find?_eq_some hf, by simp [← hxe]⟩
      | some n =>
        simp only [hn, Option.map_some, Option.getD_some, Option.some.injEq] at hxe
        exact ⟨n, List.mem_of_find?_eq_some hn, by simp [← hxe]⟩
    · split at hxe
      · exact absurd hxe (by simp)
      · exact ⟨x, hx, by simp_all⟩

/-- A stopped frame brings no RAISE into a queue without one. -/
theorem no_raise_stopQueue {q : List QEntry} {p : Pool} (h : ∀ e ∈ q, e.frame.isRaise p = false) :
    ∀ e ∈ stopQueue q, e.frame.isRaise p = false := by
  intro e he
  obtain ⟨x, hx, hxe⟩ := mem_stopQueue he
  rw [← hxe]
  exact h x hx

/-- Where no frame is being sent, nothing stops. -/
theorem stopQueue_of_none {q : List QEntry} (h : q.find? (·.sending) = none) : stopQueue q = q := by
  simp [stopQueue, h]

/-- Where no re-initialisation is due, the opening mark of a received frame on a free line leaves the line BUSY, and an
own frame being sent waits again. -/
theorem beginReceive_of_free {s : State} (h : ∀ p, raiseQueued p s = false)
    (hr : s.startup.restarting = false ∨ sendingFrame s = none ∨ restartDue s = false) :
    beginReceive s = s.setLine { s.line with
      state := .busy, breakSeen := false
      txBytes := if (sendingFrame s).isSome then [] else s.line.txBytes
      queue := stopQueue s.line.queue } := by
  have hd : ∀ u : State, u.startup = s.startup → (sendingFrame s).isSome → reInitIfDue u = u := by
    intro u hu hs
    rcases hr with hr | hr | hr
    · simp [reInitIfDue, reInitialisation, hu, hr]
    · simp [hr] at hs
    · simp only [restartDue] at hr
      simp [reInitIfDue, restartDue, hu, hr]
  unfold beginReceive
  by_cases hs : (sendingFrame s).isSome
  · rw [if_pos hs, hd _ (by simp) hs]
    simp only [arbitrationLost, stopSending, hs, if_true, voidRaises_of_none h]
    apply voidRaises_of_none
    intro p
    rw [raiseQueued_false_iff]
    exact no_raise_stopQueue ((raiseQueued_false_iff p s).1 (h p))
  · have hn : s.line.queue.find? (·.sending) = none := by
      simpa [sendingFrame] using hs
    simp only [hs, stopQueue_of_none hn]
    apply voidRaises_of_none
    intro p
    rw [raiseQueued_false_iff]
    exact (raiseQueued_false_iff p s).1 (h p)

/-- With no pool to be decided again, the closing mark leaves the line IDLE and nothing else. -/
theorem markClosed_of_none {s : State} (h : s.share.redecide = PerPool.all false) :
    markClosed s = s.setLine { s.line with state := .idle, breakSeen := false } := by
  simp [markClosed, redecide, redecidePool, h, PerPool.all, PerPool.get]

end Sys2Proof.Machine
end

