-- ==== Sys2Proof/Laws/Settle.lean ====
section
/-!
SUPPORT. What settles at once after a command, said once: where the generator's state agrees with whether steam is wanted,
`settle` forms outputs and discards counts, and touches nothing else.
-/
namespace Sys2Proof.Machine

/-- R82 changes nothing in a settled generator. -/
theorem judgeSteam_of_settled {s : State} (h : GenSettled s) : judgeSteam s = s := by
  unfold judgeSteam
  rcases h with h | h | ⟨h, w⟩ | ⟨h, w⟩ | ⟨h, w⟩ | h | h | h
  · simp [h]
  · simp [h]
  · simp [h, w]
  · rcases h with h | h | h <;> simp [h, w]
  · simp [h, w]
  · simp [h]
  · simp [h]
  · simp [h]

/-- What `settle` does to a settled generator. -/
theorem settle_of_fixed {s : State} (h : judgeSteam s = s) :
    (settle s).line = s.line ∧ (settle s).share = s.share ∧ SettlesOnly s (settle s) ∧ ProgramStands s (settle s) := by
  simp only [settle, h, SettlesOnly, OutputsOnly, ActuatorsOnly, WaitOnly, ProgramStands]
  unfold settleWaits settleBase settleOutputs
  dsimp only
  refine ⟨?_, ?_, ⟨?_, ?_, ?_⟩, ?_⟩ <;> (repeat' split) <;> simp [State.setSteam, State.setPower, State.setDescale, State.setRecipe]

/-- Whether steam is wanted is read from the program, the scale, the marker and T_due. -/
theorem steamWanted_congr {s t : State} (hr : programActive t.recipe = programActive s.recipe)
    (hc : programActive s.recipe = true → t.recipe.cur = s.recipe.cur ∧ t.recipe.store = s.recipe.store)
    (hs : t.steam.scale = s.steam.scale) (ha : t.steam.acid = s.steam.acid)
    (hd : t.startup.supply.tDue = s.startup.supply.tDue) : steamWanted t = steamWanted s := by
  unfold steamWanted levelNow stageAt
  by_cases hp : programActive s.recipe = true
  · obtain ⟨h1, h2⟩ := hc hp
    simp [hr, hp, h1, h2, hs, ha, hd]
  · simp [hr, hp]

/-- The generator stays settled while its state, the program, the scale and the configuration stand. -/
theorem genSettled_congr {s t : State} (h : GenSettled s) (hw : steamWanted t = steamWanted s)
    (hg : t.steam.gen = s.steam.gen) (hu : t.startup.restarting = s.startup.restarting)
    (hf : t.startup.setup = s.startup.setup) : GenSettled t := by
  unfold GenSettled at *
  have : frozen t = frozen s := by simp [frozen, hf]
  rw [this, hw, hg, hu]
  exact h

/-- What a well-formed frame tells of a sender that is not this station. -/
theorem takeFrame_of_other {n : Nat} {s : State} (h : n ≠ s.startup.station) (driven : Bool) :
    takeFrame n driven s =
      (s.setLine { s.line with malformed := 0, verdictDriven := driven }).setShare
        { s.share with table := updateEntry n (refreshEntry s.share.floor) s.share.table } := by
  simp [takeFrame, refreshSender, h]

/-- A frame closed on a free line: its effect, then an IDLE line, then what settles at once. -/
theorem closeFrame_of_free {n : Nat} {driven : Bool} {effect : State → State} {s : State}
    (h : (effect (takeFrame n driven s)).share.redecide = PerPool.all false) :
    closeFrame n driven effect s =
      settle ((effect (takeFrame n driven s)).setLine
        { (effect (takeFrame n driven s)).line with state := .idle, breakSeen := false }) := by
  simp only [closeFrame, markClosed_of_none h]

end Sys2Proof.Machine
end

