-- ==== Sys2Proof/Laws/Outputs.lean ====
section
/-!
SUPPORT. The generator's outputs, said once: the model forms what the rules give, `settle` leaves them so, and they stand
while what they follow from stands.
-/
namespace Sys2Proof.Machine
/-- The re-initialisation comes in a restart alone. -/
theorem reInitIfDue_of_not_restarting {s : State} (h : s.startup.restarting = false) : reInitIfDue s = s := by
  simp [reInitIfDue, reInitialisation, h]

/-- In READY, acid, BLOCK and the low-water lock are all that can withhold the steam demand (R96). -/
theorem servedDemand_of_ready {s : State} (h : s.steam.gen = .ready) : servedDemand s = servedInReady s := by
  unfold servedDemand servedInReady withheldReason
  by_cases ha : s.steam.acid <;> by_cases hb : levelNow s = .block <;> by_cases hl : s.steam.lock <;> simp [h, ha, hb, hl]

/-- The BOILER demand before the limits of R88. -/
theorem boilerRaw_eq (s : State) : boilerRaw s = boilerCalled s := by
  unfold boilerRaw boilerCalled
  cases hg : s.steam.gen with
  | ready => simp only [servedDemand_of_ready hg, keepHot]
  | service =>
    cases s.steam.request <;> cases s.steam.levels.low <;> simp
    rename_i t d; cases readingAtLeast s .boil t <;> rfl
  | _ => cases s.steam.request <;> rfl

/-- The BOILER demand that is formed is the one the rules give. -/
theorem boilerTarget_eq (s : State) : boilerTarget s = boilerLimited s (boilerCalled s) := by
  unfold boilerTarget boilerLimited
  rw [boilerRaw_eq]
  by_cases hr : s.startup.restarting <;> by_cases hf : frozen s <;> by_cases hl : s.steam.lock <;>
    by_cases hb : reading s .boil = none <;> simp [hr, hf, hl, hb]

/-- The outputs are what `settleOutputs` forms. -/
theorem steamOutputs_iff (s : State) :
    SteamOutputs s ↔ s.steam.gate = gateOpen s ∧ s.steam.boilerDemand = boilerTarget s
      ∧ s.steam.fillReq = valveRequest s ∧ s.steam.pumpReq = pumpRequest s := by
  have hg : (gateOpen s = true ↔ s.steam.gen = .ready ∧ 0 < servedInReady s ∧ s.startup.restarting = false) := by
    by_cases h : s.steam.gen = .ready <;> simp [gateOpen, h, servedDemand_of_ready]
  have hv : (valveRequest s = true ↔ s.steam.fill.isSome = true ∧ s.share.holds.inlet = 1 ∧ s.share.tripSet = []
      ∧ s.share.link ≠ .isolated ∧ s.steam.levels.high = false ∧ s.startup.restarting = false) := by
    simp [valveRequest, and_assoc]
  have hp : (pumpRequest s = true ↔ s.steam.drain.isSome = true ∧ s.share.holds.drain = 1
      ∧ s.startup.restarting = false) := by
    simp [pumpRequest, and_assoc]
  simp only [SteamOutputs, ← hg, ← hv, ← hp, ← boilerTarget_eq, ← Bool.eq_iff_iff]

/-- The outputs follow from these alone. -/
theorem steamOutputs_congr {s t : State} (h : SteamOutputs s) (hu : t.startup = s.startup)
    (hd : t.climate.steamDemand = s.climate.steamDemand) (hx : t.superv.readings.boil = s.superv.readings.boil)
    (hh : t.share.holds.inlet = s.share.holds.inlet ∧ t.share.holds.drain = s.share.holds.drain)
    (hw : t.share.tripSet = s.share.tripSet ∧ (t.share.link = .isolated ↔ s.share.link = .isolated))
    (hs : t.steam = s.steam) : SteamOutputs t := by
  have hl : levelNow t = levelNow s := by simp [levelNow, hs, hu]
  have hb : reading t .boil = reading s .boil := by simp [reading, PerChannel.get, hx]
  have hf : frozen t = frozen s := by simp [frozen, hu]
  have hi : servedInReady t = servedInReady s := by simp [servedInReady, hl, hs, hd]
  have hc : boilerCalled t = boilerCalled s := by
    unfold boilerCalled readingAtLeast
    rw [hs, hi, hb]
  simp only [SteamOutputs, boilerLimited, hs, hu, hi, hc, hb, hf, hl, hh, hw, ne_eq] at h ⊢
  exact h

/-- `settleOutputs` forms the outputs. -/
theorem settleOutputs_steamOutputs (s : State) : SteamOutputs (settleOutputs s) := by
  rw [steamOutputs_iff]
  unfold settleOutputs
  dsimp only
  split <;> exact ⟨rfl, rfl, rfl, rfl⟩

/-- After `settle` the generator's outputs are what the rules give. -/
theorem settle_steamOutputs (s : State) : SteamOutputs (settle s) := by
  refine steamOutputs_congr (settleOutputs_steamOutputs (judgeSteam s)) ?_ ?_ ?_ ?_ ?_ ?_ <;> simp [settle]
end Sys2Proof.Machine
end

