-- ==== Sys2Proof/Laws/Base.lean ====
section
/-!
SUPPORT. The base-actuator outputs, said once: `settle` makes them follow their requests (R25, R33) wherever none runs in a
frame without base load.
-/
namespace Sys2Proof.Machine
/-- Each actuator's output follows its own request. -/
theorem settleBase_get (s : State) (a : Actuator) : (settleBase s).power.base.get a =
    (!s.startup.restarting && (baseRequests s).get a
      && (s.power.base.get a || (s.power.inFrame && s.power.carriesBase))) := by
  cases hr : s.startup.restarting <;> cases a <;>
    simp [settleBase, hr, baseOutput, baseRequests, PerActuator.get, PerActuator.all]

/-- The outputs follow the requests once the base actuators have settled, where none ran in a frame without base load. -/
theorem settleBase_baseFollows {s : State}
    (h : s.power.inFrame = true → s.power.carriesBase = false → s.power.base = PerActuator.all false) :
    BaseFollows (settleBase s) := by
  have hq : baseRequests (settleBase s) = baseRequests s := rfl
  have hg := settleBase_get s
  refine ⟨fun hi hr => PerActuator.ext_get fun a => ?_, fun a ha => ?_, fun hr => PerActuator.ext_get fun a => ?_⟩
  · change s.power.inFrame = true at hi
    change s.startup.restarting = false at hr
    rw [hg, hq, hr, hi]
    change _ = (if s.power.carriesBase = true then _ else _ : PerActuator Bool).get a
    cases hc : s.power.carriesBase
    · simp [h hi hc]
    · simp
  · rw [hg] at ha; rw [hq]; simp_all
  · change s.startup.restarting = true at hr
    rw [hg, hr]; simp

/-- A decrease of a water hold does not touch the scheduler. -/
@[simp] theorem lowerHold_water_power {p : Pool} (hp : p ≠ .power) (v : Nat) (s : State) :
    (lowerHold p v s).power = s.power := by
  cases p <;> simp only [lowerHold, ne_eq, not_true_eq_false, reduceCtorEq, not_false_eq_true] at hp ⊢ <;> split <;> simp

@[simp] theorem unwantInlet_power (s : State) : (unwantInlet s).power = s.power := by
  unfold unwantInlet releaseWater
  (repeat' split) <;> simp

@[simp] theorem clearFill_power (s : State) : (clearFill s).power = s.power := by simp [clearFill]

@[simp] theorem endSteam_power (s : State) : (endSteam s).power = s.power := by simp [endSteam]

@[simp] theorem enterFilling_power (s : State) : (enterFilling s).power = s.power := by
  simp only [enterFilling, endCookingFill]
  split <;> simp

/-- What a change of steam does leaves the scheduler as it is. -/
@[simp] theorem judgeSteam_power (s : State) : (judgeSteam s).power = s.power := by
  unfold judgeSteam
  (repeat' split) <;> simp

/-- After `settle` the base-actuator outputs follow their requests (R25, R33). -/
theorem settle_baseFollows {s : State}
    (h : s.power.inFrame = true → s.power.carriesBase = false → s.power.base = PerActuator.all false) :
    BaseFollows (settle s) := by
  have hb : BaseFollows (settleBase (settleOutputs (judgeSteam s))) := by
    refine settleBase_baseFollows ?_
    unfold settleOutputs
    dsimp only
    split <;> simpa using h
  simpa [BaseFollows, baseRequests, settle] using hb
end Sys2Proof.Machine
end

