-- ==== Sys2Proof/Laws/Bodies.lean ====
section
/-!
SUPPORT. Bodies as numbers (R63, R175, R179): what the bytes of a number read as, and the body of a frame in its send
buffer.
-/
namespace Sys2Proof.Machine

@[simp] theorem byteOf_toNat (v : Nat) : (byteOf v).toNat = v % 256 := BitVec.toNat_ofNat v 8

theorem bytesToNat_byteOf (v : Nat) : bytesToNat [byteOf v] = v % 256 := by simp [bytesToNat]

theorem bytesToNat_bytes2 (v : Nat) : bytesToNat (bytes2 v) = v % 65536 := by
  simp [bytesToNat, bytes2]; omega

theorem bytesToNat_bytes3 (v : Nat) : bytesToNat (bytes3 v) = v % 16777216 := by
  simp [bytesToNat, bytes3]; omega

/-- Between the length byte and the check field stands the body (R63). -/
theorem sentBody_of_frameBytes {s t : State} {f : TxFrame} (h : t.line.txBytes = frameBytes s f) :
    sentBody t = bodyBytes s f := by
  simp [sentBody, h, frameBytes, coveredBytes, bytes2]

end Sys2Proof.Machine
end

