-- ==== Sys2Proof/Laws/Chains.lean ====
section
/-!
SUPPORT. Chains of entries (R125): what `enterStage` answers where a chain comes to rest, so that no proof unfolds the
recursion.
-/
namespace Sys2Proof.Machine

/-- The machine at an entry: the index that is current and the return stack. -/
def State.atEntry (s : State) (cur : Nat) (stack : List Nat) : State :=
  s.setRecipe { s.recipe with cur := cur, stack := stack }

@[simp] theorem State.atEntry_recipe (s : State) (cur : Nat) (stack : List Nat) :
    (s.atEntry cur stack).recipe = { s.recipe with cur := cur, stack := stack } := rfl

theorem skipHolds_atEntry (s : State) (cur : Nat) (stack : List Nat) :
    skipHolds (s.atEntry cur stack) = skipHolds s := by
  funext k; cases k <;> rfl

/-- No stage stands behind the last one (R116). -/
theorem stageAt_past {r : Recipe} {i : Nat} (h : r.store.length < i) : stageAt r i = none := by
  unfold stageAt
  split
  · rfl
  · exact List.getElem?_eq_none (by omega)

/-- A skip condition that does not hold, or that is absent, skips nothing. -/
theorem skip_any_false {s : State} {k : Option Skip} (h : ∀ x ∈ k, skipHolds s x = false) :
    k.any (skipHolds s) = false := by
  cases k with
  | none => rfl
  | some x => exact h x rfl

/-- One entry, by the kind of its stage (R125). -/
theorem enterStage_succ (s : State) (fuel i cur : Nat) (stack : List Nat) :
    enterStage (fuel + 1) i (s.atEntry cur stack) =
      match stageAt s.recipe i, stack with
      | none, _ => finishProgram (s.atEntry i stack)
      | some .ret, [] => finishProgram (s.atEntry i stack)
      | some .ret, j :: rest => enterStage fuel j (s.atEntry i rest)
      | some (.call target skip), _ =>
        if skip.any (skipHolds s) then enterStage fuel (i + 1) (s.atEntry i stack)
        else if stack.length < 2 then enterStage fuel target (s.atEntry i ((i + 1) :: stack))
        else faultProgram .stackFault (s.atEntry i stack)
      | some (.heat h skip), _ =>
        if skip.any (skipHolds s) then enterStage fuel (i + 1) (s.atEntry i stack)
        else
          let s2 := beginStage i h (s.atEntry i stack)
          if stageEnds s2 then enterStage fuel (i + 1) s2 else probeRule s2 := by
  rw [← skipHolds_atEntry s i stack]
  change (match stageAt s.recipe i with | none => _ | some .ret => _ | some (.call _ _) => _ | some (.heat _ _) => _) = _
  cases stageAt s.recipe i with
  | none => rfl
  | some x => cases x <;> cases stack <;> rfl

/-- What an entry answers where its chain comes to rest; a HEAT stage that begins is then judged (R126). -/
def Rest.Answers (s t : State) : Rest → Prop
  | .begins i h stack =>
    let s2 := beginStage i h (s.atEntry i stack)
    ∃ fuel, t = if stageEnds s2 then enterStage fuel (i + 1) s2 else probeRule s2
  | .finishes => ∃ j stack, t = finishProgram (s.atEntry j stack)
  | .stackFault => ∃ j stack, t = faultProgram .stackFault (s.atEntry j stack)

/-- A chain of entries comes to rest as the table of R125 says, under any bound above its length. -/
theorem enterStage_rests {s : State} {links i : Nat} {stack : List Nat} {r : Rest} (h : EntryRests s links i stack r) :
    ∀ {fuel : Nat} (cur : Nat), links < fuel → r.Answers s (enterStage fuel i (s.atEntry cur stack)) := by
  induction h with
  | past i stack hi =>
    rintro (_ | f) cur hf
    · omega
    · exact ⟨i, stack, by rw [enterStage_succ, stageAt_past hi]⟩
  | skipsHeat n i stack h k r hs hk _ ih =>
    rintro (_ | f) cur hf
    · omega
    · simpa only [enterStage_succ, hs, Option.any_some, hk, if_true] using ih i (by omega)
  | skipsCall n i target stack k r hs hk _ ih =>
    rintro (_ | f) cur hf
    · omega
    · simpa only [enterStage_succ, hs, Option.any_some, hk, if_true] using ih i (by omega)
  | calls n i target stack k r hs hk hl _ ih =>
    rintro (_ | f) cur hf
    · omega
    · simpa [enterStage_succ, hs, skip_any_false hk, hl] using ih i (by omega)
  | overflows i target stack k hs hk hl =>
    rintro (_ | f) cur hf
    · omega
    · exact ⟨i, stack, by simp [enterStage_succ, hs, skip_any_false hk, hl]⟩
  | returns n i j stack r hs _ ih =>
    rintro (_ | f) cur hf
    · omega
    · simpa only [enterStage_succ, hs] using ih i (by omega)
  | returnsToTheEnd i hs =>
    rintro (_ | f) cur hf
    · omega
    · exact ⟨i, [], by rw [enterStage_succ, hs]⟩
  | begins i stack h k hs hk _ =>
    rintro (_ | f) cur hf
    · omega
    · exact ⟨f, by simp [enterStage_succ, hs, skip_any_false hk]⟩

end Sys2Proof.Machine
end

