-- ==== Sys2Proof/Laws/PerInstr.lean ====
section
/-!
SUPPORT. A statement about every command as syntax: the length of the body of the frame that carries it.
-/
namespace Sys2Proof.Laws

/-- The body length of the frame that a command's row names (R173), for the rows that are one frame of a fixed class. -/
def bodyLength : Instr → Option Nat
  | .powerOn _ _ => none
  | .setupSupply fields => some (fields.length + 1)
  | .setupChannel _ fields => some (fields.length + 1)
  | .setupEnd fields => some (fields.length + 1)
  | .setupWindowExpiry => none
  | .query => some 0
  | .loadOpen _ _ => some 3
  | .stage _ record => some (record.length + 1)
  | .start => some 0
  | .pause => some 0
  | .resume => some 0
  | .abort => some 0
  | .answer _ _ => some 2
  | .finishAck => some 0
  | .runManual record => some record.length
  | .descaleStart => some 0
  | .descaleConfirm => some 0
  | .relayRestore => some 0
  | .restart => some 0
  | .reInitialisation => none
  | .partnerVeto _ => none
  | .climateSample => none
  | .doorInputChange _ => none
  | .doorOpens => none
  | .doorCloses => none
  | .zeroCrossing _ _ => none
  | .frequencyTimeout => none
  | .missedCrossing => none
  | .supplyStarved => none
  | .waterRaiseRetry => none
  | .raiseReceived _ _ _ _ _ => some 3
  | .lowerReceived _ _ _ _ _ => some 3
  | .yieldReceived _ _ _ => some 3
  | .statusReceived _ _ _ => some 7
  | .tripReceived _ _ _ _ => some 3
  | .tripClearReceived _ _ _ _ => some 3
  | .ownFrameComplete _ => none
  | .statusPeriod => none
  | .entryExpired _ => none
  | .entryRemoved _ => none
  | .lineIsolated => none
  | .lineLost => none
  | .joinWindowEnd => none
  | .yieldBackoffEnd => none
  | .leakInputChange _ => none
  | .leakWet => none
  | .leakDry => none
  | .lineIdle => none
  | .frameBegin => none
  | .openingMarkSeen => none
  | .arbitrationLost => none
  | .driveFault => none
  | .clash => none
  | .ownNumberFrame _ _ => none
  | .malformedFrame _ => none
  | .closingMarkBroken => none
  | .levelInputChange _ _ => none
  | .levelReadingChange _ => none
  | .flowPulse => none
  | .valveTimeLimit => none
  | .coolingTimerExpiry => none
  | .drainDryTimeEnd => none
  | .pumpTimeLimit => none
  | .serviceRecordWritten => none
  | .sensorReading _ => none
  | .channelFailed _ => none
  | .excursionStart _ _ => none
  | .excursionEnd _ _ => none
  | .relayFeedbackChange _ => none
  | .relayOpenFault => none
  | .relayWelded => none
  | .configCheck => none
  | .prepTimeout => none
  | .heatLimit => none
  | .descaleLowWater => none
  | .soakTimerEnd => none
  | .waitingForPool => none
  | .loadTimeout => none
  | .stageTimeEnd => none
  | .promptTimeout => none
  | .probeStateChange => none
  | .steamWithheld => none
  | .wellFormedFrameNotTaken _ => none
  | .lineIdleAfterBreak => none

end Sys2Proof.Laws

namespace Sys2Proof.Laws.Rows

/-- The body of a well-formed command's frame is no longer than the envelope allows (R63, R173). -/
def Statement (i : Instr) : Prop :=
  i.wellFormed = true → ∀ n : Nat, bodyLength i = some n → n ≤ 24

/-- A row that names no one frame. -/
theorem of_none {i : Instr} (h : bodyLength i = none) : Statement i := by
  intro _ n hn
  simp [h] at hn

/-- A row whose frame has one length. -/
theorem of_some {i : Instr} {k : Nat} (h : bodyLength i = some k) (hk : k ≤ 24) : Statement i := by
  intro _ n hn
  rw [h] at hn
  cases hn
  exact hk

/-- The lengths of a SETUP body. -/
theorem setup_length {fields : List Byte} (h : setupLengthOk fields = true) : fields.length + 1 ≤ 24 := by
  simp only [setupLengthOk, Bool.or_eq_true, beq_iff_eq] at h
  omega

/-- The lengths of a stage record. -/
theorem record_length {record : List Byte} (h : recordLengthOk record = true) : record.length + 1 ≤ 24 := by
  simp only [recordLengthOk, Bool.and_eq_true, decide_eq_true_eq] at h
  omega

theorem powerOn (station partner : Nibble) : Statement (.powerOn station partner) := of_none rfl

theorem setupSupply (fields : List Byte) : Statement (.setupSupply fields) := fun h _ hn => Option.some.inj hn ▸ setup_length h

theorem setupChannel (section_ : Byte) (fields : List Byte) : Statement (.setupChannel section_ fields) := fun h _ hn =>
  Option.some.inj hn ▸ setup_length (Bool.and_eq_true_iff.mp (Bool.and_eq_true_iff.mp h).1).1

theorem setupEnd (fields : List Byte) : Statement (.setupEnd fields) := fun h _ hn => Option.some.inj hn ▸ setup_length h

theorem setupWindowExpiry : Statement .setupWindowExpiry := of_none rfl

theorem query : Statement .query := of_some rfl (Nat.le_of_ble_eq_true rfl)

theorem loadOpen (count : Byte) (tag : Word16) : Statement (.loadOpen count tag) := of_some rfl (Nat.le_of_ble_eq_true rfl)

theorem stage (index : Byte) (record : List Byte) : Statement (.stage index record) := fun h _ hn => Option.some.inj hn ▸ record_length h

theorem start : Statement .start := of_some rfl (Nat.le_of_ble_eq_true rfl)

theorem pause : Statement .pause := of_some rfl (Nat.le_of_ble_eq_true rfl)

theorem resume : Statement .resume := of_some rfl (Nat.le_of_ble_eq_true rfl)

theorem abort : Statement .abort := of_some rfl (Nat.le_of_ble_eq_true rfl)

theorem answer (index reply : Byte) : Statement (.answer index reply) := of_some rfl (Nat.le_of_ble_eq_true rfl)

theorem finishAck : Statement .finishAck := of_some rfl (Nat.le_of_ble_eq_true rfl)

theorem runManual (record : List Byte) : Statement (.runManual record) := fun h _ hn =>
  Option.some.inj hn ▸ Nat.le_of_succ_le (record_length h)

theorem descaleStart : Statement .descaleStart := of_some rfl (Nat.le_of_ble_eq_true rfl)

theorem descaleConfirm : Statement .descaleConfirm := of_some rfl (Nat.le_of_ble_eq_true rfl)

theorem relayRestore : Statement .relayRestore := of_some rfl (Nat.le_of_ble_eq_true rfl)

theorem restart : Statement .restart := of_some rfl (Nat.le_of_ble_eq_true rfl)

theorem reInitialisation : Statement .reInitialisation := of_none rfl

theorem partnerVeto (sender : Nibble) : Statement (.partnerVeto sender) := of_none rfl

theorem climateSample : Statement .climateSample := of_none rfl

theorem doorInputChange (isOpen : Bool) : Statement (.doorInputChange isOpen) := of_none rfl

theorem doorOpens : Statement .doorOpens := of_none rfl

theorem doorCloses : Statement .doorCloses := of_none rfl

theorem zeroCrossing (interval volts : Nat) : Statement (.zeroCrossing interval volts) := of_none rfl

theorem frequencyTimeout : Statement .frequencyTimeout := of_none rfl

theorem missedCrossing : Statement .missedCrossing := of_none rfl

theorem supplyStarved : Statement .supplyStarved := of_none rfl

theorem waterRaiseRetry : Statement .waterRaiseRetry := of_none rfl

theorem raiseReceived (sender : Nibble) (pool : Pool) (group : Byte) (hold : Word16) (otherVeto : Bool) : Statement (.raiseReceived sender pool group hold otherVeto) := of_some rfl (Nat.le_of_ble_eq_true rfl)

theorem lowerReceived (sender : Nibble) (pool : Pool) (group : Byte) (hold : Word16) (otherVeto : Bool) : Statement (.lowerReceived sender pool group hold otherVeto) := of_some rfl (Nat.le_of_ble_eq_true rfl)

theorem yieldReceived (sender : Nibble) (group : Byte) (need : Word16) : Statement (.yieldReceived sender group need) := of_some rfl (Nat.le_of_ble_eq_true rfl)

theorem statusReceived (sender : Nibble) (body : StatusBody) (otherVeto : Bool) : Statement (.statusReceived sender body otherVeto) := of_some rfl (Nat.le_of_ble_eq_true rfl)

theorem tripReceived (sender : Nibble) (type origin group : Byte) : Statement (.tripReceived sender type origin group) := of_some rfl (Nat.le_of_ble_eq_true rfl)

theorem tripClearReceived (sender : Nibble) (type origin group : Byte) : Statement (.tripClearReceived sender type origin group) := of_some rfl (Nat.le_of_ble_eq_true rfl)

theorem ownFrameComplete (vetoed : Bool) : Statement (.ownFrameComplete vetoed) := of_none rfl

theorem statusPeriod : Statement .statusPeriod := of_none rfl

theorem entryExpired (station : Nibble) : Statement (.entryExpired station) := of_none rfl

theorem entryRemoved (station : Nibble) : Statement (.entryRemoved station) := of_none rfl

theorem lineIsolated : Statement .lineIsolated := of_none rfl

theorem lineLost : Statement .lineLost := of_none rfl

theorem joinWindowEnd : Statement .joinWindowEnd := of_none rfl

theorem yieldBackoffEnd : Statement .yieldBackoffEnd := of_none rfl

theorem leakInputChange (wet : Bool) : Statement (.leakInputChange wet) := of_none rfl

theorem leakWet : Statement .leakWet := of_none rfl

theorem leakDry : Statement .leakDry := of_none rfl

theorem lineIdle : Statement .lineIdle := of_none rfl

theorem frameBegin : Statement .frameBegin := of_none rfl

theorem openingMarkSeen : Statement .openingMarkSeen := of_none rfl

theorem arbitrationLost : Statement .arbitrationLost := of_none rfl

theorem driveFault : Statement .driveFault := of_none rfl

theorem clash : Statement .clash := of_none rfl

theorem ownNumberFrame (content : FrameContent) (otherVeto : Bool) : Statement (.ownNumberFrame content otherVeto) := of_none rfl

theorem malformedFrame (ground : MalformGround) : Statement (.malformedFrame ground) := of_none rfl

theorem closingMarkBroken : Statement .closingMarkBroken := of_none rfl

theorem levelInputChange (electrode : Electrode) (wet : Bool) : Statement (.levelInputChange electrode wet) := of_none rfl

theorem levelReadingChange (electrode : Electrode) : Statement (.levelReadingChange electrode) := of_none rfl

theorem flowPulse : Statement .flowPulse := of_none rfl

theorem valveTimeLimit : Statement .valveTimeLimit := of_none rfl

theorem coolingTimerExpiry : Statement .coolingTimerExpiry := of_none rfl

theorem drainDryTimeEnd : Statement .drainDryTimeEnd := of_none rfl

theorem pumpTimeLimit : Statement .pumpTimeLimit := of_none rfl

theorem serviceRecordWritten : Statement .serviceRecordWritten := of_none rfl

theorem sensorReading (inputs : SensorInputs) : Statement (.sensorReading inputs) := of_none rfl

theorem channelFailed (channel : Channel) : Statement (.channelFailed channel) := of_none rfl

theorem excursionStart (channel : Channel) (side : Side) : Statement (.excursionStart channel side) := of_none rfl

theorem excursionEnd (channel : Channel) (side : Side) : Statement (.excursionEnd channel side) := of_none rfl

theorem relayFeedbackChange (closed : Bool) : Statement (.relayFeedbackChange closed) := of_none rfl

theorem relayOpenFault : Statement .relayOpenFault := of_none rfl

theorem relayWelded : Statement .relayWelded := of_none rfl

theorem configCheck : Statement .configCheck := of_none rfl

theorem prepTimeout : Statement .prepTimeout := of_none rfl

theorem heatLimit : Statement .heatLimit := of_none rfl

theorem descaleLowWater : Statement .descaleLowWater := of_none rfl

theorem soakTimerEnd : Statement .soakTimerEnd := of_none rfl

theorem waitingForPool : Statement .waitingForPool := of_none rfl

theorem loadTimeout : Statement .loadTimeout := of_none rfl

theorem stageTimeEnd : Statement .stageTimeEnd := of_none rfl

theorem promptTimeout : Statement .promptTimeout := of_none rfl

theorem probeStateChange : Statement .probeStateChange := of_none rfl

theorem steamWithheld : Statement .steamWithheld := of_none rfl

theorem wellFormedFrameNotTaken (sender : Nibble) : Statement (.wellFormedFrameNotTaken sender) := of_none rfl

theorem lineIdleAfterBreak : Statement .lineIdleAfterBreak := of_none rfl

end Sys2Proof.Laws.Rows
end

