-- ==== Sys2Proof/Laws/Sides.lean ====
section
/-!
SUPPORT. The side states, said once: what a reading does to the sides that judge it (R144, R145, R149), in the terms of
`SideJudged`, and that judging a channel leaves the sides of every other.
-/
namespace Sys2Proof.Machine

/-- A reading moves a side by the table of R144. -/
theorem SideRec.judge_moves (r : SideRec) (j : Judged) : SideMoves (j.beyond = true) (j.back = true) r (r.judge j) := by
  rcases j with ⟨b, k⟩
  cases hr : r.state <;> cases b <;> cases k <;> simp [SideMoves, SideRec.judge, hr]

theorem hysteresis_eq (c : Channel) : hysteresis c = hysteresisOf c := by cases c <;> rfl

/-- Judging one channel changes its two sides alone. -/
theorem judgeChannelSides_superv (c : Channel) (s : State) :
    (judgeChannelSides c s).superv = { s.superv with
      low := (judgeChannelSides c s).superv.low, high := (judgeChannelSides c s).superv.high }
    ∧ ∀ k, k ≠ c → (judgeChannelSides c s).superv.low.get k = s.superv.low.get k
      ∧ (judgeChannelSides c s).superv.high.get k = s.superv.high.get k := by
  unfold judgeChannelSides
  split
  · dsimp only
    split <;> refine ⟨rfl, fun k hk => ?_⟩ <;> simp [PerChannel.get_set_of_ne _ _ hk]
  · exact ⟨rfl, fun _ _ => ⟨rfl, rfl⟩⟩

/-- Judging the fixed cavity limit changes its side alone. -/
theorem judgeFixed_superv (s : State) :
    (judgeFixed s).superv = { s.superv with fixed := (judgeFixed s).superv.fixed } := by
  unfold judgeFixed
  split <;> rfl

/-- What a side is judged on: its limit passed, or back inside (R143, R145, R149). -/
def sideJudgement (s : State) (c : Channel) : Side → Option Judged
  | .low => lowJudgement (s.startup.channels.get c) c (s.superv.readings.get c)
  | .high => highJudgement (s.startup.channels.get c) c (s.superv.readings.get c)
  | .fixed => fixedJudgement s.superv.readings.cav

/-- The judgement of a side is `BeyondSide` and `BackInside`; there is none where the channel neither shows a value nor has
failed. -/
theorem sideJudgement_spec {s : State} {c : Channel} {d : Side} (hd : d = .fixed → c = .cav)
    (h : (s.superv.readings.get c).failed ≠ some .fixed) :
    (∃ j, sideJudgement s c d = some j ∧ (reading s c ≠ none ∨ (s.superv.readings.get c).failed ≠ none)
        ∧ (BeyondSide s c d ↔ j.beyond = true) ∧ (BackInside s c d ↔ j.back = true))
      ∨ (sideJudgement s c d = none ∧ reading s c = none ∧ (s.superv.readings.get c).failed = none) := by
  have hy := hysteresis_eq c
  cases d with
  | fixed =>
    obtain rfl := hd rfl
    simp only [sideJudgement, fixedJudgement, BeyondSide, BeyondFixedLimit, BackInside, reading, PerChannel.get] at h ⊢
    rcases hF : s.superv.readings.cav.failed with _ | (_ | _ | _)
    · rcases s.superv.readings.cav.value with _ | v <;> simp
    · simp
    · simp
    · exact absurd hF h
  | low =>
    simp only [sideJudgement, lowJudgement, BeyondSide, BackInside, reading, ← hy] at h ⊢
    rcases hF : (s.superv.readings.get c).failed with _ | (_ | _ | _)
    · rcases (s.superv.readings.get c).value with _ | v <;> simp [judgeLow]
    · simp
    · simp
    · exact absurd hF h
  | high =>
    simp only [sideJudgement, highJudgement, BeyondSide, BackInside, reading, ← hy] at h ⊢
    rcases hF : (s.superv.readings.get c).failed with _ | (_ | _ | _)
    · rcases (s.superv.readings.get c).value with _ | v <;> simp [judgeHigh]
    · simp
    · simp
    · exact absurd hF h

/-- A side that takes its judgement has judged its reading. -/
theorem sideJudged_of_apply {s t : State} {c : Channel} {d : Side} (hd : d = .fixed → c = .cav)
    (h : (t.superv.readings.get c).failed ≠ some .fixed)
    (ht : sideRec t.superv c d = applyJudged (sideRec s.superv c d) (sideJudgement t c d)) :
    (reading t c = none → (t.superv.readings.get c).failed = none → sideRec t.superv c d = sideRec s.superv c d)
      ∧ (reading t c ≠ none ∨ (t.superv.readings.get c).failed ≠ none →
        SideMoves (BeyondSide t c d) (BackInside t c d) (sideRec s.superv c d) (sideRec t.superv c d)) := by
  rcases sideJudgement_spec hd h with ⟨j, hj, hv, hb, hk⟩ | ⟨hj, hv, hf⟩
  · rw [ht, hj, hb, hk]
    exact ⟨fun h1 h2 => by simp [h1, h2] at hv, fun _ => SideRec.judge_moves _ j⟩
  · rw [ht, hj]
    exact ⟨fun _ _ => rfl, fun h => by simp [hv, hf] at h⟩

/-- The sides of a channel judge its reading (R144, R145). -/
theorem judgeChannelSides_judged {c : Channel} {s : State} (h : (s.superv.readings.get c).failed ≠ some .fixed)
    {d : Side} (hd : d ≠ .fixed) : SideJudged s (judgeChannelSides c s) c d := by
  have hr : (judgeChannelSides c s).superv.readings = s.superv.readings := by rw [(judgeChannelSides_superv c s).1]
  have hm : (judgeChannelSides c s).superv.mainsArmed = s.superv.mainsArmed := by rw [(judgeChannelSides_superv c s).1]
  have hc : (judgeChannelSides c s).startup = s.startup := by simp
  have hu : SideUnjudged s (judgeChannelSides c s) c d ↔ judges s c = false := by
    unfold SideUnjudged judges
    rw [hm]
    by_cases hcm : c = .mains <;> cases s.superv.judging <;> simp [hd, hcm, Decidable.imp_iff_not_or]
  unfold SideJudged
  rw [hu, hr, Bool.not_eq_false]
  refine ⟨fun hj => ?_, fun hj => ⟨fun _ ha => ?_, fun ha => ?_⟩⟩
  · cases d <;> simp [judgeChannelSides, hj, sideRec]
  · cases d with
    | fixed => exact absurd rfl hd
    | low => cases hs : (s.superv.low.get c).state <;> simp [judgeChannelSides, hj, ha, sideRec, SideRec.absent, hs]
    | high => cases hs : (s.superv.high.get c).state <;> simp [judgeChannelSides, hj, ha, sideRec, SideRec.absent, hs]
  · replace ha := ha.resolve_left hd
    have := sideJudged_of_apply (s := s) (t := judgeChannelSides c s) (fun e => absurd e hd) (by rw [hr]; exact h) (by
      unfold sideJudgement
      rw [hr, hc]
      cases d with
      | fixed => exact absurd rfl hd
      | low => simp [judgeChannelSides, hj, ha, sideRec]
      | high => simp [judgeChannelSides, hj, ha, sideRec])
    rwa [hr] at this

/-- The fixed cavity limit judges the reading of CAV, whether or not CAV is enabled (R149). -/
theorem judgeFixed_judged {s : State} (h : s.superv.readings.cav.failed ≠ some .fixed) :
    SideJudged s (judgeFixed s) .cav .fixed := by
  have hr : (judgeFixed s).superv.readings = s.superv.readings := by rw [judgeFixed_superv]
  refine ⟨fun hj => ?_, fun hj => ⟨fun e => absurd rfl e, fun _ => ?_⟩⟩
  · simp_all [SideUnjudged, judgeFixed]
  · simp only [SideUnjudged, ne_eq, not_true_eq_false, false_and, or_false, Bool.not_eq_false] at hj
    refine sideJudged_of_apply (fun _ => rfl) (by rw [hr]; exact h) ?_
    unfold sideJudgement
    rw [hr]
    simp [judgeFixed, hj, sideRec]

/-- Whether a side has judged its reading is read from its record before and after, and from the readings after. -/
theorem SideJudged.congr {s s' t t' : State} {c : Channel} {d : Side} (h : SideJudged s t c d)
    (hj : s'.superv.judging = s.superv.judging) (hc : s'.startup.channels = s.startup.channels)
    (hc' : t'.startup.channels = t.startup.channels)
    (hm : t'.superv.mainsArmed = t.superv.mainsArmed) (hr : t'.superv.readings = t.superv.readings)
    (hs : sideRec s'.superv c d = sideRec s.superv c d) (ht : sideRec t'.superv c d = sideRec t.superv c d) :
    SideJudged s' t' c d := by
  have hb : BeyondSide t' c d = BeyondSide t c d := by
    cases d <;> simp only [BeyondSide, BeyondFixedLimit, reading, hr, hc']
  have hk : BackInside t' c d = BackInside t c d := by
    cases d <;> simp only [BackInside, reading, hr, hc']
  unfold SideJudged SideUnjudged reading at *
  rw [hj, hc, hm, hr, hs, ht, hb, hk]
  exact h

/-- Judging one channel leaves every side but its own, and the readings they are judged on. -/
theorem judgeChannelSides_other (c : Channel) (s : State) :
    (judgeChannelSides c s).superv.readings = s.superv.readings
      ∧ (judgeChannelSides c s).superv.judging = s.superv.judging
      ∧ (judgeChannelSides c s).superv.mainsArmed = s.superv.mainsArmed
      ∧ ∀ k d, k ≠ c ∨ d = .fixed → sideRec (judgeChannelSides c s).superv k d = sideRec s.superv k d := by
  obtain ⟨h1, h2⟩ := judgeChannelSides_superv c s
  refine ⟨by rw [h1], by rw [h1], by rw [h1], fun k d h => ?_⟩
  cases d with
  | low => exact (h2 k (h.resolve_right (by simp))).1
  | high => exact (h2 k (h.resolve_right (by simp))).2
  | fixed => show (judgeChannelSides c s).superv.fixed = _; rw [h1]; rfl

/-- Judging the fixed cavity limit leaves every other side, and the readings they are judged on. -/
theorem judgeFixed_other (s : State) :
    (judgeFixed s).superv.readings = s.superv.readings ∧ (judgeFixed s).superv.judging = s.superv.judging
      ∧ (judgeFixed s).superv.mainsArmed = s.superv.mainsArmed
      ∧ ∀ k d, d ≠ .fixed → sideRec (judgeFixed s).superv k d = sideRec s.superv k d := by
  have h := judgeFixed_superv s
  refine ⟨by rw [h], by rw [h], by rw [h], fun k d hd => ?_⟩
  cases d with
  | low => show (judgeFixed s).superv.low.get k = _; rw [h]; rfl
  | high => show (judgeFixed s).superv.high.get k = _; rw [h]; rfl
  | fixed => exact absurd rfl hd

/-- The channels read every 10 ms judge their readings, and so does the fixed limit; MAINS does not. -/
theorem judgeReadings_judged {s : State} (h : ∀ c, c ≠ .mains → (s.superv.readings.get c).failed ≠ some .fixed) :
    (judgeReadings s).superv = { s.superv with
        low := (judgeReadings s).superv.low, high := (judgeReadings s).superv.high, fixed := (judgeReadings s).superv.fixed }
      ∧ (∀ d, d ≠ .fixed → sideRec (judgeReadings s).superv .mains d = sideRec s.superv .mains d)
      ∧ ∀ c d, c ≠ .mains → d ≠ .fixed ∨ c = .cav → SideJudged s (judgeReadings s) c d := by
  have hF := judgeFixed_other
  have hC := judgeChannelSides_other
  refine ⟨?_, fun d hd => ?_, fun c d hc hd => ?_⟩
  · unfold judgeReadings
    rw [judgeFixed_superv]
    iterate 5 rw [(judgeChannelSides_superv _ _).1]
  · unfold judgeReadings
    rw [(hF _).2.2.2 _ _ hd]
    iterate 5 rw [(hC _ _).2.2.2 _ _ (.inl (by decide))]
  · by_cases hx : d = .fixed
    · subst hx
      obtain rfl := hd.resolve_left (by simp)
      refine (judgeFixed_judged (s := judgeChannelSides .board (judgeChannelSides .moist (judgeChannelSides .boil
        (judgeChannelSides .core (judgeChannelSides .cav s))))) ?_).congr ?_ ?_ rfl rfl rfl ?_ rfl
      · simp only [(hC _ _).1]; exact h .cav (by simp)
      · simp only [(hC _ _).2.1]
      · simp
      · simp only [(hC _ _).2.2.2 _ .fixed (.inr rfl)]
    · cases c with
      | mains => exact absurd rfl hc
      | cav =>
        refine (judgeChannelSides_judged (c := .cav) (s := s) (h _ (by simp)) hx).congr rfl rfl ?_ ?_ ?_ rfl ?_
          <;> simp [judgeReadings, hF, hC, hx]
      | core =>
        refine (judgeChannelSides_judged (c := .core) (s := judgeChannelSides .cav s)
          (by rw [(hC _ _).1]; exact h _ (by simp)) hx).congr
          ?_ ?_ ?_ ?_ ?_ ?_ ?_ <;> simp [judgeReadings, hF, hC, hx]
      | boil =>
        refine (judgeChannelSides_judged (c := .boil) (s := judgeChannelSides .core (judgeChannelSides .cav s))
          (by simp only [(hC _ _).1]; exact h _ (by simp)) hx).congr
          ?_ ?_ ?_ ?_ ?_ ?_ ?_ <;> simp [judgeReadings, hF, hC, hx]
      | moist =>
        refine (judgeChannelSides_judged (c := .moist) (s := judgeChannelSides .boil (judgeChannelSides .core
          (judgeChannelSides .cav s))) (by simp only [(hC _ _).1]; exact h _ (by simp)) hx).congr
          ?_ ?_ ?_ ?_ ?_ ?_ ?_ <;> simp [judgeReadings, hF, hC, hx]
      | board =>
        refine (judgeChannelSides_judged (c := .board) (s := judgeChannelSides .moist (judgeChannelSides .boil
          (judgeChannelSides .core (judgeChannelSides .cav s)))) (by simp only [(hC _ _).1]; exact h _ (by simp)) hx).congr
          ?_ ?_ ?_ ?_ ?_ ?_ ?_ <;> simp [judgeReadings, hF, hC, hx]
end Sys2Proof.Machine
end

