-- ==== Sys2Proof/Laws/Timers.lean ====
section
/-!
SUPPORT. The idle step, block by block: what ten milliseconds do to the timers, and that a block in which no row falls
due is left as it is.
-/
namespace Sys2Proof.Machine

/-- The timers of the model advance as `tenMsLater` says. -/
theorem advanceAll_eq_tenMsLater (s : State) : advanceAll s = tenMsLater s := by
  have hf : advanceFill s = fun f => { f with valveMs := later s.power.base.fill f.valveMs } := by
    funext f; simp [advanceFill, advance, later, tickMs]
  have hd : advanceDrain s = fun d =>
      ⟨later s.power.base.pump d.pumpMs, later (s.power.base.pump && !s.steam.levels.low) d.dryMs⟩ := by
    funext d; simp [advanceDrain, advance, later, tickMs]
  have hs : ∀ r, advanceSide r = sideLater true r := fun r => by simp [advanceSide, sideLater, advance, later, tickMs]
  have hc : ∀ r : SideRec, (if recoveryCounts s.superv .core then sideLater true r else r)
      = sideLater (!s.superv.readings.core.cond.showsAbsent) r := by
    intro r
    by_cases h : s.superv.readings.core.cond.showsAbsent <;>
      simp [recoveryCounts, sideLater, later, PerChannel.get, h]
  simp only [advanceAll, tenMsLater, advanceSteam, hf, hd, advanceSuperv, advanceSides, sidesLater, hs, hc]
  simp [advanceStartup, advanceClimate, advancePower, advanceShare, advanceDescale, advanceRecipe, advance,
    advanceOrClear, later, laterWhile, waterWaits, advanceLevel, levelLater, descaleTimed, soakAdvances, lowWaterPhase,
    PerChannel.map, advanceReading, readingLater, tickMs]

/-- A moment that is not due, or has no effect, changes nothing. -/
theorem fire_of_not_due {due : State → Bool} {effect : State → State} {s : State} (h : due s = true → effect s = s) :
    fire due effect s = s := by
  unfold fire; split
  · exact h ‹_›
  · rfl

/-- A row stands in the list of a moment when it is due. -/
theorem moment_eq_nil {b : Bool} {c : Instr} : moment b c = [] ↔ b = false := by
  cases b <;> simp [moment]

/-- No pool is marked. -/
theorem PerPool.eq_all_false {p : PerPool Bool} :
    p = PerPool.all false ↔ p.power = false ∧ p.inlet = false ∧ p.drain = false := by
  cases p; simp [PerPool.all]

/-- Start-up, restart, climate sample and door, where none of them falls due. -/
theorem fireDoor_fireStart_of_none {s : State} (h : startMoments s = []) : fireDoor (fireStart s) = s := by
  simp only [startMoments, List.append_eq_nil_iff, moment_eq_nil, decide_eq_false_iff_not, PerPool.eq_all_false] at h
  obtain ⟨⟨⟨⟨h1, h2⟩, h3⟩, h4⟩, h5⟩ := h
  have e1 : fire (fun s => decide (10000 ≤ s.startup.windowMs)) setupWindowExpiry s = s :=
    fire_of_not_due fun hd => if_neg fun ho => h1 ⟨ho, of_decide_eq_true hd⟩
  have e2 : reInitIfDue s = s := by
    by_cases hd : restartDue s = true <;> simp only [reInitIfDue, hd, if_true]
    · refine if_neg fun hr => h2 ⟨hr.1, hr.2, ?_⟩
      simpa [restartDue, and_assoc] using hd
    · rfl
  have e3 : fire (fun s => decide (1000 ≤ s.climate.sampleMs)) climateSample s = s :=
    fire_of_not_due fun hd => if_neg fun hr => h3 (by simpa [and_assoc] using And.intro hr (of_decide_eq_true hd))
  have e4 : fire (fun s => decide (50 ≤ s.climate.doorMs)) doorOpens s = s :=
    fire_of_not_due fun hd => if_neg fun hr => h4 (by simpa [and_assoc] using And.intro hr (of_decide_eq_true hd))
  have e5 : fire (fun s => decide (50 ≤ s.climate.doorMs)) doorCloses s = s :=
    fire_of_not_due fun hd => if_neg fun hr => h5 (by simpa [and_assoc] using And.intro hr (of_decide_eq_true hd))
  simp only [fireDoor, fireStart, e1, e2, e3, e4, e5]

/-- The scheduler, where nothing falls due. -/
theorem firePower_of_none {s : State} (h : powerMoments s = []) : firePower s = s := by
  simp only [powerMoments, List.append_eq_nil_iff, moment_eq_nil, decide_eq_false_iff_not] at h
  obtain ⟨⟨h1, h2⟩, h3⟩ := h
  have e1 : fire (fun s => decide (10000 ≤ s.power.freqMs)) frequencyTimeout s = s :=
    fire_of_not_due fun hd => if_neg fun hr => h1 ⟨hr, of_decide_eq_true hd⟩
  have e2 : fire missDue missedCrossing s = s :=
    fire_of_not_due fun hd => if_neg fun hr => by simp [missDue] at hd; simp [hr, hd] at h2
  have e3 : fire (fun s => reached 60000 s.power.starveMs) supplyStarved s = s :=
    fire_of_not_due fun hd => absurd hd (by simpa [reached] using h3)
  simp only [firePower, e1, e2, e3]

/-- No entry that is not due is touched, whichever entries come before it. -/
theorem fireEntries_of_none {s : State} (ht : (s.share.table.map (·.station)).Pairwise (· < ·))
    (h : s.share.table.flatMap entryMoment = []) : fireEntries s = s := by
  have key : ∀ l : List Entry, (∀ e ∈ l, findEntry s.share.table e.station = some e ∧ entryMoment e = []) →
      l.foldl (fun s e => if 65000 ≤ e.heardMs then entryRemoved e.station s
        else if 3500 ≤ e.heardMs then entryExpired e.station s else s) s = s := by
    intro l
    induction l with
    | nil => intro _; rfl
    | cons e l ih =>
      intro hl
      obtain ⟨hf, hm⟩ := hl e (by simp)
      have he : (if 65000 ≤ e.heardMs then entryRemoved e.station s
          else if 3500 ≤ e.heardMs then entryExpired e.station s else s) = s := by
        unfold entryMoment at hm
        split at hm
        · simp at hm
        · rename_i hn
          simp only [moment_eq_nil, decide_eq_false_iff_not, not_and, Bool.not_eq_false] at hm
          rw [if_neg hn]
          split
          · rename_i h3; simp [entryExpired, hf, hm h3]
          · rfl
      rw [List.foldl_cons, he]
      exact ih fun x hx => hl x (by simp [hx])
  refine key _ fun e he => ⟨?_, List.flatMap_eq_nil_iff.1 h e he⟩
  generalize s.share.table = l at ht he
  induction l with
  | nil => simp at he
  | cons x l ih =>
    simp only [List.map_cons, List.pairwise_cons, List.mem_map, forall_exists_index, and_imp, forall_apply_eq_imp_iff₂]
      at ht
    rcases List.mem_cons.1 he with rfl | he
    · simp [findEntry]
    · have hx : x.station ≠ e.station := (ht.1 e he).ne
      have := ih ht.2 he
      simp [findEntry, hx] at this ⊢
      exact this

/-- The shares, where nothing falls due. -/
theorem fireShare_of_none {s : State} (ht : (s.share.table.map (·.station)).Pairwise (· < ·))
    (h : shareMoments s = []) : fireShare s = s := by
  simp only [shareMoments, List.append_eq_nil_iff, moment_eq_nil, decide_eq_false_iff_not] at h
  obtain ⟨⟨⟨⟨⟨⟨⟨⟨h1, h2⟩, h3⟩, h4⟩, h5⟩, h6⟩, h7⟩, h8⟩, h9⟩ := h
  have e1 : fire (fun s => decide (1000 ≤ s.share.retryMs)) waterRaiseRetry s = s :=
    fire_of_not_due fun hd => absurd (of_decide_eq_true hd) h1
  have e2 : fire (fun s => decide (1000 ≤ s.share.statusMs)) statusPeriod s = s :=
    fire_of_not_due fun hd => if_neg fun hr => h2 ⟨hr, of_decide_eq_true hd⟩
  have e4 : fire (fun s => reached 2000 s.share.sinceOwnMs) lineIsolated s = s :=
    fire_of_not_due fun hd => if_neg fun hr => by simp [reached] at hd; simp [hr.1, hd] at h4
  have e5 : fire (fun s => decide (60000 ≤ s.share.isolatedMs)) lineLost s = s :=
    fire_of_not_due fun hd => if_neg fun hr => h5 ⟨hr.1, hr.2, of_decide_eq_true hd⟩
  have e6 : fire (fun s => reached 3500 s.share.joinMs) joinWindowEnd s = s :=
    fire_of_not_due fun hd => if_neg fun hr => by simp [reached] at hd; simp [hr.1, hd] at h6
  have e7 : fire (fun s => reached 5000 s.share.backoffMs) yieldBackoffEnd s = s :=
    fire_of_not_due fun hd => absurd hd (by simpa [reached] using h7)
  have e8 : fire (fun s => decide (2000 ≤ s.share.leakMs)) leakWet s = s :=
    fire_of_not_due fun hd => if_neg fun hr => h8 (by simp at hr hd; tauto)
  have e9 : fire (fun s => decide (30000 ≤ s.share.leakMs)) leakDry s = s :=
    fire_of_not_due fun hd => if_neg fun hr => h9 (by simp at hr hd; tauto)
  simp only [fireShare, fireLink, fireLeak, e1, e2, fireEntries_of_none ht h3, e4, e5, e6, e7, e8, e9]

/-- An electrode that keeps its reading. -/
theorem fireLevel_of_none {s : State} {e : Electrode} (h : levelMoment s e = []) : fireLevel e s = s := by
  simp only [levelMoment, moment_eq_nil, decide_eq_false_iff_not] at h
  exact fire_of_not_due fun hd => if_pos (by by_contra hn; exact h ⟨hn, of_decide_eq_true hd⟩)

/-- The generator, where nothing falls due. -/
theorem fireSteam_of_none {s : State} (h : steamMoments s = []) : fireSteam s = s := by
  simp only [steamMoments, List.append_eq_nil_iff, moment_eq_nil, decide_eq_false_iff_not] at h
  obtain ⟨⟨⟨⟨⟨⟨h1, h2⟩, h3⟩, h4⟩, h5⟩, h6⟩, h7⟩ := h
  have e4 : fire (fun s => s.steam.fill.any fun f => decide (180000 ≤ f.valveMs)) valveTimeLimit s = s := by
    refine fire_of_not_due fun hd => ?_
    unfold valveTimeLimit
    cases hf : s.steam.fill with
    | none => rfl
    | some f =>
      simp only [hf, Option.any_some, decide_eq_true_eq, valveLimitActs, Bool.and_eq_false_iff] at hd h4 ⊢
      split
      · rfl
      · cases hk : f.kind <;> simp_all [workOrHigh]
  have e5 : fire (fun s => decide (1200000 ≤ s.steam.coolMs)) coolingTimerExpiry s = s :=
    fire_of_not_due fun hd => if_neg fun hr => h5 ⟨hr.1, hr.2, of_decide_eq_true hd⟩
  have e6 : fire (fun s => s.steam.drain.any fun d => decide (30000 ≤ d.dryMs)) drainDryTimeEnd s = s :=
    fire_of_not_due fun hd => if_neg fun hr => by simp_all
  have e7 : fire (fun s => s.steam.drain.any fun d => decide (240000 ≤ d.pumpMs)) pumpTimeLimit s = s :=
    fire_of_not_due fun hd => if_neg fun hr => by simp_all
  simp only [fireSteam, fireLevel_of_none h1, fireLevel_of_none h2, fireLevel_of_none h3, e4, e5, e6, e7]

/-- A channel that does not fail. -/
theorem fireFailed_of_none {s : State} {c : Channel} (h : failMoment s c = []) : fireFailed c s = s := by
  simp only [failMoment, moment_eq_nil, decide_eq_false_iff_not] at h
  exact fire_of_not_due fun hd => if_neg fun hr => h ⟨hr, of_decide_eq_true hd⟩

/-- A side whose debounce, of the figure given, does not end. -/
theorem fireSide_of_none {s : State} {c : Channel} {d : Side} {ms : Nat} (hms : sideDebounce s c d = ms)
    (h : sideMoments s c d ms = []) : fireSide d c s = s := by
  simp only [sideMoments, List.append_eq_nil_iff, moment_eq_nil, decide_eq_false_iff_not] at h
  have e1 : fire (fun s => decide (sideDebounce s c d ≤ (sideRec s.superv c d).ms)) (excursionStart c d) s = s :=
    fire_of_not_due fun hd => if_neg fun hr => h.1 (by simp at hr hd; exact ⟨hr.2, hms ▸ hd⟩)
  have e2 : fire (fun s => decide (sideDebounce s c d ≤ (sideRec s.superv c d).ms)) (excursionEnd c d) s = s :=
    fire_of_not_due fun hd => if_neg fun hr => h.2 (by
      simp [recoveryCounts] at hr hd; exact ⟨hr.1.2, hr.2, hms ▸ hd⟩)
  simp only [fireSide, e1, e2]

/-- The channels, where nothing falls due. -/
theorem fireChannels_of_none {s : State} (hf : ∀ c, failMoment s c = []) (hs : ∀ c, channelMoments s c = [])
    (hx : sideMoments s .cav .fixed 1000 = []) : fireChannels s = s := by
  have h1 : ∀ c, fireSide .low c s = s := fun c =>
    fireSide_of_none rfl (List.append_eq_nil_iff.1 (hs c)).1
  have h2 : ∀ c, fireSide .high c s = s := fun c =>
    fireSide_of_none rfl (List.append_eq_nil_iff.1 (hs c)).2
  have h3 : fireSide .fixed .cav s = s := fireSide_of_none rfl hx
  simp [fireChannels, channelList, fireFailed_of_none (hf _), h1, h2, h3]

/-- The Supervision Unit, where nothing falls due. -/
theorem fireRelay_fireChannels_of_none {s : State} (h : supervMoments s = []) : fireRelay (fireChannels s) = s := by
  simp only [supervMoments, List.append_eq_nil_iff, moment_eq_nil, decide_eq_false_iff_not,
    List.flatMap_eq_nil_iff] at h
  obtain ⟨⟨⟨⟨⟨h1, h2⟩, h3⟩, h4⟩, h5⟩, h6⟩ := h
  have hc : ∀ c : Channel, c ∈ [Channel.cav, .core, .boil, .moist, .mains, .board] := by intro c; cases c <;> simp
  have e4 : fire (fun s => decide (200 ≤ s.superv.mismatchMs)) relayOpenFault s = s :=
    fire_of_not_due fun hd => if_neg fun hr => h4 (by simp at hr hd; tauto)
  have e5 : fire (fun s => decide (200 ≤ s.superv.mismatchMs)) relayWelded s = s :=
    fire_of_not_due fun hd => if_neg fun hr => h5 (by simp at hr hd; tauto)
  have e6 : fire (fun s => decide (10000 ≤ s.superv.checkMs)) configCheck s = s :=
    fire_of_not_due fun hd => if_neg fun hr => h6 (by simp at hr hd; tauto)
  rw [fireChannels_of_none (fun c => h1 c (hc c)) (fun c => h2 c (hc c)) h3]
  simp only [fireRelay, e4, e5, e6]

/-- The descale, where nothing falls due. -/
theorem fireDescale_of_none {s : State} (h : descaleMoments s = []) : fireDescale s = s := by
  simp only [descaleMoments, List.append_eq_nil_iff, moment_eq_nil, decide_eq_false_iff_not] at h
  obtain ⟨⟨⟨⟨h1, h2⟩, h3⟩, h4⟩, h5⟩ := h
  have e1 : fire (fun s => decide (1800000 ≤ s.descale.prepMs)) prepTimeout s = s :=
    fire_of_not_due fun hd => if_neg fun hr => h1 ⟨hr.1, hr.2, of_decide_eq_true hd⟩
  have e2 : fire (fun s => (heatLimitClock s.power).any fun n => decide (n ≤ s.descale.heatClock)) heatLimit s = s :=
    fire_of_not_due fun hd => if_neg fun hr => h2 (by
      simp only [Bool.and_eq_true, Bool.not_eq_true'] at hr
      refine ⟨hr.1.1, hr.2, ?_⟩
      cases hq : s.power.freq <;> simp [heatLimitClock, hq] at hd ⊢ <;> exact hd)
  have e3 : fire (fun s => decide (60000 ≤ s.descale.lowMs)) descaleLowWater s = s :=
    fire_of_not_due fun hd => if_neg fun hr => h3 (by simp [lowWaterPhase] at hr hd; tauto)
  have e4 : fire (fun s => decide (1200000 ≤ s.descale.soakMs)) soakTimerEnd s = s :=
    fire_of_not_due fun hd => if_neg fun hr => h4 ⟨hr.1, hr.2.1, hr.2.2, of_decide_eq_true hd⟩
  have e5 : fire (fun s => decide (600000 ≤ s.descale.waitMs)) waitNotice s = s := by
    refine fire_of_not_due fun hd => ?_
    unfold waitNotice
    cases hw : waitingPool s with
    | none => rfl
    | some p =>
      simp only [hw, Option.isSome_some, true_and, not_and] at h5
      refine if_pos ?_
      by_contra hn
      exact h5 (by simpa using hn) (of_decide_eq_true hd)
  simp only [fireDescale, e1, e2, e3, e4, e5]

/-- The program, where nothing falls due. -/
theorem fireRecipe_of_none {s : State} (h : recipeMoments s = []) : fireRecipe s = s := by
  simp only [recipeMoments, List.append_eq_nil_iff, moment_eq_nil, decide_eq_false_iff_not] at h
  obtain ⟨⟨⟨⟨h1, h2⟩, h3⟩, h4⟩, h5⟩ := h
  have e1 : fire (fun s => decide (10000 ≤ s.recipe.gapMs)) loadTimeout s = s :=
    fire_of_not_due fun hd => if_neg fun hr => h1 ⟨hr, of_decide_eq_true hd⟩
  have e2 : fire durationDue stageTimeEnd s = s := by
    refine fire_of_not_due fun hd => ?_
    unfold stageTimeEnd
    cases hc : currentHeat s.recipe with
    | none => rfl
    | some h =>
      simp only [durationDue, hc, Option.any_some] at hd h2
      refine if_neg fun hr => ?_
      simp_all [durationRun, endsByTime, endsOnTime, durationReached]
  have e3 : fire durationDue promptTimeout s = s := by
    refine fire_of_not_due fun hd => ?_
    unfold promptTimeout
    cases hc : currentHeat s.recipe with
    | none => rfl
    | some h =>
      simp only [durationDue, hc, Option.any_some] at hd h3
      refine if_neg fun hr => ?_
      simp_all [durationRun, durationReached]
  have e4 : fire (fun s => decide (2000 ≤ s.recipe.probeMs)) probeStateChange s = s :=
    fire_of_not_due fun hd => if_pos (by by_contra hn; exact h4 ⟨hn, of_decide_eq_true hd⟩)
  have e5 : fire (fun s => decide (5000 ≤ s.recipe.withheldMs)) steamWithheld s = s :=
    fire_of_not_due fun hd => if_neg fun hr => by simp_all
  simp only [fireRecipe, e1, e2, e3, e4, e5]

end Sys2Proof.Machine
end

