-- ==== Sys2Proof/Tests/Slice0.lean ====
section
/-!
SUPPORT. Tests: the smoke test of the well-formedness checks, worked examples of the handbook, and for every statement
with hypotheses a concrete state that meets them all, clause by clause.
-/
namespace Sys2Proof.Tests
set_option Elab.async false
set_option linter.unusedVariables false
open Sys2Proof Sys2Proof.Machine

/-! ### Small states -/

/-- The state after a command. -/
def after (c : Instr) (s : State) : State :=
  match exec c s with
  | .next t => t
  | .fault _ => s
  | .refused _ => s

/-- An oven in service: station 2, partner panel 11, frozen, a MEMBER with 420 pu, relay CLOSED, door CLOSED, 50 Hz,
readings of 150.0 °C, 97.0 °C and 40 %. -/
def oven : State :=
  { State.reset with
    startup := { Startup.reset with station := 2, partner := 11, setup := .frozen }
    climate := { Climate.reset with doorOpen := false, doorInputOpen := false }
    power := { Power.reset with freq := .hz50, halfPeriodUs := some 10000, crossings := 101 }
    share := { Share.reset with holds := ⟨420, 0, 0⟩, link := .member, sinceOwnMs := some 0 }
    line := { Line.reset with state := .idle }
    superv := { Superv.reset with
      relayClosed := true, feedbackClosed := true, judging := true
      readings := { Superv.reset.readings with
        cav := ⟨some 1500, .ok, false, 0, none⟩, boil := ⟨some 970, .ok, false, 0, none⟩
        moist := ⟨some 40, .ok, false, 0, none⟩ } } }

/-- A COMBI stage of 180.0 °C for 1000 s. -/
def combi : HeatStage := ⟨.combi, 1800, none, .time, some 1000, none, false, 0, []⟩

/-- A COMBI stage that prompts, with a branch for each answer but the last: the first to itself, the second onward. -/
def asking : HeatStage := ⟨.combi, 1800, none, .prompt, some 60, none, false, 7, [1, 2]⟩

/-- An oven that runs a program of one COMBI stage with the generator READY. -/
def cooking : State :=
  { oven with
    climate := { oven.climate with
      profile := some .combi, order := [.boiler, .ring, .top, .bottom], cavityTarget := some 1800
      humidityTarget := some 50, fanReq := true, demTop := 3, demBottom := 1, demRing := 11, steamDemand := 6 }
    steam := { oven.steam with gen := .ready, boilerDemand := 6, gate := true, levels := ⟨true, true, false⟩
                               levelInputs := ⟨true, true, false⟩ }
    recipe := { oven.recipe with
      state := .running, store := [.heat combi none], count := 1, tag := 9, cur := 1, lastHeat := 1
      phaseStarted := true } }

/-- The same program, loaded. -/
def loaded : State :=
  { oven with recipe := { oven.recipe with state := .loaded, store := [.heat combi none], count := 1, tag := 9 } }

/-- The same program, at a prompt. -/
def prompting : State :=
  { cooking with
    recipe := { cooking.recipe with
      state := .prompting, store := [.heat asking none, .heat combi none], count := 2, prompt := 7 } }

/-- An oven before its freeze. -/
def fresh : State :=
  { oven with startup := { oven.startup with setup := .opened }, share := { Share.reset with floor := 350 } }

/-- A neighbour that holds 200 pu in the own circuit group. -/
def neighbour : Entry := ⟨3, false, some 0, some 0, ⟨200, 0, 0⟩, 0, false, false, false⟩

/-- An oven that knows the neighbour. -/
def shared : State := { oven with share := { oven.share with table := [neighbour] } }

/-- An oven in a burst frame with four elements laid out. -/
def framed : State :=
  { cooking with
    power := { cooking.power with
      inFrame := true, slot := 0, layout := List.replicate 20 ⟨true, false, true, false⟩
      frameOrder := [.boiler, .ring, .top, .bottom], corrected := ⟨120, 100, 250, 200⟩, demands := ⟨3, 1, 11, 6⟩
      onCount := ⟨1, 0, 1, 0⟩, gates := ⟨true, false, true, false⟩ } }

/-- An oven whose descale stands in a phase, with the generator in SERVICE. -/
def descaling (p : Phase) (acid : Bool) : State :=
  { oven with
    descale := { oven.descale with phase := p }
    steam := { oven.steam with gen := .service, acid := acid } }

/-- An oven that is sending a frame. -/
def sending (f : TxFrame) : State := { oven with line := { oven.line with state := .busy, queue := [⟨f, true⟩] } }

def bytesOf (l : List Nat) : List Byte := l.map byteOf

/-! ### Checks of the conditions on the state -/

def lineFreeB (s : State) : Bool :=
  !unnumbered s && !raiseQueued .power s && !raiseQueued .inlet s && !raiseQueued .drain s
    && decide (s.share.redecide = PerPool.all false)
    && (!s.startup.restarting || (sendingFrame s).isNone || !restartDue s)

theorem lineFree_of {s : State} (h : lineFreeB s = true) : LineFree s := by
  simp only [lineFreeB, Bool.and_eq_true, Bool.or_eq_true, Bool.not_eq_true', decide_eq_true_eq,
    Option.isNone_iff_eq_none, or_assoc] at h
  exact ⟨h.1.1.1.1.1, fun p => by cases p <;> simp [h], h.1.2, h.2⟩

def panelFreeB (s : State) : Bool := lineFreeB s && !s.superv.configFault && !s.startup.restarting

theorem panelFree_of {s : State} (h : panelFreeB s = true) : PanelFree s := by
  simp only [panelFreeB, Bool.and_eq_true, Bool.not_eq_true'] at h
  exact ⟨lineFree_of h.1.1, h.1.2, h.2⟩

def genSettledB (s : State) : Bool :=
  s.startup.restarting || !frozen s
    || (decide (s.steam.gen = .empty ∨ s.steam.gen = .cooling) && !steamWanted s)
    || (decide (s.steam.gen = .filling ∨ s.steam.gen = .heating ∨ s.steam.gen = .ready) && steamWanted s)
    || decide (s.steam.gen = .draining ∨ s.steam.gen = .service ∨ s.steam.gen = .fault)

theorem genSettled_of {s : State} (h : genSettledB s = true) : GenSettled s := by
  simp only [genSettledB, Bool.or_eq_true, Bool.and_eq_true, Bool.not_eq_true', decide_eq_true_eq] at h
  unfold GenSettled
  tauto

theorem stageHolds_time {s : State} {h : HeatStage} {d : Nat} (hk : h.endKind = .time) (hd : h.duration = some d)
    (h1 : 1 ≤ d) : StageHolds s h := by
  simp only [StageHolds, hk]
  exact ⟨d, hd, h1⟩

theorem stageHolds_prompt {s : State} {h : HeatStage} (hk : h.endKind = .prompt) : StageHolds s h := by
  simp only [StageHolds, hk]

def reportFitsB (s : State) : Bool :=
  (channelList.all fun c => (reading s c).all fun v => decide ((channelRange c).1 ≤ v ∧ v ≤ (channelRange c).2))
    && decide (s.recipe.cur ≤ 24 ∧ noticeTag s.recipe ≤ 65535 ∧ s.recipe.prompt ≤ 251 ∧ remainingOr s ≤ 131071
      ∧ (s.descale.phase = .rinseFill ∨ s.descale.phase = .rinseHeat ∨ s.descale.phase = .rinseDrain →
          1 ≤ s.descale.rinse ∧ s.descale.rinse ≤ 3)
      ∧ s.steam.scale ≤ 65535 ∧ s.share.holds.power ≤ 1100 ∧ s.share.holds.inlet ≤ 1 ∧ s.share.holds.drain ≤ 1
      ∧ s.startup.supply.circuitGroup ≤ 3 ∧ s.startup.supply.waterGroup ≤ 3 ∧ s.share.tripSet.length ≤ 15)

theorem reportFits_of {s : State} (h : reportFitsB s = true) : ReportFits s := by
  simp only [reportFitsB, Bool.and_eq_true, decide_eq_true_eq, List.all_eq_true] at h
  refine ⟨fun c v hv => ?_, h.2⟩
  have := h.1 c (by cases c <;> simp [channelList])
  simpa [hv] using this

theorem shareInv_of {s : State}
    (h : decide (s.startup.station ≤ 15 ∧ s.startup.partner ≤ 15 ∧ (s.share.table.map (·.station)).Pairwise (· < ·)
      ∧ (∀ e ∈ s.share.table, e.station ≠ s.startup.station ∧ 1 ≤ e.station ∧ e.station ≤ 15) ∧ s.share.tripSet.Pairwise (· < ·)
      ∧ ∀ n ∈ s.share.tripSet, 1 ≤ n ∧ n ≤ 15) = true) : ShareInv s := by
  simp only [decide_eq_true_eq] at h
  exact h

theorem scaleInv_of {s : State}
    (h : (decide (s.steam.scale ≤ 65535 ∧ s.steam.sub ≤ 49 ∧ s.steam.record.scale ≤ 65535 ∧ s.steam.record.sub ≤ 49)
      && s.steam.writing.all fun r => decide (r.scale ≤ 65535 ∧ r.sub ≤ 49)) = true) : ScaleInv s := by
  simp only [Bool.and_eq_true, decide_eq_true_eq] at h
  refine ⟨h.1.1, h.1.2.1, h.1.2.2.1, h.1.2.2.2, fun r hr => ?_⟩
  have hw := h.2
  simp only [Option.mem_def] at hr
  simpa [hr] using hw

theorem steamOutputs_of {s : State}
    (h : (decide (s.steam.gate = true ↔ s.steam.gen = .ready ∧ 0 < servedInReady s ∧ s.startup.restarting = false)
      && decide (s.steam.boilerDemand = boilerLimited s (boilerCalled s))
      && decide (s.steam.fillReq = true ↔ s.steam.fill.isSome = true ∧ s.share.holds.inlet = 1 ∧ s.share.tripSet = []
          ∧ s.share.link ≠ .isolated ∧ s.steam.levels.high = false ∧ s.startup.restarting = false)
      && decide (s.steam.pumpReq = true ↔
          s.steam.drain.isSome = true ∧ s.share.holds.drain = 1 ∧ s.startup.restarting = false)) = true) :
    SteamOutputs s := by
  simp only [Bool.and_eq_true, decide_eq_true_eq] at h
  exact ⟨h.1.1.1, h.1.1.2, h.1.2, h.2⟩

/-! ### Well-formedness: one ill-formed term for each check, which the check refuses -/

theorem test_sender_zero_refused : (Instr.raiseReceived 0 .power 0 100 false).wellFormed = false := rfl
theorem test_veto_sender_zero_refused : (Instr.partnerVeto 0).wellFormed = false := rfl
theorem test_status_sender_zero_refused :
    (Instr.statusReceived 0 ⟨0, 0, false, false, false, false, false, 0, 0, 0, 0, 0⟩ false).wellFormed = false := rfl
theorem test_station_zero_refused : (Instr.entryExpired 0).wellFormed = false := rfl
theorem test_setup_length_refused : (Instr.setupSupply (List.replicate 18 0)).wellFormed = false := rfl
theorem test_setup_end_section_refused : (Instr.setupChannel 255 (List.replicate 8 0)).wellFormed = false := rfl
theorem test_setup_supply_section_refused : (Instr.setupChannel 0 (List.replicate 8 0)).wellFormed = false := rfl
theorem test_stage_too_short_refused : (Instr.stage 1 [0, 0]).wellFormed = false := rfl
theorem test_record_too_long_refused : (Instr.runManual (List.replicate 24 0)).wellFormed = false := rfl
theorem test_fixed_side_of_boil_refused : (Instr.excursionStart .boil .fixed).wellFormed = false := rfl
theorem test_fixed_side_of_cav_allowed : (Instr.excursionStart .cav .fixed).wellFormed = true := rfl

theorem test_closing_mark_sender_zero_refused :
    (Instr.malformedFrame (.closingMarkDominant 0 (some .report))).wellFormed = false := rfl
theorem test_closing_mark_of_a_broken_check_allowed :
    (Instr.malformedFrame (.closingMarkDominant 0 none)).wellFormed = true := rfl

/-- No row of the table gives bits, so no word spells a command. -/
theorem test_no_word_spells_a_command : decodeTableWord 16 5 = none := rfl
theorem test_no_word_changes_the_queue : State.reset.withFetchWord 8 1 = State.reset := rfl
/-- The record of the COMBI stage: kind 0, flags DA00, mode, cavity target, end kind, duration, timer start (R177). -/
def combiRecord : List Byte := bytesOf [0, 218, 0, 2, 7, 8, 0, 0, 3, 232, 0]

/-- The same record, field by field. -/
def combiRaw : RawRecord := ⟨0, some 2, some 1800, none, some 0, some 1000, none, some 0, none, none, none, none⟩

theorem test_bytes_of_the_combi_record : combiRaw.bytes = combiRecord := by decide +kernel
theorem combiRaw_fits : RecordFits combiRaw := by simp [RecordFits, combiRaw]
theorem combiRaw_taken : RecordTaken combiRaw := by
  simp [RecordTaken, SkipDefined, NoBranches, HeatFieldsTaken, combiRaw]

/-! ### Worked examples of the handbook

Each expected value is the handbook's own, or worked out by hand from its tables. -/

/-- The oven of the worked demand computation at 0 s (01_cavity_climate.md): CAV 1650, MOIST 45 %, target 1800 and 70 %,
I = 2, not starved. -/
def worked : State :=
  { cooking with
    climate := { cooking.climate with humidityTarget := some 70, integ := 2 }
    superv := { cooking.superv with readings := { cooking.superv.readings with
      cav := ⟨some 1650, .ok, false, 0, none⟩, moist := ⟨some 45, .ok, false, 0, none⟩ } } }

theorem test_demand_at_0_s :
    (after .climateSample worked).climate.integ = 3 ∧ (after .climateSample worked).climate.demTop = 3
      ∧ (after .climateSample worked).climate.demBottom = 1 ∧ (after .climateSample worked).climate.demRing = 11
      ∧ (after .climateSample worked).climate.steamDemand = 12 := by decide +kernel

/-- The sample at 1 s: the last frame was starved, CAV 1662, MOIST 52 %. -/
def workedStarved : State :=
  { worked with
    climate := { worked.climate with integ := 3 }
    power := { worked.power with starved := true }
    superv := { worked.superv with readings := { worked.superv.readings with
      cav := ⟨some 1662, .ok, false, 0, none⟩, moist := ⟨some 52, .ok, false, 0, none⟩ } } }

theorem test_demand_at_1_s :
    (after .climateSample workedStarved).climate.integ = 3 ∧ (after .climateSample workedStarved).climate.demTop = 2
      ∧ (after .climateSample workedStarved).climate.demRing = 11
      ∧ (after .climateSample workedStarved).climate.steamDemand = 9 := by decide +kernel

theorem test_door_opening_holds_the_integrator :
    (after .doorOpens { worked with climate.doorInputOpen := true }).climate.integ = 2
      ∧ (after .doorOpens { worked with climate.doorInputOpen := true }).climate.demRing = 0
      ∧ (after .doorOpens { worked with climate.doorInputOpen := true }).climate.steamDemand = 0 := by decide +kernel

/-- The worked layouts (02_the_power_scheduler.md): the demands of the sample at 0 s, C = 900, a hold of 420 pu, the fan
requested; the crossing that ends the frame before. -/
def layoutOven : State :=
  { framed with
    startup := { framed.startup with supply := { framed.startup.supply with capacity := 900 } }
    climate := { framed.climate with demTop := 3, demBottom := 1, demRing := 11, ventReq := false }
    steam := { framed.steam with boilerDemand := 12 }
    power := { framed.power with slot := 19 } }

theorem test_layout_at_241_V :
    (after (.zeroCrossing 10000 241) layoutOven).power.corrected = ⟨132, 110, 275, 220⟩
      ∧ (after (.zeroCrossing 10000 241) layoutOven).power.placed = ⟨3, 1, 8, 12⟩
      ∧ (after (.zeroCrossing 10000 241) layoutOven).power.avail = 412
      ∧ (after (.zeroCrossing 10000 241) layoutOven).power.want = 745 := by decide +kernel

theorem test_layout_at_270_V :
    (after (.zeroCrossing 10000 270) layoutOven).power.corrected = ⟨159, 132, 330, 264⟩
      ∧ (after (.zeroCrossing 10000 270) layoutOven).power.placed = ⟨0, 1, 8, 12⟩ := by decide +kernel

/-- R24's own example: 400 pu at the upper clamp counts as 528 pu. -/
theorem test_rating_400_at_264_V : divUp (400 * 264 * 264) (230 * 230) = 528 := by decide

/-- R12's own example: in COMBI an error of -2 gives a steam demand of 1. -/
theorem test_steam_demand_rounds_down :
    (after .climateSample { worked with climate.humidityTarget := some 43 }).climate.steamDemand = 1 := by decide +kernel

/-- R35: with the defaults the floor share is 350 pu; R170: the freeze. -/
theorem test_freeze_sets_the_floor : (after (.setupEnd []) fresh).share.floor = 350 := by decide +kernel
theorem test_window_expiry_freezes : (after .setupWindowExpiry fresh).startup.setup = .frozen := by decide +kernel
theorem test_power_on_without_a_number : (after (.powerOn 0 11) State.reset).startup.setup = .noWindow := by decide +kernel
theorem test_supply_out_of_range_refused :
    (after (.setupSupply ({ Supply.defaults with stations := 9 } : Supply).bytes) fresh).startup.workSupply
      = Supply.defaults := by decide +kernel

/-- R98's own values: with a T_due of 4000 the levels begin at 4000, 5000 and 6000. -/
theorem test_scale_levels :
    scaleLevel 3999 4000 = .none ∧ scaleLevel 4000 4000 = .due ∧ scaleLevel 4999 4000 = .due
      ∧ scaleLevel 5000 4000 = .derate ∧ scaleLevel 5999 4000 = .derate ∧ scaleLevel 6000 4000 = .block := by decide

/-- R97: the 50th pulse raises S by the hardness, 14. -/
theorem test_fiftieth_pulse :
    (after .flowPulse { cooking with
      steam.gen := .filling, steam.fill := some ⟨.cooking, 700, 0, true⟩, steam.sub := 49 }).steam.scale = 14 := by
  decide +kernel

/-- R144: the debounce codes run from 20 ms to 10.24 s. -/
theorem test_debounce_codes : debounceMs 0 = 20 ∧ debounceMs 5 = 640 ∧ debounceMs 9 = 10240 := by decide

/-- R64 by hand over one byte of zeros: eight shifts of the register from all ones. -/
theorem test_check_field_of_one_byte : checkField [0] = 0xE1F0#16 := by decide +kernel

/-- R48, R175: POWER 80 pu, below the floor with more wanted, IDLE, no remaining time. -/
theorem test_status_bytes :
    statusBytes { oven with share.holds := ⟨80, 0, 0⟩, power.want := 400 } = bytesOf [0, 32, 80, 0, 1, 255, 255] := by
  decide +kernel

/-- R45 with the defaults: 420 pu held of 700 leaves 280 pu to a neighbour. -/
theorem test_raise_of_281_vetoed :
    (after (.raiseReceived 3 .power 0 281 false) oven).line.verdictDriven = true := by decide +kernel
theorem test_raise_of_280_recorded :
    (findEntry (after (.raiseReceived 3 .power 0 280 false) oven).share.table 3).map (·.holds.power) = some 280 := by
  decide +kernel

/-- R50: a LOWER that says 400 pu leaves 300 pu. -/
theorem test_correction : (after (.lowerReceived 3 .power 0 400 false) oven).share.holds.power = 300 := by decide +kernel

/-- R51: 70 pu above the floor share; a need of 50 takes 50, and a need of 100 takes 70. -/
theorem test_yield_of_50 : (after (.yieldReceived 3 0 50) oven).share.holds.power = 370 := by decide +kernel
theorem test_yield_to_the_floor : (after (.yieldReceived 3 0 100) oven).share.holds.power = 350 := by decide +kernel

/-- R53, R54: isolation keeps the floor share for 60 s. -/
theorem test_isolation_keeps_the_floor : (after .lineIsolated oven).share.holds.power = 350 := by decide +kernel
theorem test_line_lost : (after .lineLost { oven with share.link := .isolated }).share.holds.power = 0 := by decide +kernel

/-- R37: an EXPIRED neighbour is charged no more than the floor share, and nothing of water. -/
theorem test_expired_charge :
    othersCharges { oven with share.table := [{ neighbour with expired := true, holds := ⟨500, 1, 1⟩ }] } .power = 350
      ∧ othersCharges { oven with share.table := [{ neighbour with expired := true, holds := ⟨500, 1, 1⟩ }] } .inlet = 0 := by
  decide +kernel

/-- R58: a TRIP of another station puts its origin into the set; the panel may clear it once it is silent. -/
theorem test_trip_adds_origin : (after (.tripReceived 3 0 5 0) oven).share.tripSet = [5] := by decide +kernel
theorem test_panel_clears_a_silent_origin :
    (after (.tripClearReceived 11 0 5 0) { oven with share.tripSet := [5] }).share.tripSet = [] := by decide +kernel

/-- R73: the third clash is a NUMBER_CLASH. -/
theorem test_third_clash :
    (after (.ownNumberFrame .report false) { oven with line.clashes := 2 }).line.numberClash = true := by decide +kernel

/-- R117, R118: a cavity target below the range of its mode is clamped, and its offset is 5 (index, kind, flags, mode). -/
theorem test_stage_clamped :
    (after (.stage 1 (bytesOf [0, 218, 0, 2, 0, 60, 0, 0, 3, 232, 0])) { oven with
      recipe.state := .loading, recipe.count := 1, recipe.remaining := 1 }).line.queue
      = [⟨.result .stage .acceptedClamped 5, false⟩] := by decide +kernel

/-- R124 to R135: the program of one stage, from START to its acknowledgement. -/
theorem test_start : (after .start loaded).recipe.state = .running ∧ (after .start loaded).recipe.cur = 1 := by
  decide +kernel
theorem test_pause : (after .pause cooking).recipe.state = .paused := by decide +kernel
theorem test_abort : (after .abort cooking).recipe.state = .loaded ∧ (after .abort cooking).recipe.cur = 0 := by
  decide +kernel
theorem test_stage_time_end : (after .stageTimeEnd cooking).recipe.state = .finished := by decide +kernel
theorem test_answer_to_the_second_branch : (after (.answer 1 1) prompting).recipe.state = .finished := by decide +kernel
theorem test_finish_ack :
    (after .finishAck { loaded with recipe.state := .finished }).recipe.state = .loaded := by decide +kernel

/-- R103, R104: PREP, then DOSE at once with the tank empty. -/
theorem test_descale_start : (after .descaleStart oven).descale.phase = .prep := by decide +kernel
theorem test_descale_confirm : (after .descaleConfirm (descaling .prep false)).descale.phase = .dose := by decide +kernel

/-- R146: the third strike of CAV is a TRIP, which opens the relay and gives the hold up. -/
theorem test_third_strike :
    (after (.excursionStart .cav .low) { cooking with
      superv.low.cav := ⟨.pending, 640, .note⟩, superv.strikes.cav := 2 }).superv.trip = true
    ∧ (after (.excursionStart .cav .low) { cooking with
      superv.low.cav := ⟨.pending, 640, .note⟩, superv.strikes.cav := 2 }).share.holds.power = 0 := by decide +kernel

/-- R159 and the worked restart (09_panel_commands_and_reports.md): POWER 300 pu and DRAIN 1 unit go to 0, each with its
LOWER. -/
theorem test_restart_lowers :
    ((after .restart { oven with share.holds := ⟨300, 0, 1⟩ }).line.queue.map (·.frame)).take 2
      = [.lower .power 0 0, .lower .drain 0 0] := by decide +kernel

/-- An idle step is one tick of 10 ms (log entry 2). -/
theorem test_idle_step_counts :
    (match step oven with
      | .next t => t.climate.sampleMs
      | .fault _ => 0
      | .refused _ => 0) = 10 := by decide +kernel


/-- R57: an input that is wet at power-on gives WET 2 s later, here before the freeze; the TRIP goes out from the freeze. -/
theorem test_leak_of_the_setup_window_is_told_at_the_freeze :
    (⟨.trip 2 0, false⟩ : QEntry) ∈ (after .setupWindowExpiry (after .leakWet
      { fresh with share.leakInputWet := true })).line.queue := by decide +kernel

/-- R160: the RAISE of another station, received while a due RESTART waits for the end of an own frame, is recorded by the
restarted station. -/
theorem test_received_frame_follows_the_reinitialisation :
    ((after (.raiseReceived 3 .power 0 100 false)
      { sending .reading with startup.restarting := true, superv.relayClosed := false }).share.table.map
        (·.holds.power)) = [100] := by decide +kernel

/-- R140, R127: a CORE reading above 1300 is presented as 1300 and shows the probe absent. -/
theorem test_core_above_its_range :
    let t := after (.sensorReading ⟨.readable 1500, .readable 1400, .readable 970, .readable 40, 300⟩) oven
    reading t .core = some 1300 ∧ t.recipe.probeShows = false := by decide +kernel

/-- R114, R160: a descale that a re-initialisation ends in OFF is told, with the cause RESTART (11). -/
theorem test_restart_tells_the_end_of_a_descale :
    (⟨.notice .descalePhase 0 0 11, false⟩ : QEntry) ∈ (after .reInitialisation
      { descaling .prep false with startup.restarting := true }).line.queue := by decide +kernel

/-! ### Witnesses: the hypotheses of every statement, met together -/

theorem witness_EveryCommandCompletes_idle :
    ∃ s : State,
      s.pending = [] :=
  ⟨State.reset, rfl⟩

theorem witness_StepKeepsQueueBounds_at_reset :
    ∃ s t : State,
      QueueInv s ∧ step s = .next t :=
  ⟨{ State.reset with pending := [.doorCloses] }, after .doorCloses State.reset,
    ⟨List.Pairwise.nil, by decide, by decide, by decide, by decide, by decide, by decide, fun p => by cases p <;> decide⟩,
    rfl⟩

theorem witness_StepKeepsDemandRanges_at_reset :
    ∃ s t : State,
      DemandInv s ∧ step s = .next t :=
  ⟨{ State.reset with pending := [.doorCloses] }, after .doorCloses State.reset,
    ⟨by decide, by decide, by decide, by decide, by decide, fun _ _ h => absurd h (by simp [State.reset, Steam.reset]), by decide⟩,
    rfl⟩

theorem witness_StepKeepsRecipeRanges_at_reset :
    ∃ s t : State,
      RecipeInv s ∧ step s = .next t :=
  ⟨{ State.reset with pending := [.doorCloses] }, after .doorCloses State.reset,
    ⟨by decide, by decide, by decide, by decide, fun h => absurd h (by decide), fun h => absurd h (by decide), fun _ => ⟨rfl, rfl⟩⟩,
    rfl⟩

theorem witness_StepKeepsShareTable_at_reset :
    ∃ s t : State,
      ShareInv s ∧ step s = .next t :=
  ⟨{ State.reset with pending := [.doorCloses] }, after .doorCloses State.reset,
    ⟨by decide, by decide, List.Pairwise.nil, fun _ h => absurd h List.not_mem_nil, List.Pairwise.nil, fun _ h => absurd h List.not_mem_nil⟩,
    rfl⟩

theorem witness_StepKeepsSharesWithinCapacity_at_reset :
    ∃ s t : State,
      ShareWithinCapacity s ∧ step s = .next t :=
  ⟨{ State.reset with pending := [.doorCloses] }, after .doorCloses State.reset,
    ⟨fun p => by cases p <;> decide, fun _ _ h => absurd h List.not_mem_nil, fun _ => ⟨rfl, fun p => by cases p <;> rfl⟩⟩,
    rfl⟩

theorem witness_StepKeepsLoadWithinHold_at_reset :
    ∃ s t : State,
      PowerInv s ∧ step s = .next t :=
  ⟨{ State.reset with pending := [.doorCloses] }, after .doorCloses State.reset,
    ⟨fun h => (by cases h), fun _ h => (by cases h), fun h => (by cases h), fun h => (by cases h), fun _ => rfl, fun h => (by cases h), fun _ h => (by cases h), fun _ h => (by cases h), by decide, fun _ => ⟨rfl, rfl⟩⟩,
    rfl⟩

theorem witness_StepKeepsSharesWithinCapacity_with_a_neighbour :
    ∃ s t : State,
      ShareWithinCapacity s ∧ step s = .next t :=
  ⟨{ shared with share.holds := ⟨500, 0, 0⟩, pending := [.doorCloses] },
    after .doorCloses { shared with share.holds := ⟨500, 0, 0⟩ },
    ⟨fun p => by cases p <;> decide, fun _ _ h => absurd h List.not_mem_nil, fun h => absurd h (by decide)⟩, rfl⟩

theorem witness_StepKeepsLoadWithinHold_in_a_frame :
    ∃ s t : State,
      PowerInv s ∧ step s = .next t :=
  ⟨{ framed with pending := [.doorCloses] }, after .doorCloses framed,
    ⟨fun _ _ => ⟨by decide, by decide⟩, fun _ h => absurd h (by simp [framed, cooking, oven, Power.reset]), fun h => absurd h (by decide), fun h => absurd h (by decide), fun h => absurd h (by decide), fun _ => ⟨rfl, by decide⟩, fun _ h e _ => by rw [List.eq_of_mem_replicate h] at *; cases e <;> simp [framed], fun _ h => absurd h List.not_mem_nil, by decide, fun h => absurd h (by decide)⟩,
    rfl⟩

theorem witness_HoldsRiseOnlyByOwnRaise_own_raise :
    ∃ (c : Instr) (s t : State) (p : Pool),
      exec c s = .next t ∧ s.share.holds.get p < t.share.holds.get p :=
  ⟨.ownFrameComplete false, sending (.raise .power 0 500),
    after (.ownFrameComplete false) (sending (.raise .power 0 500)), .power, rfl, by decide +kernel⟩

theorem witness_HeldFaultsOutlastOtherCommands_held :
    ∃ (c : Instr) (s t : State),
      exec c s = .next t ∧ (∀ station partner, c ≠ .powerOn station partner)
      ∧ s.superv.trip = true ∧ s.superv.welded = true ∧ s.superv.configFault = true ∧ s.line.numberClash = true :=
  ⟨.query,
    { oven with superv.trip := true, superv.welded := true, superv.configFault := true, line.numberClash := true },
    after .query { oven with superv.trip := true, superv.welded := true, superv.configFault := true, line.numberClash := true },
    rfl, fun _ _ => by simp, ⟨rfl, rfl, rfl, rfl⟩⟩

theorem witness_FrozenConfigurationStands_restart :
    ∃ (c : Instr) (s t : State),
      exec c s = .next t ∧ (∀ station partner, c ≠ .powerOn station partner) ∧ frozen s = true :=
  ⟨.restart, oven, after .restart oven, rfl, fun _ _ => by simp, rfl⟩

theorem witness_SetupSectionsReplaceWorkingCopies_lowest_values :
    ∃ (s : State) (v : Supply),
      PanelFree s ∧ s.startup.setup = .opened ∧ SupplyFits v ∧ SupplyInRange v :=
  ⟨fresh, { Supply.defaults with capacity := 100, stations := 1, vNom := 120, tDue := 1000 }, panelFree_of rfl, rfl,
    ⟨by decide, by decide, by decide, by decide, by decide, fun e => by cases e <;> decide, by decide, by decide, by decide, by decide, by decide⟩,
    ⟨by decide, by decide, by decide, by decide, by decide, by decide, by decide, fun e => by cases e <;> decide, by decide, by decide, by decide, by decide, by decide, by decide, by decide, by decide⟩⟩

theorem witness_SetupSectionsReplaceWorkingCopies_highest_values :
    ∃ (s : State) (v : Supply),
      PanelFree s ∧ s.startup.setup = .opened ∧ SupplyFits v ∧ SupplyInRange v :=
  ⟨fresh,
    { Supply.defaults with circuitGroup := 3, waterGroup := 3, capacity := 1100, stations := 8, baseLoad := 30, ratings := PerElement.all 400, inletCap := 4, drainCap := 2, hardness := 40, tDue := 20000 },
    panelFree_of rfl, rfl,
    ⟨by decide, by decide, by decide, by decide, by decide, fun e => by cases e <;> decide, by decide, by decide, by decide, by decide, by decide⟩,
    ⟨by decide, by decide, by decide, by decide, by decide, by decide, by decide, fun e => by cases e <;> decide, by decide, by decide, by decide, by decide, by decide, by decide, by decide, by decide⟩⟩

theorem witness_SetupSectionsReplaceWorkingCopies_below_range :
    ∃ (s : State) (v : Supply),
      PanelFree s ∧ s.startup.setup = .opened ∧ SupplyFits v ∧ ¬ SupplyInRange v :=
  ⟨fresh, { Supply.defaults with capacity := 99 }, panelFree_of rfl, rfl,
    ⟨by decide, by decide, by decide, by decide, by decide, fun e => by cases e <;> decide, by decide, by decide, by decide, by decide, by decide⟩,
    fun h => absurd h.2.2.1 (by decide)⟩

theorem witness_SetupSectionsReplaceWorkingCopies_board_bounds :
    ∃ (s : State) (c : Channel) (r : ChannelRecord),
      PanelFree s ∧ s.startup.setup = .opened ∧ RecordInRange c r :=
  ⟨fresh, .board, ⟨true, -400, 1500, 0, 15, .cut, .trip, 15⟩, panelFree_of rfl, rfl,
    ⟨by decide, by decide, by decide, by decide, by decide, by decide⟩⟩

theorem witness_SetupSectionsReplaceWorkingCopies_cav_defaults :
    ∃ (s : State) (c : Channel) (r : ChannelRecord),
      PanelFree s ∧ s.startup.setup = .opened ∧ RecordInRange c r :=
  ⟨fresh, .cav, ⟨true, 0, 2800, 5, 7, .cut, .trip, 3⟩, panelFree_of rfl, rfl,
    ⟨by decide, by decide, by decide, by decide, by decide, by decide⟩⟩

theorem witness_ConfigurationFreezes_end :
    ∃ (s : State) (c : Instr),
      ((c = .setupEnd [] ∧ PanelFree s) ∨ (c = .setupWindowExpiry ∧ unnumbered s = false ∧ s.startup.restarting = false))
      ∧ s.startup.setup = .opened ∧ s.recipe.state = .idle ∧ s.descale.phase = .off ∧ s.line.numberClash = false :=
  ⟨fresh, .setupEnd [], .inl ⟨rfl, panelFree_of rfl⟩, rfl, rfl, rfl, rfl⟩

theorem witness_ConfigurationFreezes_expiry :
    ∃ (s : State) (c : Instr),
      ((c = .setupEnd [] ∧ PanelFree s) ∨ (c = .setupWindowExpiry ∧ unnumbered s = false ∧ s.startup.restarting = false))
      ∧ s.startup.setup = .opened ∧ s.recipe.state = .idle ∧ s.descale.phase = .off ∧ s.line.numberClash = false :=
  ⟨fresh, .setupWindowExpiry, .inr ⟨rfl, rfl, rfl⟩, rfl, rfl, rfl, rfl⟩

theorem witness_CommandsRefusedUnderFaultOrRestart_config_fault :
    ∃ (s : State) (c : Instr) (k : CmdKind),
      LineFree s ∧ GenSettled s ∧ c.wellFormed = true ∧ panelKind c = some k ∧ k ≠ .query
      ∧ (s.superv.configFault = true ∨ s.startup.restarting = true) :=
  ⟨{ oven with superv.configFault := true }, .start, .start, lineFree_of rfl, genSettled_of rfl, rfl, rfl, by decide,
    .inl rfl⟩

theorem witness_CommandsRefusedUnderFaultOrRestart_restart :
    ∃ (s : State) (c : Instr) (k : CmdKind),
      LineFree s ∧ GenSettled s ∧ c.wellFormed = true ∧ panelKind c = some k ∧ k ≠ .query
      ∧ (s.superv.configFault = true ∨ s.startup.restarting = true) :=
  ⟨{ oven with startup.restarting := true }, .runManual (bytesOf [0, 0, 0]), .runManual, lineFree_of rfl,
    genSettled_of rfl, rfl, rfl, by decide, .inr rfl⟩

theorem witness_QueryAnswersWithReading_config_fault :
    ∃ s : State,
      LineFree s ∧ GenSettled s ∧ sendingFrame s = none
      ∧ s.line.queue.countP (·.frame.isReport) ≤ 3 ∧ s.line.queue.length ≤ 6 :=
  ⟨{ oven with superv.configFault := true }, lineFree_of rfl, genSettled_of rfl, rfl, by decide⟩

theorem witness_QueryAnswersWithReading_reading_first :
    ∃ (s : State) (rest : List QEntry),
      s.line.state = .idle ∧ unnumbered s = false ∧ sendingFrame s = none ∧ s.line.queue = ⟨.reading, false⟩ :: rest :=
  ⟨{ oven with line.queue := [⟨.reading, false⟩] }, [], rfl, rfl, rfl, rfl⟩

theorem witness_LoadSessionTakesStages_one_stage :
    ∃ (s : State) (count : Byte) (tag : Word16),
      PanelFree s ∧ GenSettled s ∧ frozen s = true
      ∧ descaleActive s.descale = false ∧ s.recipe.state = .idle ∧ 1 ≤ count.toNat :=
  ⟨oven, 1, 7, panelFree_of rfl, genSettled_of rfl, rfl, ⟨rfl, rfl, by decide⟩⟩

theorem witness_LoadSessionTakesStages_over_a_program :
    ∃ (s : State) (count : Byte) (tag : Word16),
      PanelFree s ∧ GenSettled s ∧ frozen s = true
      ∧ descaleActive s.descale = false ∧ s.recipe.state = .loaded ∧ count.toNat ≤ 24 :=
  ⟨loaded, 24, 7, panelFree_of rfl, genSettled_of rfl, rfl, ⟨rfl, rfl, by decide⟩⟩

theorem witness_LoadSessionTakesStages_no_stage :
    ∃ (s : State) (count : Byte) (tag : Word16),
      PanelFree s ∧ GenSettled s ∧ frozen s = true ∧ count.toNat = 0 :=
  ⟨oven, 0, 7, panelFree_of rfl, genSettled_of rfl, rfl, rfl⟩

theorem witness_LoadSessionTakesStages_too_many :
    ∃ (s : State) (count : Byte) (tag : Word16),
      PanelFree s ∧ GenSettled s ∧ frozen s = true ∧ 24 < count.toNat :=
  ⟨oven, 25, 7, panelFree_of rfl, genSettled_of rfl, rfl, by decide⟩

theorem witness_LoadSessionTakesStages_running :
    ∃ (s : State) (count : Byte) (tag : Word16),
      PanelFree s ∧ GenSettled s ∧ frozen s = true ∧ s.recipe.state ≠ .idle ∧ s.recipe.state ≠ .loaded :=
  ⟨cooking, 1, 7, panelFree_of rfl, genSettled_of rfl, rfl, by decide⟩

theorem witness_LoadSessionTakesStages_descale :
    ∃ (s : State) (count : Byte) (tag : Word16),
      PanelFree s ∧ GenSettled s ∧ frozen s = true ∧ descaleActive s.descale = true :=
  ⟨descaling .prep false, 1, 7, panelFree_of rfl, genSettled_of rfl, rfl, rfl⟩

theorem witness_LoadSessionTakesStages_first_of_two :
    ∃ (s : State) (index : Byte) (record : List Byte) (r : StageRecord) (clamped : Option Nat),
      PanelFree s ∧ GenSettled s ∧ s.recipe.state = .loading ∧ 1 ≤ s.recipe.remaining ∧ recordLengthOk record = true
      ∧ index.toNat = s.recipe.count - s.recipe.remaining + 1 ∧ judgeRecord 1 record = .taken r clamped
      ∧ 2 ≤ s.recipe.remaining :=
  ⟨{ oven with recipe := { oven.recipe with state := .loading, count := 2, remaining := 2, store := [] } }, 1,
    combiRecord, .heat combi none, none, panelFree_of rfl, genSettled_of rfl, rfl, by decide, rfl, rfl,
    by decide +kernel, by decide⟩

theorem witness_LoadSessionTakesStages_last :
    ∃ (s : State) (index : Byte) (record : List Byte) (r : StageRecord) (clamped : Option Nat),
      PanelFree s ∧ GenSettled s ∧ s.recipe.state = .loading ∧ 1 ≤ s.recipe.remaining ∧ recordLengthOk record = true
      ∧ index.toNat = s.recipe.count - s.recipe.remaining + 1 ∧ judgeRecord 1 record = .taken r clamped
      ∧ s.recipe.remaining = 1 ∧ programCheck s.recipe.count (s.recipe.store ++ [r]) = none :=
  ⟨{ oven with recipe := { oven.recipe with state := .loading, count := 1, remaining := 1, store := [] } }, 1,
    combiRecord, .heat combi none, none, panelFree_of rfl, genSettled_of rfl, rfl, by decide, rfl, rfl,
    by decide +kernel, ⟨rfl, by decide +kernel⟩⟩

theorem witness_LoadSessionTakesStages_last_fails_check :
    ∃ (s : State) (index : Byte) (record : List Byte) (r : StageRecord) (clamped : Option Nat),
      PanelFree s ∧ GenSettled s ∧ s.recipe.state = .loading ∧ 1 ≤ s.recipe.remaining ∧ recordLengthOk record = true
      ∧ index.toNat = s.recipe.count - s.recipe.remaining + 1 ∧ judgeRecord 1 record = .taken r clamped
      ∧ s.recipe.remaining = 1 ∧ programCheck s.recipe.count (s.recipe.store ++ [r]) ≠ none :=
  ⟨{ oven with recipe := { oven.recipe with state := .loading, count := 1, remaining := 1, store := [] } }, 1,
    bytesOf [1, 0, 32, 24], .call 24 none, none, panelFree_of rfl, genSettled_of rfl, rfl, by decide, rfl, rfl,
    by decide +kernel, ⟨rfl, by decide⟩⟩

theorem witness_LoadSessionTakesStages_not_loading :
    ∃ (s : State) (index : Byte) (record : List Byte) (field : Nat),
      PanelFree s ∧ GenSettled s ∧ recordLengthOk record = true
      ∧ (s.recipe.state ≠ .loading ∨ index.toNat ≠ s.recipe.count - s.recipe.remaining + 1 ∨ judgeRecord 1 record = .refused field) :=
  ⟨oven, 1, combiRecord, 0, panelFree_of rfl, genSettled_of rfl, rfl, .inl (by decide)⟩

theorem witness_LoadSessionTakesStages_wrong_index :
    ∃ (s : State) (index : Byte) (record : List Byte) (field : Nat),
      PanelFree s ∧ GenSettled s ∧ recordLengthOk record = true
      ∧ (s.recipe.state ≠ .loading ∨ index.toNat ≠ s.recipe.count - s.recipe.remaining + 1 ∨ judgeRecord 1 record = .refused field) :=
  ⟨{ oven with recipe := { oven.recipe with state := .loading, count := 2, remaining := 2, store := [] } }, 2,
    combiRecord, 0, panelFree_of rfl, genSettled_of rfl, rfl, .inr (.inl (by decide))⟩

theorem witness_LoadSessionTakesStages_refused_record :
    ∃ (s : State) (index : Byte) (record : List Byte) (field : Nat),
      PanelFree s ∧ GenSettled s ∧ recordLengthOk record = true
      ∧ (s.recipe.state ≠ .loading ∨ index.toNat ≠ s.recipe.count - s.recipe.remaining + 1 ∨ judgeRecord 1 record = .refused field) :=
  ⟨{ oven with recipe := { oven.recipe with state := .loading, count := 2, remaining := 2, store := [] } }, 1,
    bytesOf [3, 0, 0], 1, panelFree_of rfl, genSettled_of rfl, rfl, .inr (.inr (by decide +kernel))⟩

theorem witness_StartEntersTheFirstStage_loaded :
    ∃ (s : State) (h : HeatStage) (rest : List StageRecord),
      PanelFree s ∧ s.recipe.state = .loaded ∧ s.recipe.store = .heat h none :: rest ∧ StageHolds s h
      ∧ descaleActive s.descale = false ∧ s.steam.acid = false ∧ tripRefuses s = false ∧ s.line.queue = [] :=
  ⟨loaded, combi, [], panelFree_of rfl, rfl, rfl, stageHolds_time (d := 1000) rfl rfl (by decide), rfl, rfl, rfl, rfl⟩

theorem witness_StartEntersTheFirstStage_manual :
    ∃ (s : State) (h : HeatStage) (record : List Byte) (clamped : Option Nat),
      PanelFree s ∧ frozen s = true ∧ (s.recipe.state = .idle ∨ s.recipe.state = .loaded)
      ∧ recordLengthOk record = true ∧ judgeRecord 0 record = .taken (.heat h none) clamped ∧ h.branches = []
      ∧ StageHolds s h ∧ descaleActive s.descale = false ∧ s.steam.acid = false ∧ tripRefuses s = false
      ∧ s.line.queue = [] :=
  ⟨oven, combi, combiRecord, none, panelFree_of rfl, rfl, .inl rfl, rfl, by decide +kernel, rfl,
    stageHolds_time (d := 1000) rfl rfl (by decide), rfl, rfl, rfl, rfl⟩

theorem witness_StartEntersTheFirstStage_nothing_loaded :
    ∃ s : State,
      PanelFree s ∧ GenSettled s
      ∧ (s.recipe.state ≠ .loaded ∨ descaleActive s.descale = true ∨ s.steam.acid = true ∨ s.superv.trip = true ∨ s.superv.relayClosed = false ∨ s.superv.welded = true) :=
  ⟨oven, panelFree_of rfl, genSettled_of rfl, .inl (by decide)⟩

theorem witness_StartEntersTheFirstStage_acid :
    ∃ s : State,
      PanelFree s ∧ GenSettled s
      ∧ (s.recipe.state ≠ .loaded ∨ descaleActive s.descale = true ∨ s.steam.acid = true ∨ s.superv.trip = true ∨ s.superv.relayClosed = false ∨ s.superv.welded = true) :=
  ⟨{ loaded with steam.acid := true }, panelFree_of rfl, genSettled_of rfl, .inr (.inr (.inl rfl))⟩

theorem witness_StartEntersTheFirstStage_trip :
    ∃ s : State,
      PanelFree s ∧ GenSettled s
      ∧ (s.recipe.state ≠ .loaded ∨ descaleActive s.descale = true ∨ s.steam.acid = true ∨ s.superv.trip = true ∨ s.superv.relayClosed = false ∨ s.superv.welded = true) :=
  ⟨{ loaded with superv.trip := true }, panelFree_of rfl, genSettled_of rfl, .inr (.inr (.inr (.inl rfl)))⟩

theorem witness_PauseResumeAndFinishAck_running :
    ∃ s : State,
      PanelFree s ∧ GenSettled s :=
  ⟨cooking, panelFree_of rfl, genSettled_of rfl⟩

theorem witness_PauseResumeAndFinishAck_refused :
    ∃ s : State,
      PanelFree s ∧ GenSettled s ∧ s.recipe.state ≠ .running ∧ s.recipe.state ≠ .prompting :=
  ⟨oven, panelFree_of rfl, genSettled_of rfl, by decide⟩

theorem witness_PauseResumeAndFinishAck_paused :
    ∃ (s : State) (h : HeatStage),
      PanelFree s ∧ GenSettled s
      ∧ (s.recipe.state = .paused → heatAt s.recipe s.recipe.cur = some h ∧ ((s.recipe.pausedFrom = .prompting ∧ (h.endKind = .prompt ∨ s.recipe.probePresent = true)) ∨ (s.recipe.pausedFrom = .running ∧ StageHolds s h ∧ h.endKind ≠ .prompt ∧ durationReached s.recipe h = false)))
      ∧ s.recipe.state = .paused :=
  ⟨{ cooking with recipe.state := .paused }, combi, panelFree_of rfl, genSettled_of rfl,
    fun _ => ⟨rfl, .inr ⟨rfl, stageHolds_time (d := 1000) rfl rfl (by decide), by decide, rfl⟩⟩, rfl⟩

theorem witness_PauseResumeAndFinishAck_paused_at_a_prompt :
    ∃ (s : State) (h : HeatStage),
      PanelFree s ∧ GenSettled s
      ∧ (s.recipe.state = .paused → heatAt s.recipe s.recipe.cur = some h ∧ ((s.recipe.pausedFrom = .prompting ∧ (h.endKind = .prompt ∨ s.recipe.probePresent = true)) ∨ (s.recipe.pausedFrom = .running ∧ StageHolds s h ∧ h.endKind ≠ .prompt ∧ durationReached s.recipe h = false)))
      ∧ s.recipe.state = .paused :=
  ⟨{ prompting with recipe.state := .paused, recipe.pausedFrom := .prompting }, asking, panelFree_of rfl,
    genSettled_of rfl, fun _ => ⟨rfl, .inl ⟨rfl, .inl rfl⟩⟩, rfl⟩

theorem witness_PauseResumeAndFinishAck_refused_running :
    ∃ (s : State) (h : HeatStage),
      PanelFree s ∧ GenSettled s
      ∧ (s.recipe.state = .paused → heatAt s.recipe s.recipe.cur = some h ∧ ((s.recipe.pausedFrom = .prompting ∧ (h.endKind = .prompt ∨ s.recipe.probePresent = true)) ∨ (s.recipe.pausedFrom = .running ∧ StageHolds s h ∧ h.endKind ≠ .prompt ∧ durationReached s.recipe h = false)))
      ∧ s.recipe.state ≠ .paused :=
  ⟨cooking, combi, panelFree_of rfl, genSettled_of rfl, fun h => absurd h (by decide), by decide⟩

theorem witness_PauseResumeAndFinishAck_refused_idle :
    ∃ (s : State) (h : HeatStage),
      PanelFree s ∧ GenSettled s
      ∧ (s.recipe.state = .paused → heatAt s.recipe s.recipe.cur = some h ∧ ((s.recipe.pausedFrom = .prompting ∧ (h.endKind = .prompt ∨ s.recipe.probePresent = true)) ∨ (s.recipe.pausedFrom = .running ∧ StageHolds s h ∧ h.endKind ≠ .prompt ∧ durationReached s.recipe h = false)))
      ∧ s.recipe.state ≠ .paused :=
  ⟨oven, combi, panelFree_of rfl, genSettled_of rfl, fun h => absurd h (by decide), by decide⟩

theorem witness_PauseResumeAndFinishAck_refused_loaded :
    ∃ (s : State) (h : HeatStage),
      PanelFree s ∧ GenSettled s
      ∧ (s.recipe.state = .paused → heatAt s.recipe s.recipe.cur = some h ∧ ((s.recipe.pausedFrom = .prompting ∧ (h.endKind = .prompt ∨ s.recipe.probePresent = true)) ∨ (s.recipe.pausedFrom = .running ∧ StageHolds s h ∧ h.endKind ≠ .prompt ∧ durationReached s.recipe h = false)))
      ∧ s.recipe.state ≠ .paused :=
  ⟨loaded, combi, panelFree_of rfl, genSettled_of rfl, fun h => absurd h (by decide), by decide⟩

theorem witness_AbortStopsProgramOrDescale_running :
    ∃ s : State,
      PanelFree s ∧ descaleActive s.descale = false ∧ s.line.queue = [] ∧ programActive s.recipe = true :=
  ⟨cooking, panelFree_of rfl, rfl, rfl, rfl⟩

theorem witness_AbortStopsProgramOrDescale_loading :
    ∃ s : State,
      PanelFree s ∧ descaleActive s.descale = false ∧ s.line.queue = [] ∧ s.recipe.state = .loading :=
  ⟨{ oven with recipe := { oven.recipe with state := .loading, count := 2, remaining := 2, store := [] } },
    panelFree_of rfl, rfl, rfl, rfl⟩

theorem witness_AbortStopsProgramOrDescale_refused :
    ∃ s : State,
      PanelFree s ∧ descaleActive s.descale = false ∧ s.line.queue = []
      ∧ programActive s.recipe = false ∧ s.recipe.state ≠ .loading :=
  ⟨loaded, panelFree_of rfl, rfl, rfl, by decide⟩

theorem witness_AbortStopsProgramOrDescale_prep :
    ∃ s : State,
      PanelFree s ∧ GenSettled s ∧ programActive s.recipe = false ∧ s.descale.phase ≠ .off
      ∧ s.descale.phase ≠ .holdAcid ∧ s.descale.phase ≠ .complete ∧ s.line.queue = [] ∧ s.descale.phase = .prep :=
  ⟨descaling .prep false, panelFree_of rfl, genSettled_of rfl, rfl, by decide, by decide, by decide, rfl, rfl⟩

theorem witness_AbortStopsProgramOrDescale_dose_before_acid :
    ∃ s : State,
      PanelFree s ∧ GenSettled s ∧ programActive s.recipe = false ∧ s.descale.phase ≠ .off
      ∧ s.descale.phase ≠ .holdAcid ∧ s.descale.phase ≠ .complete ∧ s.line.queue = []
      ∧ s.descale.phase = .dose ∧ s.steam.acid = false :=
  ⟨descaling .dose false, panelFree_of rfl, genSettled_of rfl, rfl, by decide, by decide, by decide, rfl, ⟨rfl, rfl⟩⟩

theorem witness_AbortStopsProgramOrDescale_dose_with_acid :
    ∃ s : State,
      PanelFree s ∧ GenSettled s ∧ programActive s.recipe = false ∧ s.descale.phase ≠ .off
      ∧ s.descale.phase ≠ .holdAcid ∧ s.descale.phase ≠ .complete ∧ s.line.queue = []
      ∧ s.descale.phase = .dose ∧ s.steam.acid = true :=
  ⟨descaling .dose true, panelFree_of rfl, genSettled_of rfl, rfl, by decide, by decide, by decide, rfl, ⟨rfl, rfl⟩⟩

theorem witness_AbortStopsProgramOrDescale_rinse :
    ∃ s : State,
      PanelFree s ∧ GenSettled s ∧ programActive s.recipe = false ∧ s.descale.phase ≠ .off
      ∧ s.descale.phase ≠ .holdAcid ∧ s.descale.phase ≠ .complete ∧ s.line.queue = [] ∧ s.descale.phase = .rinseHeat :=
  ⟨descaling .rinseHeat true, panelFree_of rfl, genSettled_of rfl, rfl, by decide, by decide, by decide, rfl, rfl⟩

theorem witness_AnswerGoesToItsBranchOrIsRefused_first_branch :
    ∃ (s : State) (index reply : Byte) (h h' : HeatStage),
      PanelFree s ∧ s.line.queue = [] ∧ s.recipe.state = .prompting ∧ heatAt s.recipe s.recipe.cur = some h
      ∧ s.recipe.prompt ≠ 250 ∧ index.toNat = s.recipe.cur ∧ reply.toNat ≤ 2
      ∧ ((stageAt s.recipe (s.recipe.cur + (h.branches[reply.toNat]?).getD 1) = some (.heat h' none) ∧ StageHolds s h') ∨ stageAt s.recipe (s.recipe.cur + (h.branches[reply.toNat]?).getD 1) = none) :=
  ⟨prompting, 1, 0, asking, combi, panelFree_of rfl, rfl, rfl, rfl, by decide, rfl, by decide,
    .inl ⟨rfl, stageHolds_time (d := 1000) rfl rfl (by decide)⟩⟩

theorem witness_AnswerGoesToItsBranchOrIsRefused_past_the_end :
    ∃ (s : State) (index reply : Byte) (h h' : HeatStage),
      PanelFree s ∧ s.line.queue = [] ∧ s.recipe.state = .prompting ∧ heatAt s.recipe s.recipe.cur = some h
      ∧ s.recipe.prompt ≠ 250 ∧ index.toNat = s.recipe.cur ∧ reply.toNat ≤ 2
      ∧ ((stageAt s.recipe (s.recipe.cur + (h.branches[reply.toNat]?).getD 1) = some (.heat h' none) ∧ StageHolds s h') ∨ stageAt s.recipe (s.recipe.cur + (h.branches[reply.toNat]?).getD 1) = none) :=
  ⟨prompting, 1, 1, asking, combi, panelFree_of rfl, rfl, rfl, rfl, by decide, rfl, by decide, .inr rfl⟩

theorem witness_AnswerGoesToItsBranchOrIsRefused_no_branch :
    ∃ (s : State) (index reply : Byte) (h h' : HeatStage),
      PanelFree s ∧ s.line.queue = [] ∧ s.recipe.state = .prompting ∧ heatAt s.recipe s.recipe.cur = some h
      ∧ s.recipe.prompt ≠ 250 ∧ index.toNat = s.recipe.cur ∧ reply.toNat ≤ 2
      ∧ ((stageAt s.recipe (s.recipe.cur + (h.branches[reply.toNat]?).getD 1) = some (.heat h' none) ∧ StageHolds s h') ∨ stageAt s.recipe (s.recipe.cur + (h.branches[reply.toNat]?).getD 1) = none) :=
  ⟨prompting, 1, 2, asking, combi, panelFree_of rfl, rfl, rfl, rfl, by decide, rfl, by decide,
    .inl ⟨rfl, stageHolds_time (d := 1000) rfl rfl (by decide)⟩⟩

theorem witness_AnswerGoesToItsBranchOrIsRefused_not_prompting :
    ∃ (s : State) (index reply : Byte),
      PanelFree s ∧ GenSettled s
      ∧ (s.recipe.state ≠ .prompting ∨ 2 < reply.toNat ∨ index.toNat ≠ s.recipe.cur ∨ (s.recipe.prompt = 250 ∧ s.recipe.probePresent = false)) :=
  ⟨cooking, 1, 0, panelFree_of rfl, genSettled_of rfl, .inl (by decide)⟩

theorem witness_AnswerGoesToItsBranchOrIsRefused_reply_three :
    ∃ (s : State) (index reply : Byte),
      PanelFree s ∧ GenSettled s
      ∧ (s.recipe.state ≠ .prompting ∨ 2 < reply.toNat ∨ index.toNat ≠ s.recipe.cur ∨ (s.recipe.prompt = 250 ∧ s.recipe.probePresent = false)) :=
  ⟨prompting, 1, 3, panelFree_of rfl, genSettled_of rfl, .inr (.inl (by decide))⟩

theorem witness_AnswerGoesToItsBranchOrIsRefused_other_stage :
    ∃ (s : State) (index reply : Byte),
      PanelFree s ∧ GenSettled s
      ∧ (s.recipe.state ≠ .prompting ∨ 2 < reply.toNat ∨ index.toNat ≠ s.recipe.cur ∨ (s.recipe.prompt = 250 ∧ s.recipe.probePresent = false)) :=
  ⟨prompting, 2, 0, panelFree_of rfl, genSettled_of rfl, .inr (.inr (.inl (by decide)))⟩

theorem witness_AnswerGoesToItsBranchOrIsRefused_probe_missing :
    ∃ (s : State) (index reply : Byte),
      PanelFree s ∧ GenSettled s
      ∧ (s.recipe.state ≠ .prompting ∨ 2 < reply.toNat ∨ index.toNat ≠ s.recipe.cur ∨ (s.recipe.prompt = 250 ∧ s.recipe.probePresent = false)) :=
  ⟨{ prompting with recipe.prompt := 250 }, 1, 0, panelFree_of rfl, genSettled_of rfl, .inr (.inr (.inr ⟨rfl, rfl⟩))⟩

theorem witness_PauseResumeAndFinishAck_finished :
    ∃ s : State,
      PanelFree s ∧ GenSettled s ∧ s.recipe.state = .finished :=
  ⟨{ loaded with recipe.state := .finished }, panelFree_of rfl, genSettled_of rfl, rfl⟩

theorem witness_PauseResumeAndFinishAck_faulted :
    ∃ s : State,
      PanelFree s ∧ GenSettled s ∧ s.recipe.state = .faulted ∧ s.superv.relayClosed = true ∧ s.superv.welded = false :=
  ⟨{ loaded with recipe.state := .faulted }, panelFree_of rfl, genSettled_of rfl, ⟨rfl, rfl, rfl⟩⟩

theorem witness_PauseResumeAndFinishAck_relay_open :
    ∃ s : State,
      PanelFree s ∧ GenSettled s ∧ s.recipe.state = .faulted ∧ s.superv.relayClosed = false :=
  ⟨{ loaded with recipe.state := .faulted, superv.relayClosed := false }, panelFree_of rfl, genSettled_of rfl,
    ⟨rfl, rfl⟩⟩

theorem witness_PauseResumeAndFinishAck_3_refused :
    ∃ s : State,
      PanelFree s ∧ GenSettled s ∧ s.recipe.state ≠ .finished ∧ s.recipe.state ≠ .faulted :=
  ⟨loaded, panelFree_of rfl, genSettled_of rfl, by decide⟩

theorem witness_RelayRestoreClosesTheRelay_closes :
    ∃ s : State,
      PanelFree s ∧ GenSettled s ∧ frozen s = true ∧ (s.superv.welded = false ∧ ∀ c, inExcursion s c = false) :=
  ⟨{ oven with superv.relayClosed := false, superv.trip := true }, panelFree_of rfl, genSettled_of rfl, rfl,
    ⟨rfl, fun c => by cases c <;> rfl⟩⟩

theorem witness_RelayRestoreClosesTheRelay_welded :
    ∃ s : State,
      PanelFree s ∧ GenSettled s ∧ frozen s = true ∧ s.superv.welded = true :=
  ⟨{ oven with superv.welded := true }, panelFree_of rfl, genSettled_of rfl, rfl, rfl⟩

theorem witness_RelayRestoreClosesTheRelay_boil_in_excursion :
    ∃ s : State,
      PanelFree s ∧ GenSettled s ∧ frozen s = true
      ∧ (s.superv.welded = false ∧ inExcursion s .boil = true ∧ ∀ x, channelCode x < channelCode .boil → inExcursion s x = false) :=
  ⟨{ oven with superv.high.boil := ⟨.active, 0, .trip⟩ }, panelFree_of rfl, genSettled_of rfl, rfl,
    ⟨rfl, rfl, fun x h => by revert h; cases x <;> decide⟩⟩

theorem witness_DescaleBeginsOnCommand_from_off :
    ∃ s : State,
      PanelFree s ∧ frozen s = true ∧ (s.recipe.state = .idle ∨ s.recipe.state = .loaded)
      ∧ (s.descale.phase = .off ∨ s.descale.phase = .holdAcid) ∧ tripRefuses s = false ∧ s.line.queue = [] :=
  ⟨oven, panelFree_of rfl, rfl, .inl rfl, .inl rfl, rfl, rfl⟩

theorem witness_DescaleBeginsOnCommand_from_hold_acid :
    ∃ s : State,
      PanelFree s ∧ frozen s = true ∧ (s.recipe.state = .idle ∨ s.recipe.state = .loaded)
      ∧ (s.descale.phase = .off ∨ s.descale.phase = .holdAcid) ∧ tripRefuses s = false ∧ s.line.queue = [] :=
  ⟨{ loaded with descale.phase := .holdAcid, steam.acid := true }, panelFree_of rfl, rfl, .inr rfl, .inr rfl, rfl, rfl⟩

theorem witness_DescaleBeginsOnCommand_water_in :
    ∃ s : State,
      PanelFree s ∧ GenSettled s ∧ s.line.queue = []
      ∧ s.descale.phase = .prep ∧ s.steam.gen = .service ∧ s.steam.levels.low = true :=
  ⟨{ descaling .prep false with steam.levels := ⟨true, false, false⟩ }, panelFree_of rfl, genSettled_of rfl, rfl,
    ⟨rfl, rfl, rfl⟩⟩

theorem witness_DescaleBeginsOnCommand_empty :
    ∃ s : State,
      PanelFree s ∧ GenSettled s ∧ s.line.queue = []
      ∧ s.descale.phase = .prep ∧ s.steam.gen = .service ∧ s.steam.levels.low = false ∧ s.steam.levels.high = false :=
  ⟨descaling .prep false, panelFree_of rfl, genSettled_of rfl, rfl, ⟨rfl, rfl, rfl, rfl⟩⟩

theorem witness_DescaleBeginsOnCommand_refused :
    ∃ s : State,
      PanelFree s ∧ GenSettled s ∧ s.line.queue = [] ∧ s.descale.phase ≠ .prep :=
  ⟨oven, panelFree_of rfl, genSettled_of rfl, rfl, by decide⟩

theorem witness_CheckValueCoversTheConfiguration_end :
    ∃ (s : State) (c : Instr),
      ((c = .setupEnd [] ∧ PanelFree s) ∨ (c = .setupWindowExpiry ∧ unnumbered s = false ∧ s.startup.restarting = false))
      ∧ s.startup.setup = .opened :=
  ⟨fresh, .setupEnd [], .inl ⟨rfl, panelFree_of rfl⟩, rfl⟩

theorem witness_CheckValueCoversTheConfiguration_reverts :
    ∃ (s : State) (c : Instr),
      ((c = .setupEnd [] ∧ PanelFree s) ∨ (c = .setupWindowExpiry ∧ unnumbered s = false ∧ s.startup.restarting = false))
      ∧ s.startup.setup = .opened :=
  ⟨{ fresh with startup.workSupply.stations := 8, startup.workSupply.capacity := 100 }, .setupWindowExpiry,
    .inr ⟨rfl, rfl, rfl⟩, rfl⟩

theorem witness_DrainOutReadsLow_wet :
    ∃ s : State,
      PanelFree s ∧ GenSettled s ∧ s.line.queue = [] ∧ s.descale.phase = .prep ∧ s.steam.gen = .service
      ∧ s.steam.levels.low = true :=
  ⟨{ descaling .prep false with steam.levels := ⟨true, false, false⟩ }, panelFree_of rfl, genSettled_of rfl, rfl, rfl,
    rfl, rfl⟩

theorem witness_DrainOutReadsLow_dry :
    ∃ s : State,
      PanelFree s ∧ GenSettled s ∧ s.line.queue = [] ∧ s.descale.phase = .prep ∧ s.steam.gen = .service
      ∧ s.steam.levels.low = false ∧ s.steam.levels.high = false :=
  ⟨descaling .prep false, panelFree_of rfl, genSettled_of rfl, rfl, rfl, rfl, ⟨rfl, rfl⟩⟩

theorem witness_DrainOutReadsLow_done :
    ∃ (s : State) (d : Drain),
      s.steam.gen = .service ∧ s.descale.phase = .drainOut ∧ s.steam.drain = some d ∧ s.power.base.pump = true
      ∧ s.steam.levels.low = false ∧ s.steam.levels.high = false :=
  ⟨{ descaling .drainOut false with steam.drain := some ⟨40000, 30000⟩, power.base.pump := true }, ⟨40000, 30000⟩,
    rfl, rfl, rfl, rfl, rfl, rfl⟩

theorem witness_DrainOutReadsLow_failed :
    ∃ (s : State) (d : Drain),
      unnumbered s = false ∧ s.line.queue = [] ∧ programActive s.recipe = false ∧ s.steam.gen = .service
      ∧ s.descale.phase = .drainOut ∧ s.steam.drain = some d ∧ s.power.base.pump = true :=
  ⟨{ descaling .drainOut false with steam.drain := some ⟨240000, 0⟩, power.base.pump := true }, ⟨240000, 0⟩, rfl, rfl,
    rfl, rfl, rfl, rfl, rfl⟩

theorem witness_DrainOutReadsLow_high_wet :
    ∃ (s : State) (f : Fill),
      s.steam.gen = .service ∧ s.descale.phase = .dose ∧ s.steam.fill = some f ∧ f.kind = .service
      ∧ s.steam.levels.high = false ∧ s.steam.levelInputs.high = true :=
  ⟨{ descaling .dose true with steam.fill := some ⟨.service, 9, 0, true⟩, steam.levelInputs := ⟨true, true, true⟩ },
    ⟨.service, 9, 0, true⟩, rfl, rfl, rfl, rfl, rfl, rfl⟩

theorem witness_ClimateSamples_error_six :
    ∃ (s : State) (m : Mode) (cav moist : Int) (target humidity : Nat),
      LoopsRun s ∧ GenSettled s ∧ s.climate.profile = some m ∧ s.climate.cavityTarget = some target
      ∧ reading s .cav = some cav ∧ reading s .moist = some moist
      ∧ (m.humid = true → s.climate.humidityTarget = some humidity) ∧ 5 < (target : Int) - cav :=
  ⟨{ cooking with superv.readings.cav := ⟨some 1794, .ok, false, 0, none⟩ }, .combi, 1794, 40, 1800, 50,
    ⟨rfl, rfl, rfl, rfl, rfl⟩, genSettled_of rfl, rfl, rfl, rfl, rfl, fun _ => rfl, by decide⟩

theorem witness_ClimateSamples_error_five :
    ∃ (s : State) (m : Mode) (cav moist : Int) (target humidity : Nat),
      LoopsRun s ∧ GenSettled s ∧ s.climate.profile = some m ∧ s.climate.cavityTarget = some target
      ∧ reading s .cav = some cav ∧ reading s .moist = some moist
      ∧ (m.humid = true → s.climate.humidityTarget = some humidity)
      ∧ ¬ 5 < (target : Int) - cav ∧ ¬ (target : Int) - cav < -5 :=
  ⟨{ cooking with superv.readings.cav := ⟨some 1795, .ok, false, 0, none⟩ }, .combi, 1795, 40, 1800, 50,
    ⟨rfl, rfl, rfl, rfl, rfl⟩, genSettled_of rfl, rfl, rfl, rfl, rfl, fun _ => rfl, by decide⟩

theorem witness_ClimateSamples_error_minus_six :
    ∃ (s : State) (m : Mode) (cav moist : Int) (target humidity : Nat),
      LoopsRun s ∧ GenSettled s ∧ s.climate.profile = some m ∧ s.climate.cavityTarget = some target
      ∧ reading s .cav = some cav ∧ reading s .moist = some moist
      ∧ (m.humid = true → s.climate.humidityTarget = some humidity) ∧ (target : Int) - cav < -5 :=
  ⟨{ cooking with superv.readings.cav := ⟨some 1806, .ok, false, 0, none⟩ }, .combi, 1806, 40, 1800, 50,
    ⟨rfl, rfl, rfl, rfl, rfl⟩, genSettled_of rfl, rfl, rfl, rfl, rfl, fun _ => rfl, by decide⟩

theorem witness_ClimateSamples_moist_minus_three :
    ∃ (s : State) (m : Mode) (cav moist : Int) (target humidity : Nat),
      LoopsRun s ∧ GenSettled s ∧ s.climate.profile = some m ∧ s.climate.cavityTarget = some target
      ∧ reading s .cav = some cav ∧ reading s .moist = some moist
      ∧ (m.humid = true → s.climate.humidityTarget = some humidity) ∧ m.humid = true ∧ (humidity : Int) - moist ≤ -3 :=
  ⟨{ cooking with superv.readings.moist := ⟨some 53, .ok, false, 0, none⟩ }, .combi, 1500, 53, 1800, 50,
    ⟨rfl, rfl, rfl, rfl, rfl⟩, genSettled_of rfl, rfl, rfl, rfl, rfl, fun _ => rfl, ⟨rfl, by decide⟩⟩

theorem witness_ClimateSamples_moist_minus_two :
    ∃ (s : State) (m : Mode) (cav moist : Int) (target humidity : Nat),
      LoopsRun s ∧ GenSettled s ∧ s.climate.profile = some m ∧ s.climate.cavityTarget = some target
      ∧ reading s .cav = some cav ∧ reading s .moist = some moist
      ∧ (m.humid = true → s.climate.humidityTarget = some humidity) ∧ m.humid = true ∧ -3 < (humidity : Int) - moist :=
  ⟨{ cooking with superv.readings.moist := ⟨some 52, .ok, false, 0, none⟩ }, .combi, 1500, 52, 1800, 50,
    ⟨rfl, rfl, rfl, rfl, rfl⟩, genSettled_of rfl, rfl, rfl, rfl, rfl, fun _ => rfl, ⟨rfl, by decide⟩⟩

theorem witness_ClimateSamples_dry :
    ∃ (s : State) (m : Mode) (cav moist : Int) (target humidity : Nat),
      LoopsRun s ∧ GenSettled s ∧ s.climate.profile = some m ∧ s.climate.cavityTarget = some target
      ∧ reading s .cav = some cav ∧ reading s .moist = some moist
      ∧ (m.humid = true → s.climate.humidityTarget = some humidity) ∧ m.humid = false :=
  ⟨
    { cooking with climate.profile := some .conv, climate.humidityTarget := none, recipe.store := [.heat combi none] },
    .conv, 1500, 40, 1800, 50, ⟨rfl, rfl, rfl, rfl, rfl⟩, genSettled_of rfl, rfl, rfl, rfl, rfl,
    fun h => absurd h (by decide), rfl⟩

theorem witness_ClimateSamples_door :
    ∃ s : State,
      frozen s = true ∧ s.startup.restarting = false ∧ GenSettled s
      ∧ (s.climate.doorOpen = true ∨ cutInForce s.superv = true ∨ s.superv.relayClosed = false ∨ s.climate.profile = none) :=
  ⟨{ cooking with climate.doorOpen := true }, rfl, rfl, genSettled_of rfl, .inl rfl⟩

theorem witness_ClimateSamples_no_profile :
    ∃ s : State,
      frozen s = true ∧ s.startup.restarting = false ∧ GenSettled s
      ∧ (s.climate.doorOpen = true ∨ cutInForce s.superv = true ∨ s.superv.relayClosed = false ∨ s.climate.profile = none) :=
  ⟨oven, rfl, rfl, genSettled_of rfl, .inr (.inr (.inr rfl))⟩

theorem witness_ClimateSamples_relay_open :
    ∃ s : State,
      frozen s = true ∧ s.startup.restarting = false ∧ GenSettled s
      ∧ (s.climate.doorOpen = true ∨ cutInForce s.superv = true ∨ s.superv.relayClosed = false ∨ s.climate.profile = none) :=
  ⟨{ cooking with superv.relayClosed := false }, rfl, rfl, genSettled_of rfl, .inr (.inr (.inl rfl))⟩

theorem witness_ClimateSamples_cut :
    ∃ s : State,
      frozen s = true ∧ s.startup.restarting = false ∧ GenSettled s
      ∧ (s.climate.doorOpen = true ∨ cutInForce s.superv = true ∨ s.superv.relayClosed = false ∨ s.climate.profile = none) :=
  ⟨{ cooking with superv.low.cav := ⟨.active, 0, .cut⟩ }, rfl, rfl, genSettled_of rfl, .inr (.inl rfl)⟩

theorem witness_DoorTakesTheHeatAway_opens :
    ∃ s : State,
      s.climate.doorInputOpen = true ∧ s.climate.doorOpen = false ∧ GenSettled s ∧ s.power.inFrame = true :=
  ⟨{ framed with climate.doorInputOpen := true }, rfl, rfl, genSettled_of rfl, rfl⟩

theorem witness_DoorTakesTheHeatAway_closes :
    ∃ s : State,
      s.climate.doorInputOpen = false ∧ s.climate.doorOpen = true :=
  ⟨{ oven with climate.doorOpen := true }, rfl, rfl⟩

theorem witness_CrossingBeginsTheNextSlot_first :
    ∃ (s : State) (interval volts : Nat),
      s.power.inFrame = true ∧ s.power.slot < 19 ∧ s.power.freq ≠ .undecided ∧ s.power.layout.length = 20
      ∧ (∀ x ∈ s.power.layout, ∀ e, x.get e = true → e ∈ s.power.frameOrder) ∧ s.power.slot = 0 :=
  ⟨framed, 10000, 230, rfl, by decide, by decide, rfl,
    fun _ h e _ => by rw [List.eq_of_mem_replicate h] at *; cases e <;> simp [framed], rfl⟩

theorem witness_CrossingBeginsTheNextSlot_last_hold_fallen :
    ∃ (s : State) (interval volts : Nat),
      s.power.inFrame = true ∧ s.power.slot < 19 ∧ s.power.freq ≠ .undecided ∧ s.power.layout.length = 20
      ∧ (∀ x ∈ s.power.layout, ∀ e, x.get e = true → e ∈ s.power.frameOrder)
      ∧ s.power.slot = 18 ∧ s.power.holdFall = some 100 ∧ s.power.shed.top = true :=
  ⟨{ framed with power.slot := 18, power.holdFall := some 100, power.shed := ⟨true, false, false, false⟩ }, 10000,
    230, rfl, by decide, by decide, rfl,
    fun _ h e _ => by rw [List.eq_of_mem_replicate h] at *; cases e <;> simp [framed], ⟨rfl, rfl, rfl⟩⟩

theorem witness_CrossingLaysOutAFrame_cooking :
    ∃ (s : State) (interval volts : Nat),
      (s.power.inFrame = false ∨ (s.power.inFrame = true ∧ s.power.slot = 19)) ∧ frozen s = true
      ∧ s.startup.restarting = false ∧ s.power.freq ≠ .undecided ∧ s.climate.order.Nodup :=
  ⟨cooking, 10000, 230, by decide, rfl, rfl, by decide, by decide⟩

theorem witness_CorrectedRatingsRoundUp_first_frame :
    ∃ (s : State) (interval volts : Nat) (e : Element),
      ((s.power.inFrame = true ∧ s.power.slot = 19) ∨ s.power.inFrame = false) ∧ frozen s = true
      ∧ s.startup.restarting = false ∧ s.power.freq ≠ .undecided ∧ 0 < s.startup.supply.vNom :=
  ⟨cooking, 10000, 230, .ring, .inr rfl, rfl, rfl, by decide, by decide⟩

theorem witness_CorrectedRatingsRoundUp_next_frame :
    ∃ (s : State) (interval volts : Nat) (e : Element),
      ((s.power.inFrame = true ∧ s.power.slot = 19) ∨ s.power.inFrame = false) ∧ frozen s = true
      ∧ s.startup.restarting = false ∧ s.power.freq ≠ .undecided ∧ 0 < s.startup.supply.vNom :=
  ⟨{ framed with power.slot := 19 }, 10000, 264, .ring, .inl ⟨rfl, rfl⟩, rfl, rfl, by decide, by decide⟩

theorem witness_CrossingCompletesTheFrame_completes :
    ∃ (s : State) (interval volts : Nat),
      s.power.inFrame = true ∧ s.power.slot = 19 ∧ s.power.freq ≠ .undecided :=
  ⟨{ framed with power.slot := 19 }, 10000, 230, rfl, rfl, by decide⟩

theorem witness_MainsFrequencyGapsAndStarvation_lowest_50 :
    ∃ (s : State) (interval volts : Nat),
      s.power.inFrame = false ∧ unnumbered s = false ∧ s.power.freq = .undecided ∧ s.power.crossings = 100
      ∧ 0 < s.power.intervalUs + interval
      ∧ 450 ≤ 500000000 / (s.power.intervalUs + interval) ∧ 500000000 / (s.power.intervalUs + interval) < 550 :=
  ⟨
    { State.reset with startup.station := 2, startup.partner := 11, startup.setup := .opened, power.crossings := 100, power.intervalUs := 1101111 },
    10000, 230, rfl, rfl, rfl, rfl, by decide, by decide⟩

theorem witness_MainsFrequencyGapsAndStarvation_highest_50 :
    ∃ (s : State) (interval volts : Nat),
      s.power.inFrame = false ∧ unnumbered s = false ∧ s.power.freq = .undecided ∧ s.power.crossings = 100
      ∧ 0 < s.power.intervalUs + interval ∧ 500000000 / (s.power.intervalUs + interval) = 549 :=
  ⟨
    { State.reset with startup.station := 2, startup.partner := 11, startup.setup := .opened, power.crossings := 100, power.intervalUs := 899091 },
    10000, 230, rfl, rfl, rfl, rfl, by decide, by decide⟩

theorem witness_MainsFrequencyGapsAndStarvation_lowest_60 :
    ∃ (s : State) (interval volts : Nat),
      s.power.inFrame = false ∧ unnumbered s = false ∧ s.power.freq = .undecided ∧ s.power.crossings = 100
      ∧ 0 < s.power.intervalUs + interval ∧ 500000000 / (s.power.intervalUs + interval) = 550 :=
  ⟨
    { State.reset with startup.station := 2, startup.partner := 11, startup.setup := .opened, power.crossings := 100, power.intervalUs := 899090 },
    10000, 230, rfl, rfl, rfl, rfl, by decide, by decide⟩

theorem witness_MainsFrequencyGapsAndStarvation_highest_60 :
    ∃ (s : State) (interval volts : Nat),
      s.power.inFrame = false ∧ unnumbered s = false ∧ s.power.freq = .undecided ∧ s.power.crossings = 100
      ∧ 0 < s.power.intervalUs + interval ∧ 500000000 / (s.power.intervalUs + interval) = 650 :=
  ⟨
    { State.reset with startup.station := 2, startup.partner := 11, startup.setup := .opened, power.crossings := 100, power.intervalUs := 759230 },
    10000, 230, rfl, rfl, rfl, rfl, by decide, by decide⟩

theorem witness_MainsFrequencyGapsAndStarvation_above :
    ∃ (s : State) (interval volts : Nat),
      s.power.inFrame = false ∧ unnumbered s = false ∧ s.power.freq = .undecided ∧ s.power.crossings = 100
      ∧ 0 < s.power.intervalUs + interval ∧ 650 < 500000000 / (s.power.intervalUs + interval) :=
  ⟨
    { State.reset with startup.station := 2, startup.partner := 11, startup.setup := .opened, power.crossings := 100, power.intervalUs := 758049 },
    10000, 230, rfl, rfl, rfl, rfl, by decide, by decide⟩

theorem witness_MainsFrequencyGapsAndStarvation_below :
    ∃ (s : State) (interval volts : Nat),
      s.power.inFrame = false ∧ unnumbered s = false ∧ s.power.freq = .undecided ∧ s.power.crossings = 100
      ∧ 0 < s.power.intervalUs + interval ∧ 500000000 / (s.power.intervalUs + interval) < 450 :=
  ⟨
    { State.reset with startup.station := 2, startup.partner := 11, startup.setup := .opened, power.crossings := 100, power.intervalUs := 1101112 },
    10000, 230, rfl, rfl, rfl, rfl, by decide, by decide⟩

theorem witness_MainsFrequencyGapsAndStarvation_timeout :
    ∃ s : State,
      unnumbered s = false ∧ s.power.freq = .undecided :=
  ⟨
    { State.reset with startup.station := 2, startup.partner := 11, startup.setup := .opened, power.crossings := 100, power.intervalUs := 0 },
    rfl, rfl⟩

theorem witness_MainsFrequencyGapsAndStarvation_first :
    ∃ s : State,
      s.power.inFrame = true ∧ GenSettled s ∧ s.power.misses = 0 :=
  ⟨framed, rfl, genSettled_of rfl, rfl⟩

theorem witness_MainsFrequencyGapsAndStarvation_second :
    ∃ s : State,
      s.power.inFrame = true ∧ GenSettled s ∧ 0 < s.power.misses ∧ s.power.misses < 2 :=
  ⟨{ framed with power.misses := 1 }, rfl, genSettled_of rfl, by decide⟩

theorem witness_MainsFrequencyGapsAndStarvation_third :
    ∃ s : State,
      s.power.inFrame = true ∧ GenSettled s ∧ 2 ≤ s.power.misses :=
  ⟨{ framed with power.misses := 2 }, rfl, genSettled_of rfl, by decide⟩

theorem witness_MainsFrequencyGapsAndStarvation_starved :
    ∃ (s : State),
      unnumbered s = false ∧ s.power.starveMs.isSome = true :=
  ⟨{ framed with power.starveMs := some 60000 }, rfl, rfl⟩

theorem witness_RaiseAndLowerAreRecorded_fits :
    ∃ (s : State) (n : Nibble) (p : Pool) (group : Byte) (hold : Word16) (otherVeto : Bool),
      LineFree s ∧ GenSettled s ∧ n ≠ 0 ∧ n.toNat ≠ s.startup.station
      ∧ poolCapacity s.startup.supply p = (s.share.holds.get p + holdTaken p hold) :=
  ⟨oven, 3, .power, 0, 280, false, lineFree_of rfl, genSettled_of rfl, by decide, by decide, rfl⟩

theorem witness_RaiseAndLowerAreRecorded_vetoed :
    ∃ (s : State) (n : Nibble) (p : Pool) (group : Byte) (hold : Word16) (otherVeto : Bool),
      LineFree s ∧ GenSettled s ∧ n ≠ 0 ∧ n.toNat ≠ s.startup.station
      ∧ poolCapacity s.startup.supply p < (s.share.holds.get p + holdTaken p hold) :=
  ⟨oven, 3, .power, 0, 281, false, lineFree_of rfl, genSettled_of rfl, by decide, by decide, by decide⟩

theorem witness_RaiseAndLowerAreRecorded_trip_set :
    ∃ (s : State) (n : Nibble) (p : Pool) (group : Byte) (hold : Word16) (otherVeto : Bool),
      LineFree s ∧ GenSettled s ∧ n ≠ 0 ∧ n.toNat ≠ s.startup.station ∧ s.share.tripSet ≠ [] :=
  ⟨{ oven with share.tripSet := [5] }, 3, .inlet, 0, 1, false, lineFree_of rfl, genSettled_of rfl, by decide,
    by decide, by decide⟩

theorem witness_RaiseAndLowerAreRecorded_own_hold_corrected :
    ∃ (s : State) (n : Nibble) (p : Pool) (group : Byte) (hold : Word16) (otherVeto : Bool),
      LineFree s ∧ GenSettled s ∧ n ≠ 0 ∧ n.toNat ≠ s.startup.station :=
  ⟨shared, 3, .power, 0, 400, false, lineFree_of rfl, genSettled_of rfl, by decide, by decide⟩

theorem witness_StatusIsRecorded_new_sender :
    ∃ (s : State) (n : Nibble) (b : StatusBody) (otherVeto : Bool),
      LineFree s ∧ GenSettled s ∧ frozen s = true ∧ n ≠ 0 ∧ n.toNat ≠ s.startup.station ∧ s.line.queue = []
      ∧ (findEntry s.share.table n.toNat).all (fun e => b.joining && !e.joining) = true :=
  ⟨oven, 3, ⟨0, 0, false, false, false, false, true, 200, 0, 0, 0, 0⟩, false, lineFree_of rfl, genSettled_of rfl, rfl,
    by decide, by decide, rfl, rfl⟩

theorem witness_StatusIsRecorded_leak :
    ∃ (s : State) (n : Nibble) (b : StatusBody) (otherVeto : Bool),
      LineFree s ∧ GenSettled s ∧ frozen s = true ∧ n ≠ 0 ∧ n.toNat ≠ s.startup.station ∧ s.line.queue = []
      ∧ b.waterGroup.toNat = s.startup.supply.waterGroup ∧ b.leak = true ∧ s.share.tripSet = [] :=
  ⟨oven, 3, ⟨0, 0, false, false, false, true, false, 200, 0, 0, 0, 0⟩, false, lineFree_of rfl, genSettled_of rfl, rfl,
    by decide, by decide, rfl, ⟨rfl, rfl, rfl⟩⟩

theorem witness_StatusIsRecorded_leak_ends :
    ∃ (s : State) (n : Nibble) (b : StatusBody) (otherVeto : Bool),
      LineFree s ∧ GenSettled s ∧ frozen s = true ∧ n ≠ 0 ∧ n.toNat ≠ s.startup.station ∧ s.line.queue = []
      ∧ b.waterGroup.toNat = s.startup.supply.waterGroup ∧ b.leak = false :=
  ⟨{ shared with share.tripSet := [3] }, 3, ⟨0, 0, false, false, false, false, false, 200, 0, 0, 0, 0⟩, false,
    lineFree_of rfl, genSettled_of rfl, rfl, by decide, by decide, rfl, ⟨rfl, rfl⟩⟩

theorem witness_YieldGivesWay_above_floor :
    ∃ (s : State) (n : Nibble) (group : Byte) (need : Word16),
      LineFree s ∧ GenSettled s ∧ frozen s = true ∧ n ≠ 0 ∧ n.toNat ≠ s.startup.station
      ∧ group.toNat = s.startup.supply.circuitGroup ∧ s.share.link = .member ∧ s.share.floor < s.share.holds.power ∧ need.toNat ≠ 0 :=
  ⟨oven, 3, 0, 50, lineFree_of rfl, genSettled_of rfl, rfl, by decide, by decide, ⟨rfl, rfl, by decide, by decide⟩⟩

theorem witness_YieldGivesWay_at_floor :
    ∃ (s : State) (n : Nibble) (group : Byte) (need : Word16),
      LineFree s ∧ GenSettled s ∧ frozen s = true ∧ n ≠ 0 ∧ n.toNat ≠ s.startup.station
      ∧ s.share.holds.power ≤ s.share.floor :=
  ⟨{ oven with share.holds := ⟨350, 0, 0⟩ }, 3, 0, 50, lineFree_of rfl, genSettled_of rfl, rfl, by decide, by decide,
    by decide⟩

theorem witness_WaterTripsAreLearned_new_origin :
    ∃ (s : State) (n : Nibble) (type origin group : Byte),
      LineFree s ∧ GenSettled s ∧ n ≠ 0 ∧ n.toNat ≠ s.startup.station
      ∧ 1 ≤ origin.toNat ∧ origin.toNat ≤ 15 ∧ group.toNat = s.startup.supply.waterGroup ∧ origin.toNat ∉ s.share.tripSet :=
  ⟨{ oven with share.holds := ⟨420, 1, 0⟩ }, 3, 0, 15, 0, lineFree_of rfl, genSettled_of rfl, by decide, by decide,
    by decide⟩

theorem witness_WaterTripsAreLearned_origin_above_15 :
    ∃ (s : State) (n : Nibble) (type origin group : Byte),
      LineFree s ∧ GenSettled s ∧ n ≠ 0 ∧ n.toNat ≠ s.startup.station ∧ 15 < origin.toNat :=
  ⟨oven, 3, 0, 16, 0, lineFree_of rfl, genSettled_of rfl, by decide, by decide, by decide⟩

theorem witness_WaterTripsAreLearned_other_group :
    ∃ (s : State) (n : Nibble) (type origin group : Byte),
      LineFree s ∧ GenSettled s ∧ n ≠ 0 ∧ n.toNat ≠ s.startup.station ∧ group.toNat ≠ s.startup.supply.waterGroup :=
  ⟨oven, 3, 0, 1, 1, lineFree_of rfl, genSettled_of rfl, by decide, by decide, by decide⟩

theorem witness_WaterTripsAreLearned_self_clear :
    ∃ (s : State) (n : Nibble) (origin group : Byte),
      LineFree s ∧ GenSettled s ∧ n ≠ 0 ∧ n.toNat ≠ s.startup.station ∧ 1 ≤ origin.toNat ∧ origin.toNat ≤ 15
      ∧ origin.toNat = n.toNat ∧ group.toNat = s.startup.supply.waterGroup :=
  ⟨{ shared with share.tripSet := [3] }, 3, 3, 0, lineFree_of rfl, genSettled_of rfl, by decide, by decide, by decide,
    by decide, ⟨rfl, rfl⟩⟩

theorem witness_WaterTripsAreLearned_panel_clear :
    ∃ (s : State) (n : Nibble) (origin group : Byte),
      LineFree s ∧ GenSettled s ∧ n ≠ 0 ∧ n.toNat ≠ s.startup.station ∧ 1 ≤ origin.toNat ∧ origin.toNat ≤ 15
      ∧ origin.toNat ≠ n.toNat ∧ origin.toNat ≠ s.startup.station :=
  ⟨{ shared with share.tripSet := [3] }, 11, 3, 0, lineFree_of rfl, genSettled_of rfl, by decide, by decide,
    by decide, by decide, by decide⟩

theorem witness_WaterTripsAreLearned_own_number :
    ∃ (s : State) (n : Nibble) (origin group : Byte),
      LineFree s ∧ GenSettled s ∧ n ≠ 0 ∧ n.toNat ≠ s.startup.station ∧ 1 ≤ origin.toNat ∧ origin.toNat ≤ 15
      ∧ origin.toNat = s.startup.station :=
  ⟨{ shared with share.tripSet := [2] }, 11, 2, 0, lineFree_of rfl, genSettled_of rfl, by decide, by decide,
    by decide, by decide, rfl⟩

theorem witness_LeakTripsTheWater_wet :
    ∃ s : State,
      unnumbered s = false ∧ frozen s = true ∧ GenSettled s ∧ s.share.leakInputWet = true ∧ s.share.leakWet = false :=
  ⟨{ oven with share.leakInputWet := true }, rfl, rfl, genSettled_of rfl, rfl, rfl⟩

theorem witness_LeakTripsTheWater_dry :
    ∃ s : State,
      unnumbered s = false ∧ frozen s = true ∧ GenSettled s ∧ s.share.leakInputWet = false ∧ s.share.leakWet = true :=
  ⟨{ oven with share.leakWet := true, share.tripSet := [2] }, rfl, rfl, genSettled_of rfl, rfl, rfl⟩

theorem witness_LinkStateSilenceAndPeriods_isolated :
    ∃ s : State,
      unnumbered s = false ∧ GenSettled s ∧ s.share.link ≠ .isolated ∧ s.share.sinceOwnMs.isSome = true :=
  ⟨oven, rfl, genSettled_of rfl, by decide, rfl⟩

theorem witness_LinkStateSilenceAndPeriods_lost_while_cooking :
    ∃ s : State,
      unnumbered s = false ∧ s.line.queue = [] ∧ s.share.link = .isolated ∧ s.share.lost = false
      ∧ programActive s.recipe = true :=
  ⟨{ cooking with share.link := .isolated }, rfl, rfl, rfl, rfl, rfl⟩

theorem witness_LinkStateSilenceAndPeriods_lost_idle :
    ∃ s : State,
      unnumbered s = false ∧ s.line.queue = [] ∧ s.share.link = .isolated ∧ s.share.lost = false
      ∧ programActive s.recipe = false :=
  ⟨{ oven with share.link := .isolated }, rfl, rfl, rfl, rfl, rfl⟩

theorem witness_LinkStateSilenceAndPeriods_joining :
    ∃ s : State,
      s.share.link = .joining ∧ s.share.joinMs.isSome = true :=
  ⟨{ oven with share.link := .joining, share.joinMs := some 3500 }, rfl, rfl⟩

theorem witness_LinkStateSilenceAndPeriods_silent :
    ∃ (s : State) (n : Nibble) (e : Entry),
      findEntry s.share.table n.toNat = some e ∧ e.expired = false :=
  ⟨shared, 3, neighbour, rfl, rfl⟩

theorem witness_LinkStateSilenceAndPeriods_gone :
    ∃ (s : State) (n : Nibble) (e : Entry),
      findEntry s.share.table n.toNat = some e :=
  ⟨shared, 3, neighbour, rfl⟩

theorem witness_LinkStateSilenceAndPeriods_inlet :
    ∃ (s : State) (p : Pool),
      unnumbered s = false ∧ frozen s = true ∧ s.share.link = .member ∧ s.line.malformed < 8
      ∧ s.superv.configFault = false ∧ s.startup.restarting = false ∧ p ≠ .power ∧ waterWant s p = true
      ∧ s.share.holds.get p = 0 ∧ othersCharges s p < poolCapacity s.startup.supply p
      ∧ (p = .inlet → s.share.tripSet = []) ∧ anyWaiting (TxFrame.isLower p) s.line.queue = false
      ∧ raiseQueued p s = false :=
  ⟨{ oven with steam.inletWant := true }, .inlet, rfl, rfl, rfl, by decide, rfl, rfl, by decide, rfl, rfl, by decide,
    fun _ => rfl, rfl, rfl⟩

theorem witness_LinkStateSilenceAndPeriods_drain :
    ∃ (s : State) (p : Pool),
      unnumbered s = false ∧ frozen s = true ∧ s.share.link = .member ∧ s.line.malformed < 8
      ∧ s.superv.configFault = false ∧ s.startup.restarting = false ∧ p ≠ .power ∧ waterWant s p = true
      ∧ s.share.holds.get p = 0 ∧ othersCharges s p < poolCapacity s.startup.supply p
      ∧ (p = .inlet → s.share.tripSet = []) ∧ anyWaiting (TxFrame.isLower p) s.line.queue = false
      ∧ raiseQueued p s = false :=
  ⟨{ oven with steam.drainWant := true }, .drain, rfl, rfl, rfl, by decide, rfl, rfl, by decide, rfl, rfl, by decide,
    fun h => absurd h (by decide), rfl, rfl⟩

theorem witness_LinkStateSilenceAndPeriods_frozen :
    ∃ s : State,
      unnumbered s = false ∧ frozen s = true :=
  ⟨oven, rfl, rfl⟩

theorem witness_OwnFrameCompletes_raise :
    ∃ (s : State) (vetoed : Bool) (f : TxFrame),
      GenSettled s ∧ unnumbered s = false ∧ frozen s = true ∧ sendingFrame s = some f
      ∧ (s.startup.restarting = false ∨ ((∃ p, s.startup.restartLowers.get p = true ∧ ∀ g, f ≠ .lower p g 0) ∧ s.startup.restartMs < 1000))
      ∧ f.raiseValue .power = some 500 :=
  ⟨sending (.raise .power 0 500), false, .raise .power 0 500, genSettled_of rfl, rfl, rfl, rfl, .inl rfl, rfl⟩

theorem witness_OwnFrameCompletes_vetoed_raise :
    ∃ (s : State) (vetoed : Bool) (f : TxFrame),
      GenSettled s ∧ unnumbered s = false ∧ frozen s = true ∧ sendingFrame s = some f
      ∧ (s.startup.restarting = false ∨ ((∃ p, s.startup.restartLowers.get p = true ∧ ∀ g, f ≠ .lower p g 0) ∧ s.startup.restartMs < 1000))
      ∧ f.raiseValue .power ≠ none :=
  ⟨sending (.raise .power 0 500), true, .raise .power 0 500, genSettled_of rfl, rfl, rfl, rfl, .inl rfl, by decide⟩

theorem witness_OwnFrameCompletes_inlet :
    ∃ (s : State) (vetoed : Bool) (f : TxFrame),
      GenSettled s ∧ unnumbered s = false ∧ frozen s = true ∧ sendingFrame s = some f
      ∧ (s.startup.restarting = false ∨ ((∃ p, s.startup.restartLowers.get p = true ∧ ∀ g, f ≠ .lower p g 0) ∧ s.startup.restartMs < 1000))
      ∧ f.raiseValue .inlet = some 1 ∧ s.steam.inletWant = true ∧ s.share.tripSet = [] :=
  ⟨{ sending (.raise .inlet 0 1) with steam.inletWant := true }, false, .raise .inlet 0 1, genSettled_of rfl, rfl,
    rfl, rfl, .inl rfl, ⟨rfl, rfl, rfl⟩⟩

theorem witness_OwnFrameCompletes_drain :
    ∃ (s : State) (vetoed : Bool) (f : TxFrame),
      GenSettled s ∧ unnumbered s = false ∧ frozen s = true ∧ sendingFrame s = some f
      ∧ (s.startup.restarting = false ∨ ((∃ p, s.startup.restartLowers.get p = true ∧ ∀ g, f ≠ .lower p g 0) ∧ s.startup.restartMs < 1000))
      ∧ f.raiseValue .drain = some 1 ∧ s.steam.drainWant = true :=
  ⟨{ sending (.raise .drain 0 1) with steam.drainWant := true }, false, .raise .drain 0 1, genSettled_of rfl, rfl,
    rfl, rfl, .inl rfl, ⟨rfl, rfl⟩⟩

theorem witness_OwnFrameCompletes_status_ends_isolation :
    ∃ (s : State) (vetoed : Bool) (f : TxFrame),
      GenSettled s ∧ unnumbered s = false ∧ frozen s = true ∧ sendingFrame s = some f
      ∧ (s.startup.restarting = false ∨ ((∃ p, s.startup.restartLowers.get p = true ∧ ∀ g, f ≠ .lower p g 0) ∧ s.startup.restartMs < 1000))
      ∧ ((∀ p, f.raiseValue p = none) ∧ s.share.link = .isolated ∧ s.line.numberClash = false) :=
  ⟨{ sending .status with share.link := .isolated }, false, .status, genSettled_of rfl, rfl, rfl, rfl, .inl rfl,
    ⟨fun _ => rfl, rfl, rfl⟩⟩

theorem witness_LineStateChanges_wait :
    ∃ s : State,
      s.line.state = .wait ∧ unnumbered s = false :=
  ⟨{ oven with line.state := .wait }, rfl, rfl⟩

theorem witness_LineStateChanges_broken :
    ∃ s : State,
      s.line.state = .busy ∧ s.line.breakSeen = true :=
  ⟨{ oven with line.state := .busy, line.breakSeen := true }, rfl, rfl⟩

theorem witness_LineStateChanges_status :
    ∃ (s : State) (e : QEntry) (rest : List QEntry),
      s.line.state = .idle ∧ unnumbered s = false ∧ sendingFrame s = none ∧ s.line.queue = e :: rest :=
  ⟨{ oven with line.queue := [⟨.status, false⟩] }, ⟨.status, false⟩, [], rfl, rfl, rfl, rfl⟩

theorem witness_LineStateChanges_raise_waits :
    ∃ s : State,
      s.line.state ≠ .busy ∧ unnumbered s = false ∧ anyWaiting (TxFrame.isRaise .power) s.line.queue = true :=
  ⟨{ oven with line.queue := [⟨.raise .power 0 500, false⟩] }, by decide, rfl, rfl⟩

theorem witness_OwnNumberCountsAClash_second :
    ∃ (s : State) (content : FrameContent) (otherVeto : Bool),
      LineFree s ∧ GenSettled s ∧ s.line.queue = [] ∧ s.line.clashes < 2 :=
  ⟨{ oven with line.clashes := 1 }, .report, false, lineFree_of rfl, genSettled_of rfl, rfl, by decide⟩

theorem witness_OwnNumberCountsAClash_third :
    ∃ (s : State) (content : FrameContent) (otherVeto : Bool),
      LineFree s ∧ GenSettled s ∧ s.line.queue = [] ∧ 2 ≤ s.line.clashes ∧ s.line.numberClash = false :=
  ⟨{ oven with line.clashes := 2 }, .report, false, lineFree_of rfl, genSettled_of rfl, rfl, by decide⟩

theorem witness_FramesAreVetoedAndHeard_eighth :
    ∃ (s : State) (g : MalformGround),
      LineFree s ∧ groundOk g = true ∧ s.line.malformed < 8 :=
  ⟨{ oven with line.malformed := 7 }, .checkWrong, lineFree_of rfl, rfl, by decide⟩

theorem witness_FramesAreVetoedAndHeard_ninth :
    ∃ (s : State) (g : MalformGround),
      LineFree s ∧ groundOk g = true ∧ ¬ s.line.malformed < 8 :=
  ⟨{ oven with line.malformed := 8 }, .breakInside, lineFree_of rfl, rfl, by decide⟩

theorem witness_FramesAreVetoedAndHeard_panel_twelve :
    ∃ (s : State) (n : Nibble),
      LineFree s ∧ GenSettled s ∧ n ≠ 0 ∧ n.toNat ≠ s.startup.station ∧ n.toNat ≠ s.startup.partner
      ∧ s.startup.station ≤ 15 :=
  ⟨oven, 12, lineFree_of rfl, genSettled_of rfl, by decide, by decide, by decide, by decide⟩

theorem witness_FramesAreVetoedAndHeard_neighbour :
    ∃ (s : State) (n : Nibble),
      LineFree s ∧ GenSettled s ∧ n ≠ 0 ∧ n.toNat ≠ s.startup.station :=
  ⟨shared, 3, lineFree_of rfl, genSettled_of rfl, by decide, by decide⟩

theorem witness_LevelsStartAndEndFills_low_dry :
    ∃ s : State,
      GenSettled s ∧ frozen s = true ∧ s.startup.restarting = false ∧ (s.steam.gen = .heating ∨ s.steam.gen = .ready)
      ∧ s.steam.levels.low = true ∧ s.steam.levelInputs.low = false
      ∧ s.steam.fill = none ∧ s.steam.levels.work = false ∧ s.steam.levels.high = false :=
  ⟨{ cooking with steam.levelInputs := PerElectrode.all false, steam.levels := ⟨true, false, false⟩ },
    genSettled_of rfl, rfl, rfl, .inr rfl, rfl, rfl, ⟨rfl, rfl, rfl⟩⟩

theorem witness_LevelsStartAndEndFills_work_wet :
    ∃ (s : State) (f : Fill),
      GenSettled s ∧ frozen s = true ∧ s.startup.restarting = false ∧ s.steam.gen = .filling ∧ s.steam.fill = some f
      ∧ f.kind = .cooking ∧ s.steam.levels.work = false ∧ s.steam.levelInputs.work = true ∧ s.steam.inletWant = true :=
  ⟨
    { cooking with steam.gen := .filling, steam.fill := some ⟨.cooking, 1, 0, true⟩, steam.levels := ⟨true, false, false⟩, steam.inletWant := true },
    ⟨.cooking, 1, 0, true⟩, genSettled_of rfl, rfl, rfl, rfl, rfl, rfl, rfl, rfl, rfl⟩

theorem witness_LevelsStartAndEndFills_begins :
    ∃ s : State,
      GenSettled s ∧ frozen s = true ∧ s.startup.restarting = false ∧ (s.steam.gen = .heating ∨ s.steam.gen = .ready)
      ∧ s.steam.levels.work = true ∧ s.steam.levelInputs.work = false
      ∧ s.steam.fill = none ∧ s.steam.levels.high = false :=
  ⟨{ cooking with steam.levelInputs := ⟨true, false, false⟩, steam.levels := ⟨true, true, false⟩ }, genSettled_of rfl,
    rfl, rfl, .inr rfl, rfl, rfl, ⟨rfl, rfl⟩⟩

theorem witness_LevelsStartAndEndFills_high_wet :
    ∃ s : State,
      GenSettled s ∧ frozen s = true ∧ s.startup.restarting = false ∧ (s.steam.gen = .heating ∨ s.steam.gen = .ready)
      ∧ s.steam.levels.work = true ∧ s.steam.levelInputs.work = false
      ∧ s.steam.fill = none ∧ s.steam.levels.high = true :=
  ⟨{ cooking with steam.levelInputs := ⟨true, false, true⟩, steam.levels := ⟨true, true, true⟩ }, genSettled_of rfl,
    rfl, rfl, .inr rfl, rfl, rfl, ⟨rfl, rfl⟩⟩

theorem witness_LevelsStartAndEndFills_ready :
    ∃ s : State,
      GenSettled s ∧ frozen s = true ∧ s.startup.restarting = false ∧ (s.steam.gen = .heating ∨ s.steam.gen = .ready)
      ∧ s.steam.levels.work = false ∧ s.steam.levelInputs.work = true ∧ (∀ f ∈ s.steam.fill, f.kind = .topUp)
      ∧ s.steam.fill.isSome = true ∧ s.steam.inletWant = true ∧ 0 < s.climate.steamDemand :=
  ⟨
    { cooking with steam.gen := .ready, steam.fill := some ⟨.topUp, 300, 0, true⟩, steam.levels := ⟨true, false, false⟩, steam.inletWant := true, steam.lock := true, steam.boilerDemand := 0, steam.scale := 0 },
    genSettled_of rfl, rfl, rfl, .inr rfl, rfl, rfl, fun f h => by cases h; rfl, ⟨rfl, rfl, by decide⟩⟩

theorem witness_LevelsStartAndEndFills_heating_at_derate :
    ∃ s : State,
      GenSettled s ∧ frozen s = true ∧ s.startup.restarting = false ∧ (s.steam.gen = .heating ∨ s.steam.gen = .ready)
      ∧ s.steam.levels.work = false ∧ s.steam.levelInputs.work = true ∧ (∀ f ∈ s.steam.fill, f.kind = .topUp)
      ∧ s.steam.gen = .heating ∧ reading s .boil ≠ none ∧ levelNow s = .derate :=
  ⟨
    { cooking with steam.gen := .heating, steam.fill := some ⟨.topUp, 300, 0, true⟩, steam.levels := ⟨true, false, false⟩, steam.inletWant := true, steam.lock := true, steam.boilerDemand := 0, steam.scale := 5000 },
    genSettled_of rfl, rfl, rfl, .inl rfl, rfl, rfl, fun f h => by cases h; rfl, ⟨rfl, by decide, rfl⟩⟩

theorem witness_LevelsStartAndEndFills_heating_below_derate :
    ∃ s : State,
      GenSettled s ∧ frozen s = true ∧ s.startup.restarting = false ∧ (s.steam.gen = .heating ∨ s.steam.gen = .ready)
      ∧ s.steam.levels.work = false ∧ s.steam.levelInputs.work = true ∧ (∀ f ∈ s.steam.fill, f.kind = .topUp)
      ∧ s.steam.fill = none ∧ reading s .boil ≠ none ∧ levelNow s ≠ .derate :=
  ⟨{ cooking with steam.gen := .heating, steam.levels := ⟨true, false, false⟩, steam.scale := 4999 },
    genSettled_of rfl, rfl, rfl, .inl rfl, rfl, rfl, fun f h => (nomatch h), ⟨rfl, by decide, by decide⟩⟩

theorem witness_LevelsStartAndEndFills_cooking_fill :
    ∃ (s : State) (f : Fill),
      GenSettled s ∧ frozen s = true ∧ s.startup.restarting = false ∧ s.steam.fill = some f
      ∧ s.steam.levels.high = false ∧ s.steam.levelInputs.high = true
      ∧ ((s.steam.gen = .filling ∧ f.kind = .cooking) ∨ ((s.steam.gen = .heating ∨ s.steam.gen = .ready) ∧ f.kind = .topUp)) :=
  ⟨
    { cooking with steam.gen := .filling, steam.fill := some ⟨.cooking, 300, 0, true⟩, steam.levels := PerElectrode.all false, steam.levelInputs := ⟨false, false, true⟩, steam.inletWant := true, steam.lock := false },
    ⟨.cooking, 300, 0, true⟩, genSettled_of rfl, rfl, rfl, rfl, rfl, rfl, .inl ⟨rfl, rfl⟩⟩

theorem witness_LevelsStartAndEndFills_top_up :
    ∃ (s : State) (f : Fill),
      GenSettled s ∧ frozen s = true ∧ s.startup.restarting = false ∧ s.steam.fill = some f
      ∧ s.steam.levels.high = false ∧ s.steam.levelInputs.high = true
      ∧ ((s.steam.gen = .filling ∧ f.kind = .cooking) ∨ ((s.steam.gen = .heating ∨ s.steam.gen = .ready) ∧ f.kind = .topUp))
      ∧ s.steam.lock = true :=
  ⟨
    { cooking with steam.gen := .ready, steam.fill := some ⟨.topUp, 300, 0, true⟩, steam.levels := PerElectrode.all false, steam.levelInputs := ⟨false, false, true⟩, steam.inletWant := true, steam.lock := true },
    ⟨.topUp, 300, 0, true⟩, genSettled_of rfl, rfl, rfl, rfl, rfl, rfl, .inr ⟨.inr rfl, rfl⟩, rfl⟩

theorem witness_PulsesCountWaterAndScale_no_fill :
    ∃ s : State,
      s.steam.fill = none :=
  ⟨cooking, rfl⟩

theorem witness_PulsesCountWaterAndScale_48th :
    ∃ (s : State) (f : Fill),
      GenSettled s ∧ s.steam.fill = some f ∧ f.kind ≠ .service ∧ 2 ≤ f.budget ∧ s.steam.sub < 49 :=
  ⟨
    { cooking with steam.gen := .filling, steam.fill := some ⟨.cooking, 2, 0, true⟩, steam.levels := PerElectrode.all false, steam.sub := 48, steam.scale := 0 },
    ⟨.cooking, 2, 0, true⟩, genSettled_of rfl, rfl, by decide, by decide, by decide⟩

theorem witness_PulsesCountWaterAndScale_50th :
    ∃ (s : State) (f : Fill),
      GenSettled s ∧ s.steam.fill = some f ∧ f.kind ≠ .service ∧ 2 ≤ f.budget ∧ s.steam.sub = 49
      ∧ s.steam.scale ≤ 65535 ∧ unnumbered s = false
      ∧ scaleLevel (min 65535 (s.steam.scale + s.startup.supply.hardness)) s.startup.supply.tDue ≠ .block
      ∧ (levelNow s).code < ScaleLevel.due.code :=
  ⟨
    { cooking with steam.gen := .filling, steam.fill := some ⟨.cooking, 2, 0, true⟩, steam.levels := PerElectrode.all false, steam.sub := 49, steam.scale := 3986 },
    ⟨.cooking, 2, 0, true⟩, genSettled_of rfl, rfl, by decide, by decide, rfl, by decide, rfl, by decide, by decide⟩

theorem witness_PulsesCountWaterAndScale_last :
    ∃ (s : State) (f : Fill),
      GenSettled s ∧ unnumbered s = false ∧ s.steam.fill = some f ∧ f.kind ≠ .service ∧ f.budget ≤ 1
      ∧ s.steam.sub < 49 ∧ s.steam.levels.work = false ∧ s.steam.levels.high = false :=
  ⟨
    { cooking with steam.gen := .filling, steam.fill := some ⟨.cooking, 1, 0, true⟩, steam.levels := PerElectrode.all false, steam.sub := 0, steam.scale := 0 },
    ⟨.cooking, 1, 0, true⟩, genSettled_of rfl, rfl, rfl, by decide, by decide, by decide, rfl, rfl⟩

theorem witness_PulsesCountWaterAndScale_dose :
    ∃ (s : State) (f : Fill),
      s.steam.gen = .service ∧ s.steam.fill = some f ∧ f.kind = .service ∧ 2 ≤ f.budget :=
  ⟨{ descaling .dose false with steam.fill := some ⟨.service, 600, 0, false⟩ }, ⟨.service, 600, 0, false⟩, rfl, rfl,
    rfl, by decide⟩

theorem witness_PulsesCountWaterAndScale_asked_again :
    ∃ (s : State) (r : ServiceRecord),
      s.steam.writing = some r :=
  ⟨{ oven with steam.writing := some ⟨16, 0, false⟩, steam.writeAgain := true }, ⟨16, 0, false⟩, rfl⟩

theorem witness_LimitsEndFillsAndDrains_valve :
    ∃ (s : State) (f : Fill),
      unnumbered s = false ∧ s.steam.fill = some f ∧ f.kind ≠ .service ∧ s.power.base.fill = true
      ∧ s.steam.levels.work = false ∧ s.steam.levels.high = false :=
  ⟨
    { cooking with steam.gen := .filling, steam.fill := some ⟨.cooking, 9, 180000, true⟩, steam.levels := PerElectrode.all false, power.base.fill := true },
    ⟨.cooking, 9, 180000, true⟩, rfl, rfl, by decide, rfl, rfl, rfl⟩

theorem witness_LimitsEndFillsAndDrains_rinse :
    ∃ (s : State) (f : Fill),
      unnumbered s = false ∧ s.line.queue = [] ∧ s.steam.fill = some f ∧ f.kind = .service ∧ s.power.base.fill = true
      ∧ programActive s.recipe = false ∧ descaleActive s.descale = true :=
  ⟨{ descaling .rinseFill true with steam.fill := some ⟨.service, 9, 180000, true⟩, power.base.fill := true },
    ⟨.service, 9, 180000, true⟩, rfl, rfl, rfl, rfl, rfl, rfl, rfl⟩

theorem witness_LimitsEndFillsAndDrains_pump :
    ∃ (s : State) (d : Drain),
      unnumbered s = false ∧ s.steam.drain = some d ∧ s.power.base.pump = true ∧ s.steam.gen ≠ .service :=
  ⟨{ oven with steam.gen := .draining, steam.drain := some ⟨240000, 0⟩, power.base.pump := true }, ⟨240000, 0⟩, rfl,
    rfl, rfl, by decide⟩

theorem witness_LimitsEndFillsAndDrains_cooling :
    ∃ s : State,
      s.steam.gen = .cooling ∧ s.startup.restarting = false :=
  ⟨{ oven with steam.gen := .cooling }, rfl, rfl⟩

theorem witness_LimitsEndFillsAndDrains_refills :
    ∃ (s : State) (d : Drain),
      frozen s = true ∧ s.startup.restarting = false ∧ s.steam.gen = .draining ∧ s.steam.drain = some d
      ∧ s.power.base.pump = true ∧ s.steam.levels.low = false ∧ s.steam.levels.work = false
      ∧ s.steam.levels.high = false ∧ steamWanted s = true ∧ s.steam.drainWant = true :=
  ⟨
    { cooking with steam.gen := .draining, steam.drain := some ⟨40000, 30000⟩, steam.drainWant := true, steam.levels := PerElectrode.all false, power.base.pump := true },
    ⟨40000, 30000⟩, rfl, rfl, rfl, rfl, rfl, rfl, rfl, rfl, ⟨rfl, rfl⟩⟩

theorem witness_LimitsEndFillsAndDrains_empty :
    ∃ (s : State) (d : Drain),
      frozen s = true ∧ s.startup.restarting = false ∧ s.steam.gen = .draining ∧ s.steam.drain = some d
      ∧ s.power.base.pump = true ∧ s.steam.levels.low = false ∧ s.steam.levels.work = false
      ∧ s.steam.levels.high = false ∧ steamWanted s = false :=
  ⟨
    { oven with steam.gen := .draining, steam.drain := some ⟨40000, 30000⟩, steam.drainWant := true, steam.levels := PerElectrode.all false, power.base.pump := true },
    ⟨40000, 30000⟩, rfl, rfl, rfl, rfl, rfl, rfl, rfl, rfl, rfl⟩

theorem witness_ReadingsAreHeldThenFail_ready_at_960 :
    ∃ (s : State) (x : SensorInputs) (cav boil moist core : Int),
      x.cav = .readable cav ∧ x.boil = .readable boil ∧ x.moist = .readable moist ∧ x.core = .readable core
      ∧ (frozen s = true ∧ s.startup.restarting = false ∧ s.steam.request = .none ∧ GenSettled s ∧ s.recipe.state = .running ∧ s.steam.gen = .heating ∧ (∀ h, currentHeat s.recipe = some h → OutlastsReading s x cav h)) :=
  ⟨{ cooking with steam.gen := .heating }, ⟨.readable 3001, .readable 1300, .readable 960, .readable 40, 1501⟩, 3001,
    960, 40, 1300, rfl, rfl, rfl, rfl, ⟨rfl, rfl, rfl, genSettled_of rfl, rfl, rfl, fun h e => by cases e; rfl⟩⟩

theorem witness_ReadingsAreHeldThenFail_core_above_its_range :
    ∃ (s : State) (x : SensorInputs) (cav boil moist core : Int),
      x.cav = .readable cav ∧ x.boil = .readable boil ∧ x.moist = .readable moist
      ∧ x.core = .readable core ∧ s.recipe.probePresent = true :=
  ⟨{ oven with recipe.probePresent := true }, ⟨.readable 1500, .readable 1301, .readable 970, .readable 40, 300⟩,
    1500, 970, 40, 1301, rfl, rfl, rfl, ⟨rfl, rfl⟩⟩

theorem witness_ReadingsAreHeldThenFail_core_open :
    ∃ (s : State) (x : SensorInputs) (cav boil moist core : Int),
      x.cav = .readable cav ∧ x.boil = .readable boil ∧ x.moist = .readable moist
      ∧ x.core = .openCircuit ∧ s.recipe.probePresent = true :=
  ⟨{ oven with recipe.probePresent := true, superv.readings.core := ⟨some 600, .ok, false, 0, none⟩ },
    ⟨.readable 1500, .openCircuit, .readable 970, .readable 40, 300⟩, 1500, 970, 40, 0, rfl, rfl, rfl, ⟨rfl, rfl⟩⟩

theorem witness_ReadingsAreHeldThenFail_heating_at_959_in_a_temp_stage :
    ∃ (s : State) (x : SensorInputs) (cav boil moist core : Int),
      x.cav = .readable cav ∧ x.boil = .readable boil ∧ x.moist = .readable moist
      ∧ (frozen s = true ∧ s.startup.restarting = false ∧ s.steam.request = .none ∧ GenSettled s ∧ s.recipe.state = .running ∧ s.steam.gen = .heating ∧ (∀ h, currentHeat s.recipe = some h → OutlastsReading s x cav h)) :=
  ⟨
    { cooking with steam.gen := .heating, recipe.store := [.heat { combi with endKind := .temp, duration := none } none] },
    ⟨.readable 1779, .readable 1300, .readable 959, .readable 40, 1501⟩, 1779, 959, 40, 1300, rfl, rfl, rfl,
    ⟨rfl, rfl, rfl, genSettled_of rfl, rfl, rfl, fun h e => by cases e; show max 0 (min 3000 (1779 : Int)) < _; decide⟩⟩

theorem witness_ReadingsAreHeldThenFail_cooling_at_700 :
    ∃ (s : State) (x : SensorInputs) (cav boil moist core : Int),
      x.cav = .readable cav ∧ x.boil = .readable boil ∧ x.moist = .readable moist
      ∧ frozen s = true ∧ s.startup.restarting = false ∧ s.steam.request = .none ∧ GenSettled s ∧ s.recipe.state ≠ .running ∧ s.steam.gen = .cooling :=
  ⟨{ oven with steam.gen := .cooling }, ⟨.readable 1500, .readable 1300, .readable 700, .readable 40, 1501⟩, 1500,
    700, 40, 1300, rfl, rfl, rfl, ⟨rfl, rfl, rfl, genSettled_of rfl, by decide, rfl⟩⟩

theorem witness_ReadingsAreHeldThenFail_cooling_at_701 :
    ∃ (s : State) (x : SensorInputs) (cav boil moist core : Int),
      x.cav = .readable cav ∧ x.boil = .readable boil ∧ x.moist = .readable moist
      ∧ frozen s = true ∧ s.startup.restarting = false ∧ s.steam.request = .none ∧ GenSettled s ∧ s.recipe.state ≠ .running ∧ s.steam.gen = .cooling :=
  ⟨{ oven with steam.gen := .cooling }, ⟨.readable 1500, .readable 1300, .readable 701, .readable 40, 1501⟩, 1500,
    701, 40, 1300, rfl, rfl, rfl, ⟨rfl, rfl, rfl, genSettled_of rfl, by decide, rfl⟩⟩

theorem witness_ReadingsAreHeldThenFail_open_circuit :
    ∃ (s : State) (x : SensorInputs) (c : Channel) (i : AnalogInput) (v : Int),
      ((c = .cav ∧ i = x.cav) ∨ (c = .boil ∧ i = x.boil) ∨ (c = .moist ∧ i = x.moist)
        ∨ (c = .core ∧ i = x.core ∧ i = .shortCircuit))
      ∧ (i = .openCircuit ∨ i = .shortCircuit) ∧ reading s c = some v ∧ (s.superv.readings.get c).failed = none :=
  ⟨oven, ⟨.openCircuit, .readable 500, .readable 500, .readable 40, 300⟩, .cav, .openCircuit, 1500, .inl ⟨rfl, rfl⟩,
    .inl rfl, rfl, rfl⟩

theorem witness_ReadingsAreHeldThenFail_core_short :
    ∃ (s : State) (x : SensorInputs) (c : Channel) (i : AnalogInput) (v : Int),
      (c = .core ∧ i = x.core ∧ i = .shortCircuit) ∧ (i = .openCircuit ∨ i = .shortCircuit)
      ∧ reading s c = some v ∧ (s.superv.readings.get c).failed = none :=
  ⟨{ oven with superv.readings.core := ⟨some 600, .ok, false, 0, none⟩ },
    ⟨.readable 1500, .shortCircuit, .readable 970, .readable 40, 300⟩, .core, .shortCircuit, 600, ⟨rfl, rfl, rfl⟩,
    .inr rfl, rfl, rfl⟩

theorem witness_ReadingsAreHeldThenFail_moist_unreadable_at_first :
    ∃ (s : State) (x : SensorInputs) (c : Channel) (i : AnalogInput),
      ((c = .cav ∧ i = x.cav) ∨ (c = .boil ∧ i = x.boil) ∨ (c = .moist ∧ i = x.moist)
        ∨ (c = .core ∧ i = x.core ∧ i = .shortCircuit))
      ∧ (i = .openCircuit ∨ i = .shortCircuit)
      ∧ ((s.superv.readings.get c).failed ≠ none ∨ (reading s c = none ∧ (s.superv.readings.get c).holding = false)) :=
  ⟨{ oven with superv.readings.moist := Superv.reset.readings.moist },
    ⟨.readable 1500, .readable 600, .readable 970, .shortCircuit, 300⟩, .moist, .shortCircuit,
    .inr (.inr (.inl ⟨rfl, rfl⟩)), .inr rfl, .inr ⟨rfl, rfl⟩⟩

theorem witness_ReadingsAreHeldThenFail_boil_has_failed :
    ∃ (s : State) (x : SensorInputs) (c : Channel) (i : AnalogInput),
      ((c = .cav ∧ i = x.cav) ∨ (c = .boil ∧ i = x.boil) ∨ (c = .moist ∧ i = x.moist)
        ∨ (c = .core ∧ i = x.core ∧ i = .shortCircuit))
      ∧ (i = .openCircuit ∨ i = .shortCircuit)
      ∧ ((s.superv.readings.get c).failed ≠ none ∨ (reading s c = none ∧ (s.superv.readings.get c).holding = false)) :=
  ⟨{ oven with superv.readings.boil := ⟨none, .shortCircuit, false, 0, some .high⟩ },
    ⟨.readable 1500, .readable 600, .openCircuit, .readable 40, 300⟩, .boil, .openCircuit,
    .inr (.inl ⟨rfl, rfl⟩), .inl rfl, .inl (by decide)⟩

/-- One reading of the inputs that moves a side which is judged, from one state to another. -/
def SideStep (s : State) (x : SensorInputs) (c : Channel) (d : Side) (beyond back : Prop) (before behind : SideState) : Prop :=
  s.superv.judging = true ∧ (d = .fixed ∨ (s.startup.channels.get c).enabled = true) ∧ c ≠ .mains
    ∧ (d ≠ .fixed ∨ c = .cav) ∧ (sideRec s.superv c d).state = before
    ∧ ((after (.sensorReading x) s).superv.readings.get c).cond.showsAbsent = false
    ∧ (reading (after (.sensorReading x) s) c ≠ none ∨ ((after (.sensorReading x) s).superv.readings.get c).failed ≠ none)
    ∧ (BeyondSide (after (.sensorReading x) s) c d ↔ beyond) ∧ (BackInside (after (.sensorReading x) s) c d ↔ back)
    ∧ (sideRec (after (.sensorReading x) s).superv c d).state = behind

/-- The inputs with CAV at a value, and the others at rest. -/
def cavAt (v : Int) : SensorInputs := ⟨.readable v, .openCircuit, .readable 970, .readable 40, 300⟩

theorem beyondHigh_iff {s : State} {c : Channel} {v : Int} (hf : (s.superv.readings.get c).failed = none)
    (hv : reading s c = some v) : BeyondSide s c .high ↔ (s.startup.channels.get c).highLimit < v := by
  simp [BeyondSide, hf, hv]

theorem backHigh_iff {s : State} {c : Channel} {v : Int} (hf : (s.superv.readings.get c).failed = none)
    (hv : reading s c = some v) :
    BackInside s c .high ↔ v ≤ (s.startup.channels.get c).highLimit - hysteresisOf c := by
  simp [BackInside, hf, hv]

theorem beyondLow_iff {s : State} {c : Channel} {v : Int} (hf : (s.superv.readings.get c).failed = none)
    (hv : reading s c = some v) : BeyondSide s c .low ↔ v < (s.startup.channels.get c).lowLimit := by
  simp [BeyondSide, hf, hv]

theorem backLow_iff {s : State} {c : Channel} {v : Int} (hf : (s.superv.readings.get c).failed = none)
    (hv : reading s c = some v) :
    BackInside s c .low ↔ (s.startup.channels.get c).lowLimit + hysteresisOf c ≤ v := by
  simp [BackInside, hf, hv]

theorem beyondFixed_iff {s : State} {v : Int} (hf : s.superv.readings.cav.failed = none)
    (hv : reading s .cav = some v) : BeyondSide s .cav .fixed ↔ 3000 ≤ v := by
  simp [BeyondSide, BeyondFixedLimit, hf, hv]

theorem backFixed_iff {s : State} {v : Int} (hf : s.superv.readings.cav.failed = none)
    (hv : reading s .cav = some v) : BackInside s .cav .fixed ↔ v ≤ 2980 := by
  simp [BackInside, hf, hv]

theorem witness_ReadingsAreHeldThenFail_high_beyond :
    ∃ s x, SideStep s x .cav .high True False .clear .pending :=
  ⟨oven, cavAt 2801, rfl, .inr rfl, by decide, .inr rfl, rfl, by decide +kernel, .inl (by decide +kernel),
    by rw [beyondHigh_iff (v := 2801) (by decide +kernel) (by decide +kernel)]; decide +kernel,
    by rw [backHigh_iff (v := 2801) (by decide +kernel) (by decide +kernel)]; decide +kernel, by decide +kernel⟩

theorem witness_ReadingsAreHeldThenFail_high_at_the_limit :
    ∃ s x, SideStep s x .cav .high False False .clear .clear :=
  ⟨oven, cavAt 2800, rfl, .inr rfl, by decide, .inr rfl, rfl, by decide +kernel, .inl (by decide +kernel),
    by rw [beyondHigh_iff (v := 2800) (by decide +kernel) (by decide +kernel)]; decide +kernel,
    by rw [backHigh_iff (v := 2800) (by decide +kernel) (by decide +kernel)]; decide +kernel, by decide +kernel⟩

theorem witness_ReadingsAreHeldThenFail_high_pending_at_the_limit :
    ∃ s x, SideStep s x .cav .high False False .pending .clear :=
  ⟨{ oven with superv.high.cav := ⟨.pending, 640, .note⟩ }, cavAt 2800, rfl, .inr rfl, by decide, .inr rfl, rfl, by decide +kernel, .inl (by decide +kernel),
    by rw [beyondHigh_iff (v := 2800) (by decide +kernel) (by decide +kernel)]; decide +kernel,
    by rw [backHigh_iff (v := 2800) (by decide +kernel) (by decide +kernel)]; decide +kernel, by decide +kernel⟩

theorem witness_ReadingsAreHeldThenFail_high_back :
    ∃ s x, SideStep s x .cav .high False True .active .recovering :=
  ⟨{ oven with superv.high.cav := ⟨.active, 640, .note⟩ }, cavAt 2780, rfl, .inr rfl, by decide, .inr rfl, rfl, by decide +kernel, .inl (by decide +kernel),
    by rw [beyondHigh_iff (v := 2780) (by decide +kernel) (by decide +kernel)]; decide +kernel,
    by rw [backHigh_iff (v := 2780) (by decide +kernel) (by decide +kernel)]; decide +kernel, by decide +kernel⟩

theorem witness_ReadingsAreHeldThenFail_high_not_back :
    ∃ s x, SideStep s x .cav .high False False .active .active :=
  ⟨{ oven with superv.high.cav := ⟨.active, 640, .note⟩ }, cavAt 2781, rfl, .inr rfl, by decide, .inr rfl, rfl, by decide +kernel, .inl (by decide +kernel),
    by rw [beyondHigh_iff (v := 2781) (by decide +kernel) (by decide +kernel)]; decide +kernel,
    by rw [backHigh_iff (v := 2781) (by decide +kernel) (by decide +kernel)]; decide +kernel, by decide +kernel⟩

theorem witness_ReadingsAreHeldThenFail_high_beyond_again :
    ∃ s x, SideStep s x .cav .high False False .recovering .active :=
  ⟨{ oven with superv.high.cav := ⟨.recovering, 640, .note⟩ }, cavAt 2781, rfl, .inr rfl, by decide, .inr rfl, rfl, by decide +kernel, .inl (by decide +kernel),
    by rw [beyondHigh_iff (v := 2781) (by decide +kernel) (by decide +kernel)]; decide +kernel,
    by rw [backHigh_iff (v := 2781) (by decide +kernel) (by decide +kernel)]; decide +kernel, by decide +kernel⟩

theorem witness_ReadingsAreHeldThenFail_low_beyond :
    ∃ s x, SideStep s x .cav .low True False .clear .pending :=
  ⟨{ oven with startup.channels.cav.lowLimit := 300 }, cavAt 299, rfl, .inr rfl, by decide, .inr rfl, rfl, by decide +kernel, .inl (by decide +kernel),
    by rw [beyondLow_iff (v := 299) (by decide +kernel) (by decide +kernel)]; decide +kernel,
    by rw [backLow_iff (v := 299) (by decide +kernel) (by decide +kernel)]; decide +kernel, by decide +kernel⟩

theorem witness_ReadingsAreHeldThenFail_low_at_the_limit :
    ∃ s x, SideStep s x .cav .low False False .pending .clear :=
  ⟨{ oven with startup.channels.cav.lowLimit := 300, superv.low.cav := ⟨.pending, 640, .note⟩ }, cavAt 300, rfl, .inr rfl, by decide, .inr rfl, rfl, by decide +kernel, .inl (by decide +kernel),
    by rw [beyondLow_iff (v := 300) (by decide +kernel) (by decide +kernel)]; decide +kernel,
    by rw [backLow_iff (v := 300) (by decide +kernel) (by decide +kernel)]; decide +kernel, by decide +kernel⟩

theorem witness_ReadingsAreHeldThenFail_low_back :
    ∃ s x, SideStep s x .cav .low False True .active .recovering :=
  ⟨{ oven with startup.channels.cav.lowLimit := 300, superv.low.cav := ⟨.active, 640, .note⟩ }, cavAt 320, rfl, .inr rfl, by decide, .inr rfl, rfl, by decide +kernel, .inl (by decide +kernel),
    by rw [beyondLow_iff (v := 320) (by decide +kernel) (by decide +kernel)]; decide +kernel,
    by rw [backLow_iff (v := 320) (by decide +kernel) (by decide +kernel)]; decide +kernel, by decide +kernel⟩

theorem witness_ReadingsAreHeldThenFail_low_beyond_again :
    ∃ s x, SideStep s x .cav .low False False .recovering .active :=
  ⟨{ oven with startup.channels.cav.lowLimit := 300, superv.low.cav := ⟨.recovering, 640, .note⟩ }, cavAt 319, rfl, .inr rfl, by decide, .inr rfl, rfl, by decide +kernel, .inl (by decide +kernel),
    by rw [beyondLow_iff (v := 319) (by decide +kernel) (by decide +kernel)]; decide +kernel,
    by rw [backLow_iff (v := 319) (by decide +kernel) (by decide +kernel)]; decide +kernel, by decide +kernel⟩

theorem witness_ReadingsAreHeldThenFail_fixed_beyond :
    ∃ s x, SideStep s x .cav .fixed True False .clear .pending :=
  ⟨{ oven with startup.channels.cav.enabled := false }, cavAt 3000, rfl, .inl rfl, by decide, .inr rfl, rfl, by decide +kernel, .inl (by decide +kernel),
    by rw [beyondFixed_iff (v := 3000) (by decide +kernel) (by decide +kernel)]; decide +kernel,
    by rw [backFixed_iff (v := 3000) (by decide +kernel) (by decide +kernel)]; decide +kernel, by decide +kernel⟩

theorem witness_ReadingsAreHeldThenFail_fixed_inside :
    ∃ s x, SideStep s x .cav .fixed False False .pending .clear :=
  ⟨{ oven with superv.fixed := ⟨.pending, 640, .note⟩ }, cavAt 2999, rfl, .inr rfl, by decide, .inr rfl, rfl, by decide +kernel, .inl (by decide +kernel),
    by rw [beyondFixed_iff (v := 2999) (by decide +kernel) (by decide +kernel)]; decide +kernel,
    by rw [backFixed_iff (v := 2999) (by decide +kernel) (by decide +kernel)]; decide +kernel, by decide +kernel⟩

theorem witness_ReadingsAreHeldThenFail_fixed_back :
    ∃ s x, SideStep s x .cav .fixed False True .active .recovering :=
  ⟨{ oven with superv.fixed := ⟨.active, 640, .note⟩ }, cavAt 2980, rfl, .inr rfl, by decide, .inr rfl, rfl, by decide +kernel, .inl (by decide +kernel),
    by rw [beyondFixed_iff (v := 2980) (by decide +kernel) (by decide +kernel)]; decide +kernel,
    by rw [backFixed_iff (v := 2980) (by decide +kernel) (by decide +kernel)]; decide +kernel, by decide +kernel⟩

theorem witness_ReadingsAreHeldThenFail_fixed_not_back :
    ∃ s x, SideStep s x .cav .fixed False False .recovering .active :=
  ⟨{ oven with superv.fixed := ⟨.recovering, 640, .note⟩ }, cavAt 2981, rfl, .inr rfl, by decide, .inr rfl, rfl, by decide +kernel, .inl (by decide +kernel),
    by rw [beyondFixed_iff (v := 2981) (by decide +kernel) (by decide +kernel)]; decide +kernel,
    by rw [backFixed_iff (v := 2981) (by decide +kernel) (by decide +kernel)]; decide +kernel, by decide +kernel⟩

theorem witness_ReadingsAreHeldThenFail_failed_low :
    ∃ s x, SideStep s x .boil .low True False .clear .pending ∧ SideStep s x .boil .high False True .active .recovering :=
  ⟨{ oven with superv.readings.boil := Superv.reset.readings.boil, superv.high.boil := ⟨.active, 0, .note⟩ },
    ⟨.readable 1500, .openCircuit, .openCircuit, .readable 40, 300⟩,
    ⟨rfl, .inr rfl, by decide, .inl (by decide), rfl, by decide +kernel, .inr (by decide +kernel),
      iff_of_true (.inl (by decide +kernel)) trivial,
      iff_of_false (by rintro (h | ⟨h, _⟩) <;> exact absurd h (by decide +kernel)) id, by decide +kernel⟩,
    ⟨rfl, .inr rfl, by decide, .inl (by decide), rfl, by decide +kernel, .inr (by decide +kernel),
      iff_of_false (by rintro (h | ⟨h, _⟩) <;> exact absurd h (by decide +kernel)) id,
      iff_of_true (.inl (by decide +kernel)) trivial, by decide +kernel⟩⟩

/-- An oven whose CORE channel is enabled, with a PENDING low side and a high side in excursion. -/
def coreJudged : State :=
  { oven with startup.channels.core.enabled := true, superv.low.core := ⟨.pending, 640, .note⟩
              superv.high.core := ⟨.active, 0, .cut⟩ }

theorem witness_ReadingsAreHeldThenFail_core_shows_absent :
    ∃ (s t : State) (x : SensorInputs), exec (.sensorReading x) s = .next t ∧ ¬ SideUnjudged s t .core .low
      ∧ (t.superv.readings.get .core).cond.showsAbsent = true ∧ (sideRec s.superv .core .low).state = .pending
      ∧ (sideRec t.superv .core .low).state = .clear ∧ (sideRec t.superv .core .high).state = .active :=
  ⟨coreJudged, after (.sensorReading (cavAt 1500)) coreJudged, cavAt 1500, rfl,
    by simp [SideUnjudged, coreJudged, oven, PerChannel.get], by decide +kernel, rfl, by decide +kernel, by decide +kernel⟩

theorem witness_ReadingsAreHeldThenFail_side_not_judged :
    ∃ (s t : State) (x : SensorInputs), exec (.sensorReading x) s = .next t ∧ SideUnjudged s t .cav .high
      ∧ (sideRec t.superv .cav .high).state = .clear :=
  ⟨{ oven with startup.channels.cav.enabled := false },
    after (.sensorReading (cavAt 2801)) { oven with startup.channels.cav.enabled := false }, cavAt 2801, rfl,
    .inr ⟨by decide, .inl rfl⟩, by decide +kernel⟩

theorem witness_ReadingsAreHeldThenFail_mains_at_a_frame :
    ∃ (s t : State) (c : Instr), exec c s = .next t
      ∧ ((∃ interval volts : Nat, c = .zeroCrossing interval volts ∧ s.power.inFrame = true ∧ s.power.slot = 19)
        ∨ (c = .missedCrossing ∧ s.power.inFrame = true ∧ 2 ≤ s.power.misses))
      ∧ s.superv.mainsArmed = false ∧ ¬ SideUnjudged s t .mains .low ∧ (sideRec t.superv .mains .low).state = .pending :=
  ⟨{ framed with power.slot := 19 }, after (.zeroCrossing 10000 189) { framed with power.slot := 19 },
    .zeroCrossing 10000 189, rfl, .inl ⟨10000, 189, rfl, rfl, rfl⟩, rfl, by
      have h : (after (.zeroCrossing 10000 189) { framed with power.slot := 19 }).superv.mainsArmed = true := by decide +kernel
      rintro (h1 | ⟨_, h2 | ⟨_, h3⟩⟩)
      · exact absurd h1 (by decide +kernel)
      · exact absurd h2 (by decide +kernel)
      · rw [h] at h3; exact absurd h3 (by decide), by decide +kernel⟩

/-- An oven in a frame with two crossings missed and MAINS armed. -/
def gapComing : State := { framed with power.misses := 2, superv.mainsArmed := true, superv.low.mains := ⟨.recovering, 0, .note⟩ }

theorem witness_ReadingsAreHeldThenFail_mains_in_a_gap :
    ∃ (s t : State) (c : Instr), exec c s = .next t
      ∧ ((∃ interval volts : Nat, c = .zeroCrossing interval volts ∧ s.power.inFrame = true ∧ s.power.slot = 19)
        ∨ (c = .missedCrossing ∧ s.power.inFrame = true ∧ 2 ≤ s.power.misses))
      ∧ reading t .mains = some 0 ∧ (sideRec t.superv .mains .low).state = .active :=
  ⟨gapComing, after .missedCrossing gapComing, .missedCrossing, rfl, .inr ⟨rfl, rfl, by decide⟩, by decide +kernel,
    by decide +kernel⟩

theorem witness_ReadingsAreHeldThenFail_failed_channel_is_judged :
    ∃ (s t : State) (c : Channel), exec (.channelFailed c) s = .next t ∧ (s.superv.readings.get c).holding = true
      ∧ GenSettled s ∧ (sideRec t.superv c .high).state = .pending ∧ (sideRec t.superv c .fixed).state = .pending :=
  ⟨{ oven with superv.readings.cav := ⟨some 1500, .shortCircuit, true, 2000, none⟩ },
    after (.channelFailed .cav) { oven with superv.readings.cav := ⟨some 1500, .shortCircuit, true, 2000, none⟩ }, .cav,
    rfl, rfl, genSettled_of rfl, by decide +kernel, by decide +kernel⟩
theorem witness_ReadingsAreHeldThenFail_hold_run_out :
    ∃ (s : State) (c : Channel),
      (s.superv.readings.get c).holding = true ∧ GenSettled s :=
  ⟨{ oven with superv.readings.cav := ⟨some 1500, .shortCircuit, true, 2000, none⟩ }, .cav, rfl, genSettled_of rfl⟩

theorem witness_ExcursionsTakeTheirConsequence_note :
    ∃ (s : State) (c : Channel) (d : Side),
      unnumbered s = false ∧ GenSettled s ∧ s.line.queue = [] ∧ (d ≠ .fixed ∨ c = .cav)
      ∧ (sideRec s.superv c d).state = .pending ∧ otherInExcursion s.superv c d = false
      ∧ (s.startup.channels.get c).strikeLimit = 0 ∧ (s.startup.channels.get c).lowMap = .note :=
  ⟨{ oven with superv.low.moist := ⟨.pending, 2560, .note⟩ }, .moist, .low, rfl, genSettled_of rfl, rfl,
    .inl (by decide), rfl, rfl, ⟨rfl, rfl⟩⟩

theorem witness_ExcursionsTakeTheirConsequence_cut_in_a_frame :
    ∃ (s : State) (c : Channel) (d : Side),
      unnumbered s = false ∧ GenSettled s ∧ s.line.queue = [] ∧ (d ≠ .fixed ∨ c = .cav)
      ∧ (sideRec s.superv c d).state = .pending ∧ otherInExcursion s.superv c d = false
      ∧ cutInForce s.superv = false ∧ s.power.inFrame = true ∧ (s.startup.channels.get c).lowMap = .cut :=
  ⟨{ framed with superv.low.cav := ⟨.pending, 640, .note⟩ }, .cav, .low, rfl, genSettled_of rfl, rfl,
    .inl (by decide), rfl, rfl, ⟨rfl, rfl, rfl⟩⟩

theorem witness_ExcursionsTakeTheirConsequence_third_strike :
    ∃ (s : State) (c : Channel) (d : Side),
      unnumbered s = false ∧ GenSettled s ∧ s.line.queue = [] ∧ (d ≠ .fixed ∨ c = .cav)
      ∧ (sideRec s.superv c d).state = .pending ∧ otherInExcursion s.superv c d = false
      ∧ (s.startup.channels.get c).strikeLimit ≠ 0 ∧ (s.startup.channels.get c).strikeLimit ≤ min 15 (s.superv.strikes.get c + 1) ∧ programActive s.recipe = true :=
  ⟨{ cooking with superv.low.cav := ⟨.pending, 640, .note⟩, superv.strikes.cav := 2 }, .cav, .low, rfl,
    genSettled_of rfl, rfl, .inl (by decide), rfl, rfl, ⟨by decide, by decide, rfl⟩⟩

theorem witness_ExcursionsTakeTheirConsequence_fixed_limit :
    ∃ (s : State) (c : Channel) (d : Side),
      unnumbered s = false ∧ GenSettled s ∧ s.line.queue = [] ∧ (d ≠ .fixed ∨ c = .cav)
      ∧ (sideRec s.superv c d).state = .pending ∧ otherInExcursion s.superv c d = false :=
  ⟨{ cooking with superv.fixed := ⟨.pending, 1000, .note⟩ }, .cav, .fixed, rfl, genSettled_of rfl, rfl, .inr rfl, rfl,
    rfl⟩

theorem witness_ExcursionsTakeTheirConsequence_cut_ends :
    ∃ (s : State) (c : Channel) (d : Side),
      unnumbered s = false ∧ GenSettled s ∧ (d ≠ .fixed ∨ c = .cav) ∧ (sideRec s.superv c d).state = .recovering
      ∧ (s.superv.readings.get c).cond.showsAbsent = false
      ∧ (∀ o ∈ otherSide d, (sideRec s.superv c o).state ≠ .pending) :=
  ⟨{ oven with superv.low.cav := ⟨.recovering, 640, .cut⟩ }, .cav, .low, rfl, genSettled_of rfl, .inl (by decide),
    rfl, by decide, fun o h => by cases h; decide⟩

theorem witness_ExcursionsTakeTheirConsequence_fixed_ends :
    ∃ (s : State) (c : Channel) (d : Side),
      unnumbered s = false ∧ GenSettled s ∧ (d ≠ .fixed ∨ c = .cav) ∧ (sideRec s.superv c d).state = .recovering
      ∧ (s.superv.readings.get c).cond.showsAbsent = false
      ∧ (∀ o ∈ otherSide d, (sideRec s.superv c o).state ≠ .pending) :=
  ⟨{ oven with superv.fixed := ⟨.recovering, 640, .trip⟩ }, .cav, .fixed, rfl, genSettled_of rfl, .inr rfl, rfl,
    by decide, fun o h => nomatch h⟩

theorem witness_ExcursionsTakeTheirConsequence_probe_above_its_range :
    ∃ (s : State) (d : Side),
      (s.superv.readings.get .core).cond.showsAbsent = true ∧ (sideRec s.superv .core d).state = .recovering :=
  ⟨
    { oven with superv.high.core := ⟨.recovering, 300, .note⟩, superv.readings.core := ⟨some 1300, .aboveRange, false, 0, none⟩ },
    .high, rfl, rfl⟩

theorem witness_ExcursionsTakeTheirConsequence_probe_absent :
    ∃ (s : State) (d : Side),
      (s.superv.readings.get .core).cond.showsAbsent = true ∧ (sideRec s.superv .core d).state = .recovering :=
  ⟨{ oven with superv.low.core := ⟨.recovering, 300, .note⟩, superv.readings.core.cond := .absent }, .low, rfl, rfl⟩

theorem witness_RelayAndConfigurationFaultsAreTaken_open_fault :
    ∃ s : State,
      unnumbered s = false ∧ s.line.queue = [] ∧ s.superv.relayClosed = true ∧ s.superv.feedbackClosed = false
      ∧ s.power.inFrame = true ∧ programActive s.recipe = true :=
  ⟨{ framed with superv.feedbackClosed := false }, rfl, rfl, rfl, rfl, ⟨rfl, rfl⟩⟩

theorem witness_RelayAndConfigurationFaultsAreTaken_welded :
    ∃ s : State,
      unnumbered s = false ∧ s.line.queue = [] ∧ s.superv.relayClosed = false ∧ s.superv.feedbackClosed = true
      ∧ s.superv.welded = false ∧ descaleActive s.descale = true :=
  ⟨{ descaling .soak true with superv.relayClosed := false }, rfl, rfl, rfl, rfl, rfl, rfl⟩

theorem witness_RelayAndConfigurationFaultsAreTaken_agrees :
    ∃ s : State,
      frozen s = true ∧ s.superv.configFault = false ∧ checkField (configBytes s.startup) = s.superv.checkValue :=
  ⟨{ oven with superv.checkValue := checkField (configBytes oven.startup) }, rfl, rfl, by decide +kernel⟩

theorem witness_RelayAndConfigurationFaultsAreTaken_differs :
    ∃ s : State,
      frozen s = true ∧ unnumbered s = false ∧ s.superv.configFault = false ∧ s.line.queue = []
      ∧ checkField (configBytes s.startup) ≠ s.superv.checkValue ∧ programActive s.recipe = true :=
  ⟨{ cooking with superv.checkValue := checkField (configBytes oven.startup) + 1 }, rfl, rfl, rfl, rfl,
    by decide +kernel, rfl⟩

theorem witness_RelayAndConfigurationFaultsAreTaken_held :
    ∃ s : State,
      s.superv.configFault = true :=
  ⟨{ oven with superv.configFault := true }, rfl⟩

theorem witness_DescaleTimersEndTheirPhases_prep :
    ∃ s : State,
      unnumbered s = false ∧ s.startup.restarting = false ∧ s.descale.phase = .prep ∧ programActive s.recipe = false
      ∧ s.line.queue = [] :=
  ⟨descaling .prep false, rfl, rfl, rfl, rfl, rfl⟩

theorem witness_DescaleTimersEndTheirPhases_heat_limit :
    ∃ (s : State) (c : Instr),
      unnumbered s = false ∧ s.startup.restarting = false ∧ programActive s.recipe = false ∧ s.line.queue = []
      ∧ ((c = .heatLimit ∧ heatingPhase s.descale = true ∧ (s.power.freq = .hz50 ∨ s.power.freq = .hz60)) ∨ (c = .descaleLowWater ∧ s.steam.levels.low = false ∧ (heatingPhase s.descale = true ∨ s.descale.phase = .soak))) :=
  ⟨descaling .soakHeat true, .heatLimit, rfl, rfl, rfl, rfl, .inl ⟨rfl, rfl, .inl rfl⟩⟩

theorem witness_DescaleTimersEndTheirPhases_low_water_in_soak :
    ∃ (s : State) (c : Instr),
      unnumbered s = false ∧ s.startup.restarting = false ∧ programActive s.recipe = false ∧ s.line.queue = []
      ∧ ((c = .heatLimit ∧ heatingPhase s.descale = true ∧ (s.power.freq = .hz50 ∨ s.power.freq = .hz60)) ∨ (c = .descaleLowWater ∧ s.steam.levels.low = false ∧ (heatingPhase s.descale = true ∨ s.descale.phase = .soak))) :=
  ⟨descaling .soak true, .descaleLowWater, rfl, rfl, rfl, rfl, .inr ⟨rfl, rfl, .inr rfl⟩⟩

theorem witness_DescaleTimersEndTheirPhases_soaked :
    ∃ (s : State) (v : Int),
      unnumbered s = false ∧ s.startup.restarting = false ∧ s.descale.phase = .soak ∧ s.steam.gen = .service
      ∧ reading s .boil = some v ∧ 650 ≤ v :=
  ⟨{ descaling .soak true with superv.readings.boil := ⟨some 650, .ok, false, 0, none⟩ }, 650, rfl, rfl, rfl, rfl,
    rfl, by decide⟩

theorem witness_DescaleTimersEndTheirPhases_inlet :
    ∃ (s : State) (p : Pool),
      unnumbered s = false ∧ waitingPool s = some p ∧ s.descale.waitNoted = false :=
  ⟨
    { descaling .rinseFill true with steam.fill := some ⟨.service, 9, 0, false⟩, steam.request := .fill 9, steam.inletWant := true },
    .inlet, rfl, rfl, rfl⟩

theorem witness_ProgramTimersMoveOn_loading :
    ∃ s : State,
      unnumbered s = false ∧ s.recipe.state = .loading :=
  ⟨{ oven with recipe := { oven.recipe with state := .loading, count := 2, remaining := 2, store := [] } }, rfl, rfl⟩

theorem witness_ProgramTimersMoveOn_last_stage :
    ∃ (s : State) (h h' : HeatStage) (d : Nat),
      s.recipe.state = .running ∧ heatAt s.recipe s.recipe.cur = some h ∧ h.duration = some d
      ∧ (h.endKind = .time ∨ h.endKind = .either) ∧ s.recipe.phaseStarted = true ∧ s.climate.doorOpen = false
      ∧ cutInForce s.superv = false
      ∧ ((stageAt s.recipe (s.recipe.cur + 1) = some (.heat h' none) ∧ StageHolds s h') ∨ stageAt s.recipe (s.recipe.cur + 1) = none) :=
  ⟨cooking, combi, combi, 1000, rfl, rfl, rfl, .inl rfl, rfl, rfl, rfl, .inr rfl⟩

theorem witness_ProgramTimersMoveOn_next_stage :
    ∃ (s : State) (h h' : HeatStage) (d : Nat),
      s.recipe.state = .running ∧ heatAt s.recipe s.recipe.cur = some h ∧ h.duration = some d
      ∧ (h.endKind = .time ∨ h.endKind = .either) ∧ s.recipe.phaseStarted = true ∧ s.climate.doorOpen = false
      ∧ cutInForce s.superv = false
      ∧ ((stageAt s.recipe (s.recipe.cur + 1) = some (.heat h' none) ∧ StageHolds s h') ∨ stageAt s.recipe (s.recipe.cur + 1) = none) :=
  ⟨{ cooking with recipe.store := [.heat combi none, .heat combi none] }, combi, combi, 1000, rfl, rfl, rfl, .inl rfl,
    rfl, rfl, rfl, .inl ⟨rfl, stageHolds_time (d := 1000) rfl rfl (by decide)⟩⟩

theorem witness_ProgramTimersMoveOn_to_the_first_branch :
    ∃ (s : State) (h h' : HeatStage) (d : Nat),
      s.recipe.state = .prompting ∧ heatAt s.recipe s.recipe.cur = some h ∧ h.duration = some d ∧ h.endKind = .prompt
      ∧ s.recipe.phaseStarted = true ∧ s.climate.doorOpen = false ∧ cutInForce s.superv = false
      ∧ ((stageAt s.recipe (s.recipe.cur + h.branches.headD 1) = some (.heat h' none) ∧ StageHolds s h') ∨ stageAt s.recipe (s.recipe.cur + h.branches.headD 1) = none) :=
  ⟨prompting, asking, combi, 60, rfl, rfl, rfl, rfl, rfl, rfl, rfl,
    .inl ⟨rfl, stageHolds_time (d := 1000) rfl rfl (by decide)⟩⟩

theorem witness_ProgramTimersMoveOn_past_the_end :
    ∃ (s : State) (h h' : HeatStage) (d : Nat),
      s.recipe.state = .prompting ∧ heatAt s.recipe s.recipe.cur = some h ∧ h.duration = some d ∧ h.endKind = .prompt
      ∧ s.recipe.phaseStarted = true ∧ s.climate.doorOpen = false ∧ cutInForce s.superv = false
      ∧ ((stageAt s.recipe (s.recipe.cur + h.branches.headD 1) = some (.heat h' none) ∧ StageHolds s h') ∨ stageAt s.recipe (s.recipe.cur + h.branches.headD 1) = none) :=
  ⟨{ prompting with recipe.store := [.heat asking none] }, asking, combi, 60, rfl, rfl, rfl, rfl, rfl, rfl, rfl,
    .inr rfl⟩

theorem witness_ProgramTimersMoveOn_probe_above_its_range :
    ∃ (s : State) (h : HeatStage),
      unnumbered s = false ∧ GenSettled s ∧ s.line.queue = [] ∧ s.recipe.probeShows = false
      ∧ s.recipe.probePresent = true ∧ s.recipe.state = .running ∧ heatAt s.recipe s.recipe.cur = some h
      ∧ h.endKind = .core ∧ h.duration = none ∧ s.superv.low.core = SideRec.cleared
      ∧ s.superv.high.core = SideRec.cleared ∧ s.superv.readings.core.cond = .aboveRange :=
  ⟨
    { cooking with recipe.store := [.heat ⟨.combi, 1800, none, .core, none, some 600, false, 0, []⟩ none], recipe.probePresent := true, superv.readings.core := ⟨some 1300, .aboveRange, false, 0, none⟩ },
    ⟨.combi, 1800, none, .core, none, some 600, false, 0, []⟩, rfl, genSettled_of rfl, rfl, rfl, rfl, rfl, rfl, rfl,
    rfl, rfl, rfl, rfl⟩

theorem witness_ProgramTimersMoveOn_probe_lost :
    ∃ (s : State) (h : HeatStage),
      unnumbered s = false ∧ GenSettled s ∧ s.line.queue = [] ∧ s.recipe.probeShows = false
      ∧ s.recipe.probePresent = true ∧ s.recipe.state = .running ∧ heatAt s.recipe s.recipe.cur = some h
      ∧ h.endKind = .core ∧ h.duration = none ∧ s.superv.low.core = SideRec.cleared
      ∧ s.superv.high.core = SideRec.cleared :=
  ⟨
    { cooking with recipe.store := [.heat ⟨.combi, 1800, none, .core, none, some 600, false, 0, []⟩ none], recipe.probePresent := true },
    ⟨.combi, 1800, none, .core, none, some 600, false, 0, []⟩, rfl, genSettled_of rfl, rfl, rfl, rfl, rfl, rfl, rfl,
    rfl, rfl, rfl⟩

theorem witness_ProgramTimersMoveOn_probe_found :
    ∃ s : State,
      GenSettled s ∧ s.recipe.probeShows = true ∧ s.recipe.probePresent = false ∧ s.recipe.state ≠ .running :=
  ⟨{ oven with recipe.probeShows := true }, genSettled_of rfl, rfl, rfl, by decide⟩

theorem witness_ProgramTimersMoveOn_low_water :
    ∃ (s : State) (h : HeatStage),
      unnumbered s = false ∧ programActive s.recipe = true ∧ heatAt s.recipe s.recipe.cur = some h
      ∧ h.mode.humid = true ∧ s.recipe.withheldMark = false ∧ withheldReason s ≠ .none :=
  ⟨{ cooking with steam.lock := true }, combi, rfl, rfl, rfl, rfl, rfl, by decide⟩

theorem witness_HoldsRiseOnlyByOwnRaise_idle :
    ∃ (s t : State) (p : Pool),
      s.pending = [] ∧ step s = .next t :=
  ⟨oven, tick oven, .power, rfl, rfl⟩

theorem witness_HeldFaultsOutlastOtherCommands_idle :
    ∃ s t : State,
      s.pending = [] ∧ step s = .next t
      ∧ s.superv.trip = true ∧ s.superv.welded = true ∧ s.superv.configFault = true ∧ s.line.numberClash = true :=
  ⟨{ oven with superv.trip := true, superv.welded := true, superv.configFault := true, line.numberClash := true },
    tick { oven with superv.trip := true, superv.welded := true, superv.configFault := true, line.numberClash := true },
    rfl, rfl, ⟨rfl, rfl, rfl, rfl⟩⟩

theorem witness_HeldFaultsOutlastOtherCommands_fault_held :
    ∃ s t : State,
      FaultInv s ∧ step s = .next t ∧ s.superv.configFault = true :=
  ⟨{ oven with superv.trip := true, superv.welded := true, superv.configFault := true, line.numberClash := true },
    tick { oven with superv.trip := true, superv.welded := true, superv.configFault := true, line.numberClash := true },
    fun _ => rfl, rfl, rfl⟩

theorem witness_FrozenConfigurationStands_idle :
    ∃ s t : State,
      s.pending = [] ∧ step s = .next t ∧ frozen s = true :=
  ⟨oven, tick oven, rfl, rfl, rfl⟩

theorem witness_RelayClosesOnlyWhereAllowed_relay_restore :
    ∃ (c : Instr) (s t : State),
      c.wellFormed = true ∧ FaultInv s ∧ exec c s = .next t ∧ s.superv.relayClosed = false
      ∧ t.superv.relayClosed = true :=
  ⟨.relayRestore, { oven with superv.relayClosed := false, superv.trip := true },
    after .relayRestore { oven with superv.relayClosed := false, superv.trip := true }, rfl,
    fun h => absurd h (by decide), rfl, rfl, by decide +kernel⟩

theorem witness_RelayClosesOnlyWhereAllowed_setup_end :
    ∃ (c : Instr) (s t : State),
      c.wellFormed = true ∧ FaultInv s ∧ exec c s = .next t ∧ s.superv.relayClosed = false
      ∧ t.superv.relayClosed = true :=
  ⟨.setupEnd [], { fresh with superv.relayClosed := false },
    after (.setupEnd []) { fresh with superv.relayClosed := false }, rfl, fun h => absurd h (by decide), rfl, rfl,
    by decide +kernel⟩

theorem witness_RelayClosesOnlyWhereAllowed_restart_with_no_hold :
    ∃ (c : Instr) (s t : State),
      c.wellFormed = true ∧ FaultInv s ∧ exec c s = .next t ∧ s.superv.relayClosed = false
      ∧ t.superv.relayClosed = true :=
  ⟨.restart, { oven with superv.relayClosed := false, share.holds := PerPool.all 0 },
    after .restart { oven with superv.relayClosed := false, share.holds := PerPool.all 0 }, rfl,
    fun h => absurd h (by decide), rfl, rfl, by decide +kernel⟩

theorem witness_RelayClosesOnlyWhereAllowed_last_lower :
    ∃ (c : Instr) (s t : State),
      c.wellFormed = true ∧ FaultInv s ∧ exec c s = .next t ∧ s.superv.relayClosed = false
      ∧ t.superv.relayClosed = true :=
  ⟨.ownFrameComplete false,
    { sending (.lower .power 0 0) with superv.relayClosed := false, startup.restarting := true, startup.restartLowers := ⟨true, false, false⟩ },
    after (.ownFrameComplete false) { sending (.lower .power 0 0) with superv.relayClosed := false, startup.restarting := true, startup.restartLowers := ⟨true, false, false⟩ },
    rfl, fun h => absurd h (by decide), rfl, rfl, by decide +kernel⟩

theorem witness_RelayClosesOnlyWhereAllowed_reinitialisation :
    ∃ (c : Instr) (s t : State),
      c.wellFormed = true ∧ FaultInv s ∧ exec c s = .next t ∧ s.superv.relayClosed = false
      ∧ t.superv.relayClosed = true :=
  ⟨.reInitialisation, { oven with superv.relayClosed := false, startup.restarting := true },
    after .reInitialisation { oven with superv.relayClosed := false, startup.restarting := true }, rfl,
    fun h => absurd h (by decide), rfl, rfl, by decide +kernel⟩

theorem witness_RelayClosesOnlyWhereAllowed_window_expires :
    ∃ s t : State,
      FaultInv s ∧ s.pending = [] ∧ step s = .next t ∧ s.superv.relayClosed = false ∧ t.superv.relayClosed = true :=
  ⟨{ fresh with superv.relayClosed := false, startup.windowMs := 9990 },
    tick { fresh with superv.relayClosed := false, startup.windowMs := 9990 }, fun h => absurd h (by decide), rfl,
    rfl, rfl, by decide +kernel⟩

theorem witness_RelayClosesOnlyWhereAllowed_restart_ends :
    ∃ s t : State,
      FaultInv s ∧ s.pending = [] ∧ step s = .next t ∧ s.superv.relayClosed = false ∧ t.superv.relayClosed = true :=
  ⟨
    { oven with superv.relayClosed := false, startup.restarting := true, startup.restartMs := 990, startup.restartLowers := PerPool.all true },
    tick { oven with superv.relayClosed := false, startup.restarting := true, startup.restartMs := 990, startup.restartLowers := PerPool.all true },
    fun h => absurd h (by decide), rfl, rfl, rfl, by decide +kernel⟩

theorem witness_AcidAndScaleFallOnlyAtTheEnd_dose :
    ∃ (c : Instr) (s t : State),
      ScaleInv s ∧ exec c s = .next t ∧ (∀ station partner, c ≠ .powerOn station partner)
      ∧ s.steam.acid = false ∧ t.steam.acid = true :=
  ⟨.flowPulse, { descaling .dose false with steam.fill := some ⟨.service, 600, 0, false⟩ },
    after .flowPulse { descaling .dose false with steam.fill := some ⟨.service, 600, 0, false⟩ },
    scaleInv_of (by decide +kernel), rfl, fun _ _ => by simp, ⟨rfl, by decide +kernel⟩⟩

theorem witness_AcidAndScaleFallOnlyAtTheEnd_last_rinse :
    ∃ (c : Instr) (s t : State),
      ScaleInv s ∧ exec c s = .next t ∧ (∀ station partner, c ≠ .powerOn station partner)
      ∧ s.steam.acid = true ∧ t.steam.acid = false ∧ t.steam.scale < s.steam.scale :=
  ⟨.drainDryTimeEnd,
    { descaling .rinseDrain true with descale.rinse := 3, descale.soakMark := true, steam.scale := 4200, steam.drain := some ⟨40000, 30000⟩, power.base.pump := true },
    after .drainDryTimeEnd { descaling .rinseDrain true with descale.rinse := 3, descale.soakMark := true, steam.scale := 4200, steam.drain := some ⟨40000, 30000⟩, power.base.pump := true },
    scaleInv_of (by decide +kernel), rfl, fun _ _ => by simp, ⟨rfl, by decide +kernel⟩⟩

theorem witness_AcidAndScaleFallOnlyAtTheEnd_last_rinse_in_time :
    ∃ s t : State,
      ScaleInv s ∧ s.pending = [] ∧ step s = .next t
      ∧ s.steam.acid = true ∧ t.steam.acid = false ∧ t.steam.scale < s.steam.scale :=
  ⟨
    { descaling .rinseDrain true with descale.rinse := 3, descale.soakMark := true, steam.scale := 4200, steam.request := .drain, steam.drain := some ⟨40000, 29990⟩, power.base.pump := true, share.holds := ⟨420, 0, 1⟩, steam.drainWant := true },
    tick { descaling .rinseDrain true with descale.rinse := 3, descale.soakMark := true, steam.scale := 4200, steam.request := .drain, steam.drain := some ⟨40000, 29990⟩, power.base.pump := true, share.holds := ⟨420, 0, 1⟩, steam.drainWant := true },
    scaleInv_of (by decide +kernel), rfl, rfl, ⟨rfl, by decide +kernel⟩⟩

theorem witness_StepKeepsSteamOutputs_steam_served :
    ∃ s t : State,
      SteamOutputs s ∧ step s = .next t ∧ s.steam.gate = true :=
  ⟨cooking, tick cooking, steamOutputs_of (by decide +kernel), rfl, rfl⟩

theorem witness_StepKeepsSteamOutputs_low_going_dry :
    ∃ s t : State,
      SteamOutputs s ∧ step s = .next t :=
  ⟨{ cooking with pending := [.levelReadingChange .low], steam.levelInputs := PerElectrode.all false },
    after (.levelReadingChange .low) { cooking with steam.levelInputs := PerElectrode.all false },
    steamOutputs_of (by decide +kernel), rfl⟩

theorem witness_StepKeepsSteamOutputs_1_steam_served :
    ∃ s : State,
      SteamOutputs s ∧ s.steam.gate = true :=
  ⟨cooking, steamOutputs_of (by decide +kernel), rfl⟩

theorem witness_StepKeepsSteamOutputs_acid :
    ∃ s : State,
      SteamOutputs s ∧ s.steam.acid = true ∧ s.steam.gen = .ready ∧ s.steam.boilerDemand = 2 :=
  ⟨
    { cooking with steam.acid := true, steam.gate := false, steam.boilerDemand := 2, superv.readings.boil := ⟨some 949, .ok, false, 0, none⟩ },
    steamOutputs_of (by decide +kernel), ⟨rfl, rfl, rfl⟩⟩

theorem witness_SetupSectionsReplaceWorkingCopies_reserved_flag :
    ∃ (s : State) (c : Channel) (fields : List Byte),
      PanelFree s ∧ s.startup.setup = .opened ∧ fields.length = 8 ∧ ¬ ChannelBytesValid c fields :=
  ⟨fresh, .cav, bytesOf [2, 0, 0, 1, 0, 0, 0, 0], panelFree_of rfl, rfl, rfl, fun h => absurd h.1 (by decide)⟩

theorem witness_SetupSectionsReplaceWorkingCopies_section_15 :
    ∃ (s : State) (c : Instr) (field : Nat),
      PanelFree s ∧ s.startup.setup = .opened ∧ c.wellFormed = true
      ∧ ((∃ sec fields, c = .setupChannel sec fields ∧ (sec.toNat < 16 ∨ 21 < sec.toNat) ∧ field = 0) ∨ (∃ fields, c = .setupSupply fields ∧ fields.length ≠ 19 ∧ field = 65535) ∨ (∃ k fields, c = .setupChannel (channelSection k) fields ∧ fields.length ≠ 8 ∧ field = 65535) ∨ (∃ fields, c = .setupEnd fields ∧ fields ≠ [] ∧ field = 65535)) :=
  ⟨fresh, .setupChannel 15 (bytesOf [0, 0, 0, 0, 0, 0, 0, 0]), 0, panelFree_of rfl, rfl, rfl,
    .inl ⟨15, _, rfl, .inl (by decide), rfl⟩⟩

theorem witness_SetupSectionsReplaceWorkingCopies_section_22 :
    ∃ (s : State) (c : Instr) (field : Nat),
      PanelFree s ∧ s.startup.setup = .opened ∧ c.wellFormed = true
      ∧ ((∃ sec fields, c = .setupChannel sec fields ∧ (sec.toNat < 16 ∨ 21 < sec.toNat) ∧ field = 0) ∨ (∃ fields, c = .setupSupply fields ∧ fields.length ≠ 19 ∧ field = 65535) ∨ (∃ k fields, c = .setupChannel (channelSection k) fields ∧ fields.length ≠ 8 ∧ field = 65535) ∨ (∃ fields, c = .setupEnd fields ∧ fields ≠ [] ∧ field = 65535)) :=
  ⟨fresh, .setupChannel 22 (bytesOf [0, 0, 0, 0, 0, 0, 0, 0]), 0, panelFree_of rfl, rfl, rfl,
    .inl ⟨22, _, rfl, .inr (by decide), rfl⟩⟩

theorem witness_SetupSectionsReplaceWorkingCopies_supply_of_9_bytes :
    ∃ (s : State) (c : Instr) (field : Nat),
      PanelFree s ∧ s.startup.setup = .opened ∧ c.wellFormed = true
      ∧ ((∃ sec fields, c = .setupChannel sec fields ∧ (sec.toNat < 16 ∨ 21 < sec.toNat) ∧ field = 0) ∨ (∃ fields, c = .setupSupply fields ∧ fields.length ≠ 19 ∧ field = 65535) ∨ (∃ k fields, c = .setupChannel (channelSection k) fields ∧ fields.length ≠ 8 ∧ field = 65535) ∨ (∃ fields, c = .setupEnd fields ∧ fields ≠ [] ∧ field = 65535)) :=
  ⟨fresh, .setupSupply (List.replicate 8 1), 65535, panelFree_of rfl, rfl, rfl, .inr (.inl ⟨_, rfl, by decide, rfl⟩)⟩

theorem witness_SetupSectionsReplaceWorkingCopies_channel_of_20_bytes :
    ∃ (s : State) (c : Instr) (field : Nat),
      PanelFree s ∧ s.startup.setup = .opened ∧ c.wellFormed = true
      ∧ ((∃ sec fields, c = .setupChannel sec fields ∧ (sec.toNat < 16 ∨ 21 < sec.toNat) ∧ field = 0) ∨ (∃ fields, c = .setupSupply fields ∧ fields.length ≠ 19 ∧ field = 65535) ∨ (∃ k fields, c = .setupChannel (channelSection k) fields ∧ fields.length ≠ 8 ∧ field = 65535) ∨ (∃ fields, c = .setupEnd fields ∧ fields ≠ [] ∧ field = 65535)) :=
  ⟨fresh, .setupChannel (channelSection .cav) (List.replicate 19 1), 65535, panelFree_of rfl, rfl, rfl,
    .inr (.inr (.inl ⟨.cav, _, rfl, by decide, rfl⟩))⟩

theorem witness_SetupSectionsReplaceWorkingCopies_end_of_9_bytes :
    ∃ (s : State) (c : Instr) (field : Nat),
      PanelFree s ∧ s.startup.setup = .opened ∧ c.wellFormed = true
      ∧ ((∃ sec fields, c = .setupChannel sec fields ∧ (sec.toNat < 16 ∨ 21 < sec.toNat) ∧ field = 0) ∨ (∃ fields, c = .setupSupply fields ∧ fields.length ≠ 19 ∧ field = 65535) ∨ (∃ k fields, c = .setupChannel (channelSection k) fields ∧ fields.length ≠ 8 ∧ field = 65535) ∨ (∃ fields, c = .setupEnd fields ∧ fields ≠ [] ∧ field = 65535)) :=
  ⟨fresh, .setupEnd (List.replicate 8 0), 65535, panelFree_of rfl, rfl, rfl,
    .inr (.inr (.inr ⟨_, rfl, by decide, rfl⟩))⟩

theorem witness_SetupSectionsReplaceWorkingCopies_frozen :
    ∃ (s : State) (c : Instr),
      PanelFree s ∧ GenSettled s ∧ frozen s = true ∧ c.wellFormed = true ∧ panelKind c = some .setup :=
  ⟨oven, .setupEnd [], panelFree_of rfl, genSettled_of rfl, rfl, rfl, rfl⟩

theorem witness_ConfigurationFreezes_channel_beyond :
    ∃ (s : State) (c : Instr),
      ((c = .setupEnd [] ∧ PanelFree s) ∨ (c = .setupWindowExpiry ∧ unnumbered s = false ∧ s.startup.restarting = false))
      ∧ s.startup.setup = .opened ∧ s.recipe.state = .idle ∧ s.descale.phase = .off ∧ s.line.numberClash = false
      ∧ s.superv.relayClosed = false ∧ (after c s).superv.relayClosed = false :=
  ⟨{ fresh with superv.relayClosed := false, startup.workChannels.cav.highLimit := 1400 }, .setupEnd [],
    .inl ⟨rfl, panelFree_of rfl⟩, rfl, rfl, rfl, rfl, ⟨rfl, by decide +kernel⟩⟩

theorem witness_ConfigurationFreezes_relay_closes :
    ∃ (s : State) (c : Instr),
      ((c = .setupEnd [] ∧ PanelFree s) ∨ (c = .setupWindowExpiry ∧ unnumbered s = false ∧ s.startup.restarting = false))
      ∧ s.startup.setup = .opened ∧ s.recipe.state = .idle ∧ s.descale.phase = .off ∧ s.line.numberClash = false
      ∧ s.superv.relayClosed = false ∧ (after c s).superv.relayClosed = true ∧ s.line.queue = [] :=
  ⟨{ fresh with superv.relayClosed := false }, .setupEnd [], .inl ⟨rfl, panelFree_of rfl⟩, rfl, rfl, rfl, rfl,
    ⟨rfl, by decide +kernel, rfl⟩⟩

theorem witness_RestartWindsDown_cooking :
    ∃ s : State,
      PanelFree s ∧ frozen s = true ∧ s.share.holds ≠ PerPool.all 0 :=
  ⟨cooking, panelFree_of rfl, rfl, by decide⟩

theorem witness_RestartWindsDown_no_hold :
    ∃ s : State,
      PanelFree s ∧ frozen s = true ∧ s.share.holds = PerPool.all 0 :=
  ⟨{ oven with share.holds := PerPool.all 0 }, panelFree_of rfl, rfl, rfl⟩

theorem witness_ReInitialisationEndsRestart_restarting :
    ∃ s : State,
      s.startup.restarting = true ∧ sendingFrame s = none ∧ unnumbered s = false ∧ frozen s = true ∧ levelNow s = .due :=
  ⟨{ oven with startup.restarting := true, superv.relayClosed := false, steam.scale := 4000 }, rfl, rfl, rfl, rfl, rfl⟩

theorem witness_ReInitialisationEndsRestart_descale_without_acid :
    ∃ s : State,
      s.startup.restarting = true ∧ sendingFrame s = none ∧ unnumbered s = false ∧ frozen s = true
      ∧ descaleActive s.descale = true ∧ s.steam.acid = false :=
  ⟨{ descaling .prep false with startup.restarting := true }, rfl, rfl, rfl, rfl, ⟨rfl, rfl⟩⟩

theorem witness_ReInitialisationEndsRestart_descale_with_acid :
    ∃ s : State,
      s.startup.restarting = true ∧ sendingFrame s = none ∧ unnumbered s = false ∧ frozen s = true
      ∧ descaleActive s.descale = true ∧ s.steam.acid = true :=
  ⟨{ descaling .soak true with startup.restarting := true }, rfl, rfl, rfl, rfl, ⟨rfl, rfl⟩⟩

theorem witness_StageRecordsAreJudged_in_range :
    ∃ (base : Nat) (r : RawRecord),
      RecordFits r ∧ RecordTaken r ∧ r.clamped = r :=
  ⟨1, combiRaw, combiRaw_fits, combiRaw_taken, by decide +kernel⟩

theorem witness_StageRecordsAreJudged_clamped :
    ∃ (base : Nat) (r : RawRecord),
      RecordFits r ∧ RecordTaken r ∧ r.clamped ≠ r :=
  ⟨1, { combiRaw with cavity := some 60 }, by simp [RecordFits, combiRaw],
    by simp [RecordTaken, SkipDefined, NoBranches, HeatFieldsTaken, combiRaw], by decide +kernel⟩

theorem witness_StageRecordsAreJudged_no_duration :
    ∃ (base : Nat) (r : RawRecord),
      RecordFits r ∧ ¬ RecordTaken r :=
  ⟨1, { combiRaw with duration := none }, by simp [RecordFits, combiRaw],
    by simp [RecordTaken, HeatFieldsTaken, combiRaw]⟩

theorem witness_StageRecordsAreJudged_a_byte_more :
    ∃ (base : Nat) (r : RawRecord) (extra : List Byte),
      RecordFits r ∧ extra ≠ [] :=
  ⟨1, combiRaw, [0], combiRaw_fits, by decide⟩

theorem witness_StageRecordsAreJudged_a_byte_less :
    ∃ (base n : Nat) (r : RawRecord),
      RecordFits r ∧ n < r.bytes.length :=
  ⟨1, 10, combiRaw, combiRaw_fits, by decide +kernel⟩

theorem witness_PauseResumeAndFinishAck_probe_absent :
    ∃ (s : State) (h : HeatStage),
      PanelFree s ∧ GenSettled s ∧ s.line.queue = [] ∧ heatAt s.recipe s.recipe.cur = some h ∧ h.endKind = .core
      ∧ h.duration = none ∧ s.recipe.state = .paused ∧ s.recipe.pausedFrom = .prompting ∧ s.recipe.prompt = 250
      ∧ s.recipe.probePresent = false :=
  ⟨
    { cooking with recipe := { cooking.recipe with state := .paused, pausedFrom := .prompting, prompt := 250, store := [.heat ⟨.combi, 1800, none, .core, none, some 600, false, 0, []⟩ none], probePresent := false } },
    ⟨.combi, 1800, none, .core, none, some 600, false, 0, []⟩, panelFree_of rfl, genSettled_of rfl, rfl, rfl, rfl,
    rfl, rfl, rfl, rfl, rfl⟩

theorem witness_PauseResumeAndFinishAck_probe_back :
    ∃ (s : State) (h : HeatStage),
      PanelFree s ∧ GenSettled s ∧ s.line.queue = [] ∧ heatAt s.recipe s.recipe.cur = some h ∧ h.endKind = .core
      ∧ h.duration = none ∧ s.recipe.state = .paused ∧ s.recipe.pausedFrom = .prompting ∧ s.recipe.prompt = 250
      ∧ s.recipe.probePresent = true :=
  ⟨
    { cooking with recipe := { cooking.recipe with state := .paused, pausedFrom := .prompting, prompt := 250, store := [.heat ⟨.combi, 1800, none, .core, none, some 600, false, 0, []⟩ none], probePresent := true } },
    ⟨.combi, 1800, none, .core, none, some 600, false, 0, []⟩, panelFree_of rfl, genSettled_of rfl, rfl, rfl, rfl,
    rfl, rfl, rfl, rfl, rfl⟩

theorem witness_AnswerGoesToItsBranchOrIsRefused_probe_inserted :
    ∃ (s : State) (index reply : Byte) (h : HeatStage),
      PanelFree s ∧ GenSettled s ∧ s.recipe.state = .prompting ∧ s.recipe.prompt = 250 ∧ s.recipe.probePresent = true
      ∧ index.toNat = s.recipe.cur ∧ reply.toNat ≤ 2 ∧ heatAt s.recipe s.recipe.cur = some h ∧ h.endKind = .core
      ∧ StageHolds s h :=
  ⟨
    { cooking with recipe := { cooking.recipe with state := .prompting, prompt := 250, store := [.heat ⟨.combi, 1800, none, .core, none, some 600, false, 0, []⟩ none], probePresent := true } },
    1, 2, ⟨.combi, 1800, none, .core, none, some 600, false, 0, []⟩, panelFree_of rfl, genSettled_of rfl, rfl, rfl,
    rfl, rfl, by decide, rfl, rfl, ⟨rfl, by decide +kernel⟩⟩

theorem witness_ClimateSamples_no_cav :
    ∃ (s : State) (m : Mode),
      LoopsRun s ∧ GenSettled s ∧ s.climate.profile = some m ∧ reading s .cav = none :=
  ⟨{ cooking with superv.readings.cav := ⟨none, .openCircuit, false, 0, some .low⟩ }, .combi,
    ⟨rfl, rfl, rfl, rfl, rfl⟩, genSettled_of rfl, rfl, rfl⟩

theorem witness_ClimateSamples_no_moist :
    ∃ (s : State) (m : Mode),
      LoopsRun s ∧ GenSettled s ∧ s.climate.profile = some m ∧ m.humid = true ∧ reading s .moist = none :=
  ⟨{ cooking with superv.readings.moist := ⟨none, .openCircuit, false, 0, some .low⟩ }, .combi,
    ⟨rfl, rfl, rfl, rfl, rfl⟩, genSettled_of rfl, rfl, ⟨rfl, rfl⟩⟩

theorem witness_CrossingBeginsTheNextSlot_shed_alone :
    ∃ (s : State) (interval volts : Nat),
      s.power.inFrame = true ∧ s.power.slot < 19 ∧ s.power.freq ≠ .undecided ∧ s.power.layout.length = 20
      ∧ (∀ x ∈ s.power.layout, ∀ e, x.get e = true → e ∈ s.power.frameOrder)
      ∧ s.power.holdFall = none ∧ s.power.shed.top = true :=
  ⟨{ framed with power.shed := ⟨true, false, false, false⟩ }, 10000, 230, rfl, by decide, by decide, rfl,
    fun _ h e _ => by rw [List.eq_of_mem_replicate h] at *; cases e <;> simp [framed], ⟨rfl, rfl⟩⟩

theorem witness_CrossingBeginsTheNextSlot_fallen_alone :
    ∃ (s : State) (interval volts : Nat),
      s.power.inFrame = true ∧ s.power.slot < 19 ∧ s.power.freq ≠ .undecided ∧ s.power.layout.length = 20
      ∧ (∀ x ∈ s.power.layout, ∀ e, x.get e = true → e ∈ s.power.frameOrder)
      ∧ s.power.holdFall = some 200 ∧ s.power.shed = PerElement.all false :=
  ⟨{ framed with power.holdFall := some 200 }, 10000, 230, rfl, by decide, by decide, rfl,
    fun _ h e _ => by rw [List.eq_of_mem_replicate h] at *; cases e <;> simp [framed], ⟨rfl, rfl⟩⟩

theorem witness_CrossingBeginsTheNextSlot_stands :
    ∃ (s : State) (interval volts : Nat),
      s.power.inFrame = true ∧ s.power.slot < 19 ∧ s.power.freq ≠ .undecided ∧ s.power.layout.length = 20
      ∧ (∀ x ∈ s.power.layout, ∀ e, x.get e = true → e ∈ s.power.frameOrder)
      ∧ s.power.holdFall = none ∧ s.power.shed = PerElement.all false :=
  ⟨framed, 10000, 230, rfl, by decide, by decide, rfl,
    fun _ h e _ => by rw [List.eq_of_mem_replicate h] at *; cases e <;> simp [framed], ⟨rfl, rfl⟩⟩

theorem witness_CrossingLaysOutAFrame_next_frame :
    ∃ (s : State) (interval volts : Nat),
      (s.power.inFrame = false ∨ (s.power.inFrame = true ∧ s.power.slot = 19)) ∧ frozen s = true
      ∧ s.startup.restarting = false ∧ s.power.freq ≠ .undecided ∧ s.climate.order.Nodup :=
  ⟨{ framed with power.slot := 19 }, 10000, 264, .inr ⟨rfl, rfl⟩, rfl, rfl, by decide, by decide⟩

theorem witness_CorrectedRatingsRoundUp_within_a_frame :
    ∃ (c : Instr) (s t : State),
      exec c s = .next t ∧ s.power.inFrame = true ∧ s.power.slot < 20 ∧ t.power.inFrame = true
      ∧ (∀ interval volts : Nat, c = .zeroCrossing interval volts → s.power.slot ≠ 19) :=
  ⟨.query, framed, after .query framed, rfl, rfl, by decide, by decide +kernel, fun _ _ h => absurd h (by simp)⟩

theorem witness_CorrectedRatingsRoundUp_slot_18 :
    ∃ (c : Instr) (s t : State),
      exec c s = .next t ∧ s.power.inFrame = true ∧ s.power.slot < 20 ∧ t.power.inFrame = true
      ∧ (∀ interval volts : Nat, c = .zeroCrossing interval volts → s.power.slot ≠ 19) :=
  ⟨.zeroCrossing 10000 230, { framed with power.slot := 18 },
    after (.zeroCrossing 10000 230) { framed with power.slot := 18 }, rfl, rfl, by decide, by decide +kernel,
    fun _ _ _ => by decide⟩

theorem witness_FrameStartDecidesThePowerHold_worth_a_raise :
    ∃ (s : State) (interval volts : Nat),
      (s.power.inFrame = false ∨ (s.power.inFrame = true ∧ s.power.slot = 19)) ∧ frozen s = true
      ∧ s.startup.restarting = false ∧ s.power.freq ≠ .undecided ∧ unnumbered s = false ∧ GenSettled s
      ∧ s.line.queue = []
      ∧ s.share.holds.power + 10 ≤ (after (.zeroCrossing interval volts) s).power.want ∧ s.share.link = .member ∧ s.share.table = [] :=
  ⟨cooking, 10000, 230, .inl rfl, rfl, rfl, by decide, rfl, genSettled_of rfl, rfl, ⟨by decide +kernel, rfl, rfl⟩⟩

theorem witness_FrameStartDecidesThePowerHold_short_of_the_floor :
    ∃ (s : State) (interval volts : Nat),
      (s.power.inFrame = false ∨ (s.power.inFrame = true ∧ s.power.slot = 19)) ∧ frozen s = true
      ∧ s.startup.restarting = false ∧ s.power.freq ≠ .undecided ∧ unnumbered s = false ∧ GenSettled s
      ∧ s.line.queue = []
      ∧ s.share.holds.power < s.share.floor ∧ s.share.holds.power < (after (.zeroCrossing interval volts) s).power.want :=
  ⟨
    { cooking with share.holds := ⟨100, 0, 0⟩, share.table := [{ neighbour with holds := ⟨600, 0, 0⟩ }], share.sinceYieldMs := some 2000 },
    10000, 230, .inl rfl, rfl, rfl, by decide, rfl, genSettled_of rfl, rfl, ⟨by decide, by decide +kernel⟩⟩

theorem witness_FrameStartDecidesThePowerHold_third_low_want :
    ∃ (s : State) (interval volts : Nat),
      (s.power.inFrame = false ∨ (s.power.inFrame = true ∧ s.power.slot = 19)) ∧ frozen s = true
      ∧ s.startup.restarting = false ∧ s.power.freq ≠ .undecided ∧ unnumbered s = false ∧ GenSettled s
      ∧ s.line.queue = []
      ∧ (after (.zeroCrossing interval volts) s).power.want = 0 ∧ s.share.holds.power ≠ 0 ∧ 2 ≤ s.share.lowerRun :=
  ⟨{ oven with share.lowerRun := 2 }, 10000, 230, .inl rfl, rfl, rfl, by decide, rfl, genSettled_of rfl, rfl,
    ⟨by decide +kernel, by decide, by decide⟩⟩

theorem witness_FrameStartDecidesThePowerHold_next_frame :
    ∃ (s : State) (interval volts : Nat),
      (s.power.inFrame = false ∨ (s.power.inFrame = true ∧ s.power.slot = 19)) ∧ frozen s = true
      ∧ s.startup.restarting = false ∧ s.power.freq ≠ .undecided ∧ unnumbered s = false ∧ GenSettled s
      ∧ s.line.queue = [] :=
  ⟨{ framed with power.slot := 19 }, 10000, 230, .inr ⟨rfl, rfl⟩, rfl, rfl, by decide, rfl, genSettled_of rfl, rfl⟩

theorem witness_LinkStateSilenceAndPeriods_holds_above_floor :
    ∃ s : State,
      unnumbered s = false ∧ GenSettled s ∧ s.share.link ≠ .isolated ∧ s.share.sinceOwnMs.isSome = true
      ∧ s.share.floor < s.share.holds.power :=
  ⟨{ oven with line.queue := [⟨.raise .power 0 500, false⟩] }, rfl, genSettled_of rfl, by decide, rfl, by decide⟩

theorem witness_OwnFrameCompletes_restart_goes_on :
    ∃ (s : State) (vetoed : Bool) (f : TxFrame),
      GenSettled s ∧ unnumbered s = false ∧ frozen s = true ∧ sendingFrame s = some f
      ∧ (s.startup.restarting = false ∨ ((∃ p, s.startup.restartLowers.get p = true ∧ ∀ g, f ≠ .lower p g 0) ∧ s.startup.restartMs < 1000)) :=
  ⟨
    { sending .status with startup.restarting := true, startup.restartLowers := ⟨true, false, false⟩, startup.restartMs := 990 },
    false, .status, genSettled_of rfl, rfl, rfl, rfl, .inr ⟨⟨.power, rfl, fun _ => by simp⟩, by decide⟩⟩

theorem witness_OwnFrameCompletes_vetoed_water_raise :
    ∃ (s : State) (vetoed : Bool) (f : TxFrame),
      GenSettled s ∧ unnumbered s = false ∧ frozen s = true ∧ sendingFrame s = some f
      ∧ (s.startup.restarting = false ∨ ((∃ p, s.startup.restartLowers.get p = true ∧ ∀ g, f ≠ .lower p g 0) ∧ s.startup.restartMs < 1000))
      ∧ (∃ p, f.raiseValue p ≠ none) ∧ s.share.link ≠ .isolated :=
  ⟨{ sending (.raise .drain 0 1) with steam.drainWant := true }, true, .raise .drain 0 1, genSettled_of rfl, rfl, rfl,
    rfl, .inl rfl, ⟨⟨.drain, by decide⟩, by decide⟩⟩

theorem witness_OwnFrameCompletes_isolation_count :
    ∃ (s : State) (vetoed : Bool) (f : TxFrame),
      GenSettled s ∧ unnumbered s = false ∧ frozen s = true ∧ sendingFrame s = some f
      ∧ (s.startup.restarting = false ∨ ((∃ p, s.startup.restartLowers.get p = true ∧ ∀ g, f ≠ .lower p g 0) ∧ s.startup.restartMs < 1000))
      ∧ s.share.sinceOwnMs.isSome = true :=
  ⟨sending .status, false, .status, genSettled_of rfl, rfl, rfl, rfl, .inl rfl, rfl⟩

theorem witness_OwnFrameCompletes_last_lower :
    ∃ (s : State) (vetoed : Bool) (f : TxFrame),
      unnumbered s = false ∧ frozen s = true ∧ s.startup.restarting = true ∧ sendingFrame s = some f
      ∧ (1000 ≤ s.startup.restartMs ∨ (∀ p, s.startup.restartLowers.get p = true → ∃ g, f = .lower p g 0)) :=
  ⟨{ sending (.lower .power 0 0) with startup.restarting := true, startup.restartLowers := ⟨true, false, false⟩ },
    false, .lower .power 0 0, rfl, rfl, rfl, rfl,
    .inr fun p h => by cases p <;> first | exact ⟨0, rfl⟩ | exact absurd h (by decide)⟩

theorem witness_OwnFrameCompletes_second_over :
    ∃ (s : State) (vetoed : Bool) (f : TxFrame),
      unnumbered s = false ∧ frozen s = true ∧ s.startup.restarting = true ∧ sendingFrame s = some f
      ∧ (1000 ≤ s.startup.restartMs ∨ (∀ p, s.startup.restartLowers.get p = true → ∃ g, f = .lower p g 0)) :=
  ⟨
    { sending .status with startup.restarting := true, startup.restartLowers := ⟨true, false, false⟩, startup.restartMs := 1000 },
    false, .status, rfl, rfl, rfl, rfl, .inl (by decide)⟩

theorem witness_StoppedFramesWaitAgain_raise :
    ∃ (s : State) (f : TxFrame),
      sendingFrame s = some f ∧ s.line.queue.countP (·.sending) = 1 ∧ s.startup.restarting = false
      ∧ raiseQueued .power s = true :=
  ⟨sending (.raise .power 0 500), .raise .power 0 500, rfl, rfl, rfl, rfl⟩

theorem witness_StoppedFramesWaitAgain_report :
    ∃ (s : State) (f : TxFrame),
      sendingFrame s = some f ∧ s.line.queue.countP (·.sending) = 1 ∧ s.startup.restarting = false
      ∧ ((∀ p, f.isRaise p = false) ∧ s.line.queue.countP (·.sending) = 1 ∧ ∀ e ∈ s.line.queue, e.sending = false → f.sameSort e.frame = false ∧ f.removes e.frame = false) :=
  ⟨{ sending .reading with line.queue := [⟨.reading, true⟩, ⟨.status, false⟩] }, .reading, rfl, rfl, rfl,
    ⟨fun p => by cases p <;> rfl, rfl, by decide⟩⟩

theorem witness_StoppedFramesWaitAgain_drive_fault :
    ∃ (s : State) (f : TxFrame) (c : Instr),
      sendingFrame s = some f ∧ s.line.queue.countP (·.sending) = 1 ∧ s.startup.restarting = false
      ∧ (c = .driveFault ∨ c = .closingMarkBroken ∨ (c = .clash ∧ GenSettled s ∧ (s.line.clashes < 2 ∨ s.line.numberClash = true)))
      ∧ f.isRaise .power = true :=
  ⟨sending (.raise .power 0 500), .raise .power 0 500, .driveFault, rfl, rfl, rfl, .inl rfl, rfl⟩

theorem witness_StoppedFramesWaitAgain_broken_mark :
    ∃ (s : State) (f : TxFrame) (c : Instr),
      sendingFrame s = some f ∧ s.line.queue.countP (·.sending) = 1 ∧ s.startup.restarting = false
      ∧ (c = .driveFault ∨ c = .closingMarkBroken ∨ (c = .clash ∧ GenSettled s ∧ (s.line.clashes < 2 ∨ s.line.numberClash = true)))
      ∧ f.isRaise .power = true :=
  ⟨sending (.raise .power 0 500), .raise .power 0 500, .closingMarkBroken, rfl, rfl, rfl, .inr (.inl rfl), rfl⟩

theorem witness_StoppedFramesWaitAgain_second_clash :
    ∃ (s : State) (f : TxFrame) (c : Instr),
      sendingFrame s = some f ∧ s.line.queue.countP (·.sending) = 1 ∧ s.startup.restarting = false
      ∧ (c = .driveFault ∨ c = .closingMarkBroken ∨ (c = .clash ∧ GenSettled s ∧ (s.line.clashes < 2 ∨ s.line.numberClash = true)))
      ∧ ((∀ p, f.isRaise p = false) ∧ ∀ e ∈ s.line.queue, e.sending = false → f.sameSort e.frame = false ∧ f.removes e.frame = false) :=
  ⟨
    { sending (.lower .power 0 400) with line.queue := [⟨.lower .power 0 400, true⟩, ⟨.status, false⟩], line.clashes := 1 },
    .lower .power 0 400, .clash, rfl, rfl, rfl, .inr (.inr ⟨rfl, genSettled_of rfl, .inl (by decide)⟩),
    ⟨fun p => by cases p <;> rfl, by decide⟩⟩

theorem witness_StoppedFramesWaitAgain_lowers_sent :
    ∃ (s : State) (c : Instr),
      unnumbered s = false ∧ frozen s = true ∧ s.startup.restarting = true ∧ (sendingFrame s).isSome = true
      ∧ (s.startup.restartLowers = PerPool.all false ∨ 1000 ≤ s.startup.restartMs)
      ∧ (c = .arbitrationLost ∨ c = .driveFault ∨ c = .closingMarkBroken ∨ (c = .clash ∧ (s.line.clashes < 2 ∨ s.line.numberClash = true))) :=
  ⟨{ sending .status with startup.restarting := true }, .arbitrationLost, rfl, rfl, rfl, rfl, .inl rfl, .inl rfl⟩

theorem witness_StoppedFramesWaitAgain_second_over :
    ∃ (s : State) (c : Instr),
      unnumbered s = false ∧ frozen s = true ∧ s.startup.restarting = true ∧ (sendingFrame s).isSome = true
      ∧ (s.startup.restartLowers = PerPool.all false ∨ 1000 ≤ s.startup.restartMs)
      ∧ (c = .arbitrationLost ∨ c = .driveFault ∨ c = .closingMarkBroken ∨ (c = .clash ∧ (s.line.clashes < 2 ∨ s.line.numberClash = true))) :=
  ⟨
    { sending .status with startup.restarting := true, startup.restartLowers := PerPool.all true, startup.restartMs := 1000 },
    .clash, rfl, rfl, rfl, rfl, .inr (by decide), .inr (.inr (.inr ⟨rfl, .inl (by decide)⟩))⟩

theorem witness_OwnNumberCountsAClash_joining_with_leak :
    ∃ (s : State) (b : StatusBody),
      LineFree s ∧ GenSettled s ∧ s.line.queue = [] ∧ frozen s = true
      ∧ b.joining = true ∧ b.waterGroup.toNat = s.startup.supply.waterGroup ∧ b.leak = true ∧ s.share.tripSet = [] :=
  ⟨oven, ⟨0, 0, false, false, false, true, true, 0, 0, 0, 0, 0⟩, lineFree_of rfl, genSettled_of rfl, rfl, rfl,
    ⟨rfl, rfl, rfl, rfl⟩⟩

theorem witness_OwnNumberCountsAClash_leak_ends :
    ∃ (s : State) (b : StatusBody),
      LineFree s ∧ GenSettled s ∧ s.line.queue = [] ∧ frozen s = true
      ∧ b.joining = false ∧ b.waterGroup.toNat = s.startup.supply.waterGroup ∧ b.leak = false ∧ s.startup.station ∈ s.share.tripSet :=
  ⟨{ oven with share.tripSet := [2] }, ⟨0, 0, false, false, false, false, false, 0, 0, 0, 0, 0⟩, lineFree_of rfl,
    genSettled_of rfl, rfl, rfl, ⟨rfl, rfl, rfl, by decide⟩⟩

theorem witness_OwnNumberCountsAClash_other_water_group :
    ∃ (s : State) (b : StatusBody),
      LineFree s ∧ GenSettled s ∧ s.line.queue = [] ∧ frozen s = true
      ∧ b.waterGroup.toNat ≠ s.startup.supply.waterGroup :=
  ⟨oven, ⟨0, 1, false, false, false, true, false, 0, 0, 0, 0, 0⟩, lineFree_of rfl, genSettled_of rfl, rfl, rfl,
    by decide⟩

theorem witness_FramesAreVetoedAndHeard_mark_of_a_raise :
    ∃ (s : State) (g : MalformGround),
      LineFree s ∧ groundOk g = true ∧ (after (.malformedFrame g) s).line.verdictDriven = true :=
  ⟨oven, .closingMarkDominant 3 (some (.raise .power 0 281)), lineFree_of rfl, rfl, by decide +kernel⟩

theorem witness_FramesAreVetoedAndHeard_mark_of_a_raise_that_fits :
    ∃ (s : State) (g : MalformGround),
      LineFree s ∧ groundOk g = true ∧ (after (.malformedFrame g) s).line.verdictDriven = false :=
  ⟨oven, .closingMarkDominant 3 (some (.raise .power 0 280)), lineFree_of rfl, rfl, by decide +kernel⟩

theorem witness_FramesAreVetoedAndHeard_mark_of_a_command :
    ∃ (s : State) (g : MalformGround),
      LineFree s ∧ groundOk g = true ∧ (after (.malformedFrame g) s).line.verdictDriven = true :=
  ⟨oven, .closingMarkDominant 12 (some (.command 2)), lineFree_of rfl, rfl, by decide +kernel⟩

theorem witness_FramesAreVetoedAndHeard_mark_of_a_report :
    ∃ (s : State) (g : MalformGround),
      LineFree s ∧ groundOk g = true :=
  ⟨oven, .closingMarkDominant 3 (some .report), lineFree_of rfl, rfl⟩

theorem witness_FramesAreVetoedAndHeard_mark_and_check :
    ∃ (s : State) (g : MalformGround),
      LineFree s ∧ groundOk g = true ∧ closingMarkOf g = some none :=
  ⟨oven, .closingMarkDominant 3 none, lineFree_of rfl, rfl, rfl⟩

theorem witness_LimitsEndFillsAndDrains_acid_drain :
    ∃ (s : State) (d : Drain),
      unnumbered s = false ∧ s.line.queue = [] ∧ programActive s.recipe = false ∧ s.steam.gen = .service
      ∧ (s.descale.phase = .acidDrain ∨ s.descale.phase = .rinseDrain) ∧ s.steam.drain = some d
      ∧ s.power.base.pump = true ∧ s.steam.acid = true :=
  ⟨{ descaling .acidDrain true with steam.drain := some ⟨240000, 0⟩, power.base.pump := true }, ⟨240000, 0⟩, rfl, rfl,
    rfl, rfl, .inl rfl, rfl, rfl, rfl⟩

theorem witness_LimitsEndFillsAndDrains_rinse_drain :
    ∃ (s : State) (d : Drain),
      unnumbered s = false ∧ s.line.queue = [] ∧ programActive s.recipe = false ∧ s.steam.gen = .service
      ∧ (s.descale.phase = .acidDrain ∨ s.descale.phase = .rinseDrain) ∧ s.steam.drain = some d
      ∧ s.power.base.pump = true ∧ s.steam.acid = false :=
  ⟨{ descaling .rinseDrain false with steam.drain := some ⟨240000, 0⟩, power.base.pump := true }, ⟨240000, 0⟩, rfl,
    rfl, rfl, rfl, .inr rfl, rfl, rfl, rfl⟩

theorem witness_DescaleRunsToItsEnd_last_pulse_of_dose :
    ∃ (s : State) (f : Fill),
      unnumbered s = false ∧ s.line.queue = [] ∧ s.steam.gen = .service ∧ s.steam.fill = some f ∧ f.kind = .service
      ∧ f.budget ≤ 1 ∧ f.counted = true ∧ (s.descale.phase = .dose ∨ s.descale.phase = .rinseFill) :=
  ⟨{ descaling .dose true with steam.fill := some ⟨.service, 1, 0, true⟩ }, ⟨.service, 1, 0, true⟩, rfl, rfl, rfl,
    rfl, rfl, by decide, rfl, .inl rfl⟩

theorem witness_DescaleRunsToItsEnd_last_pulse_of_rinse :
    ∃ (s : State) (f : Fill),
      unnumbered s = false ∧ s.line.queue = [] ∧ s.steam.gen = .service ∧ s.steam.fill = some f ∧ f.kind = .service
      ∧ f.budget ≤ 1 ∧ f.counted = true ∧ (s.descale.phase = .dose ∨ s.descale.phase = .rinseFill) :=
  ⟨{ descaling .rinseFill true with steam.fill := some ⟨.service, 1, 0, true⟩ }, ⟨.service, 1, 0, true⟩, rfl, rfl,
    rfl, rfl, rfl, by decide, rfl, .inr rfl⟩

theorem witness_DescaleRunsToItsEnd_soak_heat_700 :
    ∃ (s : State) (x : SensorInputs) (v : Int),
      unnumbered s = false ∧ s.line.queue = [] ∧ s.steam.gen = .service ∧ programActive s.recipe = false
      ∧ x.boil = .readable v
      ∧ ((s.descale.phase = .soakHeat ∧ s.steam.request = .heat 700) ∨ (s.descale.phase = .rinseHeat ∧ s.steam.request = .heat 800)) :=
  ⟨{ descaling .soakHeat true with steam.request := .heat 700 },
    ⟨.readable 1500, .readable 500, .readable 700, .readable 40, 300⟩, 700, rfl, rfl, rfl, rfl, rfl, .inl ⟨rfl, rfl⟩⟩

theorem witness_DescaleRunsToItsEnd_soak_heat_699 :
    ∃ (s : State) (x : SensorInputs) (v : Int),
      unnumbered s = false ∧ s.line.queue = [] ∧ s.steam.gen = .service ∧ programActive s.recipe = false
      ∧ x.boil = .readable v
      ∧ ((s.descale.phase = .soakHeat ∧ s.steam.request = .heat 700) ∨ (s.descale.phase = .rinseHeat ∧ s.steam.request = .heat 800)) :=
  ⟨{ descaling .soakHeat true with steam.request := .heat 700 },
    ⟨.readable 1500, .readable 500, .readable 699, .readable 40, 300⟩, 699, rfl, rfl, rfl, rfl, rfl, .inl ⟨rfl, rfl⟩⟩

theorem witness_DescaleRunsToItsEnd_rinse_heat_800 :
    ∃ (s : State) (x : SensorInputs) (v : Int),
      unnumbered s = false ∧ s.line.queue = [] ∧ s.steam.gen = .service ∧ programActive s.recipe = false
      ∧ x.boil = .readable v
      ∧ ((s.descale.phase = .soakHeat ∧ s.steam.request = .heat 700) ∨ (s.descale.phase = .rinseHeat ∧ s.steam.request = .heat 800)) :=
  ⟨{ descaling .rinseHeat true with steam.request := .heat 800 },
    ⟨.readable 1500, .readable 500, .readable 800, .readable 40, 300⟩, 800, rfl, rfl, rfl, rfl, rfl, .inr ⟨rfl, rfl⟩⟩

theorem witness_DescaleRunsToItsEnd_acid_drained :
    ∃ (s : State) (d : Drain),
      unnumbered s = false ∧ s.line.queue = [] ∧ s.steam.gen = .service ∧ s.steam.drain = some d
      ∧ s.power.base.pump = true ∧ s.steam.levels.low = false ∧ s.steam.levels.high = false
      ∧ (s.descale.phase = .acidDrain ∨ (s.descale.phase = .rinseDrain ∧ s.descale.rinse < 3)) :=
  ⟨
    { descaling .acidDrain true with descale.rinse := 0, steam.drain := some ⟨40000, 30000⟩, power.base.pump := true },
    ⟨40000, 30000⟩, rfl, rfl, rfl, rfl, rfl, rfl, rfl, .inl rfl⟩

theorem witness_DescaleRunsToItsEnd_second_rinse :
    ∃ (s : State) (d : Drain),
      unnumbered s = false ∧ s.line.queue = [] ∧ s.steam.gen = .service ∧ s.steam.drain = some d
      ∧ s.power.base.pump = true ∧ s.steam.levels.low = false ∧ s.steam.levels.high = false
      ∧ (s.descale.phase = .acidDrain ∨ (s.descale.phase = .rinseDrain ∧ s.descale.rinse < 3)) :=
  ⟨
    { descaling .rinseDrain true with descale.rinse := 2, steam.drain := some ⟨40000, 30000⟩, power.base.pump := true },
    ⟨40000, 30000⟩, rfl, rfl, rfl, rfl, rfl, rfl, rfl, .inr ⟨rfl, by decide⟩⟩

theorem witness_DescaleRunsToItsEnd_completed :
    ∃ (s : State) (d : Drain),
      unnumbered s = false ∧ s.line.queue = [] ∧ s.steam.gen = .service ∧ programActive s.recipe = false
      ∧ s.steam.drain = some d ∧ s.power.base.pump = true ∧ s.steam.levels.low = false ∧ s.descale.phase = .rinseDrain
      ∧ 3 ≤ s.descale.rinse ∧ s.descale.soakMark = true :=
  ⟨
    { descaling .rinseDrain true with descale.rinse := 3, descale.soakMark := true, steam.scale := 4200, steam.drain := some ⟨40000, 30000⟩, power.base.pump := true },
    ⟨40000, 30000⟩, rfl, rfl, rfl, rfl, rfl, rfl, rfl, rfl, by decide, rfl⟩

theorem witness_DescaleRunsToItsEnd_rinsed :
    ∃ (s : State) (d : Drain),
      unnumbered s = false ∧ s.line.queue = [] ∧ s.steam.gen = .service ∧ programActive s.recipe = false
      ∧ s.steam.drain = some d ∧ s.power.base.pump = true ∧ s.steam.levels.low = false ∧ s.descale.phase = .rinseDrain
      ∧ 3 ≤ s.descale.rinse ∧ s.descale.soakMark = false :=
  ⟨
    { descaling .rinseDrain true with descale.rinse := 3, descale.soakMark := false, steam.scale := 4200, steam.drain := some ⟨40000, 30000⟩, power.base.pump := true },
    ⟨40000, 30000⟩, rfl, rfl, rfl, rfl, rfl, rfl, rfl, rfl, by decide, rfl⟩

theorem witness_AcidAndScaleFallOnlyAtTheEnd_scale_full :
    ∃ (c : Instr) (s t : State),
      ScaleInv s ∧ exec c s = .next t ∧ (∀ station partner, c ≠ .powerOn station partner)
      ∧ s.steam.scale = 65535 ∧ t.steam.scale = 65535 ∧ t.steam.sub = 0 :=
  ⟨.flowPulse,
    { oven with steam.scale := 65535, steam.sub := 49, steam.fill := some ⟨.topUp, 750, 0, false⟩, startup.supply.hardness := 40 },
    after .flowPulse { oven with steam.scale := 65535, steam.sub := 49, steam.fill := some ⟨.topUp, 750, 0, false⟩, startup.supply.hardness := 40 },
    scaleInv_of (by decide +kernel), rfl, fun _ _ => by simp, ⟨rfl, by decide +kernel⟩⟩

theorem witness_AcidAndScaleFallOnlyAtTheEnd_scale_full_in_a_step :
    ∃ s t : State,
      ScaleInv s ∧ step s = .next t ∧ s.steam.scale = 65535 :=
  ⟨
    { oven with pending := [.flowPulse], steam.scale := 65535, steam.sub := 49, steam.fill := some ⟨.topUp, 750, 0, false⟩, startup.supply.hardness := 40 },
    after .flowPulse { oven with steam.scale := 65535, steam.sub := 49, steam.fill := some ⟨.topUp, 750, 0, false⟩, startup.supply.hardness := 40 },
    scaleInv_of (by decide +kernel), rfl, rfl⟩

theorem witness_CorrectedRatingsRoundUp_in_time :
    ∃ s t : State,
      s.pending = [] ∧ step s = .next t ∧ s.power.inFrame = true ∧ s.power.slot < 20 ∧ t.power.inFrame = true :=
  ⟨framed, tick framed, rfl, rfl, rfl, by decide, by decide +kernel⟩

theorem witness_LeakTripsTheWater_wet_in_the_window :
    ∃ (s : State) (c : Instr),
      unnumbered s = false ∧ frozen s = false
      ∧ ((c = .leakWet ∧ s.share.leakInputWet = true ∧ s.share.leakWet = false) ∨ (c = .leakDry ∧ s.share.leakInputWet = false ∧ s.share.leakWet = true)) :=
  ⟨{ fresh with share.leakInputWet := true }, .leakWet, rfl, rfl, .inl ⟨rfl, rfl, rfl⟩⟩

theorem witness_LeakTripsTheWater_dry_in_the_window :
    ∃ (s : State) (c : Instr),
      unnumbered s = false ∧ frozen s = false
      ∧ ((c = .leakWet ∧ s.share.leakInputWet = true ∧ s.share.leakWet = false) ∨ (c = .leakDry ∧ s.share.leakInputWet = false ∧ s.share.leakWet = true)) :=
  ⟨{ fresh with share.leakWet := true, share.tripSet := [2], share.safetyOwed := true }, .leakDry, rfl, rfl,
    .inr ⟨rfl, rfl, rfl⟩⟩

theorem witness_ConfigurationFreezes_wet_at_power_on :
    ∃ (s : State) (c : Instr),
      ((c = .setupEnd [] ∧ PanelFree s) ∨ (c = .setupWindowExpiry ∧ unnumbered s = false ∧ s.startup.restarting = false))
      ∧ s.startup.setup = .opened ∧ s.recipe.state = .idle ∧ s.descale.phase = .off ∧ s.line.numberClash = false
      ∧ s.share.safetyOwed = true ∧ s.share.leakWet = true :=
  ⟨{ fresh with share.leakInputWet := true, share.leakWet := true, share.tripSet := [2], share.safetyOwed := true },
    .setupWindowExpiry, .inr ⟨rfl, rfl, rfl⟩, rfl, rfl, rfl, rfl, ⟨rfl, rfl⟩⟩

theorem witness_ReInitialisationEndsRestart_raise_in_a_due_restart :
    ∃ (s u : State) (c : Instr),
      unnumbered s = false ∧ (sendingFrame s).isSome = true ∧ receivesFrame c = true
      ∧ exec .arbitrationLost s = .next u ∧ restartDue s = true ∧ u.startup.restarting = false :=
  ⟨{ sending .reading with startup.restarting := true, superv.relayClosed := false },
    after .arbitrationLost { sending .reading with startup.restarting := true, superv.relayClosed := false },
    .raiseReceived 3 .power 0 100 false, rfl, rfl, rfl, rfl, ⟨rfl, by decide +kernel⟩⟩

theorem witness_ReInitialisationEndsRestart_query_takes_the_line :
    ∃ (s u : State) (c : Instr),
      unnumbered s = false ∧ (sendingFrame s).isSome = true ∧ receivesFrame c = true
      ∧ exec .arbitrationLost s = .next u :=
  ⟨sending .status, after .arbitrationLost (sending .status), .query, rfl, rfl, rfl, rfl⟩

theorem witness_RelayClosesOnlyWhereAllowed_received_in_a_due_restart :
    ∃ (c : Instr) (s t : State),
      c.wellFormed = true ∧ FaultInv s ∧ exec c s = .next t ∧ s.superv.relayClosed = false
      ∧ t.superv.relayClosed = true :=
  ⟨.query, { sending .reading with startup.restarting := true, superv.relayClosed := false },
    after .query { sending .reading with startup.restarting := true, superv.relayClosed := false }, rfl,
    fun h => absurd h (by decide), rfl, rfl, by decide +kernel⟩

theorem witness_StepKeepsRecipeRanges_resume :
    ∃ s t : State,
      RecipeInv s ∧ step s = .next t ∧ s.recipe.state = .paused :=
  ⟨{ cooking with pending := [.resume], recipe.state := .paused },
    after .resume { cooking with recipe.state := .paused },
    ⟨by decide, by decide, by decide, by decide, fun h => absurd h (by decide), fun _ => .inl rfl, fun h => absurd h (by decide)⟩,
    rfl, rfl⟩

theorem witness_StepKeepsShareTable_with_a_neighbour :
    ∃ s t : State,
      ShareInv s ∧ step s = .next t ∧ s.share.table = [neighbour] :=
  ⟨{ shared with pending := [.entryExpired 3] }, after (.entryExpired 3) shared, shareInv_of (by decide +kernel), rfl,
    rfl⟩

theorem witness_StepKeepsLoadWithinHold_own_raise_completes :
    ∃ s t : State,
      PowerInv s ∧ step s = .next t :=
  ⟨
    { framed with power := framed.power, line := { oven.line with queue := [⟨.raise .power 0 500, true⟩] }, pending := [.ownFrameComplete false] },
    after (.ownFrameComplete false) ({ framed with power := framed.power, line := { oven.line with queue := [⟨.raise .power 0 500, true⟩] }, pending := [] }),
    ⟨fun _ _ => ⟨by decide, by decide⟩, fun _ h => absurd h (by simp [framed, cooking, oven, Power.reset]), fun h => absurd h (by decide), fun h => absurd h (by decide), fun h => absurd h (by decide), fun _ => ⟨rfl, by decide⟩, fun _ h e _ => by rw [List.eq_of_mem_replicate h] at *; cases e <;> simp [framed], fun e he v hv => by simp at he; subst he; simp [TxFrame.raiseValue] at hv; subst hv; decide, by decide, fun h => absurd h (by decide)⟩,
    rfl⟩

theorem witness_EveryCommandCompletes_nothing_due :
    ∃ s : State,
      s.pending = [] ∧ ShareInv s ∧ dueRows (tenMsLater s) = [] :=
  ⟨oven, rfl, shareInv_of (by decide +kernel), by decide +kernel⟩

theorem witness_EveryCommandCompletes_door_at_40_ms :
    ∃ s : State,
      s.pending = [] ∧ ShareInv s ∧ dueRows (tenMsLater s) = [] :=
  ⟨{ oven with climate.doorInputOpen := true, climate.doorMs := 30 }, rfl, shareInv_of (by decide +kernel),
    by decide +kernel⟩

theorem witness_EveryCommandCompletes_neighbour_at_3490_ms :
    ∃ s : State,
      s.pending = [] ∧ ShareInv s ∧ dueRows (tenMsLater s) = [] :=
  ⟨{ shared with share.table := [{ neighbour with heardMs := 3480 }] }, rfl, shareInv_of (by decide +kernel),
    by decide +kernel⟩

theorem witness_EveryCommandCompletes_door_at_50_ms :
    ∃ (s u : State) (c : Instr),
      s.pending = [] ∧ ShareInv s ∧ dueRows (tenMsLater s) = [c] ∧ exec c (tenMsLater s) = .next u ∧ dueRows u = [] :=
  ⟨{ oven with climate.doorInputOpen := true, climate.doorMs := 40 },
    after .doorOpens (tenMsLater { oven with climate.doorInputOpen := true, climate.doorMs := 40 }), .doorOpens, rfl,
    shareInv_of (by decide +kernel), by decide +kernel, rfl, by decide +kernel⟩

theorem witness_EveryCommandCompletes_window_at_10_s :
    ∃ (s u : State) (c : Instr),
      s.pending = [] ∧ ShareInv s ∧ dueRows (tenMsLater s) = [c] ∧ exec c (tenMsLater s) = .next u ∧ dueRows u = [] :=
  ⟨{ fresh with startup.windowMs := 9990 },
    after .setupWindowExpiry (tenMsLater { fresh with startup.windowMs := 9990 }), .setupWindowExpiry, rfl,
    shareInv_of (by decide +kernel), by decide +kernel, rfl, by decide +kernel⟩

theorem witness_EveryCommandCompletes_sample_at_1_s :
    ∃ (s u : State) (c : Instr),
      s.pending = [] ∧ ShareInv s ∧ dueRows (tenMsLater s) = [c] ∧ exec c (tenMsLater s) = .next u ∧ dueRows u = [] :=
  ⟨{ cooking with climate.sampleMs := 990 },
    after .climateSample (tenMsLater { cooking with climate.sampleMs := 990 }), .climateSample, rfl,
    shareInv_of (by decide +kernel), by decide +kernel, rfl, by decide +kernel⟩

theorem witness_EveryCommandCompletes_missed_crossing :
    ∃ (s u : State) (c : Instr),
      s.pending = [] ∧ ShareInv s ∧ dueRows (tenMsLater s) = [c] ∧ exec c (tenMsLater s) = .next u ∧ dueRows u = [] :=
  ⟨{ framed with power.sinceCrossUs := 10000 },
    after .missedCrossing (tenMsLater { framed with power.sinceCrossUs := 10000 }), .missedCrossing, rfl,
    shareInv_of (by decide +kernel), by decide +kernel, rfl, by decide +kernel⟩

theorem witness_EveryCommandCompletes_neighbour_at_3500_ms :
    ∃ (s u : State) (c : Instr),
      s.pending = [] ∧ ShareInv s ∧ dueRows (tenMsLater s) = [c] ∧ exec c (tenMsLater s) = .next u ∧ dueRows u = [] :=
  ⟨{ shared with share.table := [{ neighbour with heardMs := 3490 }] },
    after (.entryExpired 3) (tenMsLater { shared with share.table := [{ neighbour with heardMs := 3490 }] }),
    .entryExpired 3, rfl, shareInv_of (by decide +kernel), by decide +kernel, rfl, by decide +kernel⟩

theorem witness_EveryCommandCompletes_neighbour_at_65_s :
    ∃ (s u : State) (c : Instr),
      s.pending = [] ∧ ShareInv s ∧ dueRows (tenMsLater s) = [c] ∧ exec c (tenMsLater s) = .next u ∧ dueRows u = [] :=
  ⟨{ shared with share.table := [{ neighbour with heardMs := 64990, expired := true }] },
    after (.entryRemoved 3) (tenMsLater { shared with share.table := [{ neighbour with heardMs := 64990, expired := true }] }),
    .entryRemoved 3, rfl, shareInv_of (by decide +kernel), by decide +kernel, rfl, by decide +kernel⟩

theorem witness_EveryCommandCompletes_leak_at_2_s :
    ∃ (s u : State) (c : Instr),
      s.pending = [] ∧ ShareInv s ∧ dueRows (tenMsLater s) = [c] ∧ exec c (tenMsLater s) = .next u ∧ dueRows u = [] :=
  ⟨{ oven with share.leakInputWet := true, share.leakMs := 1990 },
    after .leakWet (tenMsLater { oven with share.leakInputWet := true, share.leakMs := 1990 }), .leakWet, rfl,
    shareInv_of (by decide +kernel), by decide +kernel, rfl, by decide +kernel⟩

theorem witness_EveryCommandCompletes_isolated_at_2_s :
    ∃ (s u : State) (c : Instr),
      s.pending = [] ∧ ShareInv s ∧ dueRows (tenMsLater s) = [c] ∧ exec c (tenMsLater s) = .next u ∧ dueRows u = [] :=
  ⟨{ oven with share.sinceOwnMs := some 1990 },
    after .lineIsolated (tenMsLater { oven with share.sinceOwnMs := some 1990 }), .lineIsolated, rfl,
    shareInv_of (by decide +kernel), by decide +kernel, rfl, by decide +kernel⟩

theorem witness_EveryCommandCompletes_electrode_at_1_s :
    ∃ (s u : State) (c : Instr),
      s.pending = [] ∧ ShareInv s ∧ dueRows (tenMsLater s) = [c] ∧ exec c (tenMsLater s) = .next u ∧ dueRows u = [] :=
  ⟨{ oven with steam.levelInputs := ⟨true, false, false⟩, steam.levelMs := ⟨990, 0, 0⟩ },
    after (.levelReadingChange .low) (tenMsLater { oven with steam.levelInputs := ⟨true, false, false⟩, steam.levelMs := ⟨990, 0, 0⟩ }),
    .levelReadingChange .low, rfl, shareInv_of (by decide +kernel), by decide +kernel, rfl, by decide +kernel⟩

theorem witness_EveryCommandCompletes_valve_at_180_s :
    ∃ (s u : State) (c : Instr),
      s.pending = [] ∧ ShareInv s ∧ dueRows (tenMsLater s) = [c] ∧ exec c (tenMsLater s) = .next u ∧ dueRows u = [] :=
  ⟨
    { descaling .dose true with steam.request := .fill 600, steam.fill := some ⟨.service, 500, 179990, true⟩, power.base.fill := true },
    after .valveTimeLimit (tenMsLater { descaling .dose true with steam.request := .fill 600, steam.fill := some ⟨.service, 500, 179990, true⟩, power.base.fill := true }),
    .valveTimeLimit, rfl, shareInv_of (by decide +kernel), by decide +kernel, rfl, by decide +kernel⟩

theorem witness_EveryCommandCompletes_cooling_at_20_min :
    ∃ (s u : State) (c : Instr),
      s.pending = [] ∧ ShareInv s ∧ dueRows (tenMsLater s) = [c] ∧ exec c (tenMsLater s) = .next u ∧ dueRows u = [] :=
  ⟨{ oven with steam.gen := .cooling, steam.coolMs := 1199990 },
    after .coolingTimerExpiry (tenMsLater { oven with steam.gen := .cooling, steam.coolMs := 1199990 }),
    .coolingTimerExpiry, rfl, shareInv_of (by decide +kernel), by decide +kernel, rfl, by decide +kernel⟩

theorem witness_EveryCommandCompletes_prep_at_30_min :
    ∃ (s u : State) (c : Instr),
      s.pending = [] ∧ ShareInv s ∧ dueRows (tenMsLater s) = [c] ∧ exec c (tenMsLater s) = .next u ∧ dueRows u = [] :=
  ⟨{ descaling .prep false with descale.prepMs := 1799990 },
    after .prepTimeout (tenMsLater { descaling .prep false with descale.prepMs := 1799990 }), .prepTimeout, rfl,
    shareInv_of (by decide +kernel), by decide +kernel, rfl, by decide +kernel⟩

theorem witness_EveryCommandCompletes_heat_clock_at_15_min :
    ∃ (s u : State) (c : Instr),
      s.pending = [] ∧ ShareInv s ∧ dueRows (tenMsLater s) = [c] ∧ exec c (tenMsLater s) = .next u ∧ dueRows u = [] :=
  ⟨
    { descaling .rinseHeat true with descale.heatClock := 90000, steam.levels := ⟨true, false, false⟩, steam.levelInputs := ⟨true, false, false⟩ },
    after .heatLimit (tenMsLater { descaling .rinseHeat true with descale.heatClock := 90000, steam.levels := ⟨true, false, false⟩, steam.levelInputs := ⟨true, false, false⟩ }),
    .heatLimit, rfl, shareInv_of (by decide +kernel), by decide +kernel, rfl, by decide +kernel⟩

theorem witness_EveryCommandCompletes_channel_at_2_s :
    ∃ (s u : State) (c : Instr),
      s.pending = [] ∧ ShareInv s ∧ dueRows (tenMsLater s) = [c] ∧ exec c (tenMsLater s) = .next u ∧ dueRows u = [] :=
  ⟨{ oven with superv.readings.boil := ⟨some 970, .openCircuit, true, 1990, none⟩ },
    after (.channelFailed .boil) (tenMsLater { oven with superv.readings.boil := ⟨some 970, .openCircuit, true, 1990, none⟩ }),
    .channelFailed .boil, rfl, shareInv_of (by decide +kernel), by decide +kernel, rfl, by decide +kernel⟩

theorem witness_EveryCommandCompletes_fixed_limit_at_1_s :
    ∃ (s u : State) (c : Instr),
      s.pending = [] ∧ ShareInv s ∧ dueRows (tenMsLater s) = [c] ∧ exec c (tenMsLater s) = .next u ∧ dueRows u = [] :=
  ⟨{ oven with superv.fixed := ⟨.pending, 990, .trip⟩ },
    after (.excursionStart .cav .fixed) (tenMsLater { oven with superv.fixed := ⟨.pending, 990, .trip⟩ }),
    .excursionStart .cav .fixed, rfl, shareInv_of (by decide +kernel), by decide +kernel, rfl, by decide +kernel⟩

theorem witness_EveryCommandCompletes_relay_at_200_ms :
    ∃ (s u : State) (c : Instr),
      s.pending = [] ∧ ShareInv s ∧ dueRows (tenMsLater s) = [c] ∧ exec c (tenMsLater s) = .next u ∧ dueRows u = [] :=
  ⟨{ oven with superv.feedbackClosed := false, superv.mismatchMs := 190 },
    after .relayOpenFault (tenMsLater { oven with superv.feedbackClosed := false, superv.mismatchMs := 190 }),
    .relayOpenFault, rfl, shareInv_of (by decide +kernel), by decide +kernel, rfl, by decide +kernel⟩

theorem witness_EveryCommandCompletes_stage_at_its_duration :
    ∃ (s u : State) (c : Instr),
      s.pending = [] ∧ ShareInv s ∧ dueRows (tenMsLater s) = [c] ∧ exec c (tenMsLater s) = .next u ∧ dueRows u = [] :=
  ⟨{ cooking with recipe.elapsedMs := 999990 },
    after .stageTimeEnd (tenMsLater { cooking with recipe.elapsedMs := 999990 }), .stageTimeEnd, rfl,
    shareInv_of (by decide +kernel), by decide +kernel, rfl, by decide +kernel⟩

theorem witness_EveryCommandCompletes_restart_at_1_s :
    ∃ (s u : State) (c : Instr),
      s.pending = [] ∧ ShareInv s ∧ dueRows (tenMsLater s) = [c] ∧ exec c (tenMsLater s) = .next u ∧ dueRows u = [] :=
  ⟨{ oven with startup.restarting := true, startup.restartLowers := PerPool.all true, startup.restartMs := 990 },
    after .reInitialisation (tenMsLater { oven with startup.restarting := true, startup.restartLowers := PerPool.all true, startup.restartMs := 990 }),
    .reInitialisation, rfl, shareInv_of (by decide +kernel), by decide +kernel, rfl, by decide +kernel⟩

theorem witness_StartEntersTheFirstStage_skips_to_a_stage :
    ∃ (s : State) (links : Nat) (r : Rest),
      PanelFree s ∧ s.recipe.state = .loaded ∧ links ≤ 17000 ∧ EntryRests s links 1 [] r
      ∧ descaleActive s.descale = false ∧ s.steam.acid = false ∧ tripRefuses s = false ∧ s.line.queue = [] :=
  ⟨
    { oven with recipe := { oven.recipe with state := .loaded, store := [.heat combi (some .probeAbsent), .heat combi none], tag := 9 } },
    1, .begins 2 combi [], panelFree_of rfl, rfl, by decide,
    .skipsHeat 0 1 [] combi .probeAbsent _ rfl rfl (.begins 2 [] combi none rfl (fun _ h => nomatch h) (stageHolds_time (d := 1000) rfl rfl (by decide))),
    rfl, rfl, rfl, rfl⟩

theorem witness_StartEntersTheFirstStage_calls_a_stage :
    ∃ (s : State) (links : Nat) (r : Rest),
      PanelFree s ∧ s.recipe.state = .loaded ∧ links ≤ 17000 ∧ EntryRests s links 1 [] r
      ∧ descaleActive s.descale = false ∧ s.steam.acid = false ∧ tripRefuses s = false ∧ s.line.queue = [] :=
  ⟨
    { oven with recipe := { oven.recipe with state := .loaded, store := [.call 2 none, .heat combi none], tag := 9 } },
    1, .begins 2 combi [2], panelFree_of rfl, rfl, by decide,
    .calls 0 1 2 [] none _ rfl (fun _ h => nomatch h) (by decide) (.begins 2 [2] combi none rfl (fun _ h => nomatch h) (stageHolds_time (d := 1000) rfl rfl (by decide))),
    rfl, rfl, rfl, rfl⟩

theorem witness_StartEntersTheFirstStage_calls_and_returns :
    ∃ (s : State) (links : Nat) (r : Rest),
      PanelFree s ∧ s.recipe.state = .loaded ∧ links ≤ 17000 ∧ EntryRests s links 1 [] r
      ∧ descaleActive s.descale = false ∧ s.steam.acid = false ∧ tripRefuses s = false ∧ s.line.queue = [] :=
  ⟨
    { oven with recipe := { oven.recipe with state := .loaded, store := [.call 3 none, .heat combi none, .ret], tag := 9 } },
    2, .begins 2 combi [], panelFree_of rfl, rfl, by decide,
    .calls 1 1 3 [] none _ rfl (fun _ h => nomatch h) (by decide) (.returns 0 3 2 [] _ rfl (.begins 2 [] combi none rfl (fun _ h => nomatch h) (stageHolds_time (d := 1000) rfl rfl (by decide)))),
    rfl, rfl, rfl, rfl⟩

theorem witness_StartEntersTheFirstStage_third_call_faults :
    ∃ (s : State) (links : Nat) (r : Rest),
      PanelFree s ∧ s.recipe.state = .loaded ∧ links ≤ 17000 ∧ EntryRests s links 1 [] r
      ∧ descaleActive s.descale = false ∧ s.steam.acid = false ∧ tripRefuses s = false ∧ s.line.queue = [] :=
  ⟨
    { oven with recipe := { oven.recipe with state := .loaded, store := [.call 2 none, .call 3 none, .call 4 none, .heat combi none], tag := 9 } },
    2, .stackFault, panelFree_of rfl, rfl, by decide,
    .calls 1 1 2 [] none _ rfl (fun _ h => nomatch h) (by decide) (.calls 0 2 3 [2] none _ rfl (fun _ h => nomatch h) (by decide) (.overflows 3 4 [3, 2] none rfl (fun _ h => nomatch h) rfl)),
    rfl, rfl, rfl, rfl⟩

theorem witness_StartEntersTheFirstStage_skips_to_the_end :
    ∃ (s : State) (links : Nat) (r : Rest),
      PanelFree s ∧ s.recipe.state = .loaded ∧ links ≤ 17000 ∧ EntryRests s links 1 [] r
      ∧ descaleActive s.descale = false ∧ s.steam.acid = false ∧ tripRefuses s = false ∧ s.line.queue = [] :=
  ⟨
    { oven with recipe := { oven.recipe with state := .loaded, store := [.heat combi (some .probeAbsent), .call 1 (some .probeAbsent)], tag := 9 } },
    2, .finishes, panelFree_of rfl, rfl, by decide,
    .skipsHeat 1 1 [] combi .probeAbsent _ rfl rfl (.skipsCall 0 2 1 [] .probeAbsent _ rfl rfl (.past 3 [] (by decide))),
    rfl, rfl, rfl, rfl⟩

theorem witness_StartEntersTheFirstStage_returns_to_the_end :
    ∃ (s : State) (links : Nat) (r : Rest),
      PanelFree s ∧ s.recipe.state = .loaded ∧ links ≤ 17000 ∧ EntryRests s links 1 [] r
      ∧ descaleActive s.descale = false ∧ s.steam.acid = false ∧ tripRefuses s = false ∧ s.line.queue = [] :=
  ⟨{ oven with recipe := { oven.recipe with state := .loaded, store := [.ret, .heat combi none], tag := 9 } }, 0,
    .finishes, panelFree_of rfl, rfl, by decide, .returnsToTheEnd 1 rfl, rfl, rfl, rfl, rfl⟩

theorem witness_StartEntersTheFirstStage_leaves_fault :
    ∃ (s : State) (links : Nat) (r : Rest),
      PanelFree s ∧ s.recipe.state = .loaded ∧ links ≤ 17000 ∧ EntryRests s links 1 [] r
      ∧ descaleActive s.descale = false ∧ s.steam.acid = false ∧ tripRefuses s = false ∧ s.line.queue = []
      ∧ frozen s = true ∧ s.steam.gen = .fault :=
  ⟨{ loaded with steam.gen := .fault, steam.faultKind := some .fillFault }, 0, .begins 1 combi [], panelFree_of rfl,
    rfl, by decide,
    .begins 1 [] combi none rfl (fun _ h => nomatch h) (stageHolds_time (d := 1000) rfl rfl (by decide)), rfl, rfl,
    rfl, rfl, ⟨rfl, rfl⟩⟩

theorem witness_StartEntersTheFirstStage_leaves_fault_with_water :
    ∃ (s : State) (h : HeatStage) (rest : List StageRecord),
      PanelFree s ∧ s.recipe.state = .loaded ∧ s.recipe.store = .heat h none :: rest ∧ StageHolds s h
      ∧ descaleActive s.descale = false ∧ s.steam.acid = false ∧ tripRefuses s = false ∧ s.line.queue = []
      ∧ frozen s = true ∧ s.steam.gen = .fault ∧ steamWanted (after .start s) = true :=
  ⟨{ loaded with steam.gen := .fault, steam.faultKind := some .drainFault, steam.levels := ⟨true, false, false⟩ },
    combi, [], panelFree_of rfl, rfl, rfl, stageHolds_time (d := 1000) rfl rfl (by decide), rfl, rfl, rfl, rfl,
    ⟨rfl, rfl, by decide +kernel⟩⟩

theorem witness_StartEntersTheFirstStage_fills :
    ∃ (s : State) (h : HeatStage) (rest : List StageRecord),
      PanelFree s ∧ s.recipe.state = .loaded ∧ s.recipe.store = .heat h none :: rest ∧ StageHolds s h
      ∧ descaleActive s.descale = false ∧ s.steam.acid = false ∧ tripRefuses s = false ∧ s.line.queue = []
      ∧ frozen s = true ∧ s.steam.gen = .empty ∧ (after .start s).steam.gen = .filling :=
  ⟨loaded, combi, [], panelFree_of rfl, rfl, rfl, stageHolds_time (d := 1000) rfl rfl (by decide), rfl, rfl, rfl, rfl,
    ⟨rfl, rfl, by decide +kernel⟩⟩

theorem witness_StartEntersTheFirstStage_manual_before_the_freeze :
    ∃ (s : State) (record : List Byte) (code : ResultCode) (detail : Nat),
      PanelFree s ∧ GenSettled s ∧ recordLengthOk record = true ∧ manualRefusal s record = some (code, detail) :=
  ⟨{ fresh with share.link := .member }, combiRecord, .refusedState, 0, panelFree_of rfl, genSettled_of rfl, rfl,
    by decide +kernel⟩

theorem witness_StartEntersTheFirstStage_manual_running :
    ∃ (s : State) (record : List Byte) (code : ResultCode) (detail : Nat),
      PanelFree s ∧ GenSettled s ∧ recordLengthOk record = true ∧ manualRefusal s record = some (code, detail) :=
  ⟨cooking, combiRecord, .refusedState, 0, panelFree_of rfl, genSettled_of rfl, rfl, by decide +kernel⟩

theorem witness_StartEntersTheFirstStage_manual_call :
    ∃ (s : State) (record : List Byte) (code : ResultCode) (detail : Nat),
      PanelFree s ∧ GenSettled s ∧ recordLengthOk record = true ∧ manualRefusal s record = some (code, detail) :=
  ⟨oven, bytesOf [1, 0, 32, 1], .refusedField, 0, panelFree_of rfl, genSettled_of rfl, rfl, by decide +kernel⟩

theorem witness_StartEntersTheFirstStage_manual_unknown_kind :
    ∃ (s : State) (record : List Byte) (code : ResultCode) (detail : Nat),
      PanelFree s ∧ GenSettled s ∧ recordLengthOk record = true ∧ manualRefusal s record = some (code, detail) :=
  ⟨oven, bytesOf [3, 0, 0], .refusedField, 0, panelFree_of rfl, genSettled_of rfl, rfl, by decide +kernel⟩

theorem witness_StartEntersTheFirstStage_manual_descale :
    ∃ (s : State) (record : List Byte) (code : ResultCode) (detail : Nat),
      PanelFree s ∧ GenSettled s ∧ recordLengthOk record = true ∧ manualRefusal s record = some (code, detail) :=
  ⟨descaling .prep false, combiRecord, .refusedState, 0, panelFree_of rfl, genSettled_of rfl, rfl, by decide +kernel⟩

theorem witness_StartEntersTheFirstStage_manual_acid :
    ∃ (s : State) (record : List Byte) (code : ResultCode) (detail : Nat),
      PanelFree s ∧ GenSettled s ∧ recordLengthOk record = true ∧ manualRefusal s record = some (code, detail) :=
  ⟨{ oven with steam.acid := true }, combiRecord, .refusedAcid, 0, panelFree_of rfl, genSettled_of rfl, rfl,
    by decide +kernel⟩

theorem witness_StartEntersTheFirstStage_manual_trip :
    ∃ (s : State) (record : List Byte) (code : ResultCode) (detail : Nat),
      PanelFree s ∧ GenSettled s ∧ recordLengthOk record = true ∧ manualRefusal s record = some (code, detail) :=
  ⟨{ oven with superv.relayClosed := false }, combiRecord, .refusedTrip, 0, panelFree_of rfl, genSettled_of rfl, rfl,
    by decide +kernel⟩

theorem witness_AbortStopsProgramOrDescale_cold_water :
    ∃ s : State,
      PanelFree s ∧ descaleActive s.descale = false ∧ s.line.queue = []
      ∧ programActive s.recipe = true ∧ frozen s = true ∧ (after .abort s).steam.gen = .draining :=
  ⟨
    { cooking with steam.gen := .filling, steam.fill := some ⟨.cooking, 9, 0, true⟩, superv.readings.boil := ⟨some 700, .ok, false, 0, none⟩ },
    panelFree_of rfl, rfl, rfl, ⟨rfl, rfl, by decide +kernel⟩⟩

theorem witness_AnswerGoesToItsBranchOrIsRefused_returns_to_the_caller :
    ∃ (s : State) (index reply : Byte) (h : HeatStage) (links : Nat) (r : Rest),
      PanelFree s ∧ s.line.queue = [] ∧ s.recipe.state = .prompting ∧ heatAt s.recipe s.recipe.cur = some h
      ∧ s.recipe.prompt ≠ 250 ∧ index.toNat = s.recipe.cur ∧ reply.toNat ≤ 2 ∧ links ≤ 17000
      ∧ EntryRests s links (s.recipe.cur + (h.branches[reply.toNat]?).getD 1) s.recipe.stack r :=
  ⟨{ prompting with recipe.store := [.heat asking none, .ret, .heat combi none], recipe.stack := [3] }, 1, 0, asking,
    1, .begins 3 combi [], panelFree_of rfl, rfl, rfl, rfl, by decide, rfl, by decide, by decide,
    .returns 0 2 3 [] _ rfl (.begins 3 [] combi none rfl (fun _ h => nomatch h) (stageHolds_time (d := 1000) rfl rfl (by decide)))⟩

theorem witness_AnswerGoesToItsBranchOrIsRefused_returns_to_the_end :
    ∃ (s : State) (index reply : Byte) (h : HeatStage) (links : Nat) (r : Rest),
      PanelFree s ∧ s.line.queue = [] ∧ s.recipe.state = .prompting ∧ heatAt s.recipe s.recipe.cur = some h
      ∧ s.recipe.prompt ≠ 250 ∧ index.toNat = s.recipe.cur ∧ reply.toNat ≤ 2 ∧ links ≤ 17000
      ∧ EntryRests s links (s.recipe.cur + (h.branches[reply.toNat]?).getD 1) s.recipe.stack r :=
  ⟨{ prompting with recipe.store := [.heat asking none, .ret], recipe.stack := [] }, 1, 0, asking, 0, .finishes,
    panelFree_of rfl, rfl, rfl, rfl, by decide, rfl, by decide, by decide, .returnsToTheEnd 2 rfl⟩

theorem witness_AnswerGoesToItsBranchOrIsRefused_call_too_deep :
    ∃ (s : State) (index reply : Byte) (h : HeatStage) (links : Nat) (r : Rest),
      PanelFree s ∧ s.line.queue = [] ∧ s.recipe.state = .prompting ∧ heatAt s.recipe s.recipe.cur = some h
      ∧ s.recipe.prompt ≠ 250 ∧ index.toNat = s.recipe.cur ∧ reply.toNat ≤ 2 ∧ links ≤ 17000
      ∧ EntryRests s links (s.recipe.cur + (h.branches[reply.toNat]?).getD 1) s.recipe.stack r :=
  ⟨{ prompting with recipe.store := [.heat asking none, .call 3 none, .heat combi none], recipe.stack := [3, 2] }, 1,
    0, asking, 0, .stackFault, panelFree_of rfl, rfl, rfl, rfl, by decide, rfl, by decide, by decide,
    .overflows 2 3 [3, 2] none rfl (fun _ h => nomatch h) rfl⟩

theorem witness_DescaleBeginsOnCommand_before_the_freeze :
    ∃ s : State,
      PanelFree s ∧ GenSettled s
      ∧ (frozen s = false ∨ (s.descale.phase ≠ .off ∧ s.descale.phase ≠ .holdAcid) ∨ (s.recipe.state ≠ .idle ∧ s.recipe.state ≠ .loaded) ∨ s.superv.trip = true ∨ s.superv.relayClosed = false ∨ s.superv.welded = true) :=
  ⟨{ fresh with share.link := .member }, panelFree_of rfl, genSettled_of rfl, .inl rfl⟩

theorem witness_DescaleBeginsOnCommand_descale_runs :
    ∃ s : State,
      PanelFree s ∧ GenSettled s
      ∧ (frozen s = false ∨ (s.descale.phase ≠ .off ∧ s.descale.phase ≠ .holdAcid) ∨ (s.recipe.state ≠ .idle ∧ s.recipe.state ≠ .loaded) ∨ s.superv.trip = true ∨ s.superv.relayClosed = false ∨ s.superv.welded = true) :=
  ⟨descaling .prep false, panelFree_of rfl, genSettled_of rfl, .inr (.inl ⟨by decide, by decide⟩)⟩

theorem witness_DescaleBeginsOnCommand_program_runs :
    ∃ s : State,
      PanelFree s ∧ GenSettled s
      ∧ (frozen s = false ∨ (s.descale.phase ≠ .off ∧ s.descale.phase ≠ .holdAcid) ∨ (s.recipe.state ≠ .idle ∧ s.recipe.state ≠ .loaded) ∨ s.superv.trip = true ∨ s.superv.relayClosed = false ∨ s.superv.welded = true) :=
  ⟨cooking, panelFree_of rfl, genSettled_of rfl, .inr (.inr (.inl ⟨by decide, by decide⟩))⟩

theorem witness_DescaleBeginsOnCommand_relay_open :
    ∃ s : State,
      PanelFree s ∧ GenSettled s
      ∧ (frozen s = false ∨ (s.descale.phase ≠ .off ∧ s.descale.phase ≠ .holdAcid) ∨ (s.recipe.state ≠ .idle ∧ s.recipe.state ≠ .loaded) ∨ s.superv.trip = true ∨ s.superv.relayClosed = false ∨ s.superv.welded = true) :=
  ⟨{ oven with superv.relayClosed := false }, panelFree_of rfl, genSettled_of rfl,
    .inr (.inr (.inr (.inr (.inl rfl))))⟩

theorem witness_StoppedFramesWaitAgain_third_clash :
    ∃ (s : State) (f : TxFrame),
      s.line.queue = [⟨f, true⟩] ∧ unnumbered s = false ∧ s.startup.restarting = false ∧ GenSettled s
      ∧ 2 ≤ s.line.clashes ∧ s.line.numberClash = false ∧ s.share.link ≠ .isolated :=
  ⟨{ sending .status with line.clashes := 2 }, .status, rfl, rfl, rfl, genSettled_of rfl, by decide, rfl, by decide⟩

theorem witness_StoppedFramesWaitAgain_third_clash_isolated :
    ∃ (s : State) (f : TxFrame),
      s.line.queue = [⟨f, true⟩] ∧ unnumbered s = false ∧ s.startup.restarting = false ∧ GenSettled s
      ∧ 2 ≤ s.line.clashes ∧ s.line.numberClash = false ∧ s.share.link = .isolated :=
  ⟨{ sending (.raise .power 0 500) with line.clashes := 2, share.link := .isolated }, .raise .power 0 500, rfl, rfl,
    rfl, genSettled_of rfl, by decide, rfl, rfl⟩

theorem witness_DescaleRunsToItsEnd_high_ends_dose :
    ∃ (s : State) (f : Fill),
      unnumbered s = false ∧ s.line.queue = [] ∧ s.steam.gen = .service ∧ s.steam.levels.high = false
      ∧ s.steam.levelInputs.high = true ∧ s.steam.fill = some f ∧ f.kind = .service
      ∧ (s.descale.phase = .dose ∨ s.descale.phase = .rinseFill) :=
  ⟨{ descaling .dose true with steam.levelInputs := ⟨true, true, true⟩, steam.fill := some ⟨.service, 40, 0, true⟩ },
    ⟨.service, 40, 0, true⟩, rfl, rfl, rfl, rfl, rfl, rfl, rfl, .inl rfl⟩

theorem witness_DescaleRunsToItsEnd_high_ends_rinse_fill :
    ∃ (s : State) (f : Fill),
      unnumbered s = false ∧ s.line.queue = [] ∧ s.steam.gen = .service ∧ s.steam.levels.high = false
      ∧ s.steam.levelInputs.high = true ∧ s.steam.fill = some f ∧ f.kind = .service
      ∧ (s.descale.phase = .dose ∨ s.descale.phase = .rinseFill) :=
  ⟨
    { descaling .rinseFill true with steam.levelInputs := ⟨true, true, true⟩, steam.fill := some ⟨.service, 40, 0, true⟩ },
    ⟨.service, 40, 0, true⟩, rfl, rfl, rfl, rfl, rfl, rfl, rfl, .inr rfl⟩

theorem witness_LimitsEndFillsAndDrains_dose_before_acid :
    ∃ (s : State) (f : Fill),
      unnumbered s = false ∧ s.line.queue = [] ∧ s.steam.fill = some f ∧ f.kind = .service ∧ s.power.base.fill = true
      ∧ programActive s.recipe = false ∧ descaleActive s.descale = true ∧ s.steam.acid = false :=
  ⟨{ descaling .dose false with steam.fill := some ⟨.service, 600, 180000, false⟩, power.base.fill := true },
    ⟨.service, 600, 180000, false⟩, rfl, rfl, rfl, rfl, rfl, rfl, rfl, rfl⟩

theorem witness_QueryAnswersWithReading_fits :
    ∃ (s : State) (rest : List QEntry),
      s.line.state = .idle ∧ unnumbered s = false ∧ sendingFrame s = none ∧ s.line.queue = ⟨.reading, false⟩ :: rest
      ∧ ReportFits s :=
  ⟨{ cooking with line.queue := [⟨.reading, false⟩] }, [], rfl, rfl, rfl, rfl, reportFits_of (by decide +kernel)⟩

theorem witness_LineStateChanges_status_fits :
    ∃ (s : State) (e : QEntry) (rest : List QEntry),
      s.line.state = .idle ∧ unnumbered s = false ∧ sendingFrame s = none ∧ s.line.queue = e :: rest
      ∧ FrameFits s e.frame :=
  ⟨{ cooking with line.queue := [⟨.status, false⟩] }, ⟨.status, false⟩, [], rfl, rfl, rfl, rfl,
    reportFits_of (by decide +kernel)⟩

theorem witness_LineStateChanges_notice_fits :
    ∃ (s : State) (e : QEntry) (rest : List QEntry),
      s.line.state = .idle ∧ unnumbered s = false ∧ sendingFrame s = none ∧ s.line.queue = e :: rest
      ∧ FrameFits s e.frame :=
  ⟨{ oven with line.queue := [⟨.notice .configDefaults 65535 24 65535, false⟩] },
    ⟨.notice .configDefaults 65535 24 65535, false⟩, [], rfl, rfl, rfl, rfl, ⟨by decide, by decide, by decide⟩⟩

theorem witness_LineStateChanges_raise_fits :
    ∃ (s : State) (e : QEntry) (rest : List QEntry),
      s.line.state = .idle ∧ unnumbered s = false ∧ sendingFrame s = none ∧ s.line.queue = e :: rest
      ∧ FrameFits s e.frame :=
  ⟨{ oven with line.queue := [⟨.raise .power 3 1100, false⟩] }, ⟨.raise .power 3 1100, false⟩, [], rfl, rfl, rfl, rfl,
    ⟨by decide, by decide⟩⟩

theorem witness_LineStateChanges_trip_fits :
    ∃ (s : State) (e : QEntry) (rest : List QEntry),
      s.line.state = .idle ∧ unnumbered s = false ∧ sendingFrame s = none ∧ s.line.queue = e :: rest
      ∧ FrameFits s e.frame :=
  ⟨{ oven with line.queue := [⟨.trip 15 3, false⟩] }, ⟨.trip 15 3, false⟩, [], rfl, rfl, rfl, rfl,
    ⟨by decide, by decide⟩⟩

/-! Base load (R25) -/

theorem witness_CrossingLaysOutAFrame_fan_carried :
    ∃ (s : State) (interval volts : Nat),
      (s.power.inFrame = false ∨ (s.power.inFrame = true ∧ s.power.slot = 19)) ∧ frozen s = true
      ∧ s.startup.restarting = false ∧ s.power.freq ≠ .undecided ∧ s.climate.order.Nodup
      ∧ s.startup.supply.baseLoad ≤ s.startup.supply.capacity ∧ GenSettled s ∧ SteamOutputs s
      ∧ baseRequested s = true ∧ s.startup.supply.baseLoad = s.share.holds.power :=
  ⟨{ cooking with share.holds := ⟨8, 0, 0⟩ }, 10000, 230, .inl rfl, rfl, rfl, by decide, by decide, by decide,
    genSettled_of rfl, steamOutputs_of (by decide +kernel), rfl, rfl⟩

theorem witness_CrossingLaysOutAFrame_fan_pending :
    ∃ (s : State) (interval volts : Nat),
      (s.power.inFrame = false ∨ (s.power.inFrame = true ∧ s.power.slot = 19)) ∧ frozen s = true
      ∧ s.startup.restarting = false ∧ s.power.freq ≠ .undecided ∧ s.climate.order.Nodup
      ∧ s.startup.supply.baseLoad ≤ s.startup.supply.capacity ∧ GenSettled s ∧ SteamOutputs s
      ∧ baseRequested s = true ∧ s.share.holds.power + 1 = s.startup.supply.baseLoad :=
  ⟨{ cooking with share.holds := ⟨7, 0, 0⟩ }, 10000, 230, .inl rfl, rfl, rfl, by decide, by decide, by decide,
    genSettled_of rfl, steamOutputs_of (by decide +kernel), rfl, rfl⟩

/-- R25: with a hold of 8 pu a base load of 8 pu is carried, and the fan runs; with 7 pu it does not. -/
theorem test_fan_runs_with_a_hold_of_8 :
    (after (.zeroCrossing 10000 230) { cooking with share.holds := ⟨8, 0, 0⟩ }).power.base = ⟨true, false, false, false⟩
    ∧ (after (.zeroCrossing 10000 230) { cooking with share.holds := ⟨7, 0, 0⟩ }).power.base = PerActuator.all false := by
  decide +kernel

/-- A frame that carries the base load of a running fan. -/
def carrying : State :=
  { framed with power := { framed.power with carriesBase := true, base := ⟨true, false, false, false⟩ } }

theorem witness_CrossingLaysOutAFrame_vent_starts_within_a_frame :
    ∃ s t : State,
      BaseFollows s ∧ step s = .next t ∧ s.power.base.vent = false ∧ t.power.base.vent = true
      ∧ s.power.inFrame = true ∧ s.power.slot < 20 ∧ t.power.inFrame = true
      ∧ (∀ interval volts : Nat, s.pending.head? = some (.zeroCrossing interval volts) → s.power.slot ≠ 19)
      ∧ s.power.carriesBase = true ∧ s.startup.supply.baseLoad ≤ t.share.holds.power :=
  ⟨{ carrying with climate.humidityTarget := some 20, pending := [.climateSample] },
    after .climateSample { carrying with climate.humidityTarget := some 20 },
    ⟨fun _ _ => rfl, fun a => by cases a <;> decide, fun h => absurd h (by simp [carrying, framed, cooking, oven, Startup.reset])⟩,
    rfl, rfl, by decide +kernel, rfl, by decide, by decide +kernel, fun _ _ h => absurd h (by simp), rfl, by decide +kernel⟩

theorem witness_CrossingLaysOutAFrame_fan_stops_with_its_request :
    ∃ s t : State,
      BaseFollows s ∧ step s = .next t ∧ s.power.base.fan = true ∧ t.power.base.fan = false ∧ t.power.carriesBase = true :=
  ⟨{ carrying with pending := [.doorOpens], climate.doorInputOpen := true },
    after .doorOpens { carrying with climate.doorInputOpen := true },
    ⟨fun _ _ => rfl, fun a => by cases a <;> decide, fun h => absurd h (by simp [carrying, framed, cooking, oven, Startup.reset])⟩,
    rfl, rfl, by decide +kernel, by decide +kernel⟩

theorem witness_CrossingLaysOutAFrame_none_starts_without_base_load :
    ∃ s t : State,
      BaseFollows s ∧ step s = .next t ∧ s.power.inFrame = true ∧ s.power.carriesBase = false
      ∧ (baseRequests t).fan = true ∧ t.power.base.fan = false :=
  ⟨{ framed with pending := [.climateSample] }, after .climateSample framed,
    ⟨fun _ _ => rfl, fun a => by cases a <;> decide, fun h => absurd h (by simp [framed, cooking, oven, Startup.reset])⟩,
    rfl, rfl, rfl, by decide +kernel, by decide +kernel⟩

theorem witness_CrossingLaysOutAFrame_outside_a_frame :
    ∃ (s t : State) (a : Actuator),
      step s = .next t ∧ s.power.inFrame = false ∧ t.power.inFrame = false ∧ t.power.base.get a = true :=
  ⟨{ cooking with power.base.fan := true, pending := [.climateSample] }, after .climateSample { cooking with power.base.fan := true },
    .fan, rfl, rfl, by decide +kernel, by decide +kernel⟩

theorem witness_CrossingLaysOutAFrame_hold_falls_below_the_base_load :
    ∃ s t : State,
      step s = .next t ∧ (∀ vetoed : Bool, s.pending.head? ≠ some (.ownFrameComplete vetoed))
      ∧ t.startup.supply = s.startup.supply ∧ s.startup.supply.baseLoad ≤ s.share.holds.power
      ∧ t.share.holds.power < s.startup.supply.baseLoad ∧ s.power.base.fan = true ∧ (baseRequests s).fan = true :=
  ⟨{ carrying with share.holds := ⟨8, 0, 0⟩, startup.supply.capacity := 207, pending := [.lowerReceived 3 .power 0 200 false] },
    after (.lowerReceived 3 .power 0 200 false) { carrying with share.holds := ⟨8, 0, 0⟩, startup.supply.capacity := 207 },
    rfl, fun _ h => absurd h (by simp), by decide +kernel, by decide +kernel, by decide +kernel, rfl, rfl⟩

/-! Chains from RUN_MANUAL (R125, R137) -/

theorem witness_StartEntersTheFirstStage_manual_skipped :
    ∃ (s : State) (h : HeatStage) (skip : Option Skip) (record : List Byte) (clamped : Option Nat) (links : Nat) (r : Rest),
      PanelFree s ∧ frozen s = true ∧ (s.recipe.state = .idle ∨ s.recipe.state = .loaded)
      ∧ recordLengthOk record = true ∧ judgeRecord 0 record = .taken (.heat h skip) clamped ∧ h.branches = []
      ∧ descaleActive s.descale = false ∧ s.steam.acid = false ∧ tripRefuses s = false ∧ s.line.queue = []
      ∧ EntryRests { s with recipe := { s.recipe with store := [.heat h skip], tag := 0 } } links 1 [] r
      ∧ skip = some .probeAbsent :=
  ⟨oven, combi, some .probeAbsent, bytesOf [0, 219, 0, 2, 7, 8, 0, 0, 3, 232, 0, 2, 0, 0], none, 1, .finishes,
    panelFree_of rfl, rfl, .inl rfl, rfl, by decide +kernel, rfl, rfl, rfl, rfl, rfl,
    .skipsHeat 0 1 [] combi .probeAbsent _ rfl rfl (.past 2 [] (by decide)), rfl⟩

/-- R157: the RESULT of START stands in front of the notices of the stage it enters. -/
theorem test_result_in_front_of_stage_begin :
    (after .start loaded).line.queue.filter (·.frame.isReport)
      = [⟨.result .start .accepted 0, false⟩, ⟨.notice .stageBegin 9 1 0, false⟩] := by decide +kernel

/-! Stages and readings (R128 to R130) -/

/-- A program whose first stage ends on TEMP or CORE, with a COMBI stage behind it. -/
def endsOnReading (h : HeatStage) : State :=
  { cooking with recipe := { cooking.recipe with store := [.heat h none, .heat combi none], count := 2, phaseStarted := false } }

def tempStage : HeatStage := { combi with endKind := .temp, duration := none }
def coreStage : HeatStage := { combi with endKind := .core, duration := none, core := some 600 }
def eitherStage : HeatStage := { combi with endKind := .either, core := some 600 }
def timedFromTarget : HeatStage := { combi with atTarget := true }

/-- The inputs with CAV and CORE at a value. -/
def cavAndCore (v w : Int) : SensorInputs := ⟨.readable v, .readable w, .readable 970, .readable 40, 300⟩

theorem witness_ProgramTimersMoveOn_temp_at_the_target :
    ∃ (s : State) (x : SensorInputs) (h : HeatStage) (links : Nat) (r : Rest),
      unnumbered s = false ∧ s.line.queue = [] ∧ s.steam.request = .none ∧ s.recipe.state = .running
      ∧ currentHeat s.recipe = some h ∧ EndsNow (withReadings x s) h ∧ links ≤ 17000
      ∧ EntryRests (withReadings x s) links (s.recipe.cur + 1) s.recipe.stack r ∧ h.endKind = .temp :=
  ⟨endsOnReading tempStage, cavAt 1780, tempStage, 0, .begins 2 combi [], rfl, rfl, rfl, rfl, rfl,
    ⟨1780, rfl, by decide⟩, by decide,
    .begins 2 [] combi none rfl (fun _ h => nomatch h) (stageHolds_time (d := 1000) rfl rfl (by decide)), rfl⟩

theorem witness_ProgramTimersMoveOn_core_at_the_target :
    ∃ (s : State) (x : SensorInputs) (h : HeatStage) (links : Nat) (r : Rest),
      unnumbered s = false ∧ s.line.queue = [] ∧ s.steam.request = .none ∧ s.recipe.state = .running
      ∧ currentHeat s.recipe = some h ∧ EndsNow (withReadings x s) h ∧ links ≤ 17000
      ∧ EntryRests (withReadings x s) links (s.recipe.cur + 1) s.recipe.stack r ∧ h.endKind = .core :=
  ⟨{ endsOnReading coreStage with recipe.probePresent := true, recipe.store := [.heat coreStage none] }, cavAndCore 1500 600,
    coreStage, 0, .finishes, rfl, rfl, rfl, rfl, rfl, .inl ⟨rfl, 600, 600, rfl, rfl, by decide⟩, by decide,
    .past 2 [] (by decide), rfl⟩

theorem witness_ProgramTimersMoveOn_either_by_core :
    ∃ (s : State) (x : SensorInputs) (h : HeatStage) (links : Nat) (r : Rest),
      unnumbered s = false ∧ s.line.queue = [] ∧ s.steam.request = .none ∧ s.recipe.state = .running
      ∧ currentHeat s.recipe = some h ∧ EndsNow (withReadings x s) h ∧ links ≤ 17000
      ∧ EntryRests (withReadings x s) links (s.recipe.cur + 1) s.recipe.stack r ∧ h.endKind = .either :=
  ⟨{ endsOnReading eitherStage with recipe.probePresent := true }, cavAndCore 1500 600, eitherStage, 0, .begins 2 combi [],
    rfl, rfl, rfl, rfl, rfl, .inr ⟨rfl, 600, 600, rfl, rfl, by decide⟩, by decide,
    .begins 2 [] combi none rfl (fun _ h => nomatch h) (stageHolds_time (d := 1000) rfl rfl (by decide)), rfl⟩

/-- R129: TEMP ends at a CAV of 178.0 °C for a target of 180.0 °C and not at 177.9 °C; the next stage begins. -/
theorem test_temp_stage_ends_at_its_target :
    (after (.sensorReading (cavAt 1780)) (endsOnReading tempStage)).recipe.cur = 2
    ∧ (after (.sensorReading (cavAt 1779)) (endsOnReading tempStage)).recipe.cur = 1 := by decide +kernel

theorem witness_ProgramTimersMoveOn_timed_phase_starts :
    ∃ (s t : State) (x : SensorInputs) (h : HeatStage),
      exec (.sensorReading x) s = .next t ∧ currentHeat s.recipe = some h ∧ s.recipe.state = .running
      ∧ ¬ EndsNow (withReadings x s) h ∧ s.recipe.phaseStarted = false ∧ AtTarget (withReadings x s) h
      ∧ t.recipe.phaseStarted = true :=
  ⟨endsOnReading timedFromTarget, after (.sensorReading (cavAt 1780)) (endsOnReading timedFromTarget), cavAt 1780,
    timedFromTarget, rfl, rfl, rfl, by rintro ⟨d, h, hd⟩; cases h; revert hd; decide, rfl, ⟨1780, rfl, by decide⟩,
    by decide +kernel⟩

theorem witness_ProgramTimersMoveOn_timed_phase_waits :
    ∃ (s t : State) (x : SensorInputs) (h : HeatStage),
      exec (.sensorReading x) s = .next t ∧ currentHeat s.recipe = some h ∧ s.recipe.state = .running
      ∧ ¬ EndsNow (withReadings x s) h ∧ s.recipe.phaseStarted = false ∧ ¬ AtTarget (withReadings x s) h
      ∧ t.recipe.phaseStarted = false :=
  ⟨endsOnReading timedFromTarget, after (.sensorReading (cavAt 1779)) (endsOnReading timedFromTarget), cavAt 1779,
    timedFromTarget, rfl, rfl, rfl, by rintro ⟨d, h, hd⟩; cases h; revert hd; decide, rfl,
    by rintro ⟨v, h, hv⟩; cases h; revert hv; decide, by decide +kernel⟩

theorem witness_ProgramTimersMoveOn_prompting_at_a_reading :
    ∃ (s : State) (x : SensorInputs) (h : HeatStage),
      currentHeat s.recipe = some h ∧ (s.recipe.state = .running → ¬ EndsNow (withReadings x s) h) :=
  ⟨prompting, cavAt 1780, asking, rfl, fun h => absurd h (by decide)⟩

end Sys2Proof.Tests
end

/-!
The descale leaves PREP through DRAIN_OUT (R104). First what the operations of a service request and of an entry into a
phase leave behind, then a panel command that a free line hands to its owner, then the statement.
-/
namespace Sys2Proof.Machine

/-! ### The generator behind the operations of a service request -/

@[simp] theorem wantInlet_steam (s : State) : (wantInlet s).steam = { s.steam with inletWant := true } := by
  unfold wantInlet
  split
  next h => rw [← h]
  next => simp

@[simp] theorem wantDrain_steam (s : State) : (wantDrain s).steam = { s.steam with drainWant := true } := by
  unfold wantDrain
  split
  next h => rw [← h]
  next => simp

@[simp] theorem unwantInlet_steam (s : State) : (unwantInlet s).steam = { s.steam with inletWant := false } := by
  unfold unwantInlet
  split
  next => simp
  next h => rw [← Bool.eq_false_of_not_eq_true h]

@[simp] theorem unwantDrain_steam (s : State) : (unwantDrain s).steam = { s.steam with drainWant := false } := by
  unfold unwantDrain
  split
  next => simp
  next h => rw [← Bool.eq_false_of_not_eq_true h]

/-- R94, R95: a cleared request leaves neither fill nor drain, and neither want. -/
@[simp] theorem clearRequest_steam (s : State) :
    (clearRequest s).steam =
      { s.steam with fill := none, drain := none, request := .none, inletWant := false, drainWant := false } := by
  simp [clearRequest, clearFill, clearDrain]

/-- R95: FILL begins a service fill with the whole budget. -/
@[simp] theorem giveRequest_fill_steam (v : Nat) (s : State) :
    (giveRequest (.fill v) s).steam =
      { s.steam with
        fill := some ⟨.service, v, 0, false⟩, drain := none, request := .fill v
        inletWant := true, drainWant := false } := by
  simp [giveRequest, beginFill]

/-- R95: DRAIN begins a drain with its times at 0. -/
@[simp] theorem giveRequest_drain_steam (s : State) :
    (giveRequest .drain s).steam =
      { s.steam with
        fill := none, drain := some ⟨0, 0⟩, request := .drain, inletWant := false, drainWant := true } := by
  simp [giveRequest, beginDrain]

/-- R95: HEAT begins neither fill nor drain. -/
@[simp] theorem giveRequest_heat_steam (v : Int) (s : State) :
    (giveRequest (.heat v) s).steam =
      { s.steam with fill := none, drain := none, request := .heat v, inletWant := false, drainWant := false } := by
  simp [giveRequest]

/-- A settled generator keeps its state and its request, with the fill or drain that the request began. -/
theorem settle_keeps_request {s : State} (h : judgeSteam s = s) :
    (settle s).steam.gen = s.steam.gen ∧ (settle s).steam.request = s.steam.request
      ∧ (settle s).steam.fill = s.steam.fill ∧ (settle s).steam.drain = s.steam.drain := by
  obtain ⟨-, -, ⟨hout, -, -⟩, -⟩ := settle_of_fixed h
  unfold OutputsOnly at hout
  exact ⟨(congrArg Steam.gen hout :), (congrArg Steam.request hout :), (congrArg Steam.fill hout :),
    (congrArg Steam.drain hout :)⟩

/-- R94: a generator that is lent is not judged by whether steam is wanted. -/
theorem judgeSteam_of_service {s : State} (h : s.steam.gen = .service) : judgeSteam s = s := by
  simp [judgeSteam, h]

/-- The program stands across an operation that leaves it and the settling behind it. -/
theorem programStands_settle {s u : State} (hj : judgeSteam u = u) (hr : u.recipe = s.recipe) :
    ProgramStands s (settle u) := by
  obtain ⟨-, -, -, hp⟩ := settle_of_fixed hj
  rwa [ProgramStands, hr] at hp

/-! ### Entering a phase -/

@[simp] theorem enterPhase_phase (p : Phase) (k : Nat) (c : DescaleCause) (s : State) :
    (enterPhase p k c s).descale.phase = p := by
  simp [enterPhase]

/-- R105: DOSE asks for its fill while HIGH reads DRY. -/
theorem enterDose_of_high_dry {s : State} (h : s.steam.levels.high = false) :
    enterDose s = giveRequest (.fill 600) (enterPhase .dose 0 .none s) := by
  simp [enterDose, h]

/-- R105, R83: DOSE gives way to SOAK_HEAT at once while HIGH reads WET. -/
theorem enterDose_of_high_wet {s : State} (h : s.steam.levels.high = true) :
    enterDose s = enterSoakHeat (clearRequest (giveRequest (.fill 600) (enterPhase .dose 0 .none s))) := by
  simp [enterDose, h]

/-- R105: the phase and the request of a dose that begins. -/
theorem enterDose_request_of_high_dry {s : State} (h : s.steam.levels.high = false) :
    (enterDose s).descale.phase = .dose ∧ (enterDose s).steam.request = .fill 600
      ∧ (enterDose s).steam.fill = some ⟨.service, 600, 0, false⟩ ∧ (enterDose s).steam.drain = none := by
  simp [enterDose_of_high_dry h]

/-- R106: the phase and the request of SOAK_HEAT. -/
theorem enterSoakHeat_request (s : State) :
    (enterSoakHeat s).descale.phase = .soakHeat ∧ (enterSoakHeat s).steam.request = .heat 700
      ∧ (enterSoakHeat s).steam.fill = none := by
  simp [enterSoakHeat]

/-- R104: DRAIN_OUT asks for its drain while LOW reads WET. -/
theorem enterDrainOut_of_low_wet {s : State} (h : s.steam.levels.low = true) :
    enterDrainOut s = giveRequest .drain (enterPhase .drainOut 0 .none s) := by
  simp [enterDrainOut, h]

/-- R104: DRAIN_OUT gives way to DOSE at once while LOW reads DRY. -/
theorem enterDrainOut_of_low_dry {s : State} (h : s.steam.levels.low = false) :
    enterDrainOut s = enterDose (enterPhase .drainOut 0 .none s) := by
  simp [enterDrainOut, h]

/-- R104: with LOW DRY no drain is asked for, whatever HIGH reads. -/
theorem enterDrainOut_skips_drain {s : State} (h : s.steam.levels.low = false) :
    (enterDrainOut s).descale.phase ≠ .drainOut ∧ (enterDrainOut s).steam.request ≠ .drain := by
  rw [enterDrainOut_of_low_dry h]
  cases hh : s.steam.levels.high with
  | false =>
    obtain ⟨hp, hr, -, -⟩ := enterDose_request_of_high_dry (s := enterPhase .drainOut 0 .none s) (by simpa using hh)
    simp [hp, hr]
  | true =>
    rw [enterDose_of_high_wet (by simpa using hh)]
    simp [enterSoakHeat_request]

/-! ### Frames of the transmit queue -/

theorem mem_insertFrame (f : TxFrame) (q : List QEntry) : (⟨f, false⟩ : QEntry) ∈ insertFrame f q := by
  induction q with
  | nil => simp [insertFrame]
  | cons e q ih =>
    unfold insertFrame
    split
    · exact List.mem_cons_of_mem e ih
    · exact List.mem_cons_self

/-- R76: a notice always finds a place in the queue of a numbered part. -/
theorem queued_enqueue_notice {s : State} (h : unnumbered s = false) (code : NoticeCode) (tag index detail : Nat) :
    Queued (.notice code tag index detail) (enqueue (.notice code tag index detail) s) := by
  simp [Queued, enqueue, h, setQueue, enqueueQueue, addReport, addFrame, mem_insertFrame]

/-- R114: the entry into a phase queues DESCALE_PHASE with the phase and the cause. -/
theorem queued_enterPhase {s : State} (h : unnumbered s = false) (p : Phase) (k : Nat) (c : DescaleCause) :
    Queued (.notice .descalePhase (noticeTag s.recipe) s.recipe.cur (descaleCode p k * 256 + c.code))
      (enterPhase p k c s) := by
  simp only [enterPhase, notice, noticeAt, State.setDescale_recipe]
  apply queued_enqueue_notice
  exact h

/-! ### The end of a descale -/

/-- R94: a released generator holds no request, and is settled where no program is active. -/
theorem releaseGenerator_settled {s : State} (h : programActive s.recipe = false) :
    (releaseGenerator s).steam.request = .none ∧ GenSettled (releaseGenerator s) := by
  have hw : steamWanted (releaseGenerator s) = false := by simp [steamWanted, h]
  have hg : (releaseGenerator s).steam.request = .none
      ∧ ((releaseGenerator s).steam.gen = .cooling ∨ (releaseGenerator s).steam.gen = .empty) := by
    unfold releaseGenerator genFromLevels
    split <;> simp [enterCooling, enterEmpty]
  obtain ⟨hr, hg | hg⟩ := hg <;> simp [GenSettled, hr, hg, hw]

/-- An ended phase leaves a settled generator without a request, where no program is active. -/
theorem endPhase_settled {s : State} (h : programActive s.recipe = false) (p : Phase) (c : DescaleCause) :
    (endPhase p c s).steam.request = .none ∧ judgeSteam (endPhase p c s) = endPhase p c s := by
  obtain ⟨hr, hs⟩ := releaseGenerator_settled h
  refine ⟨by simpa [endPhase] using hr, judgeSteam_of_settled (genSettled_congr hs ?_ ?_ ?_ ?_)⟩
  · apply steamWanted_congr <;> simp [endPhase]
  all_goals simp [endPhase]

/-- R112, R114: a fault of an active descale goes by the acid marker, and its notice names phase and cause. -/
theorem queued_descaleFault {s : State} (h : unnumbered s = false) (ha : descaleActive s.descale = true)
    (c : DescaleCause) :
    Queued (.notice .descalePhase (noticeTag s.recipe) s.recipe.cur ((if s.steam.acid then 17 else 0) * 256 + c.code))
      (descaleFault c s) := by
  have hq := queued_enterPhase (s := releaseGenerator s) (by simpa [unnumbered] using h)
    (if s.steam.acid then .holdAcid else .off) 0 c
  cases hacid : s.steam.acid <;> simpa [descaleFault, ha, endPhase, hacid, descaleCode] using hq

/-! ### A panel command on a free line -/

/-- The state in which the owner of a panel command judges it: the frame has been received and its sender heard. -/
def commandHeard (s : State) : State := takeFrame s.startup.partner false (beginReceive s)

/-- Where the line is free, the reception of a command leaves these blocks as they are. -/
theorem commandHeard_frame {s : State} (h : LineFree s) :
    (commandHeard s).startup = s.startup ∧ (commandHeard s).superv = s.superv ∧ (commandHeard s).steam = s.steam
      ∧ (commandHeard s).descale = s.descale := by
  obtain ⟨-, hraise, -, hrest⟩ := h
  simp [commandHeard, beginReceive_of_free hraise hrest]

/-- R155: a command that finds no CONFIG_FAULT and no RESTART is judged by its owner. -/
theorem takeCommand_of_panelFree {s : State} (h : PanelFree s) (k : CmdKind) (owner : State → State) :
    takeCommand k owner s = settle (markClosed (owner (commandHeard s))) := by
  obtain ⟨hline, hconfig, hrestart⟩ := h
  obtain ⟨hstartup, hsuperv, -, -⟩ := commandHeard_frame hline
  obtain ⟨hnumbered, -, -, -⟩ := hline
  simp only [takeCommand, hnumbered, closeFrame]
  change settle (markClosed (judgeCommand k owner (commandHeard s))) = _
  simp [judgeCommand, hstartup, hsuperv, hconfig, hrestart]

/-! ### DRAIN_OUT -/

/-- No block outside the six changes where the four others and the waiting commands stand. -/
theorem onlyTouches_descaling {s t : State} (hp : t.pending = s.pending) (hu : t.startup = s.startup)
    (hc : t.climate = s.climate) (hv : t.superv = s.superv) :
    OnlyTouches [.power, .share, .line, .steam, .descale, .recipe] s t := by
  refine ⟨hp, fun b hb => ?_⟩
  cases b with
  | startup => exact hu
  | climate => exact hc
  | superv => exact hv
  | power | share | line | steam | descale | recipe => exact absurd hb (by decide)

/-- R103, R104: DESCALE_CONFIRM in PREP leaves the phase and the request with which DRAIN_OUT is entered. -/
theorem descaleConfirm_enters_drainOut {s : State} (h : PanelFree s) (hp : s.descale.phase = .prep)
    (hg : s.steam.gen = .service) :
    ∃ u : State, u.steam = s.steam ∧ ∃ t, exec .descaleConfirm s = .next t
      ∧ t.descale.phase = (enterDrainOut u).descale.phase ∧ t.steam.request = (enterDrainOut u).steam.request
      ∧ t.steam.fill = (enterDrainOut u).steam.fill ∧ t.steam.drain = (enterDrainOut u).steam.drain := by
  have ⟨hline, _, _⟩ := h
  obtain ⟨-, -, hsteam, hdescale⟩ := commandHeard_frame hline
  let u := respond .descaleConfirm .accepted noDetail (commandHeard s)
  have hu : u.steam = s.steam := by simp [u, hsteam]
  have hgu : (enterDrainOut u).steam.gen = .service := by simp [hu, hg]
  have howner : descaleConfirm (commandHeard s) = settle (enterDrainOut u) := by
    simp [descaleConfirm, hdescale, hp, u]
  obtain ⟨hgen, hreq, hfill, hdrain⟩ := settle_keeps_request (judgeSteam_of_service hgu)
  obtain ⟨-, hreq', hfill', hdrain'⟩ := settle_keeps_request (s := markClosed (settle (enterDrainOut u)))
    (judgeSteam_of_service (by simp [hgen, hu, hg]))
  refine ⟨u, hu, takeCommand .descaleConfirm descaleConfirm s, rfl, ?_⟩
  rw [takeCommand_of_panelFree h, howner]
  simp [hreq, hfill, hdrain, hreq', hfill', hdrain']

/-- R104: LOW decides at DESCALE_CONFIRM between the drain and the dose. -/
theorem descaleConfirm_reads_low {s : State} (h : PanelFree s) (hp : s.descale.phase = .prep)
    (hg : s.steam.gen = .service) :
    ∃ t, exec .descaleConfirm s = .next t
      ∧ (s.steam.levels.low = true →
          t.descale.phase = .drainOut ∧ t.steam.request = .drain ∧ t.steam.drain = some ⟨0, 0⟩)
      ∧ (s.steam.levels.low = false →
          t.descale.phase ≠ .drainOut ∧ t.steam.request ≠ .drain
          ∧ (s.steam.levels.high = false →
              t.descale.phase = .dose ∧ t.steam.request = .fill 600
              ∧ t.steam.fill = some ⟨.service, 600, 0, false⟩ ∧ t.steam.drain = none)) := by
  obtain ⟨u, hu, t, hexec, hphase, hreq, hfill, hdrain⟩ := descaleConfirm_enters_drainOut h hp hg
  refine ⟨t, hexec, ?_⟩
  rw [hphase, hreq, hfill, hdrain, ← hu]
  refine ⟨fun hlow => ?_, fun hlow => ?_⟩
  · simp [enterDrainOut_of_low_wet hlow]
  · obtain ⟨hskip, hskip'⟩ := enterDrainOut_skips_drain hlow
    refine ⟨hskip, hskip', fun hhigh => ?_⟩
    rw [enterDrainOut_of_low_dry hlow]
    exact enterDose_request_of_high_dry (by simpa using hhigh)

/-- R104: the DONE of the drain leads to DOSE. -/
theorem drainDone_of_drainOut {s : State} (h : s.descale.phase = .drainOut) :
    drainDone s = enterDose (clearRequest s) := by
  simp [drainDone, h]

/-- R104: the dry time that ends in DRAIN_OUT is the DONE of its drain. -/
theorem drainDryTimeEnd_leads_to_dose {s : State} {d : Drain} (hg : s.steam.gen = .service)
    (hp : s.descale.phase = .drainOut) (hd : s.steam.drain = some d) (hpump : s.power.base.pump = true)
    (hlow : s.steam.levels.low = false) (hhigh : s.steam.levels.high = false) :
    ∃ t, exec .drainDryTimeEnd s = .next t
      ∧ t.descale.phase = .dose ∧ t.steam.request = .fill 600 ∧ t.steam.fill = some ⟨.service, 600, 0, false⟩
      ∧ t.steam.drain = none ∧ t.steam.gen = .service ∧ t.steam.acid = s.steam.acid
      ∧ ProgramStands s t ∧ OnlyTouches [.power, .share, .line, .steam, .descale, .recipe] s t := by
  have hend : drainDryTimeEnd s = settle (enterDose (clearRequest s)) := by
    simp [drainDryTimeEnd, hd, hpump, hlow, hg, drainDone_of_drainOut hp]
  obtain ⟨hphase, hreq, hfill, hdrain⟩ :=
    enterDose_request_of_high_dry (s := clearRequest s) (by simpa using hhigh)
  have hfixed : judgeSteam (enterDose (clearRequest s)) = _ := judgeSteam_of_service (by simp [hg])
  obtain ⟨hgen', hreq', hfill', hdrain'⟩ := settle_keeps_request hfixed
  refine ⟨drainDryTimeEnd s, rfl, ?_⟩
  rw [hend]
  refine ⟨by simp [hphase], hreq'.trans hreq, hfill'.trans hfill, hdrain'.trans hdrain, by simp [hgen', hg], by simp,
    programStands_settle hfixed (by simp), ?_⟩
  apply onlyTouches_descaling <;> simp

/-- R104, R112: the FAILED of the drain faults the descale with DRAIN_FAULT. -/
theorem pumpTimeLimit_faults_drainOut {s : State} {d : Drain} (hn : unnumbered s = false)
    (hprog : programActive s.recipe = false) (hg : s.steam.gen = .service) (hp : s.descale.phase = .drainOut)
    (hd : s.steam.drain = some d) (hpump : s.power.base.pump = true) :
    ∃ t, exec .pumpTimeLimit s = .next t
      ∧ t.descale.phase = (if s.steam.acid then .holdAcid else .off)
      ∧ Queued (.notice .descalePhase (noticeTag s.recipe) s.recipe.cur
          ((if s.steam.acid then 17 else 0) * 256 + DescaleCause.drainFault.code)) t
      ∧ t.steam.request = .none ∧ t.steam.acid = s.steam.acid
      ∧ ProgramStands s t ∧ OnlyTouches [.power, .share, .line, .steam, .descale, .recipe] s t := by
  let u := clearRequest s
  have hend : pumpTimeLimit s = settle (descaleFault .drainFault u) := by
    simp [pumpTimeLimit, hd, hpump, hg, u]
  have hactive : descaleActive u.descale = true := by simp [u, descaleActive, hp]
  have hfault : descaleFault .drainFault u = endPhase (if u.steam.acid then .holdAcid else .off) .drainFault u := by
    simp [descaleFault, hactive]
  obtain ⟨hreq, hfixed⟩ := endPhase_settled (s := u) (by simpa [u] using hprog)
    (if u.steam.acid then .holdAcid else .off) .drainFault
  have hq := queued_descaleFault (s := u) (by simpa [unnumbered, u] using hn) hactive .drainFault
  rw [← hfault] at hreq hfixed
  obtain ⟨hline, -, -, -⟩ := settle_of_fixed hfixed
  obtain ⟨-, hreq', -, -⟩ := settle_keeps_request hfixed
  refine ⟨pumpTimeLimit s, rfl, ?_⟩
  rw [hend]
  refine ⟨by simp [hfault, endPhase, u], ?_, hreq'.trans hreq, by simp [u],
    programStands_settle hfixed (by simp [u]), ?_⟩
  · simpa [Queued, hline, u] using hq
  · apply onlyTouches_descaling <;> simp [u]

/-- R95, R105: a service fill that ends in DOSE leads to SOAK_HEAT. -/
theorem fillDone_of_dose {s : State} (h : s.descale.phase = .dose) : fillDone s = enterSoakHeat (clearRequest s) := by
  simp [fillDone, h]

/-- R79: HIGH has come to read WET, and nothing has followed from it yet. -/
def withHighWet (s : State) : State :=
  s.setSteam { s.steam with levels := s.steam.levels.set true .high, levelMs := s.steam.levelMs.set 0 .high }

/-- R95, R105: HIGH becoming WET in a dose is the DONE of its fill. -/
theorem levelReadingChange_high_of_dose {s : State} {f : Fill} (hp : s.descale.phase = .dose)
    (hf : s.steam.fill = some f) (hk : f.kind = .service) (hhigh : s.steam.levels.high = false)
    (hinput : s.steam.levelInputs.high = true) :
    levelReadingChange .high s = settle (enterSoakHeat (clearRequest (withHighWet s))) := by
  rw [← fillDone_of_dose (s := withHighWet s) (by simpa [withHighWet] using hp)]
  simp [levelReadingChange, PerElectrode.get, hinput, hhigh, actOnLevel, highWet, hf, hk, withHighWet]

/-- R104, R105: HIGH becoming WET ends the dose before its budget is spent. -/
theorem levelReadingChange_high_ends_dose {s : State} {f : Fill} (hg : s.steam.gen = .service)
    (hp : s.descale.phase = .dose) (hf : s.steam.fill = some f) (hk : f.kind = .service)
    (hhigh : s.steam.levels.high = false) (hinput : s.steam.levelInputs.high = true) :
    ∃ t, exec (.levelReadingChange .high) s = .next t
      ∧ t.descale.phase ≠ .dose ∧ t.steam.fill = none ∧ t.steam.acid = s.steam.acid
      ∧ ProgramStands s t ∧ OnlyTouches [.power, .share, .line, .steam, .descale, .recipe] s t := by
  let u := clearRequest (withHighWet s)
  have hend : levelReadingChange .high s = settle (enterSoakHeat u) :=
    levelReadingChange_high_of_dose hp hf hk hhigh hinput
  obtain ⟨hphase, -, hfill⟩ := enterSoakHeat_request u
  have hfixed : judgeSteam (enterSoakHeat u) = _ := judgeSteam_of_service (by simp [u, withHighWet, hg])
  obtain ⟨-, -, hfill', -⟩ := settle_keeps_request hfixed
  refine ⟨levelReadingChange .high s, rfl, ?_⟩
  rw [hend]
  refine ⟨by simp [hphase], hfill'.trans hfill, by simp [u, withHighWet],
    programStands_settle hfixed (by simp [u, withHighWet]), ?_⟩
  apply onlyTouches_descaling <;> simp [u, withHighWet]

/-- Settles O32: one lemma for each way into DRAIN_OUT or out of it, and one for the dose that HIGH ends. -/
theorem drainOutReadsLow : Obligations.DrainOutReadsLow := by
  unfold Obligations.DrainOutReadsLow
  exact ⟨fun _ hfree _ _ hp hg => descaleConfirm_reads_low hfree hp hg,
    fun _ _ hg hp hd hpump hlow hhigh => drainDryTimeEnd_leads_to_dose hg hp hd hpump hlow hhigh,
    fun _ _ hn _ hprog hg hp hd hpump => pumpTimeLimit_faults_drainOut hn hprog hg hp hd hpump,
    fun _ _ hg hp hf hk hhigh hinput => levelReadingChange_high_ends_dose hg hp hf hk hhigh hinput⟩

end Sys2Proof.Machine

/-!
The check value kept at the freeze (R178). First what the freeze makes of the Start-up Unit and of the check value, then
the length of the byte sequence, then the two commands that freeze, and the statement.
-/
namespace Sys2Proof.Machine

/-! ### The configuration behind the freeze -/

/-- The Start-up Unit behind the freeze: the SUPPLY section as checked and the channel records of the setup window
(R170). -/
def frozenStartup (u : Startup) : Startup :=
  { u with setup := .frozen, windowMs := 0, supply := checkedSupply u.workSupply, channels := u.workChannels }

@[simp] theorem freezeConfig_startup (s : State) : (freezeConfig s).startup = frozenStartup s.startup := by
  unfold freezeConfig
  split <;> simp [frozenStartup]

/-- No block behind the frozen configuration touches the Start-up Unit again. -/
@[simp] theorem freeze_startup (s : State) : (freeze s).startup = frozenStartup s.startup := by
  simp [freeze]

/-- R170: the check of the SUPPLY section answers with the section that freezes. -/
theorem freezesTo_checkedSupply (v : Supply) : FreezesTo v (checkedSupply v) := by
  unfold FreezesTo checkedSupply reverts floorOf floorNeed
  split
  next h => simp [h]
  next h => simp [h]

/-! ### The check value behind the freeze -/

@[simp] theorem judgeChannelSides_checkValue (c : Channel) (s : State) :
    (judgeChannelSides c s).superv.checkValue = s.superv.checkValue := by
  rw [(judgeChannelSides_superv c s).1]

/-- The judging of readings leaves the check value. -/
@[simp] theorem judgeReadings_checkValue (s : State) :
    (judgeReadings s).superv.checkValue = s.superv.checkValue := by
  unfold judgeReadings
  rw [judgeFixed_superv]
  simp

@[simp] theorem startCheck_checkValue (s : State) : (startCheck s).superv.checkValue = s.superv.checkValue := by
  unfold startCheck
  split
  · simp [commandRelay]
  · rfl

/-- R153: supervision begins with the check value of the configuration as it then is. -/
@[simp] theorem superviseFromFreeze_checkValue (s : State) :
    (superviseFromFreeze s).superv.checkValue = configCheckValue s := by
  simp [superviseFromFreeze, startJudging, clearJudging]

/-- R178: the freeze keeps the check value of the very configuration that it freezes. -/
theorem freeze_checkValue (s : State) : (freeze s).superv.checkValue = checkField (configBytes (freeze s).startup) := by
  have hconfig : configCheckValue (freezeConfig s) = checkField (configBytes (frozenStartup s.startup)) := by
    simp [configCheckValue]
  rw [freeze_startup, ← hconfig]
  simp [freeze]

/-! ### The byte sequence -/

@[simp] theorem length_bytes2 (v : Nat) : (bytes2 v).length = 2 := rfl

@[simp] theorem Supply.length_bytes (v : Supply) : v.bytes.length = 19 := by simp [Supply.bytes]

@[simp] theorem ChannelRecord.length_bytes (r : ChannelRecord) : r.bytes.length = 8 := by
  simp [ChannelRecord.bytes, limitBytes]

/-- R178: two numbers, a SUPPLY section and six channel records. -/
theorem length_configBytes (u : Startup) : (configBytes u).length = 69 := by simp [configBytes]

/-! ### The commands that freeze -/

/-- R170: an accepted END freezes behind its RESULT, once the frame that brings it has been received. -/
theorem exec_setupEnd_of_opened {s : State} (hfree : PanelFree s) (hopen : s.startup.setup = .opened) :
    exec (.setupEnd []) s =
      .next (settle (markClosed (freeze (respond .setup .accepted noDetail (commandHeard s))))) := by
  have hheard : (commandHeard s).startup.setup = .opened := by
    obtain ⟨hstartup, -, -, -⟩ := commandHeard_frame hfree.1
    rw [hstartup, hopen]
  have howner : setupCommand 255 [] (commandHeard s) = freeze (respond .setup .accepted noDetail (commandHeard s)) := by
    simp [setupCommand, hheard, setupSection, setupEnd]
  calc exec (.setupEnd []) s = .next (takeCommand .setup (setupCommand 255 []) s) := rfl
    _ = _ := by rw [takeCommand_of_panelFree hfree, howner]

/-- R167: the expiry of the window freezes. -/
theorem exec_setupWindowExpiry_of_opened {s : State} (hopen : s.startup.setup = .opened) :
    exec .setupWindowExpiry s = .next (freeze s) := by
  calc exec .setupWindowExpiry s = .next (setupWindowExpiry s) := rfl
    _ = _ := by simp [setupWindowExpiry, hopen]

/-- R167, R170, R178: END and the expiry alike freeze the working copies, and keep the check value of what they froze. -/
theorem exec_freezes {s : State} {c : Instr}
    (hc : (c = .setupEnd [] ∧ PanelFree s)
      ∨ (c = .setupWindowExpiry ∧ unnumbered s = false ∧ s.startup.restarting = false))
    (hopen : s.startup.setup = .opened) :
    ∃ t, exec c s = .next t ∧ t.startup = frozenStartup s.startup
      ∧ t.superv.checkValue = checkField (configBytes t.startup) := by
  obtain ⟨rfl, hfree⟩ | ⟨rfl, -, -⟩ := hc
  · obtain ⟨hstartup, -, -, -⟩ := commandHeard_frame hfree.1
    refine ⟨_, exec_setupEnd_of_opened hfree hopen, by simp [hstartup], ?_⟩
    simpa using freeze_checkValue (respond .setup .accepted noDetail (commandHeard s))
  · exact ⟨_, exec_setupWindowExpiry_of_opened hopen, freeze_startup s, freeze_checkValue s⟩

/-- R168, R169: POWER_ON gives the SUPPLY section and the channel records their defaults. -/
theorem powerOn_workCopies (station partner : Nat) (s : State) :
    (powerOn station partner s).startup.workSupply = Supply.defaults
      ∧ (powerOn station partner s).startup.workChannels = ChannelRecord.defaults := by
  simp only [powerOn, strapped]
  split <;> exact ⟨rfl, rfl⟩

/-- Settles O19: both commands that freeze keep the check value of the configuration that they froze, and its byte
sequence is the working copies behind the two numbers. -/
theorem checkValueCoversTheConfiguration : Obligations.CheckValueCoversTheConfiguration := by
  unfold Obligations.CheckValueCoversTheConfiguration
  refine ⟨fun s c hc hopen => ?_, fun station partner s => ?_⟩
  · obtain ⟨t, hexec, hstartup, hcheck⟩ := exec_freezes hc hopen
    refine ⟨t, hexec, ?_, ?_, by simp [hstartup, frozenStartup], by simp, by simp, length_configBytes _⟩
    · rw [hcheck, hstartup]
      rfl
    · rw [hstartup]
      exact freezesTo_checkedSupply s.startup.workSupply
  · exact ⟨powerOn station.toNat partner.toNat s, rfl, powerOn_workCopies _ _ s⟩

end Sys2Proof.Machine

/-! The machine right after reset, and the step at the front of the queue. -/
namespace Sys2Proof.Machine

/-- Settles O1: a step is defined by the command at the front of the queue. -/
theorem stepTakesFrontCommand : Obligations.StepTakesFrontCommand := by
  unfold Obligations.StepTakesFrontCommand
  intro c rest s
  rfl

/-- Settles O3, each invariant on the reset values of its blocks. -/
theorem resetMeetsInvariants : Obligations.ResetMeetsInvariants := by
  unfold Obligations.ResetMeetsInvariants
  refine ⟨?_, ?_, ?_, ?_, ?_, ?_, ?_, ?_, ?_⟩
  · simp [QueueInv, QueueSorted, State.reset, Line.reset]
  · simp [DemandInv, State.reset, Climate.reset, Steam.reset]
  · simp [RecipeInv, State.reset, Recipe.reset]
  · simp [ShareInv, State.reset, Share.reset, Startup.reset]
  · refine ⟨fun p => ?_, ?_, ?_⟩
    · cases p <;> exact Nat.zero_le _
    · simp [State.reset, Line.reset]
    · simp [State.reset, Share.reset, raiseQueued, Line.reset]
  · simp [PowerInv, State.reset, Power.reset, Share.reset, Line.reset, baseRuns, PerActuator.all]
  · simp [FaultInv, State.reset, Superv.reset]
  · simp [ScaleInv, State.reset, Steam.reset]
  · simp [SteamOutputs, boilerLimited, State.reset, Steam.reset, Share.reset, frozen, Startup.reset]

end Sys2Proof.Machine

/-!
The transmit queue (R75, R76): what each operation on the queue does to its order, its length and the counts of its
sorts, and that it keeps the bounds of `QueueInv`.
-/
namespace Sys2Proof.Machine

/-! ### Sorts of frames -/

/-- The frames of which R76 lets one wait: SAFETY, YIELD, STATUS, and for each pool LOWER and RAISE together. -/
inductive Sort1 where
  | safety | yields | status | claim (p : Pool)

/-- The frames of a sort. -/
def Sort1.has : Sort1 → TxFrame → Bool
  | .safety, f => f.isSafety
  | .yields, f => f.isYield
  | .status, f => f.isStatus
  | .claim p, f => f.isLower p || f.isRaise p

/-- The number of frames of a sort that wait. -/
def waitingOf (k : Sort1) (q : List QEntry) : Nat := q.countP fun e => !e.sending && k.has e.frame

/-- The number of REPORTs that wait. -/
def waitingReports (q : List QEntry) : Nat := q.countP fun e => !e.sending && e.frame.isReport

/-- The bounds of R75 and R76 on a queue. -/
structure QueueOk (q : List QEntry) : Prop where
  sorted  : QueueSorted q
  length  : q.length ≤ 8
  sending : q.countP (·.sending) ≤ 1
  reports : q.countP (·.frame.isReport) ≤ 5
  waiting : ∀ k, waitingOf k q ≤ 1

theorem queueInv_iff (s : State) : QueueInv s ↔ QueueOk s.line.queue := by
  constructor
  · rintro ⟨h1, h2, h3, h4, h5, h6, h7, h8⟩
    exact ⟨h1, h2, h3, h4, fun k => by cases k <;> first | exact h5 | exact h6 | exact h7 | exact h8 _⟩
  · rintro ⟨h1, h2, h3, h4, h5⟩
    exact ⟨h1, h2, h3, h4, h5 .safety, h5 .yields, h5 .status, fun p => h5 (.claim p)⟩

/-- A queue without some of its frames stays within its bounds. -/
theorem QueueOk.sublist {q q' : List QEntry} (h : QueueOk q) (hs : q'.Sublist q) : QueueOk q' :=
  ⟨h.sorted.sublist hs, hs.length_le.trans h.length, (hs.countP_le).trans h.sending, (hs.countP_le).trans h.reports,
    fun k => (hs.countP_le).trans (h.waiting k)⟩

theorem QueueOk.nil : QueueOk [] := ⟨.nil, by simp, by simp, by simp, fun k => by simp [waitingOf]⟩

/-! ### Removal -/

theorem removeWaiting_sublist (p : TxFrame → Bool) (q : List QEntry) : (removeWaiting p q).Sublist q :=
  List.filter_sublist

theorem dropOldestReport_sublist (q : List QEntry) : (dropOldestReport q).Sublist q := by
  induction q with
  | nil => exact .slnil
  | cons e q ih =>
    unfold dropOldestReport
    split
    · exact List.sublist_cons_self e q
    · exact ih.cons_cons e

/-- Where a REPORT waits, one frame goes, and it is a REPORT. -/
theorem dropOldestReport_counts {q : List QEntry} (h : 1 ≤ waitingReports q) :
    (dropOldestReport q).length + 1 = q.length
      ∧ (dropOldestReport q).countP (·.frame.isReport) + 1 = q.countP (·.frame.isReport) := by
  induction q with
  | nil => simp [waitingReports] at h
  | cons e q ih =>
    unfold dropOldestReport
    split
    next hw =>
      simp only [Bool.and_eq_true] at hw
      simp [hw.2]
    next hw =>
      have hq : 1 ≤ waitingReports q := by
        simp only [waitingReports, List.countP_cons, hw] at h
        simpa [waitingReports] using h
      obtain ⟨hl, hr⟩ := ih hq
      refine ⟨by simp only [List.length_cons]; omega, ?_⟩
      simp only [List.countP_cons]
      omega

/-- Every frame is a REPORT or of one of the six sorts. -/
theorem report_or_sort (f : TxFrame) :
    f.isReport = true ∨ Sort1.safety.has f = true ∨ Sort1.yields.has f = true ∨ Sort1.status.has f = true
      ∨ (Sort1.claim .power).has f = true ∨ (Sort1.claim .inlet).has f = true ∨ (Sort1.claim .drain).has f = true := by
  cases f with
  | lower p _ _ => cases p <;> simp [Sort1.has, TxFrame.isLower]
  | raise p _ _ => cases p <;> simp [Sort1.has, TxFrame.isRaise]
  | _ => simp [Sort1.has, TxFrame.isSafety, TxFrame.isYield, TxFrame.isStatus, TxFrame.isReport, TxFrame.cls]

/-- Every frame is being sent, or is a REPORT that waits, or waits as one of the six sorts. -/
theorem length_le_counts (q : List QEntry) :
    q.length ≤ q.countP (·.sending) + waitingReports q + waitingOf .safety q + waitingOf .yields q + waitingOf .status q
      + waitingOf (.claim .power) q + waitingOf (.claim .inlet) q + waitingOf (.claim .drain) q := by
  induction q with
  | nil => simp
  | cons e q ih =>
    simp only [waitingReports, waitingOf, List.countP_cons, List.length_cons] at ih ⊢
    cases e.sending with
    | true => simp only [Bool.not_true, Bool.false_and]; simp; omega
    | false =>
      simp only [Bool.not_false, Bool.true_and]
      rcases report_or_sort e.frame with h | h | h | h | h | h | h <;> simp only [h, if_true] <;> omega

/-- A queue of eight frames holds a REPORT that waits. -/
theorem QueueOk.report_of_full {q : List QEntry} (h : QueueOk q) (hl : 8 ≤ q.length) : 1 ≤ waitingReports q := by
  have := length_le_counts q
  have := h.sending
  have := h.waiting .safety
  have := h.waiting .yields
  have := h.waiting .status
  have := h.waiting (.claim .power)
  have := h.waiting (.claim .inlet)
  have := h.waiting (.claim .drain)
  omega

/-- Of the REPORTs one at most is being sent. -/
theorem reports_le (q : List QEntry) : q.countP (·.frame.isReport) ≤ q.countP (·.sending) + waitingReports q := by
  induction q with
  | nil => simp
  | cons e q ih =>
    simp only [waitingReports, List.countP_cons] at ih ⊢
    cases e.sending <;> cases e.frame.isReport <;> simp <;> omega

/-! ### Entry -/

theorem insertFrame_perm (f : TxFrame) (q : List QEntry) : (insertFrame f q).Perm (⟨f, false⟩ :: q) := by
  induction q with
  | nil => exact .refl _
  | cons e q ih =>
    unfold insertFrame
    split
    · exact (ih.cons e).trans (.swap _ _ _)
    · exact .refl _

theorem insertFrame_sorted (f : TxFrame) {q : List QEntry} (h : QueueSorted q) : QueueSorted (insertFrame f q) := by
  induction q with
  | nil => simp [insertFrame, QueueSorted]
  | cons e q ih =>
    unfold QueueSorted at h ih
    unfold insertFrame
    rw [List.pairwise_cons] at h
    split
    next hle =>
      refine List.pairwise_cons.2 ⟨fun x hx => ?_, ih h.2⟩
      rcases List.mem_cons.1 ((insertFrame_perm f q).mem_iff.1 hx) with rfl | hx
      · exact hle
      · exact h.1 x hx
    next hlt =>
      refine List.pairwise_cons.2 ⟨fun x hx => ?_, List.pairwise_cons.2 h⟩
      rcases List.mem_cons.1 hx with rfl | hx
      · exact (Nat.lt_of_not_le hlt).le
      · exact (Nat.lt_of_not_le hlt).le.trans (h.1 x hx)

theorem countP_insertFrame (p : QEntry → Bool) (f : TxFrame) (q : List QEntry) :
    (insertFrame f q).countP p = q.countP p + if p ⟨f, false⟩ then 1 else 0 := by
  rw [(insertFrame_perm f q).countP_eq, List.countP_cons]

/-- A frame enters where no frame of its sort waits, and there is room for it. -/
theorem QueueOk.insert {q : List QEntry} (h : QueueOk q) {f : TxFrame} (hl : q.length < 8)
    (hr : f.isReport = true → q.countP (·.frame.isReport) < 5) (hw : ∀ k : Sort1, k.has f = true → waitingOf k q = 0) :
    QueueOk (insertFrame f q) where
  sorted := insertFrame_sorted f h.sorted
  length := by rw [(insertFrame_perm f q).length_eq, List.length_cons]; omega
  sending := by rw [countP_insertFrame]; simpa using h.sending
  reports := by
    rw [countP_insertFrame]
    have := h.reports
    split
    · have := hr ‹_›; omega
    · omega
  waiting k := by
    have := h.waiting k
    have := hw k
    unfold waitingOf at *
    rw [countP_insertFrame]
    split <;> simp_all

/-- R76, the last line: eight frames make room by the oldest REPORT. -/
theorem QueueOk.add {q : List QEntry} (h : QueueOk q) {f : TxFrame}
    (hr : f.isReport = true → q.countP (·.frame.isReport) < 5) (hw : ∀ k : Sort1, k.has f = true → waitingOf k q = 0) :
    QueueOk (addFrame f q) := by
  unfold addFrame queueLimit
  split
  next hfull =>
    have hs := dropOldestReport_sublist q
    obtain ⟨hlen, -⟩ := dropOldestReport_counts (h.report_of_full hfull)
    have hle := h.length
    refine (h.sublist hs).insert (by omega) (fun hf => (hs.countP_le).trans_lt (hr hf)) fun k hk => ?_
    exact Nat.le_zero.1 ((hs.countP_le).trans (hw k hk).le)
  next hroom => exact h.insert (by omega) hr hw

theorem anyWaiting_eq_false {k : Sort1} {q : List QEntry} : anyWaiting k.has q = false ↔ waitingOf k q = 0 := by
  simp only [anyWaiting, List.any_eq_false, waitingOf, List.countP_eq_zero]

/-- What a place of the queue holds once the entering frame has replaced those of its sort. -/
def replaceEntry (p : TxFrame → Bool) (f : TxFrame) (e : QEntry) : QEntry :=
  if !e.sending && p e.frame then ⟨f, false⟩ else e

theorem replaceWaiting_eq_map (p : TxFrame → Bool) (f : TxFrame) (q : List QEntry) :
    replaceWaiting p f q = q.map (replaceEntry p f) := rfl

@[simp] theorem replaceEntry_sending (p : TxFrame → Bool) (f : TxFrame) (e : QEntry) :
    (replaceEntry p f e).sending = e.sending := by
  unfold replaceEntry; split <;> simp_all

/-- What the frames of a sort share is kept as one of them replaces another. -/
theorem replaceEntry_shared {α : Type} (v : TxFrame → α) {p : TxFrame → Bool} {f : TxFrame}
    (h : ∀ g, p g = true → v g = v f) (e : QEntry) : v (replaceEntry p f e).frame = v e.frame := by
  unfold replaceEntry
  split
  next he => rw [Bool.and_eq_true] at he; exact (h _ he.2).symm
  next => rfl

/-- A frame takes the place of the waiting frames of its sort: nothing else changes in the queue. -/
theorem QueueOk.replace {q : List QEntry} (h : QueueOk q) {p : TxFrame → Bool} {f : TxFrame}
    (hc : ∀ g, p g = true → g.cls = f.cls) (hk : ∀ g, p g = true → ∀ k : Sort1, k.has g = k.has f) :
    QueueOk (replaceWaiting p f q) := by
  have hcls := replaceEntry_shared TxFrame.cls hc
  have hhas (k : Sort1) := replaceEntry_shared k.has fun g hg => hk g hg k
  rw [replaceWaiting_eq_map]
  refine ⟨?_, ?_, ?_, ?_, fun k => ?_⟩
  · unfold QueueSorted
    rw [List.pairwise_map]
    simp only [hcls]
    exact h.sorted
  · simpa using h.length
  · simpa [List.countP_map, Function.comp_def] using h.sending
  · simpa [List.countP_map, Function.comp_def, TxFrame.isReport, hcls] using h.reports
  · simpa [waitingOf, List.countP_map, Function.comp_def, hhas] using h.waiting k

/-- A frame of one of the sorts that is put replaces the one that waits, or enters. -/
theorem QueueOk.put {q : List QEntry} (h : QueueOk q) {p : TxFrame → Bool} {f : TxFrame} (hf : f.isReport = false)
    (hc : ∀ g, p g = true → g.cls = f.cls) (hk : ∀ g, p g = true → ∀ k : Sort1, k.has g = k.has f)
    (hw : anyWaiting p q = false → ∀ k : Sort1, k.has f = true → waitingOf k q = 0) : QueueOk (putFrame p f q) := by
  unfold putFrame
  split
  · exact h.replace hc hk
  next hn => exact h.add (by simp [hf]) (hw (by simpa using hn))

/-- R76: a REPORT makes room among five REPORTs. -/
theorem QueueOk.report {q : List QEntry} (h : QueueOk q) {f : TxFrame} (hf : ∀ k : Sort1, k.has f = false) :
    QueueOk (addReport f q) := by
  unfold addReport reportLimit
  split
  next hfull =>
    have hw : 1 ≤ waitingReports q := by have := reports_le q; have := h.sending; omega
    obtain ⟨-, hcount⟩ := dropOldestReport_counts hw
    have := h.reports
    exact (h.sublist (dropOldestReport_sublist q)).add (fun _ => by omega) (fun k hk => by simp [hf] at hk)
  next hroom => exact h.add (fun _ => by omega) (fun k hk => by simp [hf] at hk)

/-- A LOWER or a RAISE of a pool claims that pool alone. -/
theorem has_lower (k : Sort1) (p : Pool) (group hold : Nat) :
    k.has (.lower p group hold) = true ↔ k = .claim p := by
  cases k <;> simp [Sort1.has, TxFrame.isSafety, TxFrame.isYield, TxFrame.isStatus, TxFrame.isLower, TxFrame.isRaise,
    TxFrame.cls, eq_comm]

theorem has_raise (k : Sort1) (p : Pool) (group hold : Nat) :
    k.has (.raise p group hold) = true ↔ k = .claim p := by
  cases k <;> simp [Sort1.has, TxFrame.isSafety, TxFrame.isYield, TxFrame.isStatus, TxFrame.isLower, TxFrame.isRaise,
    TxFrame.cls, eq_comm]

/-- Without its RAISE, a pool is claimed by its LOWER alone. -/
theorem waitingOf_claim_eq_zero {p : Pool} {q : List QEntry} (hl : anyWaiting (TxFrame.isLower p) q = false)
    (hr : anyWaiting (TxFrame.isRaise p) q = false) : waitingOf (.claim p) q = 0 := by
  rw [← anyWaiting_eq_false]
  simp only [anyWaiting, List.any_eq_false, Bool.and_eq_true, Bool.not_eq_true', not_and, Bool.not_eq_true] at hl hr ⊢
  intro e he hs
  simp [Sort1.has, hl e he hs, hr e he hs]

/-- A frame that is a LOWER of the pool. -/
theorem isLower_iff {p : Pool} {f : TxFrame} : f.isLower p = true ↔ ∃ group hold, f = .lower p group hold := by
  cases f <;> simp [TxFrame.isLower]

theorem isRaise_iff {p : Pool} {f : TxFrame} : f.isRaise p = true ↔ ∃ group hold, f = .raise p group hold := by
  cases f <;> simp [TxFrame.isRaise]

/-- R76: a LOWER replaces the waiting LOWER of its pool, and no RAISE of the pool waits beside it. -/
theorem QueueOk.putLower {q : List QEntry} (h : QueueOk q) (p : Pool) (group hold : Nat) :
    QueueOk (enqueueQueue (.lower p group hold) q) := by
  refine (h.sublist (removeWaiting_sublist _ _)).put rfl ?_ ?_ fun hn k hk => ?_
  · intro g hg; obtain ⟨_, _, rfl⟩ := isLower_iff.1 hg; rfl
  · intro g hg k; obtain ⟨_, _, rfl⟩ := isLower_iff.1 hg; rw [Bool.eq_iff_iff, has_lower, has_lower]
  · obtain rfl := (has_lower ..).1 hk
    refine waitingOf_claim_eq_zero hn ?_
    simp [anyWaiting, removeWaiting, List.any_filter]
    grind

/-- R76: a RAISE replaces the waiting RAISE of its pool, and is not put beside a LOWER. -/
theorem QueueOk.putRaise {q : List QEntry} (h : QueueOk q) (p : Pool) (group hold : Nat) :
    QueueOk (enqueueQueue (.raise p group hold) q) := by
  simp only [enqueueQueue]
  split
  · exact h
  next hl =>
    refine h.put rfl ?_ ?_ fun hn k hk => ?_
    · intro g hg; obtain ⟨_, _, rfl⟩ := isRaise_iff.1 hg; rfl
    · intro g hg k; obtain ⟨_, _, rfl⟩ := isRaise_iff.1 hg; rw [Bool.eq_iff_iff, has_raise, has_raise]
    · obtain rfl := (has_raise ..).1 hk
      exact waitingOf_claim_eq_zero (by simpa using hl) hn

/-- A frame of SAFETY, YIELD or STATUS replaces the one that waits. -/
theorem QueueOk.putSort {q : List QEntry} (h : QueueOk q) {c : Nat} (k : Sort1) {f : TxFrame} (hc : c ≠ 5)
    (hk : ∀ g, k.has g = true ↔ g.cls = c) (hf : f.cls = c) (hp : ∀ p, k ≠ .claim p) : QueueOk (putFrame k.has f q) := by
  have hone : ∀ k' : Sort1, ∀ g, k.has g = true → (k'.has g = true ↔ k' = k) := by
    intro k' g hg
    cases k <;> cases k' <;> cases g <;> simp_all [Sort1.has, TxFrame.isSafety, TxFrame.isYield, TxFrame.isStatus, TxFrame.isLower,
      TxFrame.isRaise, TxFrame.cls]
  have hkf : k.has f = true := (hk f).2 hf
  refine h.put (by simp [TxFrame.isReport, hf, hc]) (fun g hg => ((hk g).1 hg).trans hf.symm) ?_ fun hn k' hk' => ?_
  · intro g hg k'
    rw [Bool.eq_iff_iff, hone k' g hg, hone k' f hkf]
  · rw [(hone k' f hkf).1 hk']
    exact anyWaiting_eq_false.1 hn

/-- R75, R76: a frame that enters keeps the queue in order and within its bounds. -/
theorem QueueOk.enqueue {q : List QEntry} (h : QueueOk q) (f : TxFrame) : QueueOk (enqueueQueue f q) := by
  have hsafety : ∀ g, Sort1.safety.has g = true ↔ g.cls = 0 := fun g => by simp [Sort1.has, TxFrame.isSafety]
  have hyield : ∀ g, Sort1.yields.has g = true ↔ g.cls = 2 := fun g => by simp [Sort1.has, TxFrame.isYield]
  have hstatus : ∀ g, Sort1.status.has g = true ↔ g.cls = 6 := fun g => by simp [Sort1.has, TxFrame.isStatus]
  have hreport : ∀ g : TxFrame, g.cls = 5 → ∀ k : Sort1, k.has g = false := by
    intro g hg k
    cases k <;> cases g <;> simp_all [Sort1.has, TxFrame.isSafety, TxFrame.isYield, TxFrame.isStatus, TxFrame.isLower,
      TxFrame.isRaise, TxFrame.cls]
  cases f with
  | trip o g => exact h.putSort .safety (by simp) hsafety rfl (by simp)
  | tripClear o g => exact h.putSort .safety (by simp) hsafety rfl (by simp)
  | lower p g v => exact h.putLower p g v
  | yields g n => exact h.putSort .yields (by simp) hyield rfl (by simp)
  | raise p g v => exact h.putRaise p g v
  | result k c d => exact h.report (hreport _ rfl)
  | notice c t i d => exact h.report (hreport _ rfl)
  | reading => exact h.report (hreport _ rfl)
  | status => exact h.putSort .status (by simp) hstatus rfl (by simp)

/-! ### Frames that are sent or stop being sent -/

/-- Where one frame at most is being sent, it stands between frames that wait. -/
theorem split_at_sending {q : List QEntry} {e : QEntry} (hf : q.find? (·.sending) = some e)
    (h1 : q.countP (·.sending) ≤ 1) :
    ∃ l r, q = l ++ e :: r ∧ e.sending = true ∧ ∀ x ∈ l ++ r, x.sending = false := by
  obtain ⟨hs, l, r, rfl, hl⟩ := List.find?_eq_some_iff_append.1 hf
  refine ⟨l, r, rfl, hs, fun x hx => ?_⟩
  simp only [List.countP_append, List.countP_cons, hs, if_true] at h1
  rcases List.mem_append.1 hx with hx | hx
  · simpa using hl x hx
  · have hr : r.countP (·.sending) = 0 := by omega
    simpa using List.countP_eq_zero.1 hr x hx

/-- What a stopped frame leaves of the frames that wait. -/
def outlastsStopped (f : TxFrame) (x : QEntry) : Bool := !(f.sameSort x.frame || f.removes x.frame)

/-- A stopped frame, or the newer frame of its sort, waits at its place, and the frames that it replaces are gone. -/
theorem stopQueue_split {l r : List QEntry} {e : QEntry} (hs : e.sending = true)
    (hw : ∀ x ∈ l ++ r, x.sending = false) :
    ∃ g, (g = e.frame ∨ e.frame.sameSort g = true) ∧ (g = e.frame ∨ ∃ x ∈ l ++ r, x.frame = g)
      ∧ stopQueue (l ++ e :: r)
        = l.filter (outlastsStopped e.frame) ++ ⟨g, false⟩ :: r.filter (outlastsStopped e.frame) := by
  have hfind : (l ++ e :: r).find? (·.sending) = some e :=
    List.find?_eq_some_iff_append.2 ⟨hs, l, r, rfl, fun x hx => by simp [hw x (List.mem_append_left r hx)]⟩
  let newer := (l ++ e :: r).find? fun x => !x.sending && e.frame.sameSort x.frame
  have hrest : ∀ m : List QEntry, (∀ x ∈ m, x.sending = false) →
      m.filterMap (stoppedEntry e.frame newer) = m.filter (outlastsStopped e.frame) := by
    intro m hm
    rw [← List.filterMap_eq_filter]
    refine List.filterMap_congr fun x hx => ?_
    simp only [stoppedEntry, hm x hx, Option.guard, outlastsStopped]
    by_cases hb : (e.frame.sameSort x.frame || e.frame.removes x.frame) = true <;> simp [hb]
  have hplace : stoppedEntry e.frame newer e = some ⟨(newer.map (·.frame)).getD e.frame, false⟩ := by
    simp [stoppedEntry, hs]
  refine ⟨(newer.map (·.frame)).getD e.frame, ?_, ?_, ?_⟩
  · cases hn : newer with
    | none => exact .inl rfl
    | some x =>
      have := List.find?_some hn
      simp only [Bool.and_eq_true] at this
      exact .inr this.2
  · cases hn : newer with
    | none => exact .inl rfl
    | some x =>
      refine .inr ⟨x, ?_, rfl⟩
      have hx := List.mem_of_find?_eq_some hn
      have hxs := List.find?_some hn
      rcases List.mem_append.1 hx with hx | hx
      · exact List.mem_append_left r hx
      · rcases List.mem_cons.1 hx with rfl | hx
        · simp [hs] at hxs
        · exact List.mem_append_right l hx
  · simp only [stopQueue, hfind, List.filterMap_append, List.filterMap_cons]
    rw [hrest l fun x hx => hw x (List.mem_append_left r hx), hrest r fun x hx => hw x (List.mem_append_right l hx)]
    rw [show (l ++ e :: r).find? _ = newer from rfl, hplace]

/-- The pool that a LOWER or a RAISE names. -/
def TxFrame.pool : TxFrame → Option Pool
  | .lower p _ _ => some p
  | .raise p _ _ => some p
  | _ => none

theorem isLower_iff_cls {p : Pool} {f : TxFrame} : f.isLower p = true ↔ f.cls = 1 ∧ f.pool = some p := by
  cases f <;> simp [TxFrame.isLower, TxFrame.cls, TxFrame.pool]

theorem isRaise_iff_cls {p : Pool} {f : TxFrame} : f.isRaise p = true ↔ f.cls = 3 ∧ f.pool = some p := by
  cases f <;> simp [TxFrame.isRaise, TxFrame.cls, TxFrame.pool]

theorem has_claim_iff {p : Pool} {f : TxFrame} :
    (Sort1.claim p).has f = true ↔ (f.cls = 1 ∨ f.cls = 3) ∧ f.pool = some p := by
  simp only [Sort1.has, Bool.or_eq_true, isLower_iff_cls, isRaise_iff_cls]
  tauto

/-- A frame names a pool where it is a LOWER or a RAISE. -/
theorem pool_isSome_iff (f : TxFrame) : f.pool.isSome = true ↔ f.cls = 1 ∨ f.cls = 3 := by
  cases f <;> simp [TxFrame.cls, TxFrame.pool]

/-- Two frames are of one sort where class and pool agree, and they are no REPORTs. -/
theorem sameSort_iff {f g : TxFrame} : f.sameSort g = true ↔ f.cls = g.cls ∧ f.pool = g.pool ∧ f.cls ≠ 5 := by
  cases f <;> cases g <;>
    simp [TxFrame.sameSort, TxFrame.isSafety, TxFrame.isYield, TxFrame.isStatus, TxFrame.isLower, TxFrame.isRaise,
      TxFrame.cls, TxFrame.pool]
  all_goals rename_i p _ _ q _ _; cases p <;> cases q <;> simp

/-- A LOWER removes the RAISEs of its pool. -/
theorem removes_iff {f g : TxFrame} : f.removes g = true ↔ f.cls = 1 ∧ g.cls = 3 ∧ f.pool = g.pool := by
  cases f <;> cases g <;> simp [TxFrame.removes, TxFrame.isLower, TxFrame.isRaise, TxFrame.cls, TxFrame.pool]
  rename_i p _ _ q _ _; cases p <;> cases q <;> simp

/-- What class and pool decide, frames of one sort share. -/
theorem has_congr {f g : TxFrame} (hc : f.cls = g.cls) (hp : f.pool = g.pool) (k : Sort1) : k.has f = k.has g := by
  cases k with
  | claim p => rw [Bool.eq_iff_iff, has_claim_iff, has_claim_iff, hc, hp]
  | _ => simp [Sort1.has, TxFrame.isSafety, TxFrame.isYield, TxFrame.isStatus, hc]

/-- A stopped frame that is no RAISE leaves none of its own sort waiting. -/
theorem not_outlasts_of_has {f : TxFrame} {x : QEntry} {k : Sort1} (hf : f.cls ≠ 3) (hkf : k.has f = true)
    (hkx : k.has x.frame = true) : outlastsStopped f x = false := by
  simp only [outlastsStopped, Bool.not_eq_false', Bool.or_eq_true, sameSort_iff, removes_iff]
  cases k with
  | claim p =>
    rw [has_claim_iff] at hkf hkx
    obtain ⟨hcf, hpf⟩ := hkf
    obtain ⟨hcx, hpx⟩ := hkx
    simp only [hpf, hpx, true_and, and_true]
    omega
  | _ =>
    simp only [Sort1.has, TxFrame.isSafety, TxFrame.isYield, TxFrame.isStatus, decide_eq_true_eq] at hkf hkx
    have hnf := (pool_isSome_iff f).not.2 (by omega)
    have hnx := (pool_isSome_iff x.frame).not.2 (by omega)
    simp only [Option.not_isSome_iff_eq_none] at hnf hnx
    rw [hkf, hkx, hnf, hnx]
    simp

/-- Of the LOWERs of a pool, a stopped one leaves none. -/
theorem not_outlasts_of_isLower {f : TxFrame} {x : QEntry} {p : Pool} (hf : f.isLower p = true)
    (hx : x.frame.isLower p = true) : outlastsStopped f x = false := by
  rw [isLower_iff_cls] at hf hx
  simp only [outlastsStopped, Bool.not_eq_false', Bool.or_eq_true, sameSort_iff]
  exact .inl ⟨by omega, by rw [hf.2, hx.2], by omega⟩

/-- The waiting frames with a property that sorts share, behind a stopped frame: those that there were, or the one that
stopped. -/
theorem countP_stopQueue_le {q : List QEntry} (h : q.countP (·.sending) ≤ 1) {v : TxFrame → Bool}
    (hv : ∀ f g : TxFrame, f.cls = g.cls → f.pool = g.pool → v f = v g) {e : QEntry}
    (he : q.find? (·.sending) = some e) (hout : v e.frame = true → ∀ x ∈ q, v x.frame = true → x.sending = false →
      outlastsStopped e.frame x = false) :
    (stopQueue q).countP (fun x => v x.frame) ≤ max 1 (q.countP fun x => !x.sending && v x.frame) := by
  obtain ⟨l, r, rfl, hs, hw⟩ := split_at_sending he h
  obtain ⟨g, hg, -, hstop⟩ := stopQueue_split hs hw
  have hvg : v g = v e.frame := by
    rcases hg with rfl | hg
    · rfl
    · obtain ⟨hc, hp, -⟩ := sameSort_iff.1 hg
      exact (hv _ _ hc hp).symm
  have hpart : ∀ m : List QEntry, (∀ x ∈ m, x ∈ l ++ r) →
      m.countP (fun x => !x.sending && v x.frame) = m.countP fun x => v x.frame := fun m hm =>
    List.countP_congr fun x hx => by simp [hw x (hm x hx)]
  rw [hstop]
  simp only [List.countP_append, List.countP_cons, hvg, hs, Bool.not_true, Bool.false_and]
  rw [hpart l fun x hx => List.mem_append_left r hx, hpart r fun x hx => List.mem_append_right l hx]
  cases hve : v e.frame with
  | false =>
    have hl := (List.filter_sublist (p := outlastsStopped e.frame) (l := l)).countP_le (p := fun x => v x.frame)
    have hr := (List.filter_sublist (p := outlastsStopped e.frame) (l := r)).countP_le (p := fun x => v x.frame)
    simp
    omega
  | true =>
    have hgone : ∀ m : List QEntry, (∀ x ∈ m, x ∈ l ++ r) →
        (m.filter (outlastsStopped e.frame)).countP (fun x => v x.frame) = 0 := by
      intro m hm
      rw [List.countP_eq_zero]
      intro x hx hvx
      obtain ⟨hxm, ho⟩ := List.mem_filter.1 hx
      have hxq : x ∈ l ++ e :: r := by have := hm x hxm; simp at this ⊢; tauto
      rw [hout hve x hxq hvx (hw x (hm x hxm))] at ho
      exact absurd ho (by simp)
    rw [hgone l fun x hx => List.mem_append_left r hx, hgone r fun x hx => List.mem_append_right l hx]
    simp

/-- Behind a stopped frame, order, length and the counts of REPORTs stand, and no frame is being sent. -/
theorem stopQueue_bounds {q : List QEntry} (h : QueueOk q) :
    QueueSorted (stopQueue q) ∧ (stopQueue q).length ≤ 8 ∧ (stopQueue q).countP (·.sending) = 0
      ∧ (stopQueue q).countP (·.frame.isReport) ≤ 5 := by
  cases he : q.find? (·.sending) with
  | none =>
    rw [stopQueue_of_none he]
    exact ⟨h.sorted, h.length, by simpa [List.countP_eq_zero] using he, h.reports⟩
  | some e =>
    obtain ⟨l, r, rfl, hs, hw⟩ := split_at_sending he h.sending
    obtain ⟨g, hg, -, hstop⟩ := stopQueue_split hs hw
    have hc : g.cls = e.frame.cls := by
      rcases hg with rfl | hg
      · rfl
      · exact ((sameSort_iff.1 hg).1).symm
    have hsub : (l.filter (outlastsStopped e.frame) ++ r.filter (outlastsStopped e.frame)).Sublist (l ++ r) :=
      List.filter_sublist.append List.filter_sublist
    rw [hstop]
    refine ⟨?_, ?_, ?_, ?_⟩
    · have hsorted : QueueSorted (l ++ ⟨g, false⟩ :: r) := by
        have := h.sorted
        unfold QueueSorted at this ⊢
        simpa only [List.pairwise_append, List.pairwise_cons, List.mem_cons, forall_eq_or_imp, hc] using this
      exact hsorted.sublist (List.filter_sublist.append (List.filter_sublist.cons_cons _))
    · have := h.length
      have := hsub.length_le
      simp only [List.length_append, List.length_cons] at *
      omega
    · rw [List.countP_eq_zero]
      intro x hx
      simp only [List.mem_append, List.mem_cons, List.mem_filter] at hx
      rcases hx with hx | rfl | hx
      · simp [hw x (List.mem_append_left r hx.1)]
      · simp
      · simp [hw x (List.mem_append_right l hx.1)]
    · have := h.reports
      have := hsub.countP_le (p := fun x => x.frame.isReport)
      simp only [List.countP_append, List.countP_cons, TxFrame.isReport, hc] at *
      omega

/-- A stopped frame that is no RAISE keeps the queue within its bounds. -/
theorem QueueOk.stop {q : List QEntry} (h : QueueOk q) (hr : ∀ e ∈ q, e.sending = true → e.frame.cls ≠ 3) :
    QueueOk (stopQueue q) := by
  cases he : q.find? (·.sending) with
  | none => rwa [stopQueue_of_none he]
  | some e =>
    obtain ⟨h1, h2, h3, h4⟩ := stopQueue_bounds h
    refine ⟨h1, h2, by omega, h4, fun k => ?_⟩
    have hne := hr e (List.mem_of_find?_eq_some he) (by simpa using List.find?_some he)
    have := countP_stopQueue_le h.sending (v := k.has) (fun f g hc hp => has_congr hc hp k) he fun hk x _ hkx _ =>
      not_outlasts_of_has hne hk hkx
    have hle : waitingOf k (stopQueue q) ≤ (stopQueue q).countP fun x => k.has x.frame :=
      List.countP_mono_left fun x _ hx => by simp_all
    have := h.waiting k
    unfold waitingOf at *
    omega

/-- The queue without the RAISEs that wait. -/
def withoutRaises (q : List QEntry) : List QEntry :=
  removeWaiting (TxFrame.isRaise .drain) (removeWaiting (TxFrame.isRaise .inlet) (removeWaiting (TxFrame.isRaise .power) q))

theorem mem_withoutRaises {q : List QEntry} {e : QEntry} (h : e ∈ withoutRaises q) :
    e ∈ q ∧ (e.sending = false → ∀ p, e.frame.isRaise p = false) := by
  simp only [withoutRaises, removeWaiting, List.mem_filter, Bool.or_eq_true, Bool.not_eq_true'] at h
  obtain ⟨⟨⟨hq, h1⟩, h2⟩, h3⟩ := h
  refine ⟨hq, fun hs p => ?_⟩
  cases p <;> simp_all

theorem withoutRaises_sublist (q : List QEntry) : (withoutRaises q).Sublist q :=
  ((removeWaiting_sublist _ _).trans (removeWaiting_sublist _ _)).trans (removeWaiting_sublist _ _)

/-- Lost arbitration stops any frame, and voids the RAISEs that then wait (R44, R67). -/
theorem QueueOk.lose {q : List QEntry} (h : QueueOk q) : QueueOk (withoutRaises (stopQueue q)) := by
  obtain ⟨h1, h2, h3, h4⟩ := stopQueue_bounds h
  have hsub := withoutRaises_sublist (stopQueue q)
  refine ⟨h1.sublist hsub, hsub.length_le.trans h2, hsub.countP_le.trans (by omega), hsub.countP_le.trans h4, fun k => ?_⟩
  cases he : q.find? (·.sending) with
  | none =>
    rw [stopQueue_of_none he]
    exact (withoutRaises_sublist q).countP_le.trans (h.waiting k)
  | some e =>
    cases k with
    | claim p =>
      have hlow := countP_stopQueue_le h.sending (v := TxFrame.isLower p)
        (fun f g hc hp => by rw [Bool.eq_iff_iff, isLower_iff_cls, isLower_iff_cls, hc, hp]) he
        fun hk x _ hkx _ => not_outlasts_of_isLower hk hkx
      have hclaim : (q.countP fun x => !x.sending && x.frame.isLower p) ≤ waitingOf (.claim p) q :=
        List.countP_mono_left fun x _ hx => by simp_all [Sort1.has]
      have hle : waitingOf (.claim p) (withoutRaises (stopQueue q))
          ≤ (withoutRaises (stopQueue q)).countP fun x => x.frame.isLower p :=
        List.countP_mono_left fun x hx hw => by
          have := (mem_withoutRaises hx).2
          simp_all [Sort1.has]
      have := hsub.countP_le (p := fun x => x.frame.isLower p)
      have := h.waiting (.claim p)
      omega
    | safety | yields | status =>
      refine (hsub.countP_le.trans (List.countP_mono_left (q := fun x => Sort1.has _ x.frame)
        fun x _ hx => (Bool.and_eq_true _ _ ▸ hx).2)).trans ?_
      refine (countP_stopQueue_le h.sending (fun f g hc hp => has_congr hc hp _) he fun hk x _ hkx _ =>
        not_outlasts_of_has ?_ hk hkx).trans (max_le le_rfl (h.waiting _))
      simp only [Sort1.has, TxFrame.isSafety, TxFrame.isYield, TxFrame.isStatus, decide_eq_true_eq] at hk
      omega

/-- The frame at the head begins to be sent where none is (R66). -/
theorem QueueOk.begin {e : QEntry} {q : List QEntry} (h : QueueOk (e :: q)) (hn : ∀ x ∈ e :: q, x.sending = false) :
    QueueOk (⟨e.frame, true⟩ :: q) where
  sorted := by have := h.sorted; unfold QueueSorted at this ⊢; simpa only [List.pairwise_cons] using this
  length := by have := h.length; simpa using this
  sending := by
    have : q.countP (·.sending) = 0 := List.countP_eq_zero.2 fun x hx => by simp [hn x (List.mem_cons_of_mem e hx)]
    simp [this]
  reports := by have := h.reports; simpa only [List.countP_cons] using this
  waiting k := by
    refine le_trans ?_ (h.waiting k)
    simp [waitingOf, List.countP_cons]

/-! ### The RAISEs in the queue -/

/-- Every frame of the queue but the one that enters was there before. -/
theorem mem_enqueueQueue {f : TxFrame} {q : List QEntry} {e : QEntry} (h : e ∈ enqueueQueue f q) :
    e = ⟨f, false⟩ ∨ e ∈ q := by
  have hadd : ∀ q', e ∈ addFrame f q' → e = ⟨f, false⟩ ∨ e ∈ q' := by
    intro q' he
    rcases List.mem_cons.1 ((insertFrame_perm f _).mem_iff.1 he) with rfl | he
    · exact .inl rfl
    · split at he
      · exact .inr ((dropOldestReport_sublist q').mem he)
      · exact .inr he
  have hput : ∀ p q', e ∈ putFrame p f q' → e = ⟨f, false⟩ ∨ e ∈ q' := by
    intro p q' he
    unfold putFrame at he
    split at he
    · obtain ⟨x, hx, rfl⟩ := List.mem_map.1 he
      split
      · exact .inl rfl
      · exact .inr hx
    · exact hadd q' he
  have hrep : e ∈ addReport f q → e = ⟨f, false⟩ ∨ e ∈ q := by
    intro he
    refine (hadd _ he).imp_right fun he => ?_
    split at he
    · exact (dropOldestReport_sublist q).mem he
    · exact he
  cases f with
  | lower p g v => exact (hput _ _ h).imp_right ((removeWaiting_sublist _ _).mem ·)
  | raise p g v =>
    simp only [enqueueQueue] at h
    split at h
    · exact .inr h
    · exact hput _ _ h
  | trip | tripClear | yields | status => exact hput _ _ h
  | result | notice | reading => exact hrep h

/-- The RAISEs of a pool, waiting or being sent. -/
def raisesOf (p : Pool) (q : List QEntry) : Nat := q.countP fun e => e.frame.isRaise p

/-- A frame that is no RAISE of the pool brings none. -/
theorem raisesOf_enqueueQueue_le {p : Pool} {f : TxFrame} (hf : f.isRaise p = false) (q : List QEntry) :
    raisesOf p (enqueueQueue f q) ≤ raisesOf p q := by
  have hadd : ∀ q', raisesOf p (addFrame f q') ≤ raisesOf p q' := by
    intro q'
    unfold addFrame raisesOf
    rw [countP_insertFrame]
    simp only [hf, Bool.false_eq_true, if_false, Nat.add_zero]
    split
    · exact (dropOldestReport_sublist q').countP_le
    · exact le_rfl
  have hput : ∀ r q', raisesOf p (putFrame r f q') ≤ raisesOf p q' := by
    intro r q'
    unfold putFrame
    split
    · rw [replaceWaiting_eq_map, raisesOf, List.countP_map]
      refine List.countP_mono_left fun e _ he => ?_
      simp only [Function.comp_apply, replaceEntry] at he
      split at he
      · simp [hf] at he
      · exact he
    · exact hadd q'
  have hrep : raisesOf p (addReport f q) ≤ raisesOf p q := by
    refine (hadd _).trans ?_
    split
    · exact (dropOldestReport_sublist q).countP_le
    · exact le_rfl
  cases f with
  | lower r g v => exact (hput _ _).trans (removeWaiting_sublist _ _).countP_le
  | raise r g v =>
    simp only [enqueueQueue]
    split
    · exact le_rfl
    · exact hput _ _
  | trip | tripClear | yields | status => exact hput _ _
  | result | notice | reading => exact hrep

/-- A RAISE that enters where none of its pool is being sent stays alone. -/
theorem raisesOf_enqueueQueue_raise {p : Pool} {q : List QEntry} (h : raisesOf p q ≤ 1)
    (hs : (q.any fun e => e.sending && e.frame.isRaise p) = false) (g v : Nat) :
    raisesOf p (enqueueQueue (.raise p g v) q) ≤ 1 := by
  have hiff : ∀ e ∈ q, e.sending = true → e.frame.isRaise p = false := fun e he hse => by
    have := List.any_eq_false.1 hs e he
    simpa [hse] using this
  simp only [enqueueQueue]
  split
  · exact h
  unfold putFrame
  split
  · rw [replaceWaiting_eq_map, raisesOf, List.countP_map]
    refine le_trans (List.countP_mono_left fun e _ he => ?_) h
    simp only [Function.comp_apply, replaceEntry] at he
    split at he
    next hw => simp only [Bool.and_eq_true] at hw; exact hw.2
    next => exact he
  next hw =>
    have hz : raisesOf p q = 0 := by
      rw [raisesOf, List.countP_eq_zero]
      intro e he hr
      have hw' := List.any_eq_false.1 (by simpa [anyWaiting] using hw : (q.any fun e => !e.sending && e.frame.isRaise p) = false) e he
      cases hse : e.sending with
      | false => simp [hse, hr] at hw'
      | true => simp [hiff e he hse] at hr
    unfold addFrame raisesOf
    rw [countP_insertFrame]
    have : ∀ q' : List QEntry, q'.Sublist q → q'.countP (fun e => e.frame.isRaise p) = 0 := fun q' hq =>
      Nat.le_zero.1 (hq.countP_le.trans hz.le)
    split <;> split <;> simp [this _ (dropOldestReport_sublist q), this _ (List.Sublist.refl q)]

/-- A stopped frame that is no RAISE brings none. -/
theorem raisesOf_stopQueue_le {q : List QEntry} (hr : ∀ e ∈ q, e.sending = true → e.frame.cls ≠ 3) (p : Pool) :
    raisesOf p (stopQueue q) ≤ raisesOf p q := by
  cases he : q.find? (·.sending) with
  | none => rw [stopQueue_of_none he]
  | some e =>
    have hne := hr e (List.mem_of_find?_eq_some he) (by simpa using List.find?_some he)
    unfold stopQueue raisesOf
    simp only [he, List.countP_filterMap]
    refine List.countP_mono_left fun x _ hx => ?_
    unfold stoppedEntry at hx
    split at hx
    · exfalso
      cases hn : q.find? fun x => !x.sending && e.frame.sameSort x.frame with
      | none => simp [hn, isRaise_iff_cls] at hx; exact hne hx.1
      | some n =>
        have := List.find?_some hn
        simp only [Bool.and_eq_true, sameSort_iff] at this
        simp [hn, isRaise_iff_cls] at hx
        exact hne (this.2.1.trans hx.1)
    · split at hx
      · simp at hx
      · simpa using hx

end Sys2Proof.Machine

/-!
What a step can do, said once: every operation of the model is a chain of elementary changes, each of one block and each
with what the invariants need to know of it. `Does A s t` says that `t` is reached from `s` by such changes; the changes
that a rule allows to few commands alone carry a licence, and `A` lists the licences given.
-/
namespace Sys2Proof.Machine

/-- The changes that few commands may make. -/
inductive Licence where
  | ownRaise | lowerTo | frame | freeze | restart | reinit | close | restore | acid | count | finish | lend | rinse | time
  deriving DecidableEq

/-! ### What an elementary change keeps -/

/-- A change of the generator that keeps the marker, S and the sub-count, and lends the generator to no one. -/
structure SteamKept (t : State) (x : Steam) : Prop where
  demand : DemandInv t → DemandInv (t.setSteam x)
  record : ScaleInv t → ScaleInv (t.setSteam x)
  acid   : x.acid = t.steam.acid
  scale  : x.scale = t.steam.scale ∧ x.sub = t.steam.sub
  lent   : x.gen = .service → t.steam.gen = .service
  drains : ∀ d, x.drain = some d → 0 < d.dryMs → ∃ y, t.steam.drain = some y ∧ 0 < y.dryMs

/-- A change of the shares that leaves the holds and the floor share. -/
structure ShareKept (t : State) (x : Share) : Prop where
  holds    : x.holds = t.share.holds
  floor    : x.floor = t.share.floor
  table    : ShareInv t → ShareInv (t.setShare x)
  capacity : ShareWithinCapacity t → ShareWithinCapacity (t.setShare x)

/-- A change of the line that brings no RAISE. -/
structure LineKept (t x : Line) : Prop where
  clash  : t.numberClash = true → x.numberClash = true
  bounds : QueueOk t.queue → QueueOk x.queue
  frames : ∀ e ∈ x.queue, ∀ p, e.frame.isRaise p = true → ∃ y ∈ t.queue, y.frame = e.frame
  raises : ∀ p, raisesOf p t.queue ≤ 1 → raisesOf p x.queue ≤ 1

/-- A change of the scheduler that begins no frame. -/
def FrameKept (p x : Power) : Prop := x.inFrame = true → p.inFrame = true ∧ x.corrected = p.corrected

/-- A change of the descale that enters no third rinse drain. -/
def DescaleKept (d x : Descale) : Prop :=
  x.phase = .rinseDrain → 3 ≤ x.rinse →
    d.phase = .rinseDrain ∧ 3 ≤ d.rinse ∧ (x.soakMark = true → d.soakMark = true)

/-- A CONFIG_FAULT is held with the latch alone. -/
def FaultSound (v : Superv) : Prop := v.configFault = true → v.trip = true

/-- The relay is commanded closed with no latch, weld or CONFIG_FAULT alone. -/
def RelayClean (v : Superv) : Prop :=
  v.relayClosed = true → v.trip = false ∧ v.welded = false ∧ v.configFault = false

/-- A change of the supervision that closes no relay and clears no fault. -/
structure SupervKept (v x : Superv) : Prop where
  closed : x.relayClosed = true → v.relayClosed = true
  trip   : v.trip = true → x.trip = true
  welded : v.welded = true → x.welded = true
  config : v.configFault = true → x.configFault = true
  sound  : FaultSound v → FaultSound x
  clean  : RelayClean v → RelayClean x

/-- The states, claims, timers and switched outputs of the generator move; what it counts, sends and stores stands. -/
theorem SteamKept.moves {t : State} {x : Steam}
    (hx : x = { t.steam with
      levels := x.levels, levelInputs := x.levelInputs, levelMs := x.levelMs, gen := x.gen, faultKind := x.faultKind
      fill := x.fill, drain := x.drain, lock := x.lock, coolMs := x.coolMs, inletWant := x.inletWant
      drainWant := x.drainWant, fillReq := x.fillReq, pumpReq := x.pumpReq, gate := x.gate, writeAgain := x.writeAgain })
    (hg : x.gen = .service → t.steam.gen = .service)
    (hd : ∀ d, x.drain = some d → 0 < d.dryMs → ∃ y, t.steam.drain = some y ∧ 0 < y.dryMs) : SteamKept t x where
  demand h := by rw [hx]; exact h
  record h := by rw [hx]; exact h
  acid := by rw [hx]
  scale := by rw [hx]; exact ⟨rfl, rfl⟩
  lent := hg
  drains := hd

/-- The outputs and the service request move within their ranges. -/
theorem SteamKept.asks {t : State} {x : Steam}
    (hx : x = { t.steam with
      request := x.request, boilerDemand := x.boilerDemand, fillReq := x.fillReq, pumpReq := x.pumpReq, gate := x.gate })
    (hd : DemandInv t → DemandInv (t.setSteam x)) : SteamKept t x where
  demand := hd
  record h := by rw [hx]; exact h
  acid := by rw [hx]
  scale := by rw [hx]; exact ⟨rfl, rfl⟩
  lent h := by rw [hx] at h; exact h
  drains d hd hp := ⟨d, by rw [hx] at hd; exact hd, hp⟩

/-- The service record moves within its ranges. -/
theorem SteamKept.records {t : State} {x : Steam}
    (hx : x = { t.steam with record := x.record, writing := x.writing, writeAgain := x.writeAgain })
    (hr : ScaleInv t → ScaleInv (t.setSteam x)) : SteamKept t x where
  demand h := by rw [hx]; exact h
  record := hr
  acid := by rw [hx]
  scale := by rw [hx]; exact ⟨rfl, rfl⟩
  lent h := by rw [hx] at h; exact h
  drains d hd hp := ⟨d, by rw [hx] at hd; exact hd, hp⟩

/-- Sides, readings, timers and notices of the supervision move; relay, latch and held faults stand. -/
theorem SupervKept.moves {v x : Superv}
    (hx : x = { x with
      relayClosed := v.relayClosed, trip := v.trip, welded := v.welded, configFault := v.configFault }) :
    SupervKept v x where
  closed h := by rw [hx] at h; exact h
  trip h := by rw [hx]; exact h
  welded h := by rw [hx]; exact h
  config h := by rw [hx]; exact h
  sound h := by rw [hx]; exact h
  clean h := by rw [hx]; exact h

/-- The Start-up Unit's timers, working copies and LOWERs of a restart are other than before; the rest stands. -/
def StartupKept (u x : Startup) : Prop :=
  x = { u with
    windowMs := x.windowMs, workSupply := x.workSupply, workChannels := x.workChannels, restartMs := x.restartMs
    restartLowers := x.restartLowers }

/-- The blocks as the re-initialisation leaves them, before what it has the machine do (R160). -/
def blocksRestarted (s : State) : State :=
  { s with
    startup := { s.startup with restarting := false, restartMs := 0, restartLowers := PerPool.all false }
    climate := climateRestarted s.climate
    power   := powerRestarted s.power
    share   := shareRestarted s.line.numberClash s.share
    line    := lineRestarted s.line
    steam   := steamRestarted s.steam
    recipe  := recipeAtRestart s.recipe }

/-- The configuration as it freezes, with its floor share (R170). -/
def configFrozen (s : State) : State :=
  (s.setStartup { s.startup with
    setup := .frozen, windowMs := 0, supply := checkedSupply s.startup.workSupply
    channels := s.startup.workChannels }).setShare
    { s.share with floor := floorOf (checkedSupply s.startup.workSupply) }

/-- An entry as it is recorded, with the corrections of the own holds that follow it (R46, R47, R50). -/
def entryRecorded (e : Entry) (t : State) : State :=
  correctIfRisen t .drain (correctIfRisen t .inlet (correctIfRisen t .power
    (t.setShare { t.share with table := insertEntry e t.share.table })))

/-- The drain of a third rinse ends here (R109). -/
def ThirdRinseDrains (u : State) : Prop :=
  u.steam.gen = .service ∧ u.descale.phase = .rinseDrain ∧ 3 ≤ u.descale.rinse

/-! ### Chains of elementary changes -/

/-- The state is reached by elementary changes, those that need one with a licence of the list. -/
inductive Does (A : List Licence) (s : State) : State → Prop where
  | protected refl : Does A s s
  | protected startup {t x} : Does A s t → StartupKept t.startup x → Does A s (t.setStartup x)
  | protected restart {t} : Does A s t → .restart ∈ A →
      Does A s (t.setStartup { t.startup with restarting := true, restartMs := 0 })
  | protected freezes {t} : Does A s t → .freeze ∈ A → t.startup.setup = .opened → Does A s (configFrozen t)
  | protected climate {t x} : Does A s t → (DemandInv t → DemandInv (t.setClimate x)) → Does A s (t.setClimate x)
  | protected power {t x} : Does A s t → (PowerInv t → PowerInv (t.setPower x)) →
      (.frame ∈ A ∨ FrameKept t.power x) → Does A s (t.setPower x)
  | protected share {t x} : Does A s t → ShareKept t x → Does A s (t.setShare x)
  | protected lowers {t p v} : Does A s t → (v = 0 ∨ .lowerTo ∈ A) → Does A s (lowerHold p v t)
  | protected raises {t p v} (g : Nat) : Does A s t → raiseSending p t = false →
      v ≤ poolCapacity t.startup.supply p - othersCharges t p → t.share.holds.get p ≤ v →
      Does A s (enqueueShare (.raise p g v) t)
  | protected ownRaise {t p g v} : Does A s t → .ownRaise ∈ A → sendingFrame t = some (.raise p g v) →
      Does A s (setHold p v (finishSending t))
  | protected entry {t} (n : Nat) {e : Entry} : Does A s t → .lowerTo ∈ A → (∀ p, raiseQueued p t = false) →
      n ≠ t.startup.station → (ShareInv t → 1 ≤ n ∧ n ≤ 15) → e.station = n → Does A s (entryRecorded e t)
  | protected line {t x} : Does A s t → LineKept t.line x → Does A s (t.setLine x)
  | protected steam {t x} : Does A s t → SteamKept t x → Does A s (t.setSteam x)
  | protected timers {t x} : Does A s t → .time ∈ A →
      x = { t.steam with levelMs := x.levelMs, fill := x.fill, drain := x.drain, coolMs := x.coolMs } →
      Does A s (t.setSteam x)
  | protected count {t x} : Does A s t → .count ∈ A → x = { t.steam with sub := x.sub, scale := x.scale } →
      (ScaleInv t → ScaleInv (t.setSteam x) ∧ t.steam.scale ≤ x.scale) → Does A s (t.setSteam x)
  | protected acid {t} : Does A s t → .acid ∈ A → Does A s (t.setSteam { t.steam with acid := true })
  | protected finish {u t x} : Does A s u → .finish ∈ A → ThirdRinseDrains u → Does A s t →
      x = { t.steam with sub := x.sub, scale := x.scale, acid := false } →
      (x.scale = t.steam.scale ∧ x.sub = t.steam.sub ∨ u.descale.soakMark = true ∧ x.scale = 0 ∧ x.sub = 0) →
      Does A s (t.setSteam x)
  | protected lend {t} : Does A s t → .lend ∈ A →
      Does A s (t.setSteam { t.steam with gen := .service, lock := false, faultKind := none })
  | protected descale {t x} : Does A s t → DescaleKept t.descale x → Does A s (t.setDescale x)
  | protected rinse {t x} : Does A s t → .rinse ∈ A → Does A s (t.setDescale x)
  | protected recipe {t x} : Does A s t → (RecipeInv t → RecipeInv (t.setRecipe x)) → Does A s (t.setRecipe x)
  | protected superv {t x} : Does A s t → SupervKept t.superv x → Does A s (t.setSuperv x)
  | protected close {t} : Does A s t → .close ∈ A → t.superv.trip = false → t.superv.welded = false →
      Does A s (commandRelay true t)
  | protected restore {t} : Does A s t → .restore ∈ A → t.superv.welded = false → t.superv.configFault = false →
      Does A s (commandRelay true (t.setSuperv { t.superv with trip := false, strikes := PerChannel.all 0 }))
  | protected reinit {t} : Does A s t → .reinit ∈ A → t.startup.restarting = true → Does A s (blocksRestarted t)

/-- A longer list of licences allows as much. -/
protected theorem Does.mono {A B : List Licence} {s t : State} (h : Does A s t) (hAB : ∀ l ∈ A, l ∈ B) : Does B s t := by
  induction h with
  | refl => exact .refl
  | startup _ h1 ih => exact ih.startup h1
  | restart _ h1 ih => exact ih.restart (hAB _ h1)
  | freezes _ h1 h2 ih => exact ih.freezes (hAB _ h1) h2
  | climate _ h1 ih => exact ih.climate h1
  | power _ h1 h2 ih => exact ih.power h1 (h2.imp (hAB _) id)
  | share _ h1 ih => exact ih.share h1
  | lowers _ h1 ih => exact ih.lowers (h1.imp id (hAB _))
  | raises g _ h1 h2 h3 ih => exact ih.raises g h1 h2 h3
  | ownRaise _ h1 h2 ih => exact ih.ownRaise (hAB _ h1) h2
  | entry n _ h1 h2 h3 h4 h5 ih => exact ih.entry n (hAB _ h1) h2 h3 h4 h5
  | line _ h1 ih => exact ih.line h1
  | steam _ h1 ih => exact ih.steam h1
  | timers _ h1 h2 ih => exact ih.timers (hAB _ h1) h2
  | count _ h1 h2 h3 ih => exact ih.count (hAB _ h1) h2 h3
  | acid _ h1 ih => exact ih.acid (hAB _ h1)
  | finish _ h1 h2 _ h3 h4 ihu ih => exact ihu.finish (hAB _ h1) h2 ih h3 h4
  | lend _ h1 ih => exact ih.lend (hAB _ h1)
  | descale _ h1 ih => exact ih.descale h1
  | rinse _ h1 ih => exact ih.rinse (hAB _ h1)
  | recipe _ h1 ih => exact ih.recipe h1
  | superv _ h1 ih => exact ih.superv h1
  | close _ h1 h2 h3 ih => exact ih.close (hAB _ h1) h2 h3
  | restore _ h1 h2 h3 ih => exact ih.restore (hAB _ h1) h2 h3
  | reinit _ h1 h2 ih => exact ih.reinit (hAB _ h1) h2

end Sys2Proof.Machine

/-!
The law of the burst frames (`PowerInv`) across the scheduler's own changes: a frame laid out, a slot begun, a frame
abandoned, outputs that follow their requests.
-/
namespace Sys2Proof.Machine

/-- `PowerInv` by name. -/
structure PowerOk (s : State) : Prop where
  law     : s.power.inFrame = true → s.power.holdFall = none →
    slotLoad s.power.corrected s.power.gates + carriedLoad s ≤ s.share.holds.power
      ∧ ∀ x ∈ s.power.layout.drop s.power.slot, slotLoad s.power.corrected x + carriedLoad s ≤ s.share.holds.power
  fall    : ∀ v, s.power.holdFall = some v → v ≤ s.share.holds.power ∧ s.power.inFrame = true
  carries : s.power.carriesBase = true → s.power.inFrame = true ∧ s.startup.supply.baseLoad ≤ s.share.holds.power
    ∧ ∀ v, s.power.holdFall = some v → s.startup.supply.baseLoad ≤ v
  runs    : baseRuns s.power = true → s.startup.supply.baseLoad ≤ s.share.holds.power
    ∧ (s.power.inFrame = true → s.power.carriesBase = true)
  idle    : s.power.inFrame = false → s.power.gates = PerElement.all false
  slots   : s.power.inFrame = true → s.power.layout.length = frameSlots ∧ s.power.slot < frameSlots
  order   : ∀ x ∈ s.power.layout, ∀ e, x.get e = true → e ∈ s.power.frameOrder
  raises  : ∀ e ∈ s.line.queue, ∀ v, e.frame.raiseValue .power = some v → s.share.holds.power ≤ v
  single  : raisesOf .power s.line.queue ≤ 1
  thawed  : frozen s = false → s.power.inFrame = false ∧ baseRuns s.power = false

theorem powerInv_iff (s : State) : PowerInv s ↔ PowerOk s :=
  ⟨fun ⟨h1, h2, h3, h4, h5, h6, h7, h8, h9, h10⟩ => ⟨h1, h2, h3, h4, h5, h6, h7, h8, h9, h10⟩,
    fun ⟨h1, h2, h3, h4, h5, h6, h7, h8, h9, h10⟩ => ⟨h1, h2, h3, h4, h5, h6, h7, h8, h9, h10⟩⟩

/-! ### Base actuators -/

/-- A base actuator runs where one ran, or within a frame that carries base load. -/
theorem baseRuns_settleBase {s : State} (h : baseRuns (settleBase s).power = true) :
    baseRuns s.power = true ∨ (s.power.inFrame = true ∧ s.power.carriesBase = true) := by
  cases hc : s.power.inFrame && s.power.carriesBase with
  | true => exact .inr (by simpa using hc)
  | false =>
    left
    cases hr : s.startup.restarting <;> simp [settleBase, baseRuns, hc, hr, baseOutput, PerActuator.all] at h
    simp only [baseRuns, Bool.or_eq_true]
    tauto

theorem PowerOk.settleBase {s : State} (h : PowerOk s) : PowerOk (settleBase s) where
  law := h.law
  fall := h.fall
  carries := h.carries
  runs hb := by
    obtain hb | ⟨hi, hc⟩ := baseRuns_settleBase hb
    · exact h.runs hb
    · exact ⟨(h.carries hc).2.1, fun _ => hc⟩
  idle := h.idle
  slots := h.slots
  order := h.order
  raises := h.raises
  single := h.single
  thawed hf := by
    obtain ⟨hi, hb⟩ := h.thawed hf
    refine ⟨hi, ?_⟩
    by_contra hn
    obtain hb' | ⟨hi', -⟩ := baseRuns_settleBase (Bool.not_eq_false _ ▸ hn)
    · simp [hb] at hb'
    · simp [hi] at hi'

/-! ### Loads of slots -/

@[simp] theorem slotLoad_all_false (c : PerElement Nat) : slotLoad c (PerElement.all false) = 0 := rfl

theorem slotLoad_eq (c : PerElement Nat) (x : PerElement Bool) :
    slotLoad c x = bitNat x.top * c.top + bitNat x.bottom * c.bottom + bitNat x.ring * c.ring
      + bitNat x.boiler * c.boiler := by
  simp only [slotLoad, bitNat, ite_mul, one_mul, zero_mul]

/-- An element that joins a slot adds its corrected rating. -/
theorem slotLoad_set_true {c : PerElement Nat} {x : PerElement Bool} {e : Element} (h : x.get e = false) :
    slotLoad c (x.set true e) = slotLoad c x + c.get e := by
  cases e <;> simp only [PerElement.get] at h <;> simp only [slotLoad_eq, PerElement.set, PerElement.get, h, bitNat] <;>
    simp <;> omega

/-- A slot with fewer elements has no more load. -/
theorem slotLoad_mono {c : PerElement Nat} {x y : PerElement Bool} (h : ∀ e, x.get e = true → y.get e = true) :
    slotLoad c x ≤ slotLoad c y := by
  have h1 := h .top
  have h2 := h .bottom
  have h3 := h .ring
  have h4 := h .boiler
  simp only [PerElement.get] at h1 h2 h3 h4
  unfold slotLoad
  gcongr <;> split <;> simp_all

theorem removeElements_get {x y : PerElement Bool} {e : Element} (h : (removeElements y x).get e = true) :
    x.get e = true := by
  cases e <;> simp_all [removeElements, PerElement.get]

theorem get_set_false {x : PerElement Bool} {e f : Element} (h : (x.set false f).get e = true) :
    x.get e = true ∧ e ≠ f := by
  cases e <;> cases f <;> simp_all [PerElement.set, PerElement.get]

/-- An element that is taken out was there. -/
theorem shedSlot_get {c : PerElement Nat} {a : Nat} {l : List Element} {x : PerElement Bool} {e : Element}
    (h : (shedSlot c a l x).get e = true) : x.get e = true := by
  induction l generalizing x with
  | nil => exact h
  | cons f l ih =>
    unfold shedSlot at h
    split at h
    · exact h
    · exact (get_set_false (ih h)).1

/-- R31: elements are taken out of a slot until its load is within the capacity. -/
theorem slotLoad_shedSlot {c : PerElement Nat} {a : Nat} {l : List Element} {x : PerElement Bool}
    (h : ∀ e, x.get e = true → e ∈ l) : slotLoad c (shedSlot c a l x) ≤ a := by
  induction l generalizing x with
  | nil =>
    have : slotLoad c x ≤ slotLoad c (PerElement.all false) := slotLoad_mono fun e he => absurd (h e he) (by simp)
    simp only [slotLoad_all_false] at this
    exact this.trans (Nat.zero_le _)
  | cons f l ih =>
    unfold shedSlot
    split
    · assumption
    · refine ih fun e he => ?_
      obtain ⟨hx, hne⟩ := get_set_false he
      exact (List.mem_cons.1 (h e hx)).resolve_left hne

/-! ### Layout -/

/-- What holds of every slot and is kept as the element joins one with room for it, holds of every slot behind the
scan; and there are as many slots as before. -/
theorem scanSlots_all {P : PerElement Bool → Prop} {c : PerElement Nat} {a : Nat} {e : Element}
    (hP : ∀ x, P x → slotHasRoom c a e x = true → P (x.set true e)) (n : Nat) :
    ∀ (i left : Nat) (layout : List (PerElement Bool)), (∀ x ∈ layout, P x) →
      (∀ x ∈ (scanSlots c a e n i left layout).1, P x)
        ∧ (scanSlots c a e n i left layout).1.length = layout.length := by
  induction n with
  | zero => exact fun _ _ _ h => ⟨h, rfl⟩
  | succ n ih =>
    intro i left layout h
    unfold scanSlots
    split
    · exact ⟨h, rfl⟩
    split
    · exact ⟨h, rfl⟩
    next x hx =>
      split
      next hroom =>
        have hset : ∀ y ∈ layout.set (i % frameSlots) (x.set true e), P y := by
          intro y hy
          rcases List.mem_or_eq_of_mem_set hy with hy | rfl
          · exact h y hy
          · exact hP x (h x (List.mem_of_getElem? hx)) hroom
        obtain ⟨h1, h2⟩ := ih (i + 1) (left - 1) _ hset
        exact ⟨h1, h2.trans List.length_set⟩
      · exact ih (i + 1) left layout h

/-- The same of the whole layout of a frame. -/
theorem layFrame_all {P : PerElement Bool → Prop} {c : PerElement Nat} {a : Nat} {demand : Element → Nat}
    {order : List Element} (hP : ∀ e ∈ order, ∀ x, P x → slotHasRoom c a e x = true → P (x.set true e)) :
    ∀ acc : List (PerElement Bool) × PerElement Nat, (∀ x ∈ acc.1, P x) →
      (∀ x ∈ (layFrame c a demand order acc).1, P x) ∧ (layFrame c a demand order acc).1.length = acc.1.length := by
  induction order with
  | nil => exact fun _ h => ⟨h, rfl⟩
  | cons e order ih =>
    intro acc h
    obtain ⟨h1, h2⟩ := scanSlots_all (hP e (by simp)) frameSlots e.offset (demand e) acc.1 h
    obtain ⟨h3, h4⟩ := ih (fun f hf => hP f (by simp [hf])) (_, acc.2.set _ e) h1
    exact ⟨h3, h4.trans h2⟩

theorem get_set_true {x : PerElement Bool} {e f : Element} (h : (x.set true f).get e = true) :
    x.get e = true ∨ e = f := by
  cases e <;> cases f <;> simp_all [PerElement.set, PerElement.get]

/-- The slots that a frame start lays out (R27). -/
def laidSlots (volts : Option Nat) (s : State) : List (PerElement Bool) := (layOut volts s).power.layout

/-- R27: a laid frame has 20 slots, each within the available capacity, with elements of the placement order alone. -/
theorem laidSlots_spec (volts : Option Nat) (s : State) :
    (laidSlots volts s).length = frameSlots
      ∧ ∀ x ∈ laidSlots volts s, slotLoad (layOut volts s).power.corrected x ≤ frameCapacity s
        ∧ ∀ e, x.get e = true → e ∈ s.climate.order := by
  let P : PerElement Bool → Prop := fun x =>
    slotLoad (layOut volts s).power.corrected x ≤ frameCapacity s ∧ ∀ e, x.get e = true → e ∈ s.climate.order
  have hP : ∀ e ∈ s.climate.order.filter (eligible s (layOut volts s).power.corrected), ∀ x, P x →
      slotHasRoom (layOut volts s).power.corrected (frameCapacity s) e x = true → P (x.set true e) := by
    intro e he x hx hroom
    simp only [slotHasRoom, Bool.and_eq_true, Bool.not_eq_true', decide_eq_true_eq] at hroom
    refine ⟨by rw [slotLoad_set_true hroom.1]; exact hroom.2, fun f hf => ?_⟩
    rcases get_set_true hf with hf | rfl
    · exact hx.2 f hf
    · exact List.mem_of_mem_filter he
  have hempty : ∀ x ∈ emptyLayout, P x := by
    intro x hx
    obtain rfl := List.eq_of_mem_replicate hx
    exact ⟨by simp, fun e he => by cases e <;> simp [PerElement.all, PerElement.get] at he⟩
  obtain ⟨h1, h2⟩ := layFrame_all (demand := (demandsNow s).get) hP (emptyLayout, PerElement.all 0) hempty
  exact ⟨h2.trans (by simp [emptyLayout]), h1⟩

/-- Capacity and carried base load make up the hold (R25). -/
theorem frameCapacity_add (s : State) :
    frameCapacity s + (if frameCarries s then s.startup.supply.baseLoad else 0) = s.share.holds.power := by
  unfold frameCapacity
  cases h : frameCarries s with
  | false => simp
  | true =>
    simp only [frameCarries, Bool.and_eq_true, decide_eq_true_eq] at h
    simp only [if_true]
    omega

/-- A slot of the layout, and the empty one beyond it. -/
theorem layout_getD_mem {P : PerElement Bool → Prop} {l : List (PerElement Bool)} (h : ∀ x ∈ l, P x)
    (h0 : P (PerElement.all false)) (k : Nat) : P (l[k]?.getD (PerElement.all false)) := by
  cases hk : l[k]? with
  | none => exact h0
  | some x => exact h x (List.mem_of_getElem? hk)

/-- R23 to R29: the start of a frame keeps the law. -/
theorem PowerOk.frameStart {s : State} (h : PowerOk s) (hf : frozen s = true) (volts : Option Nat) :
    PowerOk (driveSlot 0 (layOut volts s)) := by
  obtain ⟨hlen, hall⟩ := laidSlots_spec volts s
  have hcap := frameCapacity_add s
  have hbase : baseRuns (layOut volts s).power = true → frameCarries s = true := by
    cases hc : frameCarries s <;> simp [layOut, hc, baseRuns, PerActuator.all]
  have hB : frameCarries s = true → s.startup.supply.baseLoad ≤ s.share.holds.power := by
    simp [frameCarries]
  refine
    { law := fun _ _ => ⟨?_, fun x hx => ?_⟩, fall := fun v hv => ?_, carries := fun hc => ⟨rfl, hB hc, fun v hv => ?_⟩
      runs := fun hb => ⟨hB (hbase hb), fun _ => hbase hb⟩, idle := fun hi => ?_
      slots := fun _ => ⟨hlen, Nat.zero_lt_succ 19⟩
      order := fun x hx => (hall x hx).2, raises := h.raises, single := h.single, thawed := fun hn => ?_ }
  · have hg := layout_getD_mem (P := fun x => slotLoad (layOut volts s).power.corrected x ≤ frameCapacity s)
      (fun x hx => (hall x hx).1) (by simp) 0
    exact (Nat.add_le_add_right hg _).trans hcap.le
  · exact (Nat.add_le_add_right (hall x (List.mem_of_mem_drop hx)).1 _).trans hcap.le
  · exact absurd hv (by simp [driveSlot, layOut])
  · exact absurd hv (by simp [driveSlot, layOut])
  · exact absurd hi (by simp [driveSlot, layOut])
  · exact absurd hn (by simp [frozen] at hf ⊢; exact hf)

/-! ### Changes during a frame -/

theorem mem_drop_mapFrom {k : Nat} {f : PerElement Bool → PerElement Bool} {l : List (PerElement Bool)}
    {x : PerElement Bool} (hk : k ≤ l.length) (h : x ∈ (mapFrom k f l).drop k) : ∃ y ∈ l.drop k, f y = x := by
  have hd : (mapFrom k f l).drop k = (l.drop k).map f := by
    unfold mapFrom
    rw [List.drop_append_of_le_length (by simp [hk]), List.drop_take_self, List.nil_append]
  rw [hd] at h
  exact List.mem_map.1 h

theorem mem_mapFrom {k : Nat} {f : PerElement Bool → PerElement Bool} {l : List (PerElement Bool)}
    {x : PerElement Bool} (h : x ∈ mapFrom k f l) : x ∈ l ∨ ∃ y ∈ l, f y = x := by
  rcases List.mem_append.1 h with h | h
  · exact .inl (List.mem_of_mem_take h)
  · obtain ⟨y, hy, rfl⟩ := List.mem_map.1 h
    exact .inr ⟨y, List.mem_of_mem_drop hy, rfl⟩

@[simp] theorem length_mapFrom (k : Nat) (f : PerElement Bool → PerElement Bool) (l : List (PerElement Bool)) :
    (mapFrom k f l).length = l.length := by
  simp [mapFrom]
  omega

/-- The law for the slots that a state still has before it. -/
theorem PowerOk.of_slots {s t : State} (h : PowerOk s) (hi : t.power.inFrame = true)
    (hs : t.power.slot < frameSlots) (hl : t.power.layout.length = frameSlots)
    (hlaw : t.power.holdFall = none → ∀ x ∈ t.power.layout.drop t.power.slot,
      slotLoad t.power.corrected x + carriedLoad t ≤ t.share.holds.power)
    (hg : t.power.gates = t.power.layout[t.power.slot]?.getD (PerElement.all false))
    (ho : ∀ x ∈ t.power.layout, ∀ e, x.get e = true → e ∈ t.power.frameOrder)
    (hfall : t.power.holdFall = none) (hb : t.power.base = s.power.base)
    (hc : t.power.carriesBase = s.power.carriesBase) (hsi : s.power.inFrame = true)
    (hu : t.startup = s.startup) (hh : t.share = s.share) (hq : t.line = s.line) : PowerOk t where
  law _ _ := by
    refine ⟨?_, hlaw hfall⟩
    have hlt : t.power.slot < t.power.layout.length := by omega
    refine hlaw hfall _ ?_
    rw [hg, List.getElem?_eq_getElem hlt, Option.getD_some, List.mem_drop_iff_getElem]
    exact ⟨0, by simpa using hlt, by simp⟩
  fall v hv := by simp [hfall] at hv
  carries hc' := by
    rw [hu, hh]
    exact ⟨hi, (h.carries (hc ▸ hc')).2.1, fun v hv => by simp [hfall] at hv⟩
  runs hb' := by
    have := h.runs (by simpa [baseRuns, hb] using hb')
    rw [hu, hh, hc]
    exact ⟨this.1, fun _ => this.2 hsi⟩
  idle hn := by simp [hi] at hn
  slots _ := ⟨hl, hs⟩
  order := ho
  raises := by rw [hq, hh]; exact h.raises
  single := by rw [hq]; exact h.single
  thawed hf := by
    have := (h.thawed (by simpa [frozen, hu] using hf)).1
    simp [hsi] at this

/-- A crossing leaves a slot to come no more than what the layout had for it. -/
theorem applyChanges_slot {k : Nat} {s : State} (hk : k ≤ s.power.layout.length) {x : PerElement Bool}
    (h : x ∈ (applyChanges k s).power.layout.drop k) :
    ∃ y ∈ s.power.layout.drop k, ∀ e, x.get e = true → y.get e = true := by
  cases hf : s.power.holdFall with
  | none =>
    simp only [applyChanges, hf, State.setPower_power] at h
    obtain ⟨y, hy, rfl⟩ := mem_drop_mapFrom hk h
    exact ⟨y, hy, fun e => removeElements_get⟩
  | some v =>
    simp only [applyChanges, hf, State.setPower_power] at h
    obtain ⟨z, hz, rfl⟩ := mem_drop_mapFrom (by simpa using hk) h
    obtain ⟨y, hy, rfl⟩ := mem_drop_mapFrom hk hz
    exact ⟨y, hy, fun e he => removeElements_get (shedSlot_get he)⟩

/-- And no element that the layout had nowhere. -/
theorem applyChanges_layout {k : Nat} {s : State} {x : PerElement Bool} (h : x ∈ (applyChanges k s).power.layout) :
    ∃ y ∈ s.power.layout, ∀ e, x.get e = true → y.get e = true := by
  have hout : ∀ z ∈ mapFrom k (removeElements s.power.shed) s.power.layout,
      ∃ y ∈ s.power.layout, ∀ e, z.get e = true → y.get e = true := by
    intro z hz
    obtain hz | ⟨y, hy, rfl⟩ := mem_mapFrom hz
    · exact ⟨z, hz, fun _ => id⟩
    · exact ⟨y, hy, fun e => removeElements_get⟩
  cases hf : s.power.holdFall with
  | none =>
    simp only [applyChanges, hf, State.setPower_power] at h
    exact hout x h
  | some v =>
    simp only [applyChanges, hf, State.setPower_power] at h
    obtain h | ⟨z, hz, rfl⟩ := mem_mapFrom h
    · exact hout x h
    · obtain ⟨y, hy, hzy⟩ := hout z hz
      exact ⟨y, hy, fun e he => hzy e (shedSlot_get he)⟩

/-- R31: under a fallen hold no slot to come holds more than the new capacity. -/
theorem applyChanges_fallen {k v : Nat} {s : State} (hf : s.power.holdFall = some v) (hk : k ≤ s.power.layout.length)
    (ho : ∀ x ∈ s.power.layout, ∀ e, x.get e = true → e ∈ s.power.frameOrder) {x : PerElement Bool}
    (h : x ∈ (applyChanges k s).power.layout.drop k) :
    slotLoad s.power.corrected x ≤ fallenCapacity s.startup.supply.baseLoad s.power.carriesBase v := by
  simp only [applyChanges, hf, State.setPower_power] at h
  obtain ⟨z, hz, rfl⟩ := mem_drop_mapFrom (by simpa using hk) h
  obtain ⟨y, hy, rfl⟩ := mem_drop_mapFrom hk hz
  exact slotLoad_shedSlot fun e he =>
    List.mem_reverse.2 (ho y (List.mem_of_mem_drop hy) e (removeElements_get he))

/-- A crossing leaves the frame's order, ratings, base load and place, and no fall of the hold on record. -/
theorem applyChanges_power (k : Nat) (s : State) :
    (applyChanges k s).power.inFrame = s.power.inFrame ∧ (applyChanges k s).power.corrected = s.power.corrected
      ∧ (applyChanges k s).power.frameOrder = s.power.frameOrder ∧ (applyChanges k s).power.base = s.power.base
      ∧ (applyChanges k s).power.carriesBase = s.power.carriesBase ∧ (applyChanges k s).power.holdFall = none := by
  unfold applyChanges
  split
  next hf => simp [hf]
  · simp

@[simp] theorem length_applyChanges (k : Nat) (s : State) :
    (applyChanges k s).power.layout.length = s.power.layout.length := by
  unfold applyChanges
  split <;> simp

/-- R31, R32: what was shed leaves the slots to come, and they are brought under a fallen hold. -/
theorem PowerOk.nextSlot {s : State} (h : PowerOk s) (hi : s.power.inFrame = true)
    (hk : s.power.slot + 1 < frameSlots) :
    PowerOk (driveSlot (s.power.slot + 1) (applyChanges (s.power.slot + 1) s)) := by
  obtain ⟨hlen, -⟩ := h.slots hi
  have hle : s.power.slot + 1 ≤ s.power.layout.length := by omega
  obtain ⟨hin, hcor, hfo, hba, hca, hno⟩ := applyChanges_power (s.power.slot + 1) s
  obtain ⟨-, hfr⟩ : _ ∧ (applyChanges (s.power.slot + 1) s).startup = s.startup
      ∧ (applyChanges (s.power.slot + 1) s).share = s.share ∧ (applyChanges (s.power.slot + 1) s).line = s.line :=
    ⟨trivial, by unfold applyChanges; split <;> exact ⟨rfl, rfl, rfl⟩⟩
  obtain ⟨hu, hsh, hl⟩ := hfr
  have hlaw : ∀ x ∈ (applyChanges (s.power.slot + 1) s).power.layout.drop (s.power.slot + 1),
      slotLoad s.power.corrected x + carriedLoad s ≤ s.share.holds.power := by
    intro x hx
    cases hf : s.power.holdFall with
    | none =>
      obtain ⟨y, hy, hxy⟩ := applyChanges_slot hle hx
      have hy' : y ∈ s.power.layout.drop s.power.slot := by
        rw [← List.drop_drop] at hy
        exact List.mem_of_mem_drop hy
      exact (Nat.add_le_add_right (slotLoad_mono hxy) _).trans ((h.law hi hf).2 y hy')
    | some v =>
      have hx' := applyChanges_fallen hf hle h.order hx
      have hv := (h.fall v hf).1
      cases hc : s.power.carriesBase with
      | false =>
        have : fallenCapacity s.startup.supply.baseLoad false v = v := by simp [fallenCapacity]
        simp only [hc, this] at hx'
        simp only [carriedLoad, hc, Bool.false_eq_true, if_false]
        omega
      | true =>
        have hB := (h.carries hc).2.2 v hf
        simp only [hc, fallenCapacity, if_neg (Nat.not_lt.2 hB), if_true] at hx'
        simp only [carriedLoad, hc, if_true]
        omega
  refine h.of_slots (hin.trans hi) hk (by simp [driveSlot, hlen]) (fun _ x hx => ?_) rfl (fun x hx e he => ?_) hno hba hca
    hi hu hsh hl
  · have hcar : carriedLoad (driveSlot (s.power.slot + 1) (applyChanges (s.power.slot + 1) s)) = carriedLoad s := by
      simp [carriedLoad, driveSlot, hca]
    rw [hcar]
    simpa [driveSlot, hsh, hcor] using hlaw x (by simpa [driveSlot] using hx)
  · obtain ⟨y, hy, hxy⟩ := applyChanges_layout (by simpa [driveSlot] using hx)
    exact hfo ▸ h.order y hy e (hxy e he)

end Sys2Proof.Machine

/-!
The shared operations, the shares' claims and the generator, each as a chain of elementary changes.
-/
namespace Sys2Proof.Machine

variable {A : List Licence} {s t : State}

/-! ### Elementary changes that recur -/

/-- A change of the shares that leaves holds, floor share, table and trip set. -/
theorem ShareKept.of_eq {x : Share} (hh : x.holds = t.share.holds) (hf : x.floor = t.share.floor)
    (ht : x.table = t.share.table) (hs : x.tripSet = t.share.tripSet) : ShareKept t x where
  holds := hh
  floor := hf
  table h := by simpa only [ShareInv, State.setShare_startup, State.setShare_share, ht, hs] using h
  capacity h := by
    have hc : ∀ p, othersCharges (t.setShare x) p = othersCharges t p := fun p => by
      simp only [othersCharges, State.setShare_share, ht]
      congr 2
      funext e
      simp only [charge, State.setShare_startup, State.setShare_share, hf]
    obtain ⟨h1, h2, h3⟩ := h
    refine ⟨fun p => ?_, fun p e he v hv => ?_, fun hz => ?_⟩
    · rw [hc, State.setShare_share, hh]
      exact h1 p
    · rw [hc]
      exact h2 p e he v hv
    · rw [State.setShare_share, hh]
      exact h3 hz

/-- Timers, marks and link of the shares move. -/
protected theorem Does.shareMoves {x : Share} (h : Does A s t)
    (hx : x = { x with
      holds := t.share.holds, floor := t.share.floor, table := t.share.table, tripSet := t.share.tripSet }) :
    Does A s (t.setShare x) :=
  h.share (.of_eq (by rw [hx]) (by rw [hx]) (by rw [hx]) (by rw [hx]))

/-! ### The transmit queue -/

/-- A frame that is no RAISE enters the queue. -/
theorem LineKept.enqueue {f : TxFrame} (hf : ∀ p, f.isRaise p = false) (x : Line) :
    LineKept x { x with queue := enqueueQueue f x.queue } where
  clash := id
  bounds h := h.enqueue f
  frames e he p hp := by
    obtain rfl | he := mem_enqueueQueue he
    · simp [hf p] at hp
    · exact ⟨e, he, rfl⟩
  raises p h := (raisesOf_enqueueQueue_le (hf p) _).trans h

protected theorem Does.enqueue {f : TxFrame} (h : Does A s t) (hf : ∀ p, f.isRaise p = false) :
    Does A s (enqueue f t) := by
  unfold Machine.enqueue
  split
  · exact h
  · exact h.line (.enqueue hf _)

protected theorem Does.enqueueShare {f : TxFrame} (h : Does A s t) (hf : ∀ p, f.isRaise p = false) :
    Does A s (enqueueShare f t) := by
  unfold Machine.enqueueShare
  split
  · exact h.enqueue hf
  · exact h

protected theorem Does.noticeAt {code : NoticeCode} {index detail : Nat} (h : Does A s t) :
    Does A s (noticeAt code index detail t) := h.enqueue fun _ => rfl

protected theorem Does.notice {code : NoticeCode} {detail : Nat} (h : Does A s t) :
    Does A s (notice code detail t) := h.noticeAt

protected theorem Does.respond {kind : CmdKind} {code : ResultCode} {detail : Nat} (h : Does A s t) :
    Does A s (respond kind code detail t) := h.enqueue fun _ => rfl

/-- Some frames leave the queue. -/
theorem LineKept.sublist {x y : Line} (hq : y.queue.Sublist x.queue) (hc : y.numberClash = x.numberClash) :
    LineKept x y where
  clash h := hc ▸ h
  bounds h := h.sublist hq
  frames e he _ _ := ⟨e, hq.mem he, rfl⟩
  raises _ h := hq.countP_le.trans h

protected theorem Does.dropRaise {p : Pool} (h : Does A s t) : Does A s (dropRaise p t) :=
  h.line (.sublist (removeWaiting_sublist _ _) rfl)

protected theorem Does.queueStatus (h : Does A s t) : Does A s (queueStatus t) :=
  (h.enqueueShare fun _ => rfl).share (.of_eq (by simp) (by simp) (by simp) (by simp))

/-! ### Claims -/

/-- What R39 asks for is above the hold. -/
theorem hold_le_raiseTarget (h : raiseWorth t = true) : t.share.holds.power ≤ (raiseTarget t).toNat := by
  simp only [raiseWorth, Bool.or_eq_true, Bool.and_eq_true, decide_eq_true_eq] at h
  omega

/-- And within the capacity that the others' charges leave. -/
theorem raiseTarget_le (t : State) :
    (raiseTarget t).toNat ≤ t.startup.supply.capacity - othersCharges t .power := by
  have h : raiseTarget t ≤ t.share.holds.power + powerHeadroom t := by
    unfold raiseTarget
    split
    · exact (min_le_left _ _).trans (min_le_right _ _)
    · exact min_le_right _ _
  simp only [powerHeadroom] at h
  omega

protected theorem Does.decideRaise (h : Does A s t) : Does A s (decideRaise t) := by
  unfold Machine.decideRaise
  split
  next hc =>
    simp only [Bool.and_eq_true, Bool.not_eq_true'] at hc
    obtain ⟨⟨-, hs⟩, hw⟩ := hc
    exact h.raises _ hs (raiseTarget_le t) (hold_le_raiseTarget hw)
  · exact h.dropRaise

protected theorem Does.decideYield (h : Does A s t) : Does A s (decideYield t) := by
  unfold Machine.decideYield
  split
  · exact h
  split
  · exact (h.enqueueShare fun _ => rfl).share (.of_eq (by simp) (by simp) (by simp) (by simp))
  · exact h

protected theorem Does.decideLower (h : Does A s t) (hA : .lowerTo ∈ A) : Does A s (decideLower t) := by
  unfold Machine.decideLower
  split
  · split
    · exact (h.shareMoves rfl).lowers (.inr hA)
    · exact h.shareMoves rfl
  · exact h.shareMoves rfl

protected theorem Does.frameStartDecisions (h : Does A s t) (hA : .lowerTo ∈ A) :
    Does A s (frameStartDecisions t) := h.decideRaise.decideYield.decideLower hA

protected theorem Does.evalWater {p : Pool} (h : Does A s t) : Does A s (evalWater p t) := by
  unfold Machine.evalWater
  split
  next hc =>
    simp only [Bool.and_eq_true, decide_eq_true_eq, Bool.not_eq_true'] at hc
    obtain ⟨⟨⟨⟨⟨-, hz⟩, -⟩, hcap⟩, hq⟩, -⟩ := hc
    refine h.raises _ ?_ (by omega) (by omega)
    simp only [raiseQueued, List.any_eq_false, raiseSending, Bool.and_eq_true, not_and] at hq ⊢
    exact fun e he _ => hq e he
  · exact h

protected theorem Does.decideAgain {p : Pool} (h : Does A s t) : Does A s (decideAgain p t) := by
  cases p with
  | power => exact h.decideRaise
  | inlet => exact h.evalWater
  | drain => exact h.evalWater

protected theorem Does.wantInlet (h : Does A s t) : Does A s (wantInlet t) := by
  unfold Machine.wantInlet
  split
  · exact h
  · exact (h.steam (.moves rfl (by simp) (by simp +contextual))).evalWater

protected theorem Does.wantDrain (h : Does A s t) : Does A s (wantDrain t) := by
  unfold Machine.wantDrain
  split
  · exact h
  · exact (h.steam (.moves rfl (by simp) (by simp +contextual))).evalWater

protected theorem Does.releaseWater {p : Pool} (h : Does A s t) : Does A s (releaseWater p t) := by
  unfold Machine.releaseWater
  split
  · exact h.lowers (.inl rfl)
  · exact h.dropRaise

protected theorem Does.unwantInlet (h : Does A s t) : Does A s (unwantInlet t) := by
  unfold Machine.unwantInlet
  split
  · exact (h.steam (.moves rfl (by simp) (by simp +contextual))).releaseWater
  · exact h

protected theorem Does.unwantDrain (h : Does A s t) : Does A s (unwantDrain t) := by
  unfold Machine.unwantDrain
  split
  · exact (h.steam (.moves rfl (by simp) (by simp +contextual))).releaseWater
  · exact h

/-! ### Fills, drains and generator states -/

protected theorem Does.beginFill {kind : FillKind} {budget : Nat} (h : Does A s t) :
    Does A s (beginFill kind budget t) := (h.steam (.moves rfl (by simp) (by simp +contextual))).wantInlet

protected theorem Does.clearFill (h : Does A s t) : Does A s (clearFill t) := (h.steam (.moves rfl (by simp) (by simp +contextual))).unwantInlet

protected theorem Does.beginDrain (h : Does A s t) : Does A s (beginDrain t) := (h.steam (.moves rfl (by simp) (by simp +contextual))).wantDrain

protected theorem Does.clearDrain (h : Does A s t) : Does A s (clearDrain t) := (h.steam (.moves rfl (by simp) (by simp +contextual))).unwantDrain

protected theorem Does.enterHeating (h : Does A s t) : Does A s (enterHeating t) := h.steam (.moves rfl (by simp) (by simp +contextual))

protected theorem Does.enterCooling (h : Does A s t) : Does A s (enterCooling t) := h.steam (.moves rfl (by simp) (by simp +contextual))

protected theorem Does.enterEmpty (h : Does A s t) : Does A s (enterEmpty t) := h.steam (.moves rfl (by simp) (by simp +contextual))

protected theorem Does.enterDraining (h : Does A s t) : Does A s (enterDraining t) := (h.steam (.moves rfl (by simp) (by simp +contextual))).beginDrain

protected theorem Does.endCookingFill (h : Does A s t) : Does A s (endCookingFill t) := h.clearFill.enterHeating

protected theorem Does.enterFilling (h : Does A s t) : Does A s (enterFilling t) := by
  have h1 : Does A s (beginFill .cooking cookingBudget (t.setSteam { t.steam with gen := .filling })) :=
    (h.steam (.moves rfl (by simp) (by simp +contextual))).beginFill
  unfold Machine.enterFilling
  dsimp only
  split
  · exact h1.endCookingFill
  · exact h1

protected theorem Does.beginTopUp (h : Does A s t) : Does A s (beginTopUp t) := by
  unfold Machine.beginTopUp
  dsimp only
  split
  · exact h.beginFill.clearFill
  · exact h.beginFill

protected theorem Does.genFromLevels (h : Does A s t) : Does A s (genFromLevels t) := by
  unfold Machine.genFromLevels
  split
  · exact h.enterCooling
  · exact h.enterEmpty

protected theorem Does.drainIfCool (h : Does A s t) : Does A s (drainIfCool t) := by
  unfold Machine.drainIfCool
  split
  · exact h.enterDraining
  · exact h

protected theorem Does.endSteam (h : Does A s t) : Does A s (endSteam t) := h.clearFill.enterCooling.drainIfCool

protected theorem Does.judgeSteam (h : Does A s t) : Does A s (judgeSteam t) := by
  unfold Machine.judgeSteam
  split
  · exact h
  split
  · exact h.enterFilling
  · exact h.endSteam
  · exact h.endSteam
  · exact h.endSteam
  · split
    · exact h.enterHeating
    · exact h.enterFilling
  · exact h

protected theorem Does.judgeBoil (h : Does A s t) : Does A s (judgeBoil t) := by
  unfold Machine.judgeBoil
  split
  · exact h
  split
  · split
    · exact h.steam (.moves rfl (by simp) (by simp +contextual))
    · exact h
  · exact h.drainIfCool
  all_goals exact h

/-! ### Outputs -/

/-- R88: the BOILER demand is at most 20 where the demands it is formed from are. -/
theorem boilerTarget_le (h : DemandInv t) : boilerTarget t ≤ 20 := by
  obtain ⟨-, -, -, hsd, -, hreq, -⟩ := h
  have hraw : boilerRaw t ≤ 20 := by
    unfold boilerRaw
    split
    · exact le_rfl
    · refine max_le ?_ ?_
      · unfold servedDemand
        split
        · exact hsd
        · omega
      · unfold keepHot
        split <;> omega
    · split
      · split
        · exact le_rfl
        next d hr =>
          split
          · omega
          · exact hreq _ _ hr
        all_goals omega
      · omega
    all_goals omega
  unfold boilerTarget
  (repeat' split) <;> omega

protected theorem Does.settleOutputs (h : Does A s t) : Does A s (settleOutputs t) := by
  have h1 : Does A s (t.setSteam { t.steam with
      fillReq := valveRequest t, pumpReq := pumpRequest t, boilerDemand := boilerTarget t, gate := gateOpen t }) :=
    h.steam <| .asks rfl fun hd => by
      obtain ⟨h1, h2, h3, h4, -, h6, h7⟩ := id hd
      exact ⟨h1, h2, h3, h4, boilerTarget_le hd, h6, h7⟩
  unfold Machine.settleOutputs
  dsimp only
  split
  · exact h1.power id (.inr fun hi => ⟨hi, rfl⟩)
  · exact h1

protected theorem Does.settleBase (h : Does A s t) : Does A s (settleBase t) :=
  h.power (fun hp => (powerInv_iff _).2 ((powerInv_iff t).1 hp).settleBase) (.inr fun hi => ⟨hi, rfl⟩)

protected theorem Does.settleWaits (h : Does A s t) : Does A s (settleWaits t) := by
  have h1 : Does A s (if (waitingPool t).isNone then
      t.setDescale { t.descale with waitMs := 0, waitNoted := false } else t) := by
    split
    · exact h.descale fun h1 h2 => ⟨h1, h2, id⟩
    · exact h
  unfold Machine.settleWaits
  dsimp only
  split
  · exact h1
  · exact h1.recipe id

protected theorem Does.settle (h : Does A s t) : Does A s (settle t) :=
  h.judgeSteam.settleOutputs.settleBase.settleWaits

/-! ### FAULT and SERVICE -/

protected theorem Does.enterFault {kind : FaultKind} (h : Does A s t) : Does A s (enterFault kind t) :=
  (h.clearFill.clearDrain.steam (.moves rfl (by simp) (by simp +contextual))).notice

protected theorem Does.leaveFault (h : Does A s t) : Does A s (leaveFault t) := by
  unfold Machine.leaveFault
  split
  · exact h.genFromLevels
  · exact h

/-- No service request is in progress behind a withdrawal. -/
theorem SteamKept.request {r : ServiceRequest} (hr : ∀ a d, r = .hold a d → d ≤ 20) :
    SteamKept t { t.steam with request := r } :=
  .asks rfl fun hd => by
    obtain ⟨h1, h2, h3, h4, h5, -, h7⟩ := hd
    exact ⟨h1, h2, h3, h4, h5, hr, h7⟩

protected theorem Does.clearRequest (h : Does A s t) : Does A s (clearRequest t) :=
  h.clearFill.clearDrain.steam (.request (by simp))

protected theorem Does.enterService (h : Does A s t) (hA : .lend ∈ A) : Does A s (enterService t) :=
  h.clearRequest.lend hA

protected theorem Does.releaseGenerator (h : Does A s t) : Does A s (releaseGenerator t) :=
  h.clearRequest.genFromLevels

/-! ### Scale and the service record -/

protected theorem Does.askWrite (h : Does A s t) : Does A s (askWrite t) := by
  unfold Machine.askWrite
  split
  · refine h.steam (.records rfl fun hr => ?_)
    obtain ⟨h1, h2, h3, h4, -⟩ := hr
    refine ⟨h1, h2, h3, h4, ?_⟩
    simpa [recordNow] using ⟨h1, h2⟩
  · exact h.steam (.moves rfl (by simp) (by simp +contextual))

protected theorem Does.noticeScale (h : Does A s t) : Does A s (noticeScale t) := h.notice

protected theorem Does.noticeIfDue (h : Does A s t) : Does A s (noticeIfDue t) := by
  unfold Machine.noticeIfDue
  split
  · exact h
  · exact h.noticeScale

protected theorem Does.scaleStep (h : Does A s t) (hA : .count ∈ A) : Does A s (scaleStep t) := by
  have h1 : Does A s (t.setSteam { t.steam with
      sub := 0, scale := min 65535 (t.steam.scale + t.startup.supply.hardness) }) := by
    refine h.count hA rfl fun hr => ?_
    obtain ⟨h1, h2, h3, h4, h5⟩ := hr
    exact ⟨⟨min_le_left _ _, Nat.zero_le _, h3, h4, h5⟩, le_min h1 (Nat.le_add_right _ _)⟩
  unfold Machine.scaleStep
  dsimp only
  split <;> split
  · exact h1.askWrite.noticeScale
  · exact h1.noticeScale
  · exact h1.askWrite
  · exact h1

protected theorem Does.countPulse (h : Does A s t) (hA : .count ∈ A) : Does A s (countPulse t) := by
  unfold Machine.countPulse
  split
  · exact h.scaleStep hA
  next hne =>
    refine h.count hA rfl fun hr => ?_
    obtain ⟨h1, h2, h3⟩ := hr
    exact ⟨⟨h1, by simp; omega, h3⟩, le_rfl⟩

protected theorem Does.setsAcid (h : Does A s t) (hA : .acid ∈ A) : Does A s (setAcid true t) :=
  (h.acid hA).askWrite

end Sys2Proof.Machine

/-!
The climate, the descale and the programs, each as a chain of elementary changes.
-/
namespace Sys2Proof.Machine

variable {A : List Licence} {s t : State}

/-- Either of two chains. -/
protected theorem Does.choice {c : Prop} [Decidable c] {t1 t2 : State} (h1 : Does A s t1) (h2 : Does A s t2) :
    Does A s (if c then t1 else t2) := by
  split
  · exact h1
  · exact h2

/-! ### The climate -/

protected theorem Does.shedCavity (h : Does A s t) : Does A s (shedCavity t) := by
  unfold Machine.shedCavity
  split
  · exact h.power id (.inr fun hi => ⟨hi, rfl⟩)
  · exact h

/-- Demands of 0 are in range. -/
theorem DemandInv.zeroed {x : Climate} (hi : -20 ≤ x.integ ∧ x.integ ≤ 20) (ht : x.demTop = 0) (hb : x.demBottom = 0)
    (hr : x.demRing = 0) (hs : x.steamDemand = 0) (ho : x.order.Nodup) (h : DemandInv t) :
    DemandInv (t.setClimate x) := by
  obtain ⟨-, -, -, -, h5, h6, -⟩ := h
  exact ⟨hi.1, hi.2, by simp [ht, hb, hr], by simp [hs], h5, h6, ho⟩

protected theorem Does.zeroDemands (h : Does A s t) : Does A s (zeroDemands t) := by
  refine Does.shedCavity (h.climate fun hd => ?_)
  obtain ⟨h1, h2, -, -, -, -, h7⟩ := id hd
  exact DemandInv.zeroed ⟨h1, h2⟩ rfl rfl rfl rfl h7 hd

protected theorem Does.leaveClimate (h : Does A s t) : Does A s (leaveClimate t) :=
  Does.shedCavity (h.climate (DemandInv.zeroed (by simp) rfl rfl rfl rfl (by simp [serviceOrder])))

protected theorem Does.forceZero (h : Does A s t) : Does A s (forceZero t) := h.zeroDemands.climate id

protected theorem Does.handOver {k : HeatStage} (h : Does A s t) : Does A s (handOver k t) := by
  refine h.climate fun hd => ?_
  obtain ⟨h1, h2, h3⟩ := hd
  refine ⟨?_, ?_, h3⟩ <;> simp only [State.setClimate_climate] <;> split <;> omega

/-- An amount added to one element adds at most that to the sum. -/
theorem Cavity.add_sum_le (c : Cavity) (n : Nat) (e : Element) :
    (c.add n e).top + (c.add n e).bottom + (c.add n e).ring ≤ c.top + c.bottom + c.ring + n := by
  cases e <;> simp only [Cavity.add] <;> omega

/-- R11: the moved shares make up no more than the shares did. -/
theorem moveShares_sum_le {ratings : PerElement Nat} {share m : Cavity} (h : moveShares ratings share = some m) :
    m.top + m.bottom + m.ring ≤ share.top + share.bottom + share.ring := by
  unfold moveShares at h
  dsimp only at h
  split at h
  · simp at h
  next e _ =>
    simp only [Option.some.injEq] at h
    subst h
    refine (Cavity.add_sum_le _ _ _).trans ?_
    cases elementPresent ratings .top <;> cases elementPresent ratings .bottom <;>
      cases elementPresent ratings .ring <;> simp <;> omega

/-- R10: the split gives no more than the demand, where the shares make up 100 at most. -/
theorem splitHeat_sum_le {ratings : PerElement Nat} {share : Cavity} {d : Nat}
    (h : share.top + share.bottom + share.ring ≤ 100) :
    (splitHeat ratings share d).top + (splitHeat ratings share d).bottom + (splitHeat ratings share d).ring ≤ d := by
  unfold splitHeat
  split
  · simp
  next m hm =>
    have hsum : d * m.top + d * m.bottom + d * m.ring ≤ d * 100 := by
      rw [← Nat.mul_add, ← Nat.mul_add]
      exact Nat.mul_le_mul_left d ((moveShares_sum_le hm).trans h)
    have hbase : d * m.top / 100 + d * m.bottom / 100 + d * m.ring / 100 ≤ d := by omega
    dsimp only
    split
    · exact hbase
    · refine (Cavity.add_sum_le _ _ _).trans ?_
      simp only
      omega

/-- R1: the shares of a profile make up 100. -/
theorem profile_shares (m : Mode) : (profile m).shares.top + (profile m).shares.bottom + (profile m).shares.ring ≤ 100 := by
  cases m <;> decide

theorem profile_order (m : Mode) : (profile m).order.Nodup := by
  cases m <;> decide

/-- R8: the integrator stays within its range. -/
theorem moveIntegrator_range (i e : Int) (b : Bool) : -20 ≤ moveIntegrator i e b ∧ moveIntegrator i e b ≤ 20 := by
  unfold moveIntegrator clampInt
  exact ⟨le_max_left _ _, max_le (by decide) (min_le_left _ _)⟩

/-- A demand of a loop is at most 20 (R9, R12). -/
theorem clampInt_demand_le (v : Int) : (clampInt 0 20 v).toNat ≤ 20 := by
  have : clampInt 0 20 v ≤ 20 := max_le (by decide) (min_le_left _ _)
  omega

theorem steamLoop_le (s : State) (m : Mode) : (steamLoop s m).1 ≤ 20 := by
  unfold steamLoop
  split
  · split
    · simp
    · unfold humidityLoop
      dsimp only
      split
      · simp
      · exact clampInt_demand_le _
  · simp

theorem temperatureLoop_range (h : DemandInv t) (m : Mode) :
    (-20 ≤ (temperatureLoop t m).1 ∧ (temperatureLoop t m).1 ≤ 20)
      ∧ (temperatureLoop t m).2.top + (temperatureLoop t m).2.bottom + (temperatureLoop t m).2.ring ≤ 20 := by
  obtain ⟨h1, h2, -⟩ := h
  unfold temperatureLoop
  split
  · exact ⟨⟨h1, h2⟩, by simp⟩
  · exact ⟨moveIntegrator_range _ _ _, (splitHeat_sum_le (profile_shares m)).trans (clampInt_demand_le _)⟩

/-- R5, R18: a sample keeps the ranges. -/
theorem DemandInv.sample (h : DemandInv t) : DemandInv (t.setClimate { sampleClimate t with sampleMs := 0 }) := by
  obtain ⟨h1, h2, -, -, h5, h6, -⟩ := id h
  unfold sampleClimate
  split
  next hp =>
    refine DemandInv.zeroed ?_ ?_ ?_ ?_ ?_ ?_ h <;> simp [forcedSample, hp, h1, h2, serviceOrder]
  next m hp =>
    split
    · refine DemandInv.zeroed ?_ ?_ ?_ ?_ ?_ ?_ h <;> simp [forcedSample, hp, h1, h2, profile_order]
    · obtain ⟨hi, hs⟩ := temperatureLoop_range h m
      exact ⟨hi.1, hi.2, hs, steamLoop_le t m, h5, h6, profile_order m⟩

protected theorem Does.climateSample (h : Does A s t) : Does A s (climateSample t) := by
  unfold Machine.climateSample
  split
  · exact (h.climate DemandInv.sample).settle
  · exact h

protected theorem Does.doorOpens (h : Does A s t) : Does A s (doorOpens t) := by
  unfold Machine.doorOpens
  split
  · have h1 : Does A s (zeroDemands (t.setClimate { t.climate with doorOpen := true, doorMs := 0 })) :=
      Does.zeroDemands (h.climate id)
    exact Does.settle (h1.climate id)
  · exact h

protected theorem Does.doorCloses (h : Does A s t) : Does A s (doorCloses t) := by
  unfold Machine.doorCloses
  split
  · exact h.climate id
  · exact h

/-! ### The descale -/

protected theorem Does.enterPhase {phase : Phase} {rinse : Nat} {cause : DescaleCause} (h : Does A s t)
    (hp : phase ≠ .rinseDrain) : Does A s (enterPhase phase rinse cause t) :=
  Does.notice (h.descale fun h1 => absurd h1 hp)

protected theorem Does.giveRequest {r : ServiceRequest} (h : Does A s t)
    (hr : ∀ a d, r = .hold a d → d ≤ 20) : Does A s (giveRequest r t) := by
  have h1 : Does A s ((clearRequest t).setSteam { (clearRequest t).steam with request := r }) :=
    h.clearRequest.steam (.request hr)
  unfold Machine.giveRequest
  dsimp only
  split
  · exact h1.beginFill
  · exact h1.beginDrain
  all_goals exact h1

protected theorem Does.endPhase {phase : Phase} {cause : DescaleCause} (h : Does A s t) (hp : phase ≠ .rinseDrain) :
    Does A s (endPhase phase cause t) := h.releaseGenerator.enterPhase hp

protected theorem Does.enterAcidDrain {cause : DescaleCause} (h : Does A s t) : Does A s (enterAcidDrain cause t) :=
  (h.enterPhase (by decide)).giveRequest (by simp)

protected theorem Does.enterSoak (h : Does A s t) : Does A s (enterSoak t) :=
  (h.enterPhase (by decide)).giveRequest fun a d hr => by
    obtain ⟨-, rfl⟩ := ServiceRequest.hold.inj hr
    decide

protected theorem Does.enterSoakHeat (h : Does A s t) : Does A s (enterSoakHeat t) :=
  (h.enterPhase (by decide)).giveRequest (by simp)

protected theorem Does.enterDose (h : Does A s t) : Does A s (enterDose t) := by
  have h1 : Does A s (giveRequest (.fill 600) (enterPhase .dose 0 .none t)) :=
    (h.enterPhase (by decide)).giveRequest (by simp)
  unfold Machine.enterDose
  dsimp only
  split
  · exact h1.clearRequest.enterSoakHeat
  · exact h1

protected theorem Does.enterDrainOut (h : Does A s t) : Does A s (enterDrainOut t) := by
  have h1 : Does A s (enterPhase .drainOut 0 .none t) := h.enterPhase (by decide)
  unfold Machine.enterDrainOut
  dsimp only
  split
  · exact h1.giveRequest (by simp)
  · exact h1.enterDose

protected theorem Does.enterRinseDrain {k : Nat} (h : Does A s t) (hA : .rinse ∈ A) :
    Does A s (enterRinseDrain k t) :=
  Does.giveRequest (Does.notice (h.rinse hA)) (by simp)

protected theorem Does.enterRinseHeat {k : Nat} (h : Does A s t) : Does A s (enterRinseHeat k t) :=
  (h.enterPhase (by decide)).giveRequest (by simp)

protected theorem Does.enterRinseFill {k : Nat} (h : Does A s t) : Does A s (enterRinseFill k t) := by
  have h1 : Does A s (giveRequest (.fill 500) (enterPhase .rinseFill k .none t)) :=
    (h.enterPhase (by decide)).giveRequest (by simp)
  unfold Machine.enterRinseFill
  dsimp only
  split
  · exact h1.clearRequest.enterRinseHeat
  · exact h1

/-- R109: the end of the descale, where a third rinse drain has ended. -/
protected theorem Does.finishDescale {u : State} (hu : Does A s u) (hA : .finish ∈ A) (he : ThirdRinseDrains u)
    (hm : t.descale.soakMark = true → u.descale.soakMark = true) (h : Does A s t) : Does A s (finishDescale t) := by
  unfold Machine.finishDescale
  split
  next hs =>
    have h1 : Does A s (completionStep (enterPhase .complete 0 .none t)) :=
      Does.askWrite (hu.finish hA he (h.enterPhase (by decide)) rfl (.inr ⟨hm hs, rfl, rfl⟩))
    exact h1.notice.endPhase (by decide)
  · have h1 : Does A s (setAcid false t) := Does.askWrite (hu.finish hA he h rfl (.inl ⟨rfl, rfl⟩))
    exact h1.endPhase (by decide)

protected theorem Does.fillDone (h : Does A s t) : Does A s (fillDone t) := by
  unfold Machine.fillDone
  dsimp only
  split
  · exact h.clearRequest.enterSoakHeat
  · exact h.clearRequest.enterRinseHeat
  all_goals exact h.clearRequest

protected theorem Does.drainDone (h : Does A s t) (hA : .finish ∈ A) (hg : t.steam.gen = .service) :
    Does A s (drainDone t) := by
  unfold Machine.drainDone
  dsimp only
  split
  · exact h.clearRequest.enterDose
  · exact h.clearRequest.enterRinseFill
  next hp =>
    split
    · exact h.clearRequest.enterRinseFill
    next hr => exact h.finishDescale hA ⟨hg, hp, Nat.not_lt.1 hr⟩ (by simp) h.clearRequest
  all_goals exact h.clearRequest

protected theorem Does.judgeHeat (h : Does A s t) (hA : .rinse ∈ A) : Does A s (judgeHeat t) := by
  unfold Machine.judgeHeat
  split
  · split
    · split
      · exact h.enterSoak
      · exact h.enterRinseDrain hA
      all_goals exact h.clearRequest
    · exact h
  all_goals exact h

protected theorem Does.descaleFault {cause : DescaleCause} (h : Does A s t) : Does A s (descaleFault cause t) := by
  unfold Machine.descaleFault
  split
  · exact h.endPhase (by split <;> decide)
  · exact h

protected theorem Does.reportFirstPulse (h : Does A s t) (hA : t.descale.phase = .dose → .acid ∈ A) :
    Does A s (reportFirstPulse t) := by
  unfold Machine.reportFirstPulse
  split
  next hc => exact h.setsAcid (hA hc.1)
  · exact h

protected theorem Does.frameForDescale {d g : Nat} {b : Bool} (h : Does A s t) : Does A s (frameForDescale d g b t) :=
  h.descale fun h1 h2 => ⟨h1, h2, id⟩

protected theorem Does.descaleStart (h : Does A s t) (hA : .lend ∈ A) : Does A s (descaleStart t) := by
  unfold Machine.descaleStart
  split
  · exact h.respond
  split
  · exact h.respond
  split
  · exact h.respond
  dsimp only
  split
  · exact (h.respond.enterService hA).enterAcidDrain.settle
  · refine Does.settle (Does.enterPhase (Does.descale (h.respond.enterService hA) fun h1 h2 => ⟨h1, h2, ?_⟩) (by decide))
    simp

protected theorem Does.descaleConfirm (h : Does A s t) : Does A s (descaleConfirm t) := by
  unfold Machine.descaleConfirm
  split
  · exact h.respond.enterDrainOut.settle
  · exact h.respond

protected theorem Does.abortDescale (h : Does A s t) : Does A s (abortDescale t) := by
  unfold Machine.abortDescale
  dsimp only
  split
  · exact (h.respond.endPhase (by decide)).settle
  · exact (h.respond.endPhase (by decide)).settle
  · split
    · exact h.respond.enterAcidDrain.settle
    · exact (h.respond.endPhase (by decide)).settle
  · exact h.respond.enterAcidDrain.settle
  · exact h.respond.enterAcidDrain.settle
  all_goals exact h.respond

protected theorem Does.prepTimeout (h : Does A s t) : Does A s (prepTimeout t) := by
  unfold Machine.prepTimeout
  split
  · exact (h.endPhase (by decide)).settle
  · exact h

protected theorem Does.heatLimit (h : Does A s t) : Does A s (heatLimit t) := by
  unfold Machine.heatLimit
  split
  · exact h.descaleFault.settle
  · exact h

protected theorem Does.descaleLowWater (h : Does A s t) : Does A s (descaleLowWater t) := by
  unfold Machine.descaleLowWater
  split
  · exact h.descaleFault.settle
  · exact h

protected theorem Does.soakTimerEnd (h : Does A s t) : Does A s (soakTimerEnd t) := by
  unfold Machine.soakTimerEnd
  split
  next hc =>
    have hk : DescaleKept t.descale { t.descale with soakMark := true } := fun h1 _ => by
      simp [hc.1] at h1
    exact (h.descale hk).enterAcidDrain.settle
  · exact h

protected theorem Does.waitNotice (h : Does A s t) : Does A s (waitNotice t) := by
  unfold Machine.waitNotice
  split
  · exact h
  split
  · exact h
  · exact Does.notice (h.descale fun h1 h2 => ⟨h1, h2, id⟩)

/-! ### Programs -/

/-- The state of an active program is none of those before the freeze. -/
theorem frozen_of_not_idle (h : RecipeInv t) (hs : t.recipe.state ≠ .idle) : frozen t = true := by
  obtain ⟨-, -, -, -, -, -, h7⟩ := h
  by_contra hf
  exact hs (h7 (Bool.not_eq_true _ ▸ hf)).1

/-- A change of the engine thaws nothing. -/
theorem not_thawed {P : Prop} {x : Recipe} (hf : frozen t = true) (hz : frozen (t.setRecipe x) = false) : P :=
  absurd (hf.symm.trans hz) (by simp)

/-- R116, R133: what a change of the engine in another state than LOADING and PAUSED must keep. -/
theorem RecipeInv.moved {x : Recipe} (hs : x.store = t.recipe.store) (hc : x.cur ≤ 24)
    (hl : t.recipe.lastHeat ≤ 24 → x.lastHeat ≤ 24) (hk : t.recipe.stack.length ≤ 2 → x.stack.length ≤ 2)
    (hx : x.state ≠ .loading ∧ x.state ≠ .paused) (hf : RecipeInv t → frozen t = true) (h : RecipeInv t) :
    RecipeInv (t.setRecipe x) := by
  obtain ⟨h1, -, h3, h4, -⟩ := id h
  refine ⟨hs ▸ h1, hc, hl h3, hk h4, fun hl => absurd hl hx.1, fun hp => absurd hp hx.2, fun hn => ?_⟩
  exact not_thawed (hf h) hn

/-- R120, R121: an ended session leaves nothing. -/
theorem RecipeInv.ended {x : Recipe} (hst : x.state = .idle) (hs : x.store = []) (hc : x.cur = 0)
    (hl : x.lastHeat = t.recipe.lastHeat) (hk : x.stack = t.recipe.stack) (h : RecipeInv t) :
    RecipeInv (t.setRecipe x) := by
  obtain ⟨-, -, h3, h4, -⟩ := h
  exact ⟨by simp [hs], by simp [hc], by simpa [hl], by simpa [hk], by simp [hst], by simp [hst], fun _ => ⟨hst, hs⟩⟩

protected theorem Does.endSession (h : Does A s t) : Does A s (endSession t) :=
  h.recipe (.ended rfl rfl rfl rfl rfl)

protected theorem Does.finishProgram (h : Does A s t) (hs : t.recipe.state ≠ .idle) : Does A s (finishProgram t) := by
  have h1 : Does A s (t.setRecipe { t.recipe with
      state := .finished, cur := t.recipe.lastHeat, stack := [], prompt := 0 }) := by
    refine h.recipe fun hr => ?_
    obtain ⟨-, -, h3, -⟩ := id hr
    exact RecipeInv.moved rfl h3 id (by simp) (by simp) (fun hr => frozen_of_not_idle hr hs) hr
  exact h1.leaveClimate.notice

protected theorem Does.faultProgram {cause : ProgramFault} (h : Does A s t) : Does A s (faultProgram cause t) := by
  unfold Machine.faultProgram
  split
  next ha =>
    have hs : t.recipe.state ≠ .idle := by intro hi; simp [programActive, hi] at ha
    have h1 : Does A s (t.setRecipe { t.recipe with
        state := .faulted, cur := t.recipe.lastHeat, stack := [], prompt := 0 }) := by
      refine h.recipe fun hr => ?_
      obtain ⟨-, -, h3, -⟩ := id hr
      exact RecipeInv.moved rfl h3 id (by simp) (by simp) (fun hr => frozen_of_not_idle hr hs) hr
    exact h1.leaveClimate.notice
  · exact h

/-- A stage that stands in the store has one of its indices. -/
theorem stageAt_le {r : Recipe} {i : Nat} {x : StageRecord} (h : stageAt r i = some x) : i ≤ r.store.length := by
  unfold stageAt at h
  split at h
  · simp at h
  · have := (List.getElem?_eq_some_iff.1 h).1
    omega

/-- A stage of the store becomes current, with a return stack of its own (R125). -/
theorem RecipeInv.current {i : Nat} {x : StageRecord} {stack : List Nat} (hi : stageAt t.recipe i = some x)
    (hk : t.recipe.stack.length ≤ 2 → stack.length ≤ 2) (h : RecipeInv t) :
    RecipeInv (t.setRecipe { t.recipe with cur := i, stack := stack }) := by
  obtain ⟨h1, -, h3, h4, h5⟩ := h
  exact ⟨h1, (stageAt_le hi).trans h1, h3, hk h4, h5⟩

protected theorem Does.beginStage {i : Nat} {k : HeatStage} (h : Does A s t) (hi : t.recipe.cur = i)
    (hs : t.recipe.state ≠ .idle) : Does A s (beginStage i k t) := by
  have hrec : (handOver k t).recipe = t.recipe := rfl
  have h1 : Does A s ((handOver k t).setRecipe { (handOver k t).recipe with
      state := if decide (k.endKind = .prompt) then .prompting else .running
      lastHeat := i, elapsedMs := 0, phaseStarted := !k.atTarget || atTarget t k, withheldMark := false
      withheldMs := 0, prompt := if decide (k.endKind = .prompt) then k.prompt else 0 }) := by
    refine h.handOver.recipe fun hr => ?_
    have h2 : t.recipe.cur ≤ 24 := hr.2.1
    refine RecipeInv.moved rfl (by simpa only [hrec] using h2) (fun _ => hi ▸ h2) (fun h => h) ?_
      (fun hr => frozen_of_not_idle hr (by rwa [hrec])) hr
    split <;> simp
  exact Does.judgeSteam (Does.choice h1.notice.notice h1.notice)

/-- A stage that has begun runs or asks. -/
theorem beginStage_state (i : Nat) (k : HeatStage) (t : State) :
    (beginStage i k t).recipe.state = .running ∨ (beginStage i k t).recipe.state = .prompting := by
  unfold Machine.beginStage
  dsimp only
  split <;> simp_all

protected theorem Does.probeRule (h : Does A s t) : Does A s (probeRule t) := by
  unfold Machine.probeRule
  split
  · exact h
  next k hk =>
    split
    · split
      · exact h.notice
      · refine Does.notice (h.recipe fun hr => ?_)
        have hs : t.recipe.state ≠ .idle := by
          intro hi
          simp [currentHeat, programActive, hi] at hk
        obtain ⟨-, h2, -⟩ := id hr
        exact RecipeInv.moved rfl h2 id id (by simp) (fun hr => frozen_of_not_idle hr hs) hr
    · exact h

/-- R125: a chain of entries. -/
protected theorem Does.enterStage (n : Nat) : ∀ {i : Nat} {t : State}, Does A s t → t.recipe.state ≠ .idle →
    Does A s (enterStage n i t) := by
  induction n with
  | zero => exact fun h _ => h
  | succ n ih =>
    intro i t h hs
    have hcur : ∀ {x}, stageAt t.recipe i = some x → ∀ {stack : List Nat},
        (t.recipe.stack.length ≤ 2 → stack.length ≤ 2) →
        Does A s (t.setRecipe { t.recipe with cur := i, stack := stack }) :=
      fun hi _ hk => h.recipe (RecipeInv.current hi hk)
    unfold Machine.enterStage
    dsimp only
    split
    · exact h.finishProgram hs
    next hi =>
      split
      · exact h.finishProgram hs
      next j rest hst =>
        refine ih (hcur hi fun h2 => ?_) (by simpa using hs)
        simp only [State.setRecipe_recipe] at hst
        simp only [hst, List.length_cons] at h2
        omega
    next target skip hi =>
      split
      · exact ih (hcur hi id) (by simpa using hs)
      split
      next hl =>
        refine ih (hcur hi fun _ => ?_) (by simpa using hs)
        simp only [State.setRecipe_recipe] at hl
        simp only [List.length_cons, State.setRecipe_recipe]
        omega
      · exact (hcur hi id).faultProgram
    next k skip hi =>
      split
      · exact ih (hcur hi id) (by simpa using hs)
      have h2 : Does A s (beginStage i k (t.setRecipe { t.recipe with cur := i })) :=
        (hcur hi id).beginStage rfl (by simpa using hs)
      split
      · refine ih h2 ?_
        rcases beginStage_state i k (t.setRecipe { t.recipe with cur := i }) with hb | hb <;> simp [hb]
      · exact h2.probeRule

protected theorem Does.enter {i : Nat} (h : Does A s t) (hs : t.recipe.state ≠ .idle) : Does A s (enter i t) :=
  h.enterStage entryFuel hs

theorem running_of_stageEnds (h : stageEnds t = true) : t.recipe.state = .running := by
  simp only [stageEnds, Bool.and_eq_true, decide_eq_true_eq] at h
  exact h.1

protected theorem Does.judgeStage (h : Does A s t) : Does A s (judgeStage t) := by
  unfold Machine.judgeStage
  split
  next he => exact h.enter (by simp [running_of_stageEnds he])
  · exact h

protected theorem Does.judgeStageAndProbe (h : Does A s t) : Does A s (judgeStageAndProbe t) := by
  unfold Machine.judgeStageAndProbe
  split
  next he => exact h.enter (by simp [running_of_stageEnds he])
  · exact h.probeRule

protected theorem Does.judgeTimedPhase (h : Does A s t) : Does A s (judgeTimedPhase t) := by
  unfold Machine.judgeTimedPhase
  split
  · exact h
  split
  · exact h.recipe id
  · exact h

protected theorem Does.loadOpen {count : Byte} {tag : Word16} (h : Does A s t) : Does A s (loadOpen count tag t) := by
  unfold Machine.loadOpen
  split
  · exact h.respond
  next hn =>
    simp only [Bool.or_eq_true, Bool.not_eq_true', not_or, Bool.not_eq_false] at hn
    obtain ⟨⟨hf, -⟩, -⟩ := hn
    split
    · exact h.respond
    next hc =>
      refine Does.respond (h.recipe fun hr => ?_)
      obtain ⟨-, -, h3, h4, -⟩ := hr
      exact ⟨by simp, by simp, h3, h4, fun _ => ⟨by simp; omega, by simp, by simp; omega⟩, by simp,
        fun hz => not_thawed hf hz⟩

protected theorem Does.storeStage {r : StageRecord} {c : Option Nat} (h : Does A s t) (hl : t.recipe.state = .loading) :
    Does A s (storeStage r c t) := by
  have hstored : ∀ st : ProgState, st ≠ .paused →
      (st = .loading → t.recipe.remaining - 1 ≠ 0) → st ≠ .idle →
      Does A s (t.setRecipe { t.recipe with
        state := st, store := t.recipe.store ++ [r], remaining := t.recipe.remaining - 1 }) := by
    intro st hp hlo hid
    refine h.recipe fun hr => ?_
    have hf := frozen_of_not_idle hr (by simp [hl])
    obtain ⟨-, h2, h3, h4, h5, -⟩ := hr
    obtain ⟨h6, h7, h8⟩ := h5 hl
    refine ⟨?_, h2, h3, h4, fun hst => ?_, fun hst => absurd hst hp,
      fun hz => not_thawed hf hz⟩
    · simp only [State.setRecipe_recipe, List.length_append, List.length_singleton]
      omega
    · have := hlo hst
      simp only [State.setRecipe_recipe, List.length_append, List.length_singleton]
      omega
  unfold Machine.storeStage
  dsimp only
  split
  next hn =>
    refine Does.respond ?_
    have := hstored .loading (by simp) (fun _ => hn) (by simp)
    rwa [← hl] at this
  split
  · exact Does.respond (h.recipe (x := { t.recipe with
      state := .idle, store := [], count := 0, tag := 0, remaining := 0, cur := 0 }) (.ended rfl rfl rfl rfl rfl))
  · exact Does.respond (hstored .loaded (by simp) (by simp) (by simp))

protected theorem Does.stageCommand {index : Byte} {record : List Byte} (h : Does A s t) :
    Does A s (stageCommand index record t) := by
  unfold Machine.stageCommand
  split
  · exact h.respond
  next hl =>
    have h1 : Does A s (t.setRecipe { t.recipe with gapMs := 0 }) := h.recipe id
    dsimp only
    split
    · exact h1.respond
    split
    · exact h1.respond
    · exact h1.storeStage (by simpa using hl)

protected theorem Does.startProgram (h : Does A s t) (hf : RecipeInv t → frozen t = true) : Does A s (startProgram t) := by
  have h1 : Does A s (t.setRecipe { t.recipe with cur := 1, lastHeat := 0, stack := [], state := .running, prompt := 0 }) :=
    h.recipe fun hr => RecipeInv.moved rfl (by simp) (fun _ => by simp) (by simp) (by simp) hf hr
  exact Does.settle (Does.enter (Does.leaveFault (h1.superv (.moves rfl))) (by simp))

protected theorem Does.startCommand (h : Does A s t) : Does A s (startCommand t) := by
  unfold Machine.startCommand
  split
  · exact h.respond
  next hl =>
    split
    · exact h.respond
    · exact h.respond.startProgram fun hr => frozen_of_not_idle hr (by simp [not_not.1 hl])

protected theorem Does.runManual {record : List Byte} (h : Does A s t) : Does A s (runManual record t) := by
  unfold Machine.runManual
  split
  · exact h.respond
  next hn =>
    simp only [Bool.or_eq_true, Bool.not_eq_true', not_or, Bool.not_eq_false, Bool.and_eq_true, decide_eq_true_eq,
      not_and, not_not] at hn
    obtain ⟨hf, hst⟩ := hn
    split
    · exact h.respond
    · exact h.respond
    · exact h.respond
    · split
      · exact h.respond
      split
      · exact h.respond
      next k skip c _ _ _ _ =>
        have h1 : Does A s (t.setRecipe { t.recipe with store := [.heat k skip], count := 1, tag := 0, remaining := 0 }) := by
          refine h.recipe fun hr => ?_
          obtain ⟨-, h2, h3, h4, -⟩ := hr
          have hne : t.recipe.state = .idle ∨ t.recipe.state = .loaded := by tauto
          exact ⟨by simp, h2, h3, h4, fun hl => by rcases hne with hne | hne <;> simp [hne] at hl,
            fun hl => by rcases hne with hne | hne <;> simp [hne] at hl,
            fun hz => not_thawed hf hz⟩
        have hf1 : frozen (respond .runManual (takenCode c) (c.getD noDetail) (t.setRecipe { t.recipe with
            store := [.heat k skip], count := 1, tag := 0, remaining := 0 })) = true := by simpa [frozen] using hf
        exact h1.respond.startProgram fun _ => hf1

protected theorem Does.applyAnswer {a : Nat} (h : Does A s t) (hs : t.recipe.state ≠ .idle) :
    Does A s (applyAnswer a t) := by
  unfold Machine.applyAnswer
  split <;> exact h.enter hs

protected theorem Does.continueStage (h : Does A s t) (hp : t.recipe.state = .prompting) :
    Does A s (continueStage t) := by
  have h1 : Does A s (t.setRecipe { t.recipe with state := .running, prompt := 0 }) := by
    refine h.recipe fun hr => ?_
    obtain ⟨-, h2, -⟩ := id hr
    exact RecipeInv.moved rfl h2 id id (by simp) (fun hr => frozen_of_not_idle hr (by simp [hp])) hr
  unfold Machine.continueStage
  dsimp only
  split
  · exact h1
  · exact h1.handOver.judgeStage

protected theorem Does.answerCommand {index a : Byte} (h : Does A s t) : Does A s (answerCommand index a t) := by
  unfold Machine.answerCommand
  split
  · exact h.respond
  next hp =>
    have hp' : (respond .answer .accepted noDetail t).recipe.state = .prompting := by simpa using hp
    split
    · exact h.respond
    split
    · exact h.respond
    split
    · split
      · exact (h.respond.continueStage hp').settle
      · exact h.respond
    · exact (h.respond.applyAnswer (by rw [hp']; decide)).settle

protected theorem Does.pauseCommand (h : Does A s t) : Does A s (pauseCommand t) := by
  unfold Machine.pauseCommand
  split
  next hp =>
    refine Does.settle (Does.respond (h.recipe fun hr => ?_))
    have hf := frozen_of_not_idle hr (by rcases hp with hp | hp <;> simp [hp])
    obtain ⟨h1, h2, h3, h4, -⟩ := hr
    exact ⟨h1, h2, h3, h4, by simp, fun _ => hp, fun hz => not_thawed hf hz⟩
  · exact h.respond

protected theorem Does.resumeCommand (h : Does A s t) : Does A s (resumeCommand t) := by
  unfold Machine.resumeCommand
  split
  next hp =>
    have h1 : Does A s (respond .resume .accepted noDetail (t.setRecipe { t.recipe with state := t.recipe.pausedFrom })) := by
      refine Does.respond (h.recipe fun hr => ?_)
      have hf := frozen_of_not_idle hr (by simp [hp])
      obtain ⟨h1, h2, h3, h4, -, h6, -⟩ := hr
      have hfrom := h6 hp
      exact ⟨h1, h2, h3, h4, fun hl => by rcases hfrom with hfrom | hfrom <;> simp [hfrom] at hl,
        fun hl => by rcases hfrom with hfrom | hfrom <;> simp [hfrom] at hl,
        fun hz => not_thawed hf hz⟩
    dsimp only
    split
    · exact h1.handOver.judgeStageAndProbe.settle
    · exact h1.judgeStageAndProbe.settle
  · exact h.respond

/-- The program stands LOADED, at no stage. -/
theorem RecipeInv.loaded {x : Recipe} (hst : x.state = .loaded) (hs : x.store = t.recipe.store) (hc : x.cur = 0)
    (hl : x.lastHeat = t.recipe.lastHeat) (hk : t.recipe.stack.length ≤ 2 → x.stack.length ≤ 2)
    (hn : t.recipe.state ≠ .idle) (h : RecipeInv t) : RecipeInv (t.setRecipe x) :=
  RecipeInv.moved hs (by simp [hc]) (by simp [hl]) hk (by simp [hst]) (fun hr => frozen_of_not_idle hr hn) h

protected theorem Does.abortProgram (h : Does A s t) (hn : t.recipe.state ≠ .idle) : Does A s (abortProgram t) := by
  have h1 : Does A s (t.setRecipe { t.recipe with state := .loaded, cur := 0, stack := [], prompt := 0 }) :=
    h.recipe (RecipeInv.loaded rfl rfl rfl rfl (by simp) hn)
  exact h1.respond.leaveClimate.noticeAt.settle

protected theorem Does.abortCommand (h : Does A s t) : Does A s (abortCommand t) := by
  unfold Machine.abortCommand
  split
  · exact h.abortDescale
  split
  · exact h.endSession.respond
  iterate 3
    next hs => exact h.abortProgram (by simp [hs])
  all_goals exact h.respond

protected theorem Does.acknowledge (h : Does A s t) (hn : t.recipe.state ≠ .idle) : Does A s (acknowledge t) :=
  Does.respond (h.recipe (RecipeInv.loaded rfl rfl rfl rfl id hn))

protected theorem Does.finishAck (h : Does A s t) : Does A s (finishAck t) := by
  unfold Machine.finishAck
  split
  next hs => exact h.acknowledge (by simp [hs])
  next hs =>
    split
    · exact h.acknowledge (by simp [hs])
    · exact h.respond
  all_goals exact h.respond

protected theorem Does.loadTimeout (h : Does A s t) : Does A s (loadTimeout t) := by
  unfold Machine.loadTimeout
  split
  · exact (h.enqueue fun _ => rfl).endSession
  · exact h

protected theorem Does.elapse {k : HeatStage} (h : Does A s t) : Does A s (elapse k t) := h.recipe id

protected theorem Does.stageTimeEnd (h : Does A s t) : Does A s (stageTimeEnd t) := by
  unfold Machine.stageTimeEnd
  split
  · exact h
  split
  next hc => exact (h.elapse.enter (by simp [elapse, hc.1])).settle
  · exact h

protected theorem Does.promptTimeout (h : Does A s t) : Does A s (promptTimeout t) := by
  unfold Machine.promptTimeout
  split
  · exact h
  split
  next hc => exact (h.elapse.applyAnswer (by simp [elapse, hc.1])).settle
  · exact h

protected theorem Does.steamWithheld (h : Does A s t) : Does A s (steamWithheld t) := by
  unfold Machine.steamWithheld
  split
  · exact Does.notice (h.recipe id)
  · exact h

end Sys2Proof.Machine

/-!
The supervision and the power scheduler, each as a chain of elementary changes.
-/
namespace Sys2Proof.Machine

variable {A : List Licence} {s t : State}

/-! ### Heat taken away and the relay opened -/

protected theorem Does.barHeat (h : Does A s t) : Does A s (barHeat t) := by
  unfold Machine.barHeat
  exact .choice (h.power id (.inr fun hi => ⟨hi, rfl⟩)) h

protected theorem Does.openRelay (h : Does A s t) : Does A s (commandRelay false t) :=
  h.superv
    { closed := fun hc => by simp at hc
      trip := id
      welded := id
      config := id
      sound := id
      clean := fun _ hc => by simp at hc }

/-- R148 from the latch on: what takes a TRIP takes the relay command with it. -/
protected theorem Does.takeTripOf {cause : ProgramFault}
    (h : Does A s (commandRelay false (t.setSuperv { t.superv with trip := true }))) :
    Does A s (takeTrip cause t) := by
  have h1 := h.forceZero.barHeat
  unfold Machine.takeTrip
  exact Does.settle (Does.descaleFault (Does.faultProgram (.choice h1 (h1.lowers (.inl rfl)))))

/-- The latch is set and the relay commanded open, with any other fault that is held with them. -/
theorem SupervKept.tripped {v x : Superv} (hc : x.relayClosed = false) (ht : x.trip = true)
    (hw : x.welded = v.welded) (hk : v.configFault = true → x.configFault = true) : SupervKept v x where
  closed h := by simp [hc] at h
  trip _ := ht
  welded h := hw ▸ h
  config := hk
  sound _ _ := ht
  clean _ h := by simp [hc] at h

protected theorem Does.takeTrip {cause : ProgramFault} (h : Does A s t) : Does A s (takeTrip cause t) :=
  Does.takeTripOf (h.superv (.tripped rfl rfl rfl id))

protected theorem Does.beginCut (h : Does A s t) : Does A s (beginCut t) := h.forceZero.barHeat.settle

/-! ### Sides and excursions -/

protected theorem Does.judgeChannelSides {c : Channel} (h : Does A s t) : Does A s (judgeChannelSides c t) := by
  unfold Machine.judgeChannelSides
  exact .choice (.choice (h.superv (.moves rfl)) (h.superv (.moves rfl))) h

protected theorem Does.judgeFixed (h : Does A s t) : Does A s (judgeFixed t) := by
  unfold Machine.judgeFixed
  exact .choice (h.superv (.moves rfl)) h

protected theorem Does.judgeReadings (h : Does A s t) : Does A s (judgeReadings t) :=
  h.judgeChannelSides.judgeChannelSides.judgeChannelSides.judgeChannelSides.judgeChannelSides.judgeFixed

/-- A side's record changes, and strikes are counted. -/
theorem SupervKept.side {v : Superv} (c : Channel) (r : SideRec) (d : Side) : SupervKept v (setSideRec v c r d) := by
  cases d <;> exact .moves rfl

protected theorem Does.startExcursion {c : Channel} {d : Side} (h : Does A s t) :
    Does A s (startExcursion c d t) := by
  have h1 : Does A s (t.setSuperv { setSideRec t.superv c ⟨.active, 0, fixedConsequence t c d⟩ d with
      strikes := (setSideRec t.superv c ⟨.active, 0, fixedConsequence t c d⟩ d).strikes.set (strikesAfter t c d) c }) := by
    obtain ⟨h1, h2, h3, h4, h5, h6⟩ := SupervKept.side (v := t.superv) c ⟨.active, 0, fixedConsequence t c d⟩ d
    exact h.superv ⟨h1, h2, h3, h4, h5, h6⟩
  unfold Machine.startExcursion
  dsimp only
  split
  · exact h1.notice
  · exact .choice h1.notice h1.notice.beginCut
  · exact h1.notice.takeTrip

protected theorem Does.startWaiting {c : Channel} {d : Side} (h : Does A s t) : Does A s (startWaiting c d t) := by
  unfold Machine.startWaiting
  split
  · exact h
  · exact .choice h.startExcursion h

protected theorem Does.endExcursion {c : Channel} {d : Side} (h : Does A s t) : Does A s (endExcursion c d t) :=
  (h.superv (.side c SideRec.cleared d)).notice.startWaiting

protected theorem Does.excursionStart {c : Channel} {d : Side} (h : Does A s t) : Does A s (excursionStart c d t) := by
  unfold Machine.excursionStart Machine.debounced
  exact .choice (.choice (h.superv (.side c _ d)) h.startExcursion) h

protected theorem Does.excursionEnd {c : Channel} {d : Side} (h : Does A s t) : Does A s (excursionEnd c d t) := by
  unfold Machine.excursionEnd
  exact .choice h.endExcursion.settle h

/-! ### Readings -/

protected theorem Does.probeInput {b : Bool} (h : Does A s t) : Does A s (probeInput b t) := h.recipe id

protected theorem Does.sensorReading {x : SensorInputs} (h : Does A s t) (hA : .rinse ∈ A) :
    Does A s (sensorReading x t) := by
  have h1 : Does A s (t.setSuperv { t.superv with
      readings := readInputs x t.recipe.probePresent t.superv.readings }) := h.superv (.moves rfl)
  exact (h1.probeInput.judgeReadings.judgeTimedPhase.judgeStage.judgeHeat hA).judgeBoil.settle

protected theorem Does.channelFails {c : Channel} (h : Does A s t) : Does A s (channelFails c t) := by
  unfold Machine.channelFails
  have h1 : Does A s (judgeChannelSides c (t.setSuperv { t.superv with
      readings := t.superv.readings.set
        { t.superv.readings.get c with
          value := none, holding := false, holdMs := 0, failed := some (failSide (t.superv.readings.get c).cond) } c })) :=
    Does.judgeChannelSides (h.superv (.moves rfl))
  exact .choice (Does.settle (.choice h1.judgeFixed h1)) h

protected theorem Does.presentMains {v : Nat} (h : Does A s t) : Does A s (presentMains v t) :=
  Does.judgeChannelSides (h.superv (.moves rfl))

protected theorem Does.endCoreExcursion {d : Side} (h : Does A s t) : Does A s (endCoreExcursion d t) := by
  unfold Machine.endCoreExcursion
  exact .choice h.endExcursion h

protected theorem Does.probeLost (h : Does A s t) : Does A s (probeLost t) := by
  have h1 : Does A s (t.setSuperv { t.superv with
      readings := { t.superv.readings with core := t.superv.readings.core.probeGone } }) := h.superv (.moves rfl)
  exact h1.endCoreExcursion.endCoreExcursion

protected theorem Does.probeStateChange (h : Does A s t) : Does A s (probeStateChange t) := by
  have h1 : Does A s (t.setRecipe { t.recipe with probePresent := t.recipe.probeShows, probeMs := 0 }) := h.recipe id
  have h2 : Does A s (if t.recipe.probeShows then
      t.setRecipe { t.recipe with probePresent := t.recipe.probeShows, probeMs := 0 }
      else probeLost (t.setRecipe { t.recipe with probePresent := t.recipe.probeShows, probeMs := 0 })) :=
    .choice h1 h1.probeLost
  unfold Machine.probeStateChange
  exact .choice h (.choice (Does.settle (.choice h2.judgeStage h2.judgeStageAndProbe)) h2.settle)

/-! ### The relay and the checks -/

protected theorem Does.relayOpenFault (h : Does A s t) : Does A s (relayOpenFault t) := by
  unfold Machine.relayOpenFault
  exact .choice h.notice.takeTrip h

protected theorem Does.relayWelded (h : Does A s t) : Does A s (relayWelded t) := by
  unfold Machine.relayWelded
  split
  next hc =>
    simp only [Bool.and_eq_true, Bool.not_eq_true'] at hc
    obtain ⟨⟨hr, -⟩, -⟩ := hc
    have h1 : Does A s ((notice .relayFault 2 t).setSuperv { (notice .relayFault 2 t).superv with welded := true }) :=
      h.notice.superv
        { closed := id
          trip := id
          welded := fun _ => rfl
          config := id
          sound := id
          clean := fun _ hc => by simp [hr] at hc }
    exact h1.barHeat.descaleFault.settle
  · exact h

protected theorem Does.relayRestore (h : Does A s t) (hA : .restore ∈ A)
    (hc : t.superv.configFault = false) : Does A s (relayRestore t) := by
  unfold Machine.relayRestore
  split
  · exact h.respond
  split
  · exact h.respond
  next hw =>
    split
    · exact h.respond
    · exact Does.respond (h.restore hA (Bool.not_eq_true _ ▸ hw) hc)

protected theorem Does.startCheck (h : Does A s t) (hA : .close ∈ A) : Does A s (startCheck t) := by
  unfold Machine.startCheck
  split
  next hc =>
    simp only [Bool.and_eq_true, Bool.not_eq_true'] at hc
    obtain ⟨⟨⟨hw, ht⟩, -⟩, -⟩ := hc
    exact h.close hA ht hw
  · exact h

protected theorem Does.startJudging (h : Does A s t) : Does A s (startJudging t) :=
  (h.superv (x := { t.superv with
    low := PerChannel.all SideRec.cleared, high := PerChannel.all SideRec.cleared
    fixed := SideRec.cleared, strikes := PerChannel.all 0, judging := true, mainsArmed := false }) (.moves rfl)).judgeReadings

protected theorem Does.takeConfigFault (h : Does A s t) : Does A s (takeConfigFault t) := by
  have h1 : Does A s (takeTrip .configFault
      ((notice .relayFault 3 t).setSuperv { (notice .relayFault 3 t).superv with configFault := true })) :=
    Does.takeTripOf (h.notice.superv (.tripped rfl rfl rfl fun _ => rfl))
  have h2 := ((h1.lowers (p := .power) (.inl rfl)).lowers (p := .inlet) (.inl rfl)).lowers (p := .drain) (.inl rfl)
  exact h2.dropRaise.dropRaise.dropRaise.settle

protected theorem Does.configCheck (h : Does A s t) : Does A s (configCheck t) := by
  have h1 : Does A s (t.setSuperv { t.superv with checkMs := 0 }) := h.superv (.moves rfl)
  unfold Machine.configCheck
  exact .choice (.choice h1 h1.takeConfigFault) h

/-! ### The power scheduler -/

protected theorem Does.decideMainsFault {tenths : Nat} {half : Option Nat} (h : Does A s t) :
    Does A s (decideMainsFault tenths half t) := Does.notice (h.power id (.inr fun hi => ⟨hi, rfl⟩))

protected theorem Does.timeCrossing {interval : Nat} (h : Does A s t) : Does A s (timeCrossing interval t) := by
  unfold Machine.timeCrossing Machine.decideFrequency
  have h1 : Does A s (t.setPower { t.power with
      crossings := t.power.crossings + 1
      intervalUs := if t.power.crossings = 0 then 0 else t.power.intervalUs + interval }) := h.power id (.inr fun hi => ⟨hi, rfl⟩)
  exact .choice (.choice (.choice (h1.power id (.inr fun hi => ⟨hi, rfl⟩)) (.choice (h1.power id (.inr fun hi => ⟨hi, rfl⟩)) h1.decideMainsFault)) h1) h

protected theorem Does.frequencyTimeout (h : Does A s t) : Does A s (frequencyTimeout t) := by
  unfold Machine.frequencyTimeout
  exact .choice h.decideMainsFault h

protected theorem Does.frameStart {volts : Option Nat} (h : Does A s t) (hA : .lowerTo ∈ A)
    (hF : .frame ∈ A) (hf : PowerOk t → frozen t = true) : Does A s (frameStart volts t) := by
  have h1 : Does A s (driveSlot 0 (layOut volts t)) :=
    h.power (x := (driveSlot 0 (layOut volts t)).power) (fun hp =>
      (powerInv_iff _).2 (((powerInv_iff t).1 hp).frameStart (hf ((powerInv_iff t).1 hp)) volts)) (.inl hF)
  exact (h1.frameStartDecisions hA).settle

protected theorem Does.completeFrame {volts : Nat} (h : Does A s t) : Does A s (completeFrame volts t) := by
  have h1 : Does A s (t.setPower { t.power with
      grants := t.power.onCount, starved := frameStarved t.power
      starveMs := if frameStarved t.power then some (t.power.starveMs.getD 0) else none }) := h.power id (.inr fun hi => ⟨hi, rfl⟩)
  exact Does.presentMains (h1.frameForDescale.superv (.moves rfl))

theorem applyChanges_eq (k : Nat) (s : State) : applyChanges k s = s.setPower (applyChanges k s).power := by
  unfold applyChanges
  split <;> rfl

/-- R31, R32: the next slot begins. -/
protected theorem Does.nextSlot (h : Does A s t) (hi : t.power.inFrame = true) (hk : t.power.slot + 1 < frameSlots) :
    Does A s (driveSlot (t.power.slot + 1) (applyChanges (t.power.slot + 1) t)) := by
  have he : driveSlot (t.power.slot + 1) (applyChanges (t.power.slot + 1) t)
      = t.setPower (driveSlot (t.power.slot + 1) (applyChanges (t.power.slot + 1) t)).power := by
    rw [applyChanges_eq]
    rfl
  rw [he]
  refine h.power (fun hp => ?_) (.inr fun _ => ⟨hi, (applyChanges_power _ t).2.1⟩)
  rw [← he]
  exact (powerInv_iff _).2 (((powerInv_iff t).1 hp).nextSlot hi hk)

protected theorem Does.zeroCrossing {interval volts : Nat} (h : Does A s t) (hA : .lowerTo ∈ A) (hF : .frame ∈ A) :
    Does A s (zeroCrossing interval volts t) := by
  have h1 : Does A s ((timeCrossing interval t).setPower { (timeCrossing interval t).power with
      sinceCrossUs := 0, misses := 0 }) := h.timeCrossing.power id (.inr fun hi => ⟨hi, rfl⟩)
  unfold Machine.zeroCrossing
  dsimp only
  split
  next hi =>
    split
    next hk => exact h1.nextSlot hi hk
    · refine h1.completeFrame.frameStart hA hF fun hp => ?_
      by_contra hf
      have := (hp.thawed (Bool.not_eq_true _ ▸ hf)).1
      simp [completeFrame] at this hi
      simp [this] at hi
  · split
    next hf =>
      simp only [framesRun, Bool.and_eq_true] at hf
      exact h1.frameStart hA hF fun _ => by simpa [frozen] using hf.1.1
    · exact h1

/-- R22, R33: an abandoned frame leaves nothing that carries load. -/
protected theorem PowerOk.abandonFrame (h : PowerOk t) : PowerOk (abandonFrame t) where
  law hi := by simp [Machine.abandonFrame] at hi
  fall v hv := by simp [Machine.abandonFrame] at hv
  carries hc := by simp [Machine.abandonFrame] at hc
  runs hb := ⟨(h.runs hb).1, fun hi => by simp [Machine.abandonFrame] at hi⟩
  idle _ := rfl
  slots hi := by simp [Machine.abandonFrame] at hi
  order x hx := by simp [Machine.abandonFrame] at hx
  raises := h.raises
  single := h.single
  thawed hf := ⟨rfl, (h.thawed hf).2⟩

protected theorem Does.abandonFrame (h : Does A s t) : Does A s (abandonFrame t) :=
  h.power (fun hp => (powerInv_iff _).2 ((powerInv_iff t).1 hp).abandonFrame) (.inr fun hi => by simp at hi)

/-- R22: released gates carry no load. -/
protected theorem PowerOk.releaseGates (h : PowerOk t) : PowerOk (releaseGates t) where
  law hi hf := by
    obtain ⟨h1, h2⟩ := h.law hi hf
    refine ⟨?_, h2⟩
    have : slotLoad (releaseGates t).power.corrected (releaseGates t).power.gates = 0 := rfl
    rw [this, Nat.zero_add]
    exact (Nat.le_add_left _ _).trans h1
  fall := h.fall
  carries := h.carries
  runs := h.runs
  idle _ := rfl
  slots := h.slots
  order := h.order
  raises := h.raises
  single := h.single
  thawed := h.thawed

protected theorem Does.releaseGates (h : Does A s t) : Does A s (releaseGates t) :=
  h.power (fun hp => (powerInv_iff _).2 ((powerInv_iff t).1 hp).releaseGates) (.inr fun hi => ⟨hi, rfl⟩)

protected theorem Does.missedCrossing (h : Does A s t) : Does A s (missedCrossing t) := by
  have h1 : Does A s (t.setPower { t.power with misses := t.power.misses + 1 }) := h.power id (.inr fun hi => ⟨hi, rfl⟩)
  have h2 : Does A s (if t.power.misses = 0 then releaseGates (t.setPower { t.power with misses := t.power.misses + 1 })
      else t.setPower { t.power with misses := t.power.misses + 1 }) := .choice h1.releaseGates h1
  unfold Machine.missedCrossing
  exact .choice (.choice h2.abandonFrame.presentMains.settle h2) h

protected theorem Does.supplyStarved (h : Does A s t) : Does A s (supplyStarved t) := by
  unfold Machine.supplyStarved
  exact .choice (Does.notice (h.power id (.inr fun hi => ⟨hi, rfl⟩))) h

end Sys2Proof.Machine

/-!
The Share Unit, RESTART, the Line Interface and the Start-up Unit, each as a chain of elementary changes.
-/
namespace Sys2Proof.Machine

variable {A : List Licence} {s t : State}

/-! ### The share table and the trip set -/

/-- A charge is read from the entry, the SUPPLY section and the floor share (R37). -/
theorem charge_congr {u : State} (hs : u.startup.supply = t.startup.supply) (hf : u.share.floor = t.share.floor)
    (p : Pool) (e : Entry) : charge u p e = charge t p e := by
  simp only [charge, hs, hf]

/-- An entry with the station, the groups and charges of no more keeps the others' charges. -/
theorem othersCharges_map_le {f : Entry → Entry} (h : ∀ e p, charge t p (f e) ≤ charge t p e) (p : Pool) :
    othersCharges (t.setShare { t.share with table := t.share.table.map f }) p ≤ othersCharges t p := by
  simp only [othersCharges, State.setShare_share, List.map_map]
  refine List.sum_le_sum fun e _ => ?_
  simp only [Function.comp_apply]
  exact (charge_congr (by simp) (by simp) p (f e)).le.trans (h e p)

/-- A table with the same stations, or some of them, and no more charges. -/
theorem ShareKept.table' {x : Share} (hh : x.holds = t.share.holds) (hf : x.floor = t.share.floor)
    (hs : x.tripSet = t.share.tripSet) (hst : (x.table.map (·.station)).Sublist (t.share.table.map (·.station)))
    (hc : ∀ p, othersCharges (t.setShare { t.share with table := x.table }) p ≤ othersCharges t p) : ShareKept t x where
  holds := hh
  floor := hf
  table h := by
    obtain ⟨h1, h2, h3, h4, h5, h6⟩ := h
    refine ⟨h1, h2, h3.sublist hst, fun e he => ?_, by simpa [hs] using h5, by simpa [hs] using h6⟩
    obtain ⟨y, hy, hye⟩ := List.mem_map.1 (hst.mem (List.mem_map_of_mem he))
    have := h4 y hy
    rwa [hye] at this
  capacity h := by
    obtain ⟨h1, h2, h3⟩ := h
    have hc' : ∀ p, othersCharges (t.setShare x) p ≤ othersCharges t p := fun p => by
      refine le_trans (le_of_eq ?_) (hc p)
      simp only [othersCharges, State.setShare_share]
      congr 2
      funext e
      exact charge_congr (by simp) (by simp [hf]) p e
    refine ⟨fun p => ?_, fun p e he v hv => ?_, fun hz => ?_⟩
    · have := h1 p
      have := hc' p
      simp only [State.setShare_share, State.setShare_startup, hh]
      omega
    · have := h2 p e he v hv
      have := hc' p
      simp only [State.setShare_startup]
      omega
    · rw [State.setShare_share, hh]
      exact h3 hz

/-- The trip set changes within the station numbers. -/
theorem ShareKept.trips {l : List Nat} (h : ShareInv t → l.Pairwise (· < ·) ∧ ∀ n ∈ l, 1 ≤ n ∧ n ≤ 15) :
    ShareKept t { t.share with tripSet := l } where
  holds := rfl
  floor := rfl
  capacity := id
  table hs := by
    obtain ⟨h5, h6⟩ := h hs
    obtain ⟨h1, h2, h3, h4, -⟩ := hs
    exact ⟨h1, h2, h3, h4, h5, h6⟩

theorem mem_insertOrigin {n k : Nat} {l : List Nat} (h : k ∈ insertOrigin n l) : k = n ∨ k ∈ l := by
  induction l with
  | nil => simpa [insertOrigin] using h
  | cons x l ih =>
    unfold insertOrigin at h
    split at h
    · simpa using h
    split at h
    · exact .inr h
    · rcases List.mem_cons.1 h with rfl | h
      · simp
      · exact (ih h).imp id (List.mem_cons_of_mem _)

theorem insertOrigin_sorted {n : Nat} {l : List Nat} (h : l.Pairwise (· < ·)) :
    (insertOrigin n l).Pairwise (· < ·) := by
  induction l with
  | nil => simp [insertOrigin]
  | cons x l ih =>
    have hx := List.pairwise_cons.1 h
    unfold insertOrigin
    split
    next hn =>
      refine List.pairwise_cons.2 ⟨fun k hk => ?_, h⟩
      rcases List.mem_cons.1 hk with rfl | hk
      · exact hn
      · exact hn.trans (hx.1 k hk)
    split
    · exact h
    · refine List.pairwise_cons.2 ⟨fun k hk => ?_, ih hx.2⟩
      rcases mem_insertOrigin hk with rfl | hk
      · omega
      · exact hx.1 k hk

protected theorem Does.dropInlet (h : Does A s t) : Does A s (dropInlet t) := (h.lowers (.inl rfl)).dropRaise

protected theorem Does.addOrigin {n : Nat} (h : Does A s t) (hn : ShareInv t → 1 ≤ n ∧ n ≤ 15) :
    Does A s (addOrigin n t) := by
  have h1 : Does A s (t.setShare { t.share with tripSet := insertOrigin n t.share.tripSet }) := by
    refine h.share (.trips fun hs => ?_)
    obtain ⟨-, -, -, -, h5, h6⟩ := id hs
    refine ⟨insertOrigin_sorted h5, fun k hk => ?_⟩
    rcases mem_insertOrigin hk with rfl | hk
    · exact hn hs
    · exact h6 k hk
  unfold Machine.addOrigin
  exact .choice h1.dropInlet h1

protected theorem Does.learnOrigin {n : Nat} (h : Does A s t) (hn : ShareInv t → 1 ≤ n ∧ n ≤ 15) :
    Does A s (learnOrigin n t) := by
  unfold Machine.learnOrigin
  exact .choice h (h.addOrigin hn).notice

protected theorem Does.removeOrigin {n : Nat} (h : Does A s t) : Does A s (removeOrigin n t) := by
  have h1 : Does A s (t.setShare { t.share with tripSet := t.share.tripSet.filter (· ≠ n) }) := by
    refine h.share (.trips fun hs => ?_)
    obtain ⟨-, -, -, -, h5, h6⟩ := hs
    exact ⟨h5.sublist List.filter_sublist, fun k hk => h6 k (List.mem_of_mem_filter hk)⟩
  unfold Machine.removeOrigin
  exact .choice h1.evalWater h1

protected theorem Does.takeWaterTrip {type origin group : Byte} (h : Does A s t) :
    Does A s (takeWaterTrip type origin group t) := by
  unfold Machine.takeWaterTrip
  split
  next hc =>
    simp only [tripActs, Bool.and_eq_true, decide_eq_true_eq] at hc
    obtain ⟨⟨⟨-, h1⟩, h2⟩, -⟩ := hc
    exact h.learnOrigin fun _ => ⟨h1, h2⟩
  · exact h

protected theorem Does.takeTripClear {n : Nat} {type origin group : Byte} (h : Does A s t) :
    Does A s (takeTripClear n type origin group t) := by
  unfold Machine.takeTripClear
  exact .choice h (.choice (.choice h.removeOrigin h) (.choice h.removeOrigin h))

protected theorem Does.leakFlag {n : Nat} {b : StatusBody} (h : Does A s t) (hn : ShareInv t → 1 ≤ n ∧ n ≤ 15) :
    Does A s (leakFlag n b t) := by
  unfold Machine.leakFlag
  exact .choice (.choice (h.learnOrigin hn) h.removeOrigin) h

/-! ### Recording -/

protected theorem Does.evalIfChanged {u : State} {p : Pool} (h : Does A s t) : Does A s (evalIfChanged u p t) := by
  unfold Machine.evalIfChanged
  exact .choice h h.evalWater

/-- A sender other than this station is recorded where no RAISE is queued. -/
protected theorem Does.record {n : Nat} {f : Entry → Entry} (h : Does A s t) (hA : .lowerTo ∈ A)
    (hq : ∀ p, raiseQueued p t = false) (hn : ShareInv t → 1 ≤ n ∧ n ≤ 15)
    (hf : ∀ e : Entry, e.station = n → (f e).station = n) : Does A s (record n f t) := by
  unfold Machine.record
  split
  · exact h
  next hne =>
    have he : ((findEntry t.share.table n).getD (newEntry n)).station = n := by
      cases hfe : findEntry t.share.table n with
      | none => rfl
      | some e => simpa using List.find?_some hfe
    exact (h.entry n hA hq hne hn (hf _ he)).evalIfChanged.evalIfChanged

protected theorem Does.recordShare {n : Nat} {p : Pool} {group : Byte} {hold : Word16} (h : Does A s t)
    (hA : .lowerTo ∈ A) (hq : ∀ p, raiseQueued p t = false) (hn : ShareInv t → 1 ≤ n ∧ n ≤ 15) :
    Does A s (recordShare n p group hold t) :=
  h.record hA hq hn fun e he => by cases p <;> exact he

protected theorem Does.recordStatus {n : Nat} {b : StatusBody} (h : Does A s t) (hA : .lowerTo ∈ A)
    (hq : ∀ p, raiseQueued p t = false) (hn : 1 ≤ n ∧ n ≤ 15 ∨ n = t.startup.station ∧ unnumbered t = false) :
    Does A s (recordStatus n b t) := by
  have hn' : ∀ u : State, u.startup = t.startup → ShareInv u → 1 ≤ n ∧ n ≤ 15 := by
    rintro u hu ⟨h1, -⟩
    obtain hn | ⟨rfl, hnum⟩ := hn
    · exact hn
    · simp only [unnumbered, Bool.or_eq_false_iff, decide_eq_false_iff_not] at hnum
      rw [hu] at h1
      omega
  have h1 : Does A s (record n (fun _ => statusEntry n b) t) := h.record hA hq (hn' t rfl) fun _ _ => rfl
  have h2 : Does A s (if statusCallsForAnswer n b t then queueStatus (record n (fun _ => statusEntry n b) t)
      else record n (fun _ => statusEntry n b) t) := .choice h1.queueStatus h1
  unfold Machine.recordStatus
  exact h2.leakFlag (hn' _ (by split <;> simp))

protected theorem Does.takeYield {group : Byte} {need : Word16} (h : Does A s t) (hA : .lowerTo ∈ A) :
    Does A s (takeYield group need t) := by
  unfold Machine.takeYield
  exact .choice ((h.shareMoves rfl).lowers (.inr hA)) h

/-! ### Link state, neighbours and the leak input -/

protected theorem Does.isolate (h : Does A s t) (hA : .lowerTo ∈ A) : Does A s (isolate t) := by
  have h1 : Does A s (t.setShare { t.share with link := .isolated, joinMs := none, isolatedMs := 0, lost := false }) :=
    h.shareMoves rfl
  have h2 := ((h1.lowers (p := .power) (v := min t.share.holds.power t.share.floor) (.inr hA)).lowers (p := .inlet)
    (.inl rfl)).lowers (p := .drain) (.inl rfl)
  exact h2.dropRaise.dropRaise.dropRaise.notice

protected theorem Does.openJoinWindow (h : Does A s t) : Does A s (openJoinWindow t) :=
  Does.queueStatus (h.shareMoves rfl)

protected theorem Does.lineIsolated (h : Does A s t) (hA : .lowerTo ∈ A) : Does A s (lineIsolated t) := by
  unfold Machine.lineIsolated
  exact .choice (h.isolate hA).settle h

protected theorem Does.lineLost (h : Does A s t) : Does A s (lineLost t) := by
  unfold Machine.lineLost
  have h1 : Does A s (t.setShare { t.share with lost := true, isolatedMs := max 60000 t.share.isolatedMs }) :=
    h.shareMoves rfl
  exact .choice (h1.lowers (p := .power) (.inl rfl)).notice.faultProgram.settle h

protected theorem Does.joinWindowEnd (h : Does A s t) : Does A s (joinWindowEnd t) := by
  have h1 : Does A s (t.setShare { t.share with link := .member, joinMs := none }) := h.shareMoves rfl
  unfold Machine.joinWindowEnd
  exact .choice h1.evalWater.evalWater h

protected theorem Does.statusPeriod (h : Does A s t) : Does A s (statusPeriod t) := by
  unfold Machine.statusPeriod
  exact .choice h.queueStatus h

protected theorem Does.waterRaiseRetry (h : Does A s t) : Does A s (waterRaiseRetry t) := by
  have h1 : Does A s (t.setShare { t.share with retryMs := 0 }) := h.shareMoves rfl
  exact h1.evalWater.evalWater

protected theorem Does.evalFor {e : Entry} (h : Does A s t) : Does A s (evalFor e t) := by
  unfold Machine.evalFor
  exact .choice h.evalWater.evalWater h

/-- A changed entry of one station keeps its station and its charges at least as low. -/
theorem ShareKept.update {n : Nat} {f : Entry → Entry} (hf : ∀ e, (f e).station = e.station)
    (hc : ∀ e p, charge t p (f e) ≤ charge t p e) :
    ShareKept t { t.share with table := updateEntry n f t.share.table } := by
  refine .table' rfl rfl rfl ?_ (othersCharges_map_le fun e p => ?_)
  · have : (updateEntry n f t.share.table).map (·.station) = t.share.table.map (·.station) := by
      rw [updateEntry, List.map_map]
      refine List.map_congr_left fun e _ => ?_
      simp only [Function.comp_apply]
      split <;> simp [hf]
    exact this ▸ List.Sublist.refl _
  · split
    · exact hc e p
    · exact le_rfl

protected theorem Does.entryExpired {n : Nat} (h : Does A s t) : Does A s (entryExpired n t) := by
  unfold Machine.entryExpired
  split
  · exact h
  next e _ =>
    split
    · exact h
    · refine Does.evalFor (h.share (.update (fun _ => rfl) fun e p => ?_))
      cases hx : e.expired <;> cases p <;> simp only [charge, hx, Entry.group] <;> (repeat' split) <;> simp_all

protected theorem Does.entryRemoved {n : Nat} (h : Does A s t) : Does A s (entryRemoved n t) := by
  unfold Machine.entryRemoved
  split
  · exact h
  · refine Does.evalFor (h.share (.table' rfl rfl rfl (List.filter_sublist.map _) fun p => ?_))
    simp only [othersCharges, State.setShare_share]
    exact (List.filter_sublist.map _).sum_le_sum fun _ _ => Nat.zero_le _

protected theorem Does.leakInput {b : Bool} (h : Does A s t) : Does A s (leakInput b t) := h.shareMoves rfl

protected theorem Does.tellLeak (h : Does A s t) : Does A s (tellLeak t) := by
  unfold Machine.tellLeak
  exact .choice (h.enqueueShare fun _ => rfl) (h.enqueueShare fun _ => rfl)

protected theorem Does.leakChanged (h : Does A s t) : Does A s (leakChanged t) := by
  unfold Machine.leakChanged
  exact .choice h.tellLeak (h.shareMoves rfl)

protected theorem Does.tellOwedLeak (h : Does A s t) : Does A s (tellOwedLeak t) := by
  unfold Machine.tellOwedLeak
  exact .choice (Does.tellLeak (h.shareMoves rfl)) h

protected theorem Does.leakWet (h : Does A s t) : Does A s (leakWet t) := by
  unfold Machine.leakWet
  split
  next hc =>
    simp only [Bool.and_eq_true, Bool.not_eq_true', unnumbered, Bool.or_eq_false_iff, decide_eq_false_iff_not] at hc
    obtain ⟨-, ⟨hnum, -⟩, -⟩ := hc
    have h1 : Does A s (t.setShare { t.share with leakWet := true, leakMs := 0 }) := h.shareMoves rfl
    refine (Does.leakChanged (h1.addOrigin fun hs => ?_)).notice.settle
    obtain ⟨h15, -⟩ := hs
    exact ⟨Nat.pos_of_ne_zero hnum, h15⟩
  · exact h

protected theorem Does.leakDry (h : Does A s t) : Does A s (leakDry t) := by
  have h1 : Does A s (t.setShare { t.share with leakWet := false, leakMs := 0 }) := h.shareMoves rfl
  unfold Machine.leakDry
  exact .choice h1.removeOrigin.leakChanged.settle h

/-! ### RESTART and the re-initialisation -/

protected theorem Does.writeIfDiffers (h : Does A s t) : Does A s (writeIfDiffers t) := by
  unfold Machine.writeIfDiffers
  exact .choice h h.askWrite

protected theorem Does.lowerAll (h : Does A s t) : Does A s (lowerAll t) := by
  have h1 : Does A s (t.setStartup { t.startup with
      restartLowers := ⟨decide (t.share.holds.power ≠ 0), decide (t.share.holds.inlet ≠ 0),
        decide (t.share.holds.drain ≠ 0)⟩ }) := h.startup rfl
  exact ((h1.lowers (.inl rfl)).lowers (.inl rfl)).lowers (.inl rfl)

/-- R116: at RESTART no program stands. -/
theorem recipeInv_atRestart (t : State) : RecipeInv (t.setRecipe (recipeAtRestart t.recipe)) := by
  simp [RecipeInv, recipeAtRestart, Recipe.reset]

protected theorem Does.takeRestart (h : Does A s t) (hA : .restart ∈ A) : Does A s (takeRestart t) := by
  have h1 := (h.restart hA).lowerAll.dropRaise (p := .power) |>.dropRaise (p := .inlet) |>.dropRaise (p := .drain)
  have h2 : Does A s (stopDescaleTimers (leaveClimate (State.setRecipe _ (recipeAtRestart _)))) :=
    (h1.recipe fun _ => recipeInv_atRestart _).leaveClimate.descale fun h1 h2 => ⟨h1, h2, id⟩
  exact h2.clearRequest.writeIfDiffers.openRelay.abandonFrame.settle

protected theorem Does.joinUnlessClash (h : Does A s t) : Does A s (joinUnlessClash t) := by
  unfold Machine.joinUnlessClash
  exact .choice h.queueStatus h.openJoinWindow

protected theorem Does.descaleRestarted {b : Bool} (h : Does A s t) : Does A s (descaleRestarted b t) := by
  have h1 : Does A s (t.setDescale { t.descale with soakMark := false }) :=
    h.descale fun h1 h2 => ⟨h1, h2, by simp⟩
  unfold Machine.descaleRestarted
  exact .choice (h1.enterPhase (by split <;> decide)) h1

protected theorem Does.reInitialise (h : Does A s t) (hA : .reinit ∈ A) (hC : .close ∈ A)
    (hr : t.startup.restarting = true) : Does A s (reInitialise t) :=
  ((h.reinit hA hr).respond.startJudging.startCheck hC).genFromLevels.noticeIfDue.descaleRestarted.joinUnlessClash.settle

protected theorem Does.reInitialisation (h : Does A s t) (hA : .reinit ∈ A) (hC : .close ∈ A) :
    Does A s (reInitialisation t) := by
  unfold Machine.reInitialisation
  split
  next hc => exact h.reInitialise hA hC hc.1
  · exact h

protected theorem Does.reInitIfDue (h : Does A s t) (hA : .reinit ∈ A) (hC : .close ∈ A) : Does A s (reInitIfDue t) := by
  unfold Machine.reInitIfDue
  exact .choice (h.reInitialisation hA hC) h

protected theorem Does.restartCommand (h : Does A s t) (hR : .restart ∈ A) (hA : .reinit ∈ A) (hC : .close ∈ A) :
    Does A s (restartCommand t) := by
  unfold Machine.restartCommand
  exact .choice ((h.takeRestart hR).reInitIfDue hA hC) h.respond

/-! ### The line -/

/-- R44: the RAISEs that wait leave the queue, and their pools are noted. -/
theorem voidRaises_eq (t : State) : ∃ r, voidRaises t =
    (t.setLine { t.line with queue := withoutRaises t.line.queue }).setShare { t.share with redecide := r } := by
  have hp : ∀ (p : Pool) (u : State), ∃ r, voidRaise p u =
      (u.setLine { u.line with queue := removeWaiting (TxFrame.isRaise p) u.line.queue }).setShare
        { u.share with redecide := r } := by
    intro p u
    unfold voidRaise
    dsimp only
    split
    · exact ⟨_, rfl⟩
    · exact ⟨u.share.redecide, rfl⟩
  obtain ⟨r1, h1⟩ := hp .power t
  obtain ⟨r2, h2⟩ := hp .inlet (voidRaise .power t)
  obtain ⟨r3, h3⟩ := hp .drain (voidRaise .inlet (voidRaise .power t))
  refine ⟨r3, ?_⟩
  unfold voidRaises
  rw [h3, h2, h1]
  rfl

/-- Waiting frames alone stand in a stopped queue. -/
theorem waits_of_mem_stopQueue {q : List QEntry} {e : QEntry} (h : e ∈ stopQueue q) : e.sending = false := by
  unfold stopQueue at h
  split at h
  next hn => simpa using List.find?_eq_none.1 hn e h
  · obtain ⟨x, -, hx⟩ := List.mem_filterMap.1 h
    unfold stoppedEntry at hx
    split at hx
    · simp only [Option.some.injEq] at hx
      rw [← hx]
    split at hx
    · simp at hx
    · simp only [Option.some.injEq] at hx
      subst hx
      simp_all

/-- A frame that loses arbitration waits again, and no RAISE is left. -/
theorem LineKept.lost {x y : Line} (hc : y.numberClash = x.numberClash) (hq : y.queue = withoutRaises (stopQueue x.queue)) :
    LineKept x y := by
  have hnone : ∀ e ∈ y.queue, ∀ p, e.frame.isRaise p = false := fun e he => by
    rw [hq] at he
    obtain ⟨hm, hw⟩ := mem_withoutRaises he
    exact hw (waits_of_mem_stopQueue hm)
  refine ⟨fun h => hc ▸ h, fun h => hq ▸ h.lose, fun e he p hp => ?_, fun p _ => ?_⟩
  · simp [hnone e he p] at hp
  · have : raisesOf p y.queue = 0 := List.countP_eq_zero.2 fun e he => by simp [hnone e he p]
    omega

/-- A frame that breaks off waits again, and a RAISE so stopped is gone. -/
theorem LineKept.broken {x y : Line} (hc : y.numberClash = x.numberClash)
    (hq : y.queue = stopQueue (x.queue.filter fun e =>
      !(e.sending && (e.frame.isRaise .power || e.frame.isRaise .inlet || e.frame.isRaise .drain)))) : LineKept x y := by
  have hsub : (x.queue.filter fun e =>
      !(e.sending && (e.frame.isRaise .power || e.frame.isRaise .inlet || e.frame.isRaise .drain))).Sublist x.queue :=
    List.filter_sublist
  have hr : ∀ e ∈ x.queue.filter (fun e =>
      !(e.sending && (e.frame.isRaise .power || e.frame.isRaise .inlet || e.frame.isRaise .drain))),
      e.sending = true → e.frame.cls ≠ 3 := by
    rintro ⟨f, b⟩ he hs
    have := (List.mem_filter.1 he).2
    cases f with
    | raise p _ _ => cases p <;> simp_all [TxFrame.isRaise]
    | _ => simp [TxFrame.cls]
  refine ⟨fun h => hc ▸ h, fun h => hq ▸ (h.sublist hsub).stop hr, fun e he p hp => ?_, fun p h => ?_⟩
  · obtain ⟨z, hz, hze⟩ := mem_stopQueue (hq ▸ he)
    exact ⟨z, hsub.mem hz, hze⟩
  · rw [hq]
    exact (raisesOf_stopQueue_le hr p).trans (hsub.countP_le.trans h)

protected theorem Does.sameQueue {x : Line} (h : Does A s t) (hq : x.queue = t.line.queue)
    (hc : t.line.numberClash = true → x.numberClash = true) : Does A s (t.setLine x) :=
  h.line
    { clash := hc
      bounds := fun h => hq ▸ h
      frames := fun e he _ _ => ⟨e, hq ▸ he, rfl⟩
      raises := fun _ h => hq ▸ h }

protected theorem Does.voidRaises (h : Does A s t) : Does A s (voidRaises t) := by
  obtain ⟨r, hr⟩ := voidRaises_eq t
  rw [hr]
  have h1 : Does A s (t.setLine { t.line with queue := withoutRaises t.line.queue }) :=
    h.line (.sublist (withoutRaises_sublist _) rfl)
  exact h1.shareMoves rfl

protected theorem Does.breakOff {st : LineState} {b : Bool} (h : Does A s t) : Does A s (breakOff st b t) :=
  h.line (x := (breakOff st b t).line) (.broken rfl rfl)

protected theorem Does.redecidePool {p : Pool} (h : Does A s t) : Does A s (redecidePool p t) := by
  unfold Machine.redecidePool
  exact .choice (Does.decideAgain (h.shareMoves rfl)) h

protected theorem Does.redecide (h : Does A s t) : Does A s (redecide t) :=
  h.redecidePool.redecidePool.redecidePool

protected theorem Does.lineIdle (h : Does A s t) : Does A s (lineIdle t) := by
  unfold Machine.lineIdle
  exact .choice (h.sameQueue rfl id) h

protected theorem Does.lineIdleAfterBreak (h : Does A s t) : Does A s (lineIdleAfterBreak t) := by
  unfold Machine.lineIdleAfterBreak
  exact .choice (h.sameQueue rfl id) h

protected theorem Does.clearFell {f : TxFrame} (h : Does A s t) : Does A s (clearFell f t) := by
  cases f with
  | raise p g v => exact h.shareMoves rfl
  | _ => exact h

protected theorem Does.frameBegin (h : Does A s t) : Does A s (frameBegin t) := by
  unfold Machine.frameBegin
  split
  · exact h
  next e rest hq =>
    split
    next hc =>
      obtain ⟨-, -, hn⟩ := hc
      have hw : ∀ x ∈ e :: rest, x.sending = false := by
        simp only [sendingFrame, Option.map_eq_none_iff, hq] at hn
        simpa using List.find?_eq_none.1 hn
      refine Does.clearFell (h.line ⟨id, fun h => ?_, fun x hx p hp => ?_, fun p h => ?_⟩)
      · rw [hq] at h
        exact h.begin hw
      · rw [hq]
        rcases List.mem_cons.1 hx with rfl | hx
        · exact ⟨e, by simp, rfl⟩
        · exact ⟨x, by simp [hx], rfl⟩
      · rw [hq] at h
        simpa [raisesOf, List.countP_cons] using h
    · exact h

protected theorem Does.openingMarkSeen (h : Does A s t) : Does A s (openingMarkSeen t) := by
  unfold Machine.openingMarkSeen
  exact .choice (Does.voidRaises (h.sameQueue rfl id)) h

/-- What is lost with arbitration: the queue stops and no RAISE is left in it. -/
theorem arbitrationLost_eq (h : (sendingFrame t).isSome = true) : ∃ r, arbitrationLost t =
    ((voidRaises t).setLine { (voidRaises t).line with
      state := .busy, breakSeen := false, txBytes := []
      queue := withoutRaises (stopQueue (voidRaises t).line.queue) }).setShare { (voidRaises t).share with redecide := r } := by
  unfold arbitrationLost
  rw [if_pos h]
  exact voidRaises_eq (stopSending .busy false (voidRaises t))

protected theorem Does.arbitrationLost (h : Does A s t) : Does A s (arbitrationLost t) := by
  by_cases hc : (sendingFrame t).isSome = true
  · obtain ⟨r, hr⟩ := arbitrationLost_eq hc
    rw [hr]
    have h1 : Does A s ((voidRaises t).setLine { (voidRaises t).line with
        state := .busy, breakSeen := false, txBytes := [], queue := withoutRaises (stopQueue (voidRaises t).line.queue) }) :=
      h.voidRaises.line (.lost rfl rfl)
    exact h1.shareMoves rfl
  · unfold Machine.arbitrationLost
    rwa [if_neg hc]

protected theorem Does.driveFault (h : Does A s t) : Does A s (driveFault t) := by
  unfold Machine.driveFault
  exact .choice h.breakOff h

protected theorem Does.closingMarkBroken (h : Does A s t) : Does A s (closingMarkBroken t) := by
  unfold Machine.closingMarkBroken
  exact .choice h.breakOff h

protected theorem Does.countClash (h : Does A s t) (hA : .lowerTo ∈ A) : Does A s (countClash t) := by
  have h1 : Does A s (t.setLine { t.line with clashes := t.line.clashes + 1 }) := h.sameQueue rfl id
  have h2 : Does A s ((t.setLine { t.line with clashes := t.line.clashes + 1 }).setLine
      { t.line with clashes := t.line.clashes + 1, numberClash := true }) := h1.sameQueue rfl fun _ => rfl
  have h3 := h2.notice (code := .numberClash) (detail := t.startup.station)
  unfold Machine.countClash
  exact .choice (.choice h3 (h3.isolate hA)) h1

protected theorem Does.clash (h : Does A s t) (hA : .lowerTo ∈ A) : Does A s (clash t) := by
  unfold Machine.clash
  exact .choice (h.breakOff.countClash hA).settle h

protected theorem Does.beginReceive (h : Does A s t) (hA : .reinit ∈ A) (hC : .close ∈ A) :
    Does A s (beginReceive t) := by
  unfold Machine.beginReceive
  exact .choice (h.arbitrationLost.reInitIfDue hA hC) (Does.voidRaises (h.sameQueue rfl id))

/-! #### No RAISE is queued behind an opening mark -/

/-- No RAISE is in the queue. -/
def NoRaise (t : State) : Prop := ∀ p, raiseQueued p t = false

theorem NoRaise.congr {u : State} (h : NoRaise t) (hq : u.line.queue = t.line.queue) : NoRaise u := fun p => by
  simpa only [raiseQueued, hq] using h p

theorem NoRaise.of_mem {u : State} (h : NoRaise t)
    (hq : ∀ e ∈ u.line.queue, e ∈ t.line.queue ∨ ∀ p, e.frame.isRaise p = false) : NoRaise u := fun p => by
  rw [raiseQueued_false_iff]
  intro e he
  rcases hq e he with he | he
  · exact (raiseQueued_false_iff p t).1 (h p) e he
  · exact he p

protected theorem NoRaise.enqueue {f : TxFrame} (h : NoRaise t) (hf : ∀ p, f.isRaise p = false) :
    NoRaise (enqueue f t) := by
  unfold Machine.enqueue
  split
  · exact h
  · refine h.of_mem fun e he => ?_
    rcases mem_enqueueQueue he with rfl | he
    · exact .inr hf
    · exact .inl he

protected theorem NoRaise.enqueueShare {f : TxFrame} (h : NoRaise t)
    (hf : ∀ p, f.isRaise p = false) : NoRaise (enqueueShare f t) := by
  unfold Machine.enqueueShare
  split
  · exact h.enqueue hf
  · exact h

protected theorem NoRaise.notice {code : NoticeCode} {detail : Nat} (h : NoRaise t) : NoRaise (notice code detail t) :=
  h.enqueue fun _ => rfl

protected theorem NoRaise.respond {k : CmdKind} {code : ResultCode} {detail : Nat} (h : NoRaise t) :
    NoRaise (respond k code detail t) := h.enqueue fun _ => rfl

protected theorem NoRaise.dropRaise {p : Pool} (h : NoRaise t) : NoRaise (dropRaise p t) :=
  h.of_mem fun _ he => .inl (List.mem_of_mem_filter he)

protected theorem NoRaise.lowerHold {p : Pool} {v : Nat} (h : NoRaise t) : NoRaise (lowerHold p v t) := by
  unfold Machine.lowerHold
  split
  · refine NoRaise.enqueueShare (h.congr ?_) fun _ => rfl
    cases p <;> rfl
  · exact h

protected theorem NoRaise.queueStatus (h : NoRaise t) : NoRaise (queueStatus t) :=
  (h.enqueueShare (f := .status) fun _ => rfl).congr rfl

protected theorem NoRaise.isolate (h : NoRaise t) : NoRaise (isolate t) := by
  have h1 : NoRaise (t.setShare { t.share with link := .isolated, joinMs := none, isolatedMs := 0, lost := false }) :=
    h.congr rfl
  have h2 := ((h1.lowerHold (p := .power) (v := min t.share.holds.power t.share.floor)).lowerHold (p := .inlet)
    (v := 0)).lowerHold (p := .drain) (v := 0)
  exact h2.dropRaise.dropRaise.dropRaise.notice

protected theorem NoRaise.countClash (h : NoRaise t) : NoRaise (countClash t) := by
  unfold Machine.countClash
  dsimp only
  split
  · have h1 : NoRaise (notice .numberClash t.startup.station ((t.setLine { t.line with
        clashes := t.line.clashes + 1 }).setLine { t.line with clashes := t.line.clashes + 1, numberClash := true })) :=
      NoRaise.notice (h.congr rfl)
    split
    · exact h1
    · exact h1.isolate
  · exact h.congr rfl

protected theorem NoRaise.takeFrame {n : Nat} {b : Bool} (h : NoRaise t) : NoRaise (takeFrame n b t) := by
  unfold Machine.takeFrame
  dsimp only
  split
  · exact NoRaise.countClash (h.congr rfl)
  · exact h.congr rfl

protected theorem NoRaise.voidRaises (h : ∀ e ∈ t.line.queue, e.sending = false) : NoRaise (voidRaises t) := fun p => by
  obtain ⟨r, hr⟩ := voidRaises_eq t
  rw [hr, raiseQueued_false_iff]
  intro e he
  obtain ⟨hm, hw⟩ := mem_withoutRaises he
  exact hw (h e hm) p

/-- The generator's state agrees with the steam that is wanted where no program is active and LOW has just been read. -/
theorem genSettled_of_levels (hr : programActive t.recipe = false)
    (hg : t.steam.gen = .cooling ∨ t.steam.gen = .empty) : GenSettled t := by
  have hw : steamWanted t = false := by simp [steamWanted, hr]
  rcases hg with hg | hg
  · exact .inr (.inr (.inr (.inr (.inl ⟨hg, hw⟩))))
  · exact .inr (.inr (.inl ⟨hg, hw⟩))

theorem genFromLevels_gen (t : State) :
    (genFromLevels t).steam.gen = if t.steam.levels.low then .cooling else .empty := by
  unfold genFromLevels
  split <;> rfl

/-- R160: the queue begins again with no RAISE. -/
protected theorem NoRaise.reInitialise (t : State) : NoRaise (reInitialise t) := by
  have h1 : NoRaise (respond .restart .accepted noDetail (blocksRestarted t)) :=
    NoRaise.respond fun p => by simp [raiseQueued, blocksRestarted, lineRestarted]
  have h2 : NoRaise (noticeIfDue (genFromLevels (superviseAgain
      (respond .restart .accepted noDetail (blocksRestarted t))))) := by
    unfold noticeIfDue
    split
    · exact h1.congr (by simp)
    · exact NoRaise.notice (h1.congr (by simp))
  have h3 : NoRaise (descaleRestarted (descaleActive t.descale) (noticeIfDue (genFromLevels (superviseAgain
      (respond .restart .accepted noDetail (blocksRestarted t)))))) := by
    unfold descaleRestarted
    dsimp only
    split
    · exact NoRaise.notice (h2.congr rfl)
    · exact h2.congr rfl
  have h4 : NoRaise (joinUnlessClash (descaleRestarted (descaleActive t.descale) (noticeIfDue (genFromLevels
      (superviseAgain (respond .restart .accepted noDetail (blocksRestarted t))))))) := by
    unfold joinUnlessClash
    split
    · exact h3.queueStatus
    · exact NoRaise.queueStatus (h3.congr rfl)
  have hg : GenSettled (joinUnlessClash (descaleRestarted (descaleActive t.descale) (noticeIfDue (genFromLevels
      (superviseAgain (respond .restart .accepted noDetail (blocksRestarted t))))))) := by
    refine genSettled_of_levels ?_ ?_
    · simp [programActive, blocksRestarted, recipeAtRestart, Recipe.reset]
    · simp only [joinUnlessClash_frame, descaleRestarted_frame, noticeIfDue_frame, genFromLevels_gen]
      split <;> simp
  exact h4.congr (congrArg Line.queue (settle_of_fixed (judgeSteam_of_settled hg)).1)

protected theorem NoRaise.reInitIfDue (h : NoRaise t) : NoRaise (reInitIfDue t) := by
  unfold Machine.reInitIfDue reInitialisation
  split
  · split
    · exact .reInitialise t
    · exact h
  · exact h

/-- R44: behind an opening mark no RAISE is queued. -/
theorem noRaise_beginReceive (t : State) : NoRaise (beginReceive t) := by
  unfold beginReceive
  split
  next hc =>
    refine NoRaise.reInitIfDue ?_
    unfold arbitrationLost
    rw [if_pos hc]
    exact .voidRaises fun e he => waits_of_mem_stopQueue he
  next hc =>
    refine .voidRaises fun e he => ?_
    simp only [sendingFrame, Option.isSome_map, Bool.not_eq_true, Option.isSome_eq_false_iff, Option.isNone_iff_eq_none] at hc
    simpa using List.find?_eq_none.1 hc e he

/-! #### Received frames -/

protected theorem Does.countMalformed {b : Bool} (h : Does A s t) : Does A s (countMalformed b t) := h.sameQueue rfl id

protected theorem Does.markClosed (h : Does A s t) : Does A s (markClosed t) := Does.redecide (h.sameQueue rfl id)

protected theorem Does.markLost {st : LineState} {b : Bool} (h : Does A s t) : Does A s (markLost st b t) := by
  have h1 : Does A s (t.setLine { t.line with state := st, breakSeen := b }) := h.sameQueue rfl id
  exact h1.shareMoves rfl

/-- A malformed frame behind its opening mark (R70). -/
protected theorem Does.judgeMalformed {g : MalformGround} (h : Does A s t) : Does A s (judgeMalformed g t) := by
  cases g with
  | lengthAbove24 => exact h.countMalformed.markLost
  | breakInside => exact h.countMalformed.markLost
  | closingMarkDominant n c => exact h.countMalformed.markLost
  | _ => exact h.countMalformed.markClosed

/-- R38: an entry that is refreshed keeps what it is charged. -/
theorem charge_refreshEntry (p : Pool) (e : Entry) : charge t p (refreshEntry t.share.floor e) = charge t p e := by
  unfold refreshEntry
  split
  · cases p <;> simp_all [charge, Entry.group, PerPool.get]
  · rfl

protected theorem Does.takeFrame {n : Nat} {b : Bool} (h : Does A s t) (hA : .lowerTo ∈ A) :
    Does A s (takeFrame n b t) := by
  have h1 : Does A s (t.setLine { t.line with malformed := 0, verdictDriven := b }) := h.sameQueue rfl id
  unfold Machine.takeFrame
  refine .choice (h1.countClash hA) (h1.share (.update (fun e => ?_) fun e p => (charge_refreshEntry p e).le))
  unfold refreshEntry
  split <;> rfl

/-- The closing mark behind an effect. -/
protected theorem Does.closed {n : Nat} {b : Bool} {effect : State → State}
    (h : Does A s (effect (takeFrame n b t))) : Does A s (closeFrame n b effect t) := h.markClosed.settle

/-- R69: the effect of a frame from another station, or from one with the own number. -/
protected theorem Does.contentEffect {n : Nat} {v : Bool} {c : FrameContent} (h : Does A s t) (hA : .lowerTo ∈ A)
    (hq : NoRaise t) (hn : 1 ≤ n ∧ n ≤ 15 ∨ n = t.startup.station ∧ unnumbered t = false) :
    Does A s (contentEffect n v c t) := by
  have hn' : ShareInv t → 1 ≤ n ∧ n ≤ 15 := by
    rintro ⟨h1, -⟩
    obtain hn | ⟨rfl, hnum⟩ := hn
    · exact hn
    · simp only [unnumbered, Bool.or_eq_false_iff, decide_eq_false_iff_not] at hnum
      omega
  cases c with
  | trip type origin group => exact h.takeWaterTrip
  | tripClear type origin group => exact h.takeTripClear
  | lower p group hold => exact .choice h (h.recordShare hA hq hn')
  | yields group need => exact h.takeYield hA
  | raise p group hold => exact .choice h (h.recordShare hA hq hn')
  | command d => exact h
  | report => exact h
  | status b => exact .choice h (h.recordStatus hA hq hn)

@[simp] theorem unnumbered_beginReceive (t : State) : unnumbered (beginReceive t) = unnumbered t := by
  simp [unnumbered]

@[simp] theorem unnumbered_takeFrame (n : Nat) (b : Bool) (t : State) : unnumbered (takeFrame n b t) = unnumbered t := by
  simp [unnumbered]

/-- The machine behind the opening mark of a frame that an UNNUMBERED part does not see (R166). -/
def openingSeen (s : State) : State := if unnumbered s then s else beginReceive s

protected theorem Does.openingSeen (h : Does A s t) (hA : .reinit ∈ A) (hC : .close ∈ A) : Does A s (openingSeen t) := by
  unfold Machine.openingSeen
  exact .choice h (h.beginReceive hA hC)

/-- R70: a malformed frame from its opening mark on. -/
theorem does_malformedFrame (A : List Licence) (g : MalformGround) (s : State) :
    Does A (openingSeen s) (malformedFrame g s) := by
  unfold malformedFrame openingSeen
  split
  · exact .refl
  · exact Does.refl.judgeMalformed

/-- R68 to R70: a frame received from a station, or one with the own number, from its opening mark on. -/
theorem does_receiveFrame (hL : .lowerTo ∈ A) {n : Nat} (c : FrameContent) (v : Bool) {s : State}
    (hn : n ≤ 15 ∨ n = s.startup.station) : Does A (openingSeen s) (receiveFrame n c v s) := by
  unfold receiveFrame
  split
  next hu =>
    unfold openingSeen
    rw [if_pos hu]
    exact .refl
  next hu =>
    split
    · exact does_malformedFrame A _ s
    next hz =>
      unfold openingSeen
      rw [if_neg hu]
      refine Does.closed ((Does.refl.takeFrame hL).contentEffect hL (noRaise_beginReceive s).takeFrame ?_)
      rcases hn with hn | hn
      · exact .inl ⟨Nat.pos_of_ne_zero hz, hn⟩
      · exact .inr ⟨by simpa using hn, by simpa using hu⟩

/-! #### Completion of an own frame -/

protected theorem Does.finishSending (h : Does A s t) : Does A s (finishSending t) := by
  have h1 : Does A s (t.setLine { t.line with
      state := .idle, breakSeen := false, txBytes := [], clashes := 0
      queue := t.line.queue.filter fun e => !e.sending }) :=
    h.line (.sublist List.filter_sublist rfl)
  exact h1.shareMoves rfl

/-- R46: a RAISE that nobody vetoed. -/
protected theorem Does.ownRaiseDone {p : Pool} {g v : Nat} (h : Does A s t) (hA : .ownRaise ∈ A)
    (hs : sendingFrame t = some (.raise p g v)) : Does A s (recordOwnRaise p v (finishSending t)) := by
  have h1 : Does A s (if (finishSending t).share.fell.get p then finishSending t else setHold p v (finishSending t)) :=
    .choice h.finishSending (h.ownRaise hA hs)
  unfold Machine.recordOwnRaise
  cases p with
  | power => exact h1.shareMoves rfl
  | inlet => exact .choice (h1.lowers (.inl rfl)) h1
  | drain => exact .choice (h1.lowers (.inl rfl)) h1

protected theorem Does.ownOutcome {f : TxFrame} {vetoed : Bool} (h : Does A s t)
    (hA : vetoed = false → .ownRaise ∈ A) (hs : sendingFrame t = some f) :
    Does A s (ownOutcome f vetoed (finishSending t)) := by
  have h1 := h.finishSending
  cases f with
  | raise p g v =>
    cases vetoed with
    | true =>
      cases p with
      | power => exact h1.shareMoves rfl
      | inlet => exact h1
      | drain => exact h1
    | false => exact h.ownRaiseDone (hA rfl) hs
  | lower p g v => exact .choice (h1.startup rfl) h1
  | _ => exact h1

protected theorem Does.endIsolation (h : Does A s t) : Does A s (endIsolation t) := by
  unfold Machine.endIsolation
  exact .choice h.notice.openJoinWindow h

protected theorem Does.ownFrameComplete {vetoed : Bool} (h : Does A s t) (hA : vetoed = false → .ownRaise ∈ A) :
    Does A s (ownFrameComplete vetoed t) := by
  unfold Machine.ownFrameComplete
  split
  · exact h
  next f hf => exact (h.ownOutcome hA hf).endIsolation.settle

/-! ### Levels, pulses and limits -/

protected theorem Does.levelInput {e : Electrode} {b : Bool} (h : Does A s t) : Does A s (levelInput e b t) :=
  h.steam (.moves rfl (by simp) (by simp +contextual))

protected theorem Does.endFillWell (h : Does A s t) : Does A s (endFillWell t) := by
  unfold Machine.endFillWell
  split
  · exact h
  split
  · exact h.endCookingFill
  · exact h.clearFill
  · exact h

protected theorem Does.topUpIfNone (h : Does A s t) : Does A s (topUpIfNone t) := by
  unfold Machine.topUpIfNone
  exact .choice h.beginTopUp h

protected theorem Does.lockLowWater (h : Does A s t) : Does A s (lockLowWater t) := by
  unfold Machine.lockLowWater
  exact .choice (Does.topUpIfNone (h.steam (.moves rfl (by simp) (by simp +contextual)))) h

protected theorem Does.lowWet (h : Does A s t) : Does A s (lowWet t) := by
  have h1 : Does A s (t.setSteam { t.steam with drain := t.steam.drain.map fun d => { d with dryMs := 0 } }) :=
    h.steam <| .moves rfl (by simp) fun d hd hp => by
      obtain ⟨x, -, rfl⟩ := Option.map_eq_some_iff.1 hd
      simp at hp
  exact h1.descale fun h1 h2 => ⟨h1, h2, id⟩

protected theorem Does.highWet (h : Does A s t) : Does A s (highWet t) := by
  unfold Machine.highWet
  exact .choice h.fillDone h.endFillWell

protected theorem Does.actOnLevel {e : Electrode} {b : Bool} (h : Does A s t) : Does A s (actOnLevel e b t) := by
  unfold Machine.actOnLevel
  split
  · exact h.lowWet
  · exact h.lockLowWater
  · exact Does.endFillWell (h.steam (.moves rfl (by simp) (by simp +contextual)))
  · exact h.topUpIfNone
  · exact h.highWet
  · exact h

protected theorem Does.levelReadingChange {e : Electrode} (h : Does A s t) : Does A s (levelReadingChange e t) := by
  unfold Machine.levelReadingChange
  exact .choice h (Does.settle (Does.actOnLevel (h.steam (.moves rfl (by simp) (by simp +contextual)))))

protected theorem Does.cookingPulse (h : Does A s t) (hA : .count ∈ A) : Does A s (cookingPulse t) := by
  have h1 := (h.countPulse hA).judgeSteam
  unfold Machine.cookingPulse
  exact .choice h1.enterFault h1

protected theorem Does.servicePulse {f : Fill} (h : Does A s t) (hA : t.descale.phase = .dose → .acid ∈ A) :
    Does A s (servicePulse f t) := by
  have h1 : Does A s (if f.counted then t else reportFirstPulse t) := .choice h (h.reportFirstPulse hA)
  unfold Machine.servicePulse
  exact .choice h1.fillDone h1

protected theorem Does.flowPulse (h : Does A s t) (hC : .count ∈ A) (hA : t.descale.phase = .dose → .acid ∈ A) :
    Does A s (flowPulse t) := by
  have h1 : ∀ f, Does A s (spendPulse f t) := fun f => h.steam (.moves rfl (by simp) (by simp +contextual))
  unfold Machine.flowPulse
  split
  · exact h
  next f _ =>
    split
    · exact ((h1 f).cookingPulse hC).settle
    · exact ((h1 f).cookingPulse hC).settle
    · exact ((h1 f).servicePulse hA).settle

protected theorem Does.valveTimeLimit (h : Does A s t) : Does A s (valveTimeLimit t) := by
  unfold Machine.valveTimeLimit
  split
  · exact h
  split
  · exact h
  split
  · exact .choice h h.enterFault.settle
  · exact .choice h h.enterFault.settle
  · exact h.clearRequest.descaleFault.settle

protected theorem Does.coolingTimerExpiry (h : Does A s t) : Does A s (coolingTimerExpiry t) := by
  unfold Machine.coolingTimerExpiry
  exact .choice h.enterDraining.settle h

protected theorem Does.endDrainWell (h : Does A s t) : Does A s (endDrainWell t) := by
  unfold Machine.endDrainWell
  exact .choice h.clearDrain.enterFilling h.clearDrain.enterEmpty

protected theorem Does.drainDryTimeEnd (h : Does A s t) (hA : t.steam.drain.isSome = true → .finish ∈ A) :
    Does A s (drainDryTimeEnd t) := by
  unfold Machine.drainDryTimeEnd
  split
  next hc =>
    simp only [Bool.and_eq_true] at hc
    split
    next hg => exact (h.drainDone (hA hc.1.1) hg).settle
    · exact h.endDrainWell.settle
  · exact h

protected theorem Does.pumpTimeLimit (h : Does A s t) : Does A s (pumpTimeLimit t) := by
  unfold Machine.pumpTimeLimit
  exact .choice (.choice h.clearRequest.descaleFault.settle h.enterFault.settle) h

protected theorem Does.serviceRecordWritten (h : Does A s t) : Does A s (serviceRecordWritten t) := by
  unfold Machine.serviceRecordWritten
  split
  · exact h
  next r hw =>
    refine h.steam (.records rfl fun hr => ?_)
    obtain ⟨h1, h2, -, -, h5⟩ := hr
    have hr := h5 r hw
    refine ⟨h1, h2, hr.1, hr.2, fun x hx => ?_⟩
    simp only [State.setSteam_steam] at hx
    split at hx
    · simp only [Option.mem_def, Option.some.injEq] at hx
      subst hx
      exact ⟨h1, h2⟩
    · simp at hx

/-! ### Setup and freeze -/

protected theorem Does.freezeConfig (h : Does A s t) (hA : .freeze ∈ A) (hs : t.startup.setup = .opened) :
    Does A s (freezeConfig t) := by
  have h1 := h.freezes hA hs
  unfold Machine.freezeConfig
  exact .choice h1.notice h1

protected theorem Does.countSamplesAnew (h : Does A s t) :
    Does A s (t.setClimate { t.climate with sampleMs := 0 }) := h.climate id

protected theorem Does.freeze (h : Does A s t) (hA : .freeze ∈ A) (hC : .close ∈ A)
    (hs : t.startup.setup = .opened) : Does A s (freeze t) := by
  have h1 : Does A s (superviseFromFreeze (freezeConfig t)) :=
    (Does.startJudging ((h.freezeConfig hA hs).superv (.moves rfl))).startCheck hC
  have h2 : Does A s (descaleAtFreeze (noticeIfDue (genFromLevels (superviseFromFreeze (freezeConfig t))))) := by
    unfold descaleAtFreeze
    exact .choice (h1.genFromLevels.noticeIfDue.enterPhase (by decide)) h1.genFromLevels.noticeIfDue
  exact h2.countSamplesAnew.tellOwedLeak.joinUnlessClash.settle

protected theorem Does.setupWindowExpiry (h : Does A s t) (hA : .freeze ∈ A) (hC : .close ∈ A) :
    Does A s (setupWindowExpiry t) := by
  unfold Machine.setupWindowExpiry
  split
  next hs => exact h.freeze hA hC hs
  · exact h

protected theorem Does.setupSupply {fields : List Byte} (h : Does A s t) : Does A s (setupSupply fields t) := by
  unfold Machine.setupSupply
  split
  · exact h.respond
  · exact Does.respond (h.startup rfl)

protected theorem Does.setupChannel {c : Channel} {fields : List Byte} (h : Does A s t) :
    Does A s (setupChannel c fields t) := by
  unfold Machine.setupChannel
  split
  · exact h.respond
  · exact Does.respond (h.startup rfl)

protected theorem Does.setupEnd {fields : List Byte} (h : Does A s t) (hA : .freeze ∈ A) (hC : .close ∈ A)
    (hs : t.startup.setup = .opened) : Does A s (setupEnd fields t) := by
  unfold Machine.setupEnd
  exact .choice (h.respond.freeze hA hC (by simpa using hs)) h.respond

protected theorem Does.setupCommand {sec : Byte} {fields : List Byte} (h : Does A s t)
    (hA : sec.toNat = 255 → .freeze ∈ A ∧ .close ∈ A) : Does A s (setupCommand sec fields t) := by
  unfold Machine.setupCommand
  split
  · exact h.respond
  next hs =>
    unfold setupSection
    split
    · exact h.setupSupply
    split
    next he =>
      obtain ⟨hF, hC⟩ := hA he
      exact h.setupEnd hF hC hs
    split
    · exact h.setupChannel
    · exact h.respond
  · exact h

/-! ### Commands of the partner panel -/

protected theorem Does.queryCommand (h : Does A s t) : Does A s (queryCommand t) := h.respond.enqueue fun _ => rfl

/-- R155: a command of the partner panel, from its opening mark on. -/
theorem does_takeCommand (hL : .lowerTo ∈ A) (k : CmdKind) {owner : State → State} (s : State)
    (ho : ∀ u, Does A (openingSeen s) u → (k ≠ .query → u.superv.configFault = false) →
      Does A (openingSeen s) (owner u)) :
    Does A (openingSeen s) (takeCommand k owner s) := by
  unfold takeCommand
  split
  next hu =>
    unfold openingSeen
    rw [if_pos hu]
    exact .refl
  next hu =>
    have h1 : Does A (openingSeen s) (takeFrame s.startup.partner false (beginReceive s)) := by
      unfold openingSeen
      rw [if_neg hu]
      exact Does.refl.takeFrame hL
    refine Does.closed ?_
    unfold judgeCommand
    split
    · exact h1.respond
    next hc =>
      refine .choice h1.respond (ho _ h1 fun hk => ?_)
      by_contra hf
      exact hc ⟨Bool.not_eq_false _ ▸ hf, hk⟩

theorem does_takeSized (hL : .lowerTo ∈ A) (ok : Bool) (k : CmdKind) {owner : State → State} (s : State)
    (ho : ∀ u, Does A (openingSeen s) u → (k ≠ .query → u.superv.configFault = false) →
      Does A (openingSeen s) (owner u)) :
    Does A (openingSeen s) (takeSized ok k owner s) := by
  unfold takeSized
  exact .choice (does_takeCommand hL k s ho) (does_malformedFrame A _ s)

end Sys2Proof.Machine

/-!
Every command but POWER_ON, and an idle step, as chains of elementary changes.
-/
namespace Sys2Proof.Machine

variable {A : List Licence} {s t : State}

/-! ### Commands -/

/-- The licences that a command has beside those of a re-initialisation. -/
def licences (s : State) : Instr → List Licence
  | .setupEnd _ => [.lowerTo, .freeze, .close]
  | .setupChannel sec _ => if sec.toNat = 255 then [.lowerTo, .freeze, .close] else [.lowerTo]
  | .setupWindowExpiry => [.freeze, .close]
  | .descaleStart => [.lowerTo, .lend]
  | .relayRestore => [.lowerTo, .restore]
  | .restart => [.lowerTo, .restart, .reinit, .close]
  | .reInitialisation => [.reinit, .close]
  | .ownFrameComplete vetoed => if vetoed then [] else [.ownRaise]
  | .zeroCrossing _ _ => [.lowerTo, .frame]
  | .flowPulse => if s.descale.phase = .dose then [.count, .acid] else [.count]
  | .drainDryTimeEnd => [.finish]
  | .sensorReading _ => [.rinse]
  | _ => [.lowerTo]

/-- The commands behind which a re-initialisation comes where its moment has come (R160). -/
def bringsRestart : Instr → Bool
  | .ownFrameComplete _ => true
  | .arbitrationLost => true
  | .driveFault => true
  | .clash => true
  | .closingMarkBroken => true
  | _ => false

/-- The machine as a command finds it: behind its opening mark where it is a frame. -/
def found (c : Instr) (s : State) : State := if receivesFrame c then openingSeen s else s

/-- A command of the partner panel. -/
theorem does_panel (c : Instr) {k : CmdKind} {owner : State → State} (hf : found c s = openingSeen s)
    (hL : .lowerTo ∈ licences s c)
    (ho : ∀ u, Does (licences s c) (openingSeen s) u → (k ≠ .query → u.superv.configFault = false) →
      Does (licences s c) (openingSeen s) (owner u)) :
    Does (licences s c) (found c s) (takeCommand k owner s) := by
  rw [hf]
  exact does_takeCommand hL k s ho

theorem does_panelSized (c : Instr) {ok : Bool} {k : CmdKind} {owner : State → State} (hf : found c s = openingSeen s)
    (hL : .lowerTo ∈ licences s c)
    (ho : ∀ u, Does (licences s c) (openingSeen s) u → (k ≠ .query → u.superv.configFault = false) →
      Does (licences s c) (openingSeen s) (owner u)) :
    Does (licences s c) (found c s) (takeSized ok k owner s) := by
  rw [hf]
  exact does_takeSized hL ok k s ho

theorem nibble_le (n : Nibble) : n.toNat ≤ 15 := by
  have := n.isLt
  omega

/-- What a command does before the re-initialisation that it may bring. -/
def worked (c : Instr) (s : State) : State :=
  match c with
  | .ownFrameComplete vetoed => ownFrameComplete vetoed s
  | .arbitrationLost => arbitrationLost s
  | .driveFault => driveFault s
  | .clash => clash s
  | .closingMarkBroken => closingMarkBroken s
  | c => match exec c s with
    | .next t => t
    | .fault _ => s
    | .refused _ => s

/-- Every command is a chain of the changes that its licences allow, and a re-initialisation where it brings one. -/
theorem exec_eq_worked (c : Instr) (s : State) :
    exec c s = .next (if bringsRestart c then reInitIfDue (worked c s) else worked c s) := by
  cases c <;> rfl

theorem does_worked (c : Instr) (s : State) (hp : ∀ a b, c ≠ .powerOn a b) :
    Does (licences s c) (found c s) (worked c s) := by
  have hr : ∀ {A : List Licence}, Does A s s := .refl
  cases c with
  | powerOn a b => exact absurd rfl (hp a b)
  | setupSupply fields => exact does_panelSized _ rfl (by simp [licences]) fun u h _ => h.setupCommand (by simp)
  | setupChannel sec fields =>
    refine does_panelSized _ rfl (by simp only [licences]; split <;> simp) fun u h _ => h.setupCommand fun he => ?_
    simp [licences, he]
  | setupEnd fields => exact does_panelSized _ rfl (by simp [licences]) fun u h _ => h.setupCommand (by simp [licences])
  | setupWindowExpiry => exact hr.setupWindowExpiry (by simp [licences]) (by simp [licences])
  | query => exact does_panel _ rfl (by simp [licences]) fun u h _ => h.queryCommand
  | loadOpen count tag => exact does_panel _ rfl (by simp [licences]) fun u h _ => h.loadOpen
  | stage index record => exact does_panelSized _ rfl (by simp [licences]) fun u h _ => h.stageCommand
  | start => exact does_panel _ rfl (by simp [licences]) fun u h _ => h.startCommand
  | pause => exact does_panel _ rfl (by simp [licences]) fun u h _ => h.pauseCommand
  | resume => exact does_panel _ rfl (by simp [licences]) fun u h _ => h.resumeCommand
  | abort => exact does_panel _ rfl (by simp [licences]) fun u h _ => h.abortCommand
  | answer index reply => exact does_panel _ rfl (by simp [licences]) fun u h _ => h.answerCommand
  | finishAck => exact does_panel _ rfl (by simp [licences]) fun u h _ => h.finishAck
  | runManual record => exact does_panelSized _ rfl (by simp [licences]) fun u h _ => h.runManual
  | descaleStart => exact does_panel _ rfl (by simp [licences]) fun u h _ => h.descaleStart (by simp [licences])
  | descaleConfirm => exact does_panel _ rfl (by simp [licences]) fun u h _ => h.descaleConfirm
  | relayRestore =>
    exact does_panel _ rfl (by simp [licences]) fun u h hc => h.relayRestore (by simp [licences]) (hc (by simp))
  | restart =>
    exact does_panel _ rfl (by simp [licences]) fun u h _ =>
      h.restartCommand (by simp [licences]) (by simp [licences]) (by simp [licences])
  | reInitialisation => exact hr.reInitialisation (by simp [licences]) (by simp [licences])
  | partnerVeto sender => exact does_receiveFrame (by simp [licences]) _ _ (.inl (nibble_le sender))
  | climateSample => exact hr.climateSample
  | doorInputChange b => exact hr.climate id
  | doorOpens => exact hr.doorOpens
  | doorCloses => exact hr.doorCloses
  | zeroCrossing interval volts => exact hr.zeroCrossing (by simp [licences]) (by simp [licences])
  | frequencyTimeout => exact hr.frequencyTimeout
  | missedCrossing => exact hr.missedCrossing
  | supplyStarved => exact hr.supplyStarved
  | waterRaiseRetry => exact hr.waterRaiseRetry
  | raiseReceived sender p g h v => exact does_receiveFrame (by simp [licences]) _ _ (.inl (nibble_le sender))
  | lowerReceived sender p g h v => exact does_receiveFrame (by simp [licences]) _ _ (.inl (nibble_le sender))
  | yieldReceived sender g n => exact does_receiveFrame (by simp [licences]) _ _ (.inl (nibble_le sender))
  | statusReceived sender b v => exact does_receiveFrame (by simp [licences]) _ _ (.inl (nibble_le sender))
  | tripReceived sender x o g => exact does_receiveFrame (by simp [licences]) _ _ (.inl (nibble_le sender))
  | tripClearReceived sender x o g => exact does_receiveFrame (by simp [licences]) _ _ (.inl (nibble_le sender))
  | wellFormedFrameNotTaken sender => exact does_receiveFrame (by simp [licences]) _ _ (.inl (nibble_le sender))
  | ownNumberFrame content v => exact does_receiveFrame (by simp [licences]) _ _ (.inr rfl)
  | malformedFrame g => exact does_malformedFrame _ g s
  | ownFrameComplete vetoed => exact hr.ownFrameComplete fun hv => by simp [licences, hv]
  | statusPeriod => exact hr.statusPeriod
  | entryExpired n => exact hr.entryExpired
  | entryRemoved n => exact hr.entryRemoved
  | lineIsolated => exact hr.lineIsolated (by simp [licences])
  | lineLost => exact hr.lineLost
  | joinWindowEnd => exact hr.joinWindowEnd
  | yieldBackoffEnd => exact hr.shareMoves rfl
  | leakInputChange b => exact hr.leakInput
  | leakWet => exact hr.leakWet
  | leakDry => exact hr.leakDry
  | lineIdle => exact hr.lineIdle
  | frameBegin => exact hr.frameBegin
  | openingMarkSeen => exact hr.openingMarkSeen
  | arbitrationLost => exact hr.arbitrationLost
  | driveFault => exact hr.driveFault
  | clash => exact hr.clash (by simp [licences])
  | closingMarkBroken => exact hr.closingMarkBroken
  | levelInputChange e b => exact hr.levelInput
  | levelReadingChange e => exact hr.levelReadingChange
  | flowPulse =>
    exact hr.flowPulse (by simp only [licences]; split <;> simp) fun hd => by simp [licences, hd]
  | valveTimeLimit => exact hr.valveTimeLimit
  | coolingTimerExpiry => exact hr.coolingTimerExpiry
  | drainDryTimeEnd => exact hr.drainDryTimeEnd fun _ => by simp [licences]
  | pumpTimeLimit => exact hr.pumpTimeLimit
  | serviceRecordWritten => exact hr.serviceRecordWritten
  | sensorReading x => exact hr.sensorReading (by simp [licences])
  | channelFailed c => exact hr.channelFails
  | excursionStart c d => exact hr.excursionStart
  | excursionEnd c d => exact hr.excursionEnd
  | relayFeedbackChange b => exact hr.superv (.moves rfl)
  | relayOpenFault => exact hr.relayOpenFault
  | relayWelded => exact hr.relayWelded
  | configCheck => exact hr.configCheck
  | prepTimeout => exact hr.prepTimeout
  | heatLimit => exact hr.heatLimit
  | descaleLowWater => exact hr.descaleLowWater
  | soakTimerEnd => exact hr.soakTimerEnd
  | waitingForPool => exact hr.waitNotice
  | loadTimeout => exact hr.loadTimeout
  | stageTimeEnd => exact hr.stageTimeEnd
  | promptTimeout => exact hr.promptTimeout
  | probeStateChange => exact hr.probeStateChange
  | steamWithheld => exact hr.steamWithheld
  | lineIdleAfterBreak => exact hr.lineIdleAfterBreak

/-- A chain from a state that is reached by a chain. -/
protected theorem Does.trans {u : State} (h1 : Does A s t) (h2 : Does A t u) : Does A s u := by
  induction h2 with
  | refl => exact h1
  | startup _ h ih => exact ih.startup h
  | restart _ h ih => exact ih.restart h
  | freezes _ h h' ih => exact ih.freezes h h'
  | climate _ h ih => exact ih.climate h
  | power _ h h' ih => exact ih.power h h'
  | share _ h ih => exact ih.share h
  | lowers _ h ih => exact ih.lowers h
  | raises g _ h h' h'' ih => exact ih.raises g h h' h''
  | ownRaise _ h h' ih => exact ih.ownRaise h h'
  | entry n _ h h2 h3 h4 h5 ih => exact ih.entry n h h2 h3 h4 h5
  | line _ h ih => exact ih.line h
  | steam _ h ih => exact ih.steam h
  | timers _ h h' ih => exact ih.timers h h'
  | count _ h h' h'' ih => exact ih.count h h' h''
  | acid _ h ih => exact ih.acid h
  | finish _ h h2 _ h3 h4 ihu ih => exact ihu.finish h h2 ih h3 h4
  | lend _ h ih => exact ih.lend h
  | descale _ h ih => exact ih.descale h
  | rinse _ h ih => exact ih.rinse h
  | recipe _ h ih => exact ih.recipe h
  | superv _ h ih => exact ih.superv h
  | close _ h h2 h3 ih => exact ih.close h h2 h3
  | restore _ h h2 h3 ih => exact ih.restore h h2 h3
  | reinit _ h h' ih => exact ih.reinit h h'

theorem does_found (c : Instr) (s : State) : Does [.reinit, .close] s (found c s) := by
  unfold found
  exact .choice (Does.refl.openingSeen (by simp) (by simp)) .refl

/-- A command is a chain of changes, with a re-initialisation before it and behind it. -/
theorem does_exec {c : Instr} (hp : ∀ a b, c ≠ .powerOn a b) (h : exec c s = .next t) :
    Does (.reinit :: .close :: licences s c) s t := by
  rw [exec_eq_worked] at h
  obtain rfl := Host.Outcome.next.inj h
  have h1 : Does (.reinit :: .close :: licences s c) s (worked c s) :=
    ((does_found c s).mono (by simp)).trans ((does_worked c s hp).mono (by simp +contextual))
  exact .choice (h1.reInitIfDue (by simp) (by simp)) h1

/-! ### The idle step -/

/-- Ten milliseconds on the timers of each block. -/
theorem does_advanceAll (hA : .time ∈ A) (s : State) : Does A s (advanceAll s) := by
  have h1 : Does A s (s.setStartup (advanceStartup s.startup)) := Does.refl.startup rfl
  have h2 := h1.climate (x := advanceClimate s) id
  have h3 := h2.power (x := advancePower s.power) id (.inr fun hi => ⟨hi, rfl⟩)
  have h4 := h3.share (x := advanceShare s) <| by
    refine .table' rfl rfl rfl ?_ fun p => ?_
    · simp [advanceShare, Function.comp_def]
    · exact (othersCharges_map_le (t := ((s.setStartup (advanceStartup s.startup)).setClimate (advanceClimate s)).setPower
        (advancePower s.power)) (f := fun e => { e with heardMs := e.heardMs + tickMs }) (fun e p => by cases p <;> rfl) p)
  have h5 := h4.timers (x := advanceSteam s) hA rfl
  have h6 := h5.descale (x := advanceDescale s) fun h1 h2 => ⟨h1, h2, id⟩
  have h7 := h6.recipe (x := advanceRecipe s) id
  exact h7.superv (x := advanceSuperv s) (.moves rfl)

protected theorem Does.fire {due : State → Bool} {effect : State → State} (h : Does A s t)
    (he : due t = true → Does A s (effect t)) : Does A s (fire due effect t) := by
  unfold Machine.fire
  split
  next hd => exact he hd
  · exact h

protected theorem Does.fireStart (h : Does A s t) (hF : .freeze ∈ A) (hR : .reinit ∈ A) (hC : .close ∈ A) :
    Does A s (fireStart t) := by
  have h1 := h.fire (due := fun s => decide (10000 ≤ s.startup.windowMs)) fun _ => h.setupWindowExpiry hF hC
  exact (h1.reInitIfDue hR hC).fire fun _ => (h1.reInitIfDue hR hC).climateSample

protected theorem Does.fireDoor (h : Does A s t) : Does A s (fireDoor t) := by
  have h1 := h.fire (due := fun s => decide (50 ≤ s.climate.doorMs)) fun _ => h.doorOpens
  exact h1.fire fun _ => h1.doorCloses

protected theorem Does.firePower (h : Does A s t) : Does A s (firePower t) := by
  have h1 := h.fire (due := fun s => decide (10000 ≤ s.power.freqMs)) fun _ => h.frequencyTimeout
  have h2 := h1.fire (due := missDue) fun _ => h1.missedCrossing
  have h3 := h2.fire (due := missDue) fun _ => h2.missedCrossing
  exact h3.fire fun _ => h3.supplyStarved

protected theorem Does.fireEntries (h : Does A s t) : Does A s (fireEntries t) := by
  unfold Machine.fireEntries
  generalize t.share.table = l
  induction l generalizing t with
  | nil => exact h
  | cons e l ih => exact ih (.choice h.entryRemoved (.choice h.entryExpired h))

protected theorem Does.fireLink (h : Does A s t) (hL : .lowerTo ∈ A) : Does A s (fireLink t) := by
  have h1 := h.fire (due := fun s => reached 2000 s.share.sinceOwnMs) fun _ => h.lineIsolated hL
  have h2 := h1.fire (due := fun s => decide (60000 ≤ s.share.isolatedMs)) fun _ => h1.lineLost
  have h3 := h2.fire (due := fun s => reached 3500 s.share.joinMs) fun _ => h2.joinWindowEnd
  exact h3.fire fun _ => h3.shareMoves rfl

protected theorem Does.fireLeak (h : Does A s t) : Does A s (fireLeak t) := by
  have h1 := h.fire (due := fun s => decide (2000 ≤ s.share.leakMs)) fun _ => h.leakWet
  exact h1.fire fun _ => h1.leakDry

protected theorem Does.fireShare (h : Does A s t) (hL : .lowerTo ∈ A) : Does A s (fireShare t) := by
  have h1 := h.fire (due := fun s => decide (1000 ≤ s.share.retryMs)) fun _ => h.waterRaiseRetry
  have h2 := h1.fire (due := fun s => decide (1000 ≤ s.share.statusMs)) fun _ => h1.statusPeriod
  exact (h2.fireEntries.fireLink hL).fireLeak

protected theorem Does.fireLevel {e : Electrode} (h : Does A s t) : Does A s (fireLevel e t) :=
  h.fire fun _ => h.levelReadingChange

protected theorem Does.fireSteam (h : Does A s t)
    (hA : ∀ u d, Does A s u → u.steam.drain = some d → 0 < d.dryMs → .finish ∈ A) : Does A s (fireSteam t) := by
  have h0 := h.fireLevel (e := .low) |>.fireLevel (e := .work) |>.fireLevel (e := .high)
  have h1 := h0.fire (due := fun s => s.steam.fill.any fun f => decide (180000 ≤ f.valveMs)) fun _ => h0.valveTimeLimit
  have h2 := h1.fire (due := fun s => decide (1200000 ≤ s.steam.coolMs)) fun _ => h1.coolingTimerExpiry
  have h3 := h2.fire (due := fun s => s.steam.drain.any fun d => decide (30000 ≤ d.dryMs)) fun hd =>
    h2.drainDryTimeEnd fun _ => by
      obtain ⟨d, hx, hm⟩ := (Option.any_eq_true _ _).1 hd
      have := of_decide_eq_true hm
      exact hA _ d h2 hx (by omega)
  exact h3.fire fun _ => h3.pumpTimeLimit

protected theorem Does.fireFailed {c : Channel} (h : Does A s t) : Does A s (fireFailed c t) :=
  h.fire fun _ => h.channelFails

protected theorem Does.fireSide {d : Side} {c : Channel} (h : Does A s t) : Does A s (fireSide d c t) := by
  have h1 := h.fire (due := fun s => decide (sideDebounce s c d ≤ (sideRec s.superv c d).ms)) fun _ =>
    h.excursionStart (c := c) (d := d)
  exact h1.fire fun _ => h1.excursionEnd

/-- A chain for each of a list. -/
protected theorem Does.foldl {α : Type} {f : State → α → State} (hf : ∀ u a, Does A s u → Does A s (f u a))
    (l : List α) (h : Does A s t) : Does A s (l.foldl f t) := by
  induction l generalizing t with
  | nil => exact h
  | cons a l ih => exact ih (hf t a h)

protected theorem Does.fireChannels (h : Does A s t) : Does A s (fireChannels t) :=
  Does.fireSide (Does.foldl (fun _ _ h => h.fireSide.fireSide) _ (Does.foldl (fun _ _ h => h.fireFailed) _ h))

protected theorem Does.fireRelay (h : Does A s t) : Does A s (fireRelay t) := by
  have h1 := h.fire (due := fun s => decide (200 ≤ s.superv.mismatchMs)) fun _ => h.relayOpenFault
  have h2 := h1.fire (due := fun s => decide (200 ≤ s.superv.mismatchMs)) fun _ => h1.relayWelded
  exact h2.fire fun _ => h2.configCheck

protected theorem Does.fireDescale (h : Does A s t) : Does A s (fireDescale t) := by
  have h1 := h.fire (due := fun s => decide (1800000 ≤ s.descale.prepMs)) fun _ => h.prepTimeout
  have h2 := h1.fire (due := fun s => (heatLimitClock s.power).any fun n => decide (n ≤ s.descale.heatClock)) fun _ =>
    h1.heatLimit
  have h3 := h2.fire (due := fun s => decide (60000 ≤ s.descale.lowMs)) fun _ => h2.descaleLowWater
  have h4 := h3.fire (due := fun s => decide (1200000 ≤ s.descale.soakMs)) fun _ => h3.soakTimerEnd
  exact h4.fire fun _ => h4.waitNotice

protected theorem Does.fireRecipe (h : Does A s t) : Does A s (fireRecipe t) := by
  have h1 := h.fire (due := fun s => decide (10000 ≤ s.recipe.gapMs)) fun _ => h.loadTimeout
  have h2 := h1.fire (due := durationDue) fun _ => h1.stageTimeEnd
  have h3 := h2.fire (due := durationDue) fun _ => h2.promptTimeout
  have h4 := h3.fire (due := fun s => decide (2000 ≤ s.recipe.probeMs)) fun _ => h3.probeStateChange
  exact h4.fire fun _ => h4.steamWithheld

/-- The licences of an idle step: a drain ends alone where one was in progress. -/
def idleLicences (s : State) : List Licence :=
  .lowerTo :: .freeze :: .reinit :: .close :: (if s.steam.drain.isSome then [.finish] else [])

/-- A drain with a dry time was in progress, with one, before. -/
theorem Does.drain_of_dry (h : Does A s t) (hA : .time ∉ A) :
    ∀ d, t.steam.drain = some d → 0 < d.dryMs → s.steam.drain.isSome = true := by
  induction h with
  | refl => exact fun d hd _ => by simp [hd]
  | steam _ h1 ih =>
    intro d hd hp
    obtain ⟨y, hy, hyp⟩ := h1.drains d hd hp
    exact ih y hy hyp
  | timers _ h1 => exact absurd h1 hA
  | count _ _ hx _ ih => rw [hx]; exact ih
  | finish _ _ _ _ hx _ _ ih => rw [hx]; exact ih
  | reinit => simp [blocksRestarted, steamRestarted, Steam.reset]
  | lowers _ _ ih => simpa using ih
  | raises _ _ _ _ _ ih => simpa using ih
  | entry _ _ _ _ _ _ _ ih => simpa [entryRecorded] using ih
  | _ => assumption

theorem does_idle (s : State) : Does (idleLicences s) (advanceAll s) (tick s) := by
  have hL : .lowerTo ∈ idleLicences s := by simp [idleLicences]
  have hF : .freeze ∈ idleLicences s := by simp [idleLicences]
  have hR : .reinit ∈ idleLicences s := by simp [idleLicences]
  have hC : .close ∈ idleLicences s := by simp [idleLicences]
  have hT : .time ∉ idleLicences s := by simp [idleLicences]
  have h1 : Does (idleLicences s) (advanceAll s) (fireShare (firePower (fireDoor (fireStart (advanceAll s))))) :=
    ((Does.refl.fireStart hF hR hC).fireDoor.firePower).fireShare hL
  refine (h1.fireSteam fun u d hu hd hp => ?_).fireChannels.fireRelay.fireDescale.fireRecipe.frameBegin
  have := hu.drain_of_dry hT d hd hp
  simp only [advanceAll, advanceSteam, Option.isSome_map] at this
  simp [idleLicences, this]

/-- An idle step is a chain of changes. -/
theorem does_tick (s : State) : Does (.time :: idleLicences s) s (tick s) :=
  (does_advanceAll (by simp) s).trans ((does_idle s).mono (by simp +contextual))

end Sys2Proof.Machine

/-!
What every chain of changes keeps: the bounds of the queue, the ranges of the demands and the programs, and the share
table (R75, R76, R8 to R12, R88, R116, R36, R58).
-/
namespace Sys2Proof.Machine

variable {A : List Licence} {s t : State}

/-! ### The corrections of own holds -/

/-- A property of the machine that no decrease of an own hold takes away outlasts the corrections of a recording (R50). -/
theorem entryRecorded_induct {P : State → Prop} (hP : ∀ p v u, P u → P (lowerHold p v u)) {e : Entry}
    (h : P (t.setShare { t.share with table := insertEntry e t.share.table })) : P (entryRecorded e t) := by
  have hc : ∀ p u, P u → P (correctIfRisen t p u) := fun p u hu => by
    unfold correctIfRisen
    split
    · exact hP _ _ _ hu
    · exact hu
  exact hc _ _ (hc _ _ (hc _ _ h))

/-- What a decrease of an own hold queues. -/
theorem lowerHold_queue (p : Pool) (v : Nat) (t : State) :
    (lowerHold p v t).line = t.line ∨ (lowerHold p v t).line = { t.line with
      queue := enqueueQueue (.lower p (ownGroup t.startup.supply p) v) t.line.queue } := by
  unfold lowerHold enqueueShare enqueue
  cases p <;> dsimp only <;> (repeat' split) <;> simp_all [setQueue, powerFalls]

theorem enqueueShare_line (f : TxFrame) (t : State) :
    (enqueueShare f t).line = t.line
      ∨ (enqueueShare f t).line = { t.line with queue := enqueueQueue f t.line.queue } := by
  unfold enqueueShare enqueue
  (repeat' split) <;> simp [setQueue]

/-! ### The queue -/

theorem queueOk_lowerHold {p : Pool} {v : Nat} (h : QueueOk t.line.queue) : QueueOk (lowerHold p v t).line.queue := by
  rcases lowerHold_queue p v t with hl | hl <;> rw [hl]
  · exact h
  · exact QueueOk.enqueue h (.lower p (ownGroup t.startup.supply p) v)

/-- R75, R76 along a chain. -/
theorem Does.queueOk (h : Does A s t) (h0 : QueueOk s.line.queue) : QueueOk t.line.queue := by
  induction h with
  | refl => exact h0
  | lowers _ _ ih => exact queueOk_lowerHold ih
  | @raises t p v g _ _ _ _ ih =>
    rcases enqueueShare_line (.raise p g v) t with hl | hl <;> rw [hl]
    · exact ih
    · exact QueueOk.enqueue ih (.raise p g v)
  | ownRaise _ _ _ ih => exact ih.sublist List.filter_sublist
  | entry _ _ _ _ _ _ _ ih =>
    exact entryRecorded_induct (P := fun u => QueueOk u.line.queue) (fun _ _ _ hu => queueOk_lowerHold hu) ih
  | line _ h1 ih => exact h1.bounds ih
  | reinit => exact .nil
  | _ => assumption

/-! ### The demands -/

/-- R8 to R12, R88 along a chain. -/
theorem Does.demandInv (h : Does A s t) (h0 : DemandInv s) : DemandInv t := by
  induction h with
  | refl => exact h0
  | climate _ h1 ih => exact h1 ih
  | steam _ h1 ih => exact h1.demand ih
  | timers _ _ hx ih => rw [hx]; exact ih
  | count _ _ hx _ ih => rw [hx]; exact ih
  | finish _ _ _ _ hx _ _ ih => rw [hx]; exact ih
  | lowers _ _ ih => simpa [DemandInv] using ih
  | raises _ _ _ _ _ ih => simpa [DemandInv] using ih
  | entry _ _ _ _ _ _ _ ih =>
    exact entryRecorded_induct (P := DemandInv) (fun _ _ _ hu => by simpa [DemandInv] using hu) ih
  | reinit => simp [DemandInv, blocksRestarted, climateRestarted, steamRestarted, Climate.reset, Steam.reset]
  | _ => assumption

/-! ### The programs -/

/-- Before the freeze nothing is frozen but by the freeze. -/
theorem RecipeInv.startup {x : Startup} (h : RecipeInv t) (hf : x.setup ≠ .frozen → t.startup.setup ≠ .frozen) :
    RecipeInv (t.setStartup x) := by
  obtain ⟨h1, h2, h3, h4, h5, h6, h7⟩ := h
  refine ⟨h1, h2, h3, h4, h5, h6, fun hz => h7 ?_⟩
  exact decide_eq_false (hf (of_decide_eq_false hz))

/-- R116, R120, R125, R133 along a chain. -/
theorem Does.recipeInv (h : Does A s t) (h0 : RecipeInv s) : RecipeInv t := by
  induction h with
  | refl => exact h0
  | startup _ h1 ih => rw [h1]; exact ih.startup id
  | restart _ _ ih => exact ih.startup id
  | @freezes t _ _ _ ih =>
    have h1 := ih.startup (x := (configFrozen t).startup) (by simp [configFrozen])
    exact h1
  | recipe _ h1 ih => exact h1 ih
  | lowers _ _ ih => simpa [RecipeInv, frozen] using ih
  | raises _ _ _ _ _ ih => simpa [RecipeInv, frozen] using ih
  | entry _ _ _ _ _ _ _ ih =>
    exact entryRecorded_induct (P := RecipeInv) (fun _ _ _ hu => by simpa [RecipeInv, frozen] using hu) ih
  | reinit => simp [RecipeInv, blocksRestarted, recipeAtRestart, Recipe.reset]
  | _ => assumption

/-! ### The share table -/

theorem mem_insertEntry {e x : Entry} {l : List Entry} (h : x ∈ insertEntry e l) : x = e ∨ x ∈ l := by
  induction l with
  | nil => simpa [insertEntry] using h
  | cons y l ih =>
    unfold insertEntry at h
    split at h
    · simpa using h
    split at h
    · rcases List.mem_cons.1 h with rfl | h
      · exact .inl rfl
      · exact .inr (List.mem_cons_of_mem _ h)
    · rcases List.mem_cons.1 h with rfl | h
      · simp
      · exact (ih h).imp id (List.mem_cons_of_mem _)

/-- R36: the table stays in rising order as an entry goes in. -/
theorem insertEntry_sorted {e : Entry} {l : List Entry} (h : (l.map (·.station)).Pairwise (· < ·)) :
    ((insertEntry e l).map (·.station)).Pairwise (· < ·) := by
  induction l with
  | nil => simp [insertEntry]
  | cons y l ih =>
    unfold insertEntry
    split
    next hlt =>
      simp only [List.map_cons, List.pairwise_cons] at h ⊢
      refine ⟨fun k hk => ?_, h⟩
      rcases List.mem_cons.1 hk with rfl | hk
      · exact hlt
      · exact hlt.trans (h.1 k hk)
    split
    next heq => simpa [heq] using h
    next hne1 hne2 =>
      simp only [List.map_cons, List.pairwise_cons] at h ⊢
      refine ⟨fun k hk => ?_, ih h.2⟩
      obtain ⟨x, hx, rfl⟩ := List.mem_map.1 hk
      rcases mem_insertEntry hx with rfl | hx
      · omega
      · exact h.1 _ (List.mem_map_of_mem hx)

/-- R36, R58 along a chain. -/
theorem Does.shareInv (h : Does A s t) (h0 : ShareInv s) : ShareInv t := by
  induction h with
  | refl => exact h0
  | startup _ h1 ih => rw [h1]; exact ih
  | share _ h1 ih => exact h1.table ih
  | lowers _ _ ih => simpa [ShareInv] using ih
  | raises _ _ _ _ _ ih => simpa [ShareInv] using ih
  | entry n _ _ _ hne hn he ih =>
    refine entryRecorded_induct (P := ShareInv) (fun _ _ _ hu => by simpa [ShareInv] using hu) ?_
    obtain ⟨h1, h2, h3, h4, h5, h6⟩ := id ih
    refine ⟨h1, h2, insertEntry_sorted h3, fun x hx => ?_, h5, h6⟩
    rcases mem_insertEntry hx with rfl | hx
    · exact he ▸ ⟨hne, hn ih⟩
    · exact h4 x hx
  | @reinit t _ _ _ ih =>
    obtain ⟨h1, h2, -⟩ := ih
    have htab : (shareRestarted t.line.numberClash t.share).table = [] := by
      unfold shareRestarted; cases t.line.numberClash <;> rfl
    have htrip : (shareRestarted t.line.numberClash t.share).tripSet = [] := by
      unfold shareRestarted; cases t.line.numberClash <;> rfl
    exact ⟨h1, h2, by simp [blocksRestarted, htab], by simp [blocksRestarted, htab], by simp [blocksRestarted, htrip],
      by simp [blocksRestarted, htrip]⟩
  | _ => assumption

end Sys2Proof.Machine

/-!
What every step keeps (R75, R76, R8 to R12, R88, R116, R36, R58): what every chain of changes keeps, and POWER_ON.
-/
namespace Sys2Proof.Machine

/-- A step is an idle step, POWER_ON, or another command on the rest of the queue. -/
theorem step_cases {s t : State} (h : step s = .next t) :
    (s.pending = [] ∧ t = tick s)
      ∨ ∃ c rest, s.pending = c :: rest ∧ exec c (s.setPending rest) = .next t := by
  unfold step at h
  split at h
  next hp => exact .inl ⟨hp, (Host.Outcome.next.inj h).symm⟩
  next c rest hp => exact .inr ⟨c, rest, hp, h⟩

/-- POWER_ON, or a chain of changes. -/
theorem exec_cases {c : Instr} {s t : State} (h : exec c s = .next t) :
    (∃ a b : Nibble, c = .powerOn a b ∧ t = powerOn a.toNat b.toNat s)
      ∨ ((∀ a b, c ≠ .powerOn a b) ∧ Does (.reinit :: .close :: licences s c) s t) := by
  by_cases hp : ∃ a b : Nibble, c = .powerOn a b
  · obtain ⟨a, b, rfl⟩ := hp
    exact .inl ⟨a, b, rfl, (Host.Outcome.next.inj h).symm⟩
  · have hp' : ∀ a b, c ≠ .powerOn a b := fun a b he => hp ⟨a, b, he⟩
    exact .inr ⟨hp', does_exec hp' h⟩

@[simp] theorem strapped_station (a b : Nat) : (strapped a b).station = a := by unfold strapped; split <;> rfl
@[simp] theorem strapped_partner (a b : Nat) : (strapped a b).partner = b := by unfold strapped; split <;> rfl

/-- What every chain of changes and POWER_ON keep, every step keeps. -/
theorem step_keeps {I : State → Prop} (hd : ∀ {A s t}, Does A s t → I s → I t)
    (hp : ∀ {a b : Nat} {s}, a ≤ 15 → b ≤ 15 → I s → I (powerOn a b s))
    (hq : ∀ {l s}, I s → I (s.setPending l)) {s t : State} (h : I s) (hs : step s = .next t) : I t := by
  obtain ⟨-, ht⟩ | ⟨c, rest, -, hx⟩ := step_cases hs
  · exact ht ▸ hd (does_tick s) h
  · obtain ⟨a, b, -, rfl⟩ | ⟨-, hc⟩ := exec_cases hx
    · exact hp (nibble_le a) (nibble_le b) (hq h)
    · exact hd hc (hq h)

/-- Settles O4, by the chain of changes that a step is. -/
theorem stepKeepsQueueBounds : Obligations.StepKeepsQueueBounds := by
  unfold Obligations.StepKeepsQueueBounds
  intro s t h hs
  refine step_keeps (I := QueueInv) (fun h h0 => ?_) (fun _ _ _ => ?_) id h hs
  · exact (queueInv_iff _).2 (h.queueOk ((queueInv_iff _).1 h0))
  · exact (queueInv_iff _).2 .nil

/-- Settles O5, by the chain of changes that a step is. -/
theorem stepKeepsDemandRanges : Obligations.StepKeepsDemandRanges := by
  unfold Obligations.StepKeepsDemandRanges
  intro s t h hs
  refine step_keeps (I := DemandInv) (fun h h0 => h.demandInv h0) (fun _ _ _ => ?_) id h hs
  simp [DemandInv, powerOn, steamAtPowerOn, Climate.reset, Steam.reset]

/-- Settles O6, by the chain of changes that a step is. -/
theorem stepKeepsRecipeRanges : Obligations.StepKeepsRecipeRanges := by
  unfold Obligations.StepKeepsRecipeRanges
  intro s t h hs
  refine step_keeps (I := RecipeInv) (fun h h0 => h.recipeInv h0) (fun _ _ _ => ?_) id h hs
  simp [RecipeInv, powerOn, Recipe.reset]

/-- Settles O7, by the chain of changes that a step is. -/
theorem stepKeepsShareTable : Obligations.StepKeepsShareTable := by
  unfold Obligations.StepKeepsShareTable
  intro s t h hs
  refine step_keeps (I := ShareInv) (fun h h0 => h.shareInv h0) (fun ha hb _ => ?_) id h hs
  simpa [ShareInv, powerOn, Share.reset] using ⟨ha, hb⟩

end Sys2Proof.Machine

/-!
Own holds and claims within what the others' charges leave (R39, R43, R44, R50), across every chain of changes.
-/
namespace Sys2Proof.Machine

variable {A : List Licence} {s t : State}

/-- Holds of no more than 0 in each pool. -/
theorem holds_eq_zero {h : PerPool Nat} (h0 : ∀ p, h.get p ≤ 0) : h = PerPool.all 0 := by
  rcases h with ⟨x, y, z⟩
  have hx := Nat.le_zero.1 (h0 .power)
  have hy := Nat.le_zero.1 (h0 .inlet)
  have hz := Nat.le_zero.1 (h0 .drain)
  simp only [PerPool.get] at hx hy hz
  rw [hx, hy, hz, PerPool.all]

theorem perPool_all_get (v : Nat) (p : Pool) : (PerPool.all v).get p = v := by cases p <;> rfl

/-! ### What a decrease of an own hold does -/

/-- The hold of the pool takes the value where it is lower; the others stand (R42). -/
theorem lowerHold_holds (p q : Pool) (v : Nat) (t : State) :
    (lowerHold p v t).share.holds.get q = if q = p then min v (t.share.holds.get p) else t.share.holds.get q := by
  unfold lowerHold
  split
  next h => cases p <;> cases q <;> simp [PerPool.set, PerPool.get] at h ⊢ <;> omega
  next h =>
    split
    next hq => subst hq; omega
    · rfl

theorem lowerHold_le (p q : Pool) (v : Nat) (t : State) :
    (lowerHold p v t).share.holds.get q ≤ t.share.holds.get q := by
  rw [lowerHold_holds]
  split
  next hq => subst hq; omega
  · exact le_rfl

/-- Every RAISE that is queued behind a decrease was queued before. -/
theorem lowerHold_raises {p q : Pool} {v : Nat} {e : QEntry} (he : e ∈ (lowerHold p v t).line.queue)
    (hq : e.frame.isRaise q = true) : e ∈ t.line.queue := by
  rcases lowerHold_queue p v t with hl | hl <;> rw [hl] at he
  · exact he
  · obtain rfl | he := mem_enqueueQueue (f := .lower p (ownGroup t.startup.supply p) v) he
    · simp [TxFrame.isRaise] at hq
    · exact he

theorem raiseQueued_lowerHold {p q : Pool} {v : Nat} (h : raiseQueued q t = false) :
    raiseQueued q (lowerHold p v t) = false := by
  simp only [raiseQueued, List.any_eq_false] at h ⊢
  exact fun e he hq => h e (lowerHold_raises he hq) hq

theorem isRaise_of_raiseValue {p : Pool} {f : TxFrame} {v : Nat} (h : f.raiseValue p = some v) :
    f.isRaise p = true := by
  cases f with
  | raise q g w =>
    simp only [TxFrame.raiseValue] at h
    split at h
    next hq => simp [TxFrame.isRaise, hq]
    · simp at h
  | _ => simp [TxFrame.raiseValue] at h

/-- The others' charges are read from the table, the SUPPLY section and the floor share. -/
theorem othersCharges_congr {u : State} (ht : u.share.table = t.share.table)
    (hs : u.startup.supply = t.startup.supply) (hf : u.share.floor = t.share.floor) (p : Pool) :
    othersCharges u p = othersCharges t p := by
  unfold othersCharges
  rw [ht]
  exact congrArg List.sum (List.map_congr_left fun e _ => charge_congr hs hf p e)

theorem lowerHold_others (p q : Pool) (v : Nat) (t : State) :
    othersCharges (lowerHold p v t) q = othersCharges t q := othersCharges_congr (by simp) (by simp) (by simp) q

/-- Lower holds, no RAISE that is new, and charges of no more keep within the capacity. -/
theorem ShareWithinCapacity.less {u : State} (h : ShareWithinCapacity t)
    (hh : ∀ p, u.share.holds.get p ≤ t.share.holds.get p)
    (hr : ∀ e ∈ u.line.queue, ∀ p, e.frame.isRaise p = true → ∃ y ∈ t.line.queue, y.frame = e.frame)
    (hs : u.startup.supply = t.startup.supply) (hz : frozen u = frozen t)
    (hc : ∀ p, othersCharges u p = othersCharges t p) : ShareWithinCapacity u := by
  obtain ⟨h1, h2, h3⟩ := h
  refine ⟨fun p => ?_, fun p e he v hv => ?_, fun hf => ?_⟩
  · rw [hs, hc]
    exact (hh p).trans (h1 p)
  · obtain ⟨y, hy, hye⟩ := hr e he p (isRaise_of_raiseValue hv)
    rw [hs, hc]
    exact h2 p y hy v (hye ▸ hv)
  · obtain ⟨hz1, hz2⟩ := h3 (hz ▸ hf)
    refine ⟨holds_eq_zero fun p => (hh p).trans (by rw [hz1, perPool_all_get]), ?_⟩
    · intro p
      have := hz2 p
      simp only [raiseQueued, List.any_eq_false] at this ⊢
      exact fun e he hp => by
        obtain ⟨y, hy, hye⟩ := hr e he p hp
        exact this y hy (hye ▸ hp)

theorem ShareWithinCapacity.lowerHold {p : Pool} {v : Nat} (h : ShareWithinCapacity t) :
    ShareWithinCapacity (lowerHold p v t) :=
  h.less (fun q => lowerHold_le p q v t) (fun e he q hq => ⟨e, lowerHold_raises he hq, rfl⟩) (by simp)
    (by simp [frozen]) (fun q => lowerHold_others p q v t)

/-! ### Claims -/

theorem mem_enqueueShare {f : TxFrame} {e : QEntry} (h : e ∈ (enqueueShare f t).line.queue) :
    e ∈ t.line.queue ∨ (e = ⟨f, false⟩ ∧ frozen t = true) := by
  unfold enqueueShare enqueue at h
  split at h
  next hf =>
    split at h
    · exact .inl h
    · rcases mem_enqueueQueue h with rfl | h
      · exact .inr ⟨rfl, hf⟩
      · exact .inl h
  · exact .inl h

theorem ShareWithinCapacity.claim {p : Pool} {v : Nat} (g : Nat) (h : ShareWithinCapacity t)
    (hv : v ≤ poolCapacity t.startup.supply p - othersCharges t p) :
    ShareWithinCapacity (enqueueShare (.raise p g v) t) := by
  obtain ⟨h1, h2, h3⟩ := h
  have hc : ∀ q, othersCharges (enqueueShare (.raise p g v) t) q = othersCharges t q :=
    othersCharges_congr (by simp) (by simp) (by simp)
  refine ⟨fun q => ?_, fun q e he w hw => ?_, fun hz => ?_⟩
  · rw [hc]
    simpa using h1 q
  · rw [hc]
    rcases mem_enqueueShare he with he | ⟨rfl, -⟩
    · simpa using h2 q e he w hw
    · simp only [TxFrame.raiseValue] at hw
      split at hw
      next hq =>
        obtain rfl := hq
        obtain rfl := Option.some.inj hw
        simpa using hv
      · simp at hw
  · have hz' : frozen t = false := by simpa [frozen] using hz
    simpa [enqueueShare, hz'] using h3 hz'

/-- A RAISE that is recorded asked for what the charges leave. -/
theorem sendingFrame_mem {f : TxFrame} (h : sendingFrame t = some f) : ∃ e ∈ t.line.queue, e.frame = f := by
  unfold sendingFrame at h
  obtain ⟨e, he, rfl⟩ := Option.map_eq_some_iff.1 h
  exact ⟨e, List.mem_of_find?_eq_some he, rfl⟩

theorem ShareWithinCapacity.ownRaise {p : Pool} {g v : Nat} (h : ShareWithinCapacity t)
    (hf : sendingFrame t = some (.raise p g v)) : ShareWithinCapacity (setHold p v (finishSending t)) := by
  obtain ⟨e, he, hfe⟩ := sendingFrame_mem hf
  obtain ⟨h1, h2, h3⟩ := h
  have hv : v ≤ poolCapacity t.startup.supply p - othersCharges t p := h2 p e he v (by simp [hfe, TxFrame.raiseValue])
  have hc : ∀ q, othersCharges (setHold p v (finishSending t)) q = othersCharges t q :=
    othersCharges_congr rfl rfl rfl
  refine ⟨fun q => ?_, fun q e he w hw => ?_, fun hz => ?_⟩
  · rw [hc]
    have := h1 q
    cases p <;> cases q <;> first | exact hv | exact this
  · rw [hc]
    exact h2 q e (List.mem_of_mem_filter he) w hw
  · have := (h3 hz).2 p
    simp only [raiseQueued, List.any_eq_false] at this
    exact absurd (by simp [hfe, TxFrame.isRaise]) (this e he)

/-! ### A recording with its corrections -/

theorem correctIfRisen_others (before : State) (p q : Pool) (t : State) :
    othersCharges (correctIfRisen before p t) q = othersCharges t q := by
  unfold correctIfRisen correct
  split
  · exact lowerHold_others _ _ _ _
  · rfl

theorem correctIfRisen_le (before : State) (p q : Pool) (t : State) :
    (correctIfRisen before p t).share.holds.get q ≤ t.share.holds.get q := by
  unfold correctIfRisen correct
  split
  · exact lowerHold_le _ _ _ _
  · exact le_rfl

/-- R50: the correction of a pool restores its bound. -/
theorem correctIfRisen_within {before : State} {p : Pool}
    (hs : t.startup.supply = before.startup.supply)
    (hb : t.share.holds.get p ≤ poolCapacity before.startup.supply p - othersCharges before p) :
    (correctIfRisen before p t).share.holds.get p ≤ poolCapacity before.startup.supply p - othersCharges t p := by
  unfold correctIfRisen correct
  split
  · rw [lowerHold_holds, if_pos rfl, hs]
    omega
  · omega

theorem ShareWithinCapacity.entry {e : Entry} (h : ShareWithinCapacity t) (hr : ∀ p, raiseQueued p t = false) :
    ShareWithinCapacity (entryRecorded e t) := by
  obtain ⟨h1, -, h3⟩ := h
  let u := t.setShare { t.share with table := insertEntry e t.share.table }
  have hq : ∀ p, raiseQueued p (entryRecorded e t) = false := fun p =>
    entryRecorded_induct (P := fun x => raiseQueued p x = false) (fun _ _ _ hu => raiseQueued_lowerHold hu) (hr p)
  have hsup : (entryRecorded e t).startup = t.startup := by simp [entryRecorded]
  have hle : ∀ p, (entryRecorded e t).share.holds.get p ≤ t.share.holds.get p := fun p =>
    entryRecorded_induct (P := fun x => x.share.holds.get p ≤ t.share.holds.get p)
      (fun q v x hx => (lowerHold_le q p v x).trans hx) le_rfl
  have hc : ∀ p, othersCharges (entryRecorded e t) p = othersCharges u p := fun p => by
    simp only [entryRecorded, correctIfRisen_others, u]
  refine ⟨fun p => ?_, fun p x hx v hv => ?_, fun hz => ?_⟩
  · rw [hc, hsup]
    have hp := correctIfRisen_within (before := t) (t := u) rfl (h1 .power)
    have hi := correctIfRisen_within (before := t) (t := correctIfRisen t .power u) (p := .inlet) (by simp [u])
      ((correctIfRisen_le t .power .inlet u).trans (h1 .inlet))
    have hd := correctIfRisen_within (before := t) (t := correctIfRisen t .inlet (correctIfRisen t .power u))
      (p := .drain) (by simp [u])
      (((correctIfRisen_le _ _ _ _).trans (correctIfRisen_le t .power .drain u)).trans (h1 .drain))
    simp only [correctIfRisen_others] at hi hd
    cases p with
    | power => exact ((correctIfRisen_le _ _ _ _).trans (correctIfRisen_le _ _ _ _)).trans hp
    | inlet => exact (correctIfRisen_le _ _ _ _).trans hi
    | drain => exact hd
  · have := hq p
    simp only [raiseQueued, List.any_eq_false] at this
    exact absurd (isRaise_of_raiseValue hv) (this x hx)
  · have hz' : frozen t = false := by simpa [frozen, hsup] using hz
    exact ⟨holds_eq_zero fun p => (hle p).trans (by rw [(h3 hz').1, perPool_all_get]), hq⟩

/-! ### The chain -/

/-- R39, R43, R44, R50 along a chain. -/
theorem Does.shareWithinCapacity (h : Does A s t) (h0 : ShareWithinCapacity s) : ShareWithinCapacity t := by
  induction h with
  | refl => exact h0
  | startup _ h1 ih =>
    rw [h1]
    exact ih
  | @freezes t _ _ hs ih =>
    obtain ⟨-, -, h3⟩ := ih
    obtain ⟨hz, hr⟩ := h3 (by simp [frozen, hs])
    refine ⟨fun p => ?_, fun p e he v hv => ?_, fun hf => ?_⟩
    · have : (configFrozen t).share.holds = PerPool.all 0 := hz
      rw [this]
      cases p <;> exact Nat.zero_le _
    · have := hr p
      simp only [raiseQueued, List.any_eq_false] at this
      exact absurd (isRaise_of_raiseValue hv) (this e he)
    · simp [configFrozen, frozen] at hf
  | share _ h1 ih => exact h1.capacity ih
  | lowers _ _ ih => exact ih.lowerHold
  | raises g _ _ h2 _ ih => exact ih.claim g h2
  | ownRaise _ _ h2 ih => exact ih.ownRaise h2
  | entry n _ _ h2 _ _ _ ih => exact ih.entry h2
  | line _ h1 ih => exact ih.less (fun _ => le_rfl) h1.frames rfl rfl fun _ => rfl
  | @reinit t _ _ _ _ =>
    have hh : (shareRestarted t.line.numberClash t.share).holds = PerPool.all 0 := by
      unfold shareRestarted; cases t.line.numberClash <;> rfl
    refine ⟨fun p => ?_, fun p e he => by simp [blocksRestarted, lineRestarted] at he, fun _ => ⟨hh, fun p => ?_⟩⟩
    · simp only [blocksRestarted, hh]
      cases p <;> exact Nat.zero_le _
    · simp [raiseQueued, blocksRestarted, lineRestarted]
  | _ => assumption

/-- Settles O8, by the chain of changes that a step is. -/
theorem stepKeepsSharesWithinCapacity : Obligations.StepKeepsSharesWithinCapacity := by
  unfold Obligations.StepKeepsSharesWithinCapacity
  intro s t h hs
  refine step_keeps (I := ShareWithinCapacity) (fun h h0 => h.shareWithinCapacity h0) (fun _ _ _ => ?_) id h hs
  refine ⟨fun p => ?_, by simp [powerOn, Line.reset], fun _ => ?_⟩
  · cases p <;> exact Nat.zero_le _
  · simp [powerOn, Share.reset, raiseQueued, Line.reset]

end Sys2Proof.Machine

/-!
The law of the burst frames (R25, R27, R31, R32) across every chain of changes.
-/
namespace Sys2Proof.Machine

variable {A : List Licence} {s t : State}

/-! ### Decreases of an own hold -/

theorem lowerHold_raisesOf (p q : Pool) (v : Nat) (t : State) :
    raisesOf q (lowerHold p v t).line.queue ≤ raisesOf q t.line.queue := by
  rcases lowerHold_queue p v t with hl | hl <;> rw [hl]
  exact raisesOf_enqueueQueue_le (f := .lower p (ownGroup t.startup.supply p) v) rfl _

/-- What the scheduler is told of a decrease of POWER (R31, R25). -/
theorem lowerHold_power_power {v : Nat} (h : v < t.share.holds.power) :
    (lowerHold .power v t).power = { t.power with
      holdFall    := if t.power.inFrame then some v else t.power.holdFall
      carriesBase := t.power.carriesBase && decide (t.startup.supply.baseLoad ≤ v)
      base        := if v < t.startup.supply.baseLoad then PerActuator.all false else t.power.base } := by
  unfold lowerHold
  rw [if_pos (by exact h)]
  have he : ∀ f u, (enqueueShare f u).power = u.power := by simp
  exact he _ _

theorem PowerOk.lowerPower {v : Nat} (h : PowerOk t) : PowerOk (lowerHold .power v t) := by
  by_cases hv : v < t.share.holds.power
  case neg =>
    have : Machine.lowerHold .power v t = t := by unfold Machine.lowerHold; rw [if_neg (by exact hv)]
    rwa [this]
  have hpow := lowerHold_power_power hv
  have hhold : (Machine.lowerHold .power v t).share.holds.power = v := by
    have := lowerHold_holds .power .power v t
    rw [if_pos rfl] at this
    exact this.trans (min_eq_left hv.le)
  have hin : (Machine.lowerHold .power v t).power.inFrame = t.power.inFrame := by rw [hpow]
  have hsup : (Machine.lowerHold .power v t).startup = t.startup := by simp
  have hfall : t.power.inFrame = true → (Machine.lowerHold .power v t).power.holdFall = some v := fun hi => by
    rw [hpow]; simp [hi]
  have hruns : baseRuns (Machine.lowerHold .power v t).power = true →
      t.startup.supply.baseLoad ≤ v ∧ baseRuns t.power = true := fun hb => by
    rw [hpow] at hb
    simp only [baseRuns] at hb
    split at hb
    · simp [PerActuator.all] at hb
    next hlt => exact ⟨Nat.le_of_not_lt hlt, hb⟩
  refine ⟨fun hi hf => ?_, fun w hw => ?_, fun hc => ?_, fun hb => ?_, fun hi => ?_, fun hi => ?_, ?_, fun e he w hw => ?_,
    (lowerHold_raisesOf _ _ _ _).trans h.single, fun hz => ?_⟩
  · rw [hfall (hin ▸ hi)] at hf
    simp at hf
  · rw [hhold, hin]
    cases hi : t.power.inFrame with
    | true =>
      rw [hfall hi] at hw
      exact ⟨(Option.some.inj hw).ge, rfl⟩
    | false =>
      rw [hpow] at hw
      have := (h.fall w (by simpa [hi] using hw)).2
      simp [hi] at this
  · rw [hpow] at hc
    simp only [Bool.and_eq_true, decide_eq_true_eq] at hc
    obtain ⟨hi, -⟩ := h.carries hc.1
    rw [hin, hsup, hhold]
    refine ⟨hi, hc.2, fun w hw => ?_⟩
    rw [hfall hi] at hw
    exact Option.some.inj hw ▸ hc.2
  · obtain ⟨hle, hr⟩ := hruns hb
    rw [hsup, hhold, hin]
    refine ⟨hle, fun hi => ?_⟩
    rw [hpow]
    simp [(h.runs hr).2 hi, hle]
  · rw [hin] at hi
    rw [hpow]
    exact h.idle hi
  · rw [hin] at hi
    rw [hpow]
    exact h.slots hi
  · rw [hpow]
    exact h.order
  · rw [hhold]
    exact hv.le.trans (h.raises e (lowerHold_raises he (isRaise_of_raiseValue hw)) w hw)
  · obtain ⟨hi, hb⟩ := h.thawed (by simpa [frozen] using hz)
    refine ⟨hin ▸ hi, ?_⟩
    by_contra hn
    have := (hruns (by simpa using hn)).2
    simp [hb] at this

/-- What the law reads may stand while the rest moves. -/
theorem PowerOk.congr {u : State} (h : PowerOk t) (hp : u.power = t.power) (hs : u.startup = t.startup)
    (hh : u.share.holds.power = t.share.holds.power)
    (hr : ∀ e ∈ u.line.queue, ∀ v, e.frame.raiseValue .power = some v → t.share.holds.power ≤ v)
    (h1 : raisesOf .power u.line.queue ≤ 1) : PowerOk u where
  law := by rw [hp, hh]; simp only [carriedLoad, hp, hs]; exact h.law
  fall := by rw [hp, hh]; exact h.fall
  carries := by rw [hp, hs, hh]; exact h.carries
  runs := by rw [hp, hs, hh]; exact h.runs
  idle := by rw [hp]; exact h.idle
  slots := by rw [hp]; exact h.slots
  order := by rw [hp]; exact h.order
  raises := by rw [hh]; exact hr
  single := h1
  thawed := by simp only [frozen, hs, hp]; exact h.thawed

theorem PowerOk.lowerHold {p : Pool} {v : Nat} (h : PowerOk t) : PowerOk (lowerHold p v t) := by
  by_cases hp : p = .power
  · subst hp
    exact h.lowerPower
  · refine h.congr (lowerHold_water_power hp v t) (by simp) ?_ (fun e he w hw => ?_)
      ((lowerHold_raisesOf _ _ _ _).trans h.single)
    · have := lowerHold_holds p .power v t
      rwa [if_neg (Ne.symm hp)] at this
    · exact h.raises e (lowerHold_raises he (isRaise_of_raiseValue hw)) w hw

/-! ### Claims and their completion -/

theorem PowerOk.claim {p : Pool} {v : Nat} (g : Nat) (h : PowerOk t) (hs : raiseSending p t = false)
    (hv : t.share.holds.get p ≤ v) : PowerOk (enqueueShare (.raise p g v) t) := by
  refine h.congr (by simp) (by simp) (by simp) (fun e he w hw => ?_) ?_
  · rcases mem_enqueueShare he with he | ⟨rfl, -⟩
    · exact h.raises e he w hw
    · simp only [TxFrame.raiseValue] at hw
      split at hw
      next hp =>
        subst hp
        exact Option.some.inj hw ▸ hv
      · simp at hw
  · rcases enqueueShare_line (.raise p g v) t with hl | hl <;> rw [hl]
    · exact h.single
    · by_cases hp : p = .power
      · subst hp
        exact raisesOf_enqueueQueue_raise h.single hs g v
      · exact (raisesOf_enqueueQueue_le (f := .raise p g v) (by simpa [TxFrame.isRaise] using hp) _).trans h.single

/-- A RAISE of the pool that is being sent is the only one there is. -/
theorem no_raise_behind_sending {p : Pool} {q : List QEntry} (h : raisesOf p q ≤ 1) {e : QEntry} (he : e ∈ q)
    (hs : e.sending = true) (hr : e.frame.isRaise p = true) :
    ∀ x ∈ q.filter (fun e => !e.sending), x.frame.isRaise p = false := by
  intro x hx
  obtain ⟨hxq, hxs⟩ := List.mem_filter.1 hx
  by_contra hxr
  have h2 : 2 ≤ raisesOf p q := by
    have hsplit : raisesOf p q = (q.filter fun e => !e.sending).countP (fun e => e.frame.isRaise p)
        + (q.filter fun e => e.sending).countP (fun e => e.frame.isRaise p) := by
      rw [raisesOf, List.countP_eq_countP_filter_add q _ (fun e => !e.sending)]
      simp
    have h1 : 0 < (q.filter fun e => !e.sending).countP (fun e => e.frame.isRaise p) :=
      List.countP_pos_iff.2 ⟨x, hx, by simpa using hxr⟩
    have h2 : 0 < (q.filter fun e => e.sending).countP (fun e => e.frame.isRaise p) :=
      List.countP_pos_iff.2 ⟨e, List.mem_filter.2 ⟨he, hs⟩, hr⟩
    omega
  omega

/-- A frame that is being sent is in the queue. -/
theorem sendingFrame_entry {f : TxFrame} (h : sendingFrame t = some f) :
    ∃ e ∈ t.line.queue, e.sending = true ∧ e.frame = f := by
  unfold sendingFrame at h
  obtain ⟨e, he, rfl⟩ := Option.map_eq_some_iff.1 h
  exact ⟨e, List.mem_of_find?_eq_some he, by simpa using List.find?_some he, rfl⟩

theorem PowerOk.ownRaise {p : Pool} {g v : Nat} (h : PowerOk t) (hf : sendingFrame t = some (.raise p g v)) :
    PowerOk (setHold p v (finishSending t)) := by
  obtain ⟨e, he, hes, hef⟩ := sendingFrame_entry hf
  have hsingle : raisesOf .power (t.line.queue.filter fun e => !e.sending) ≤ 1 :=
    (List.filter_sublist.countP_le).trans h.single
  by_cases hp : p = .power
  case neg =>
    refine h.congr rfl rfl ?_ (fun x hx => h.raises x (List.mem_of_mem_filter hx)) hsingle
    cases p
    · exact absurd rfl hp
    · rfl
    · rfl
  subst hp
  have hv : t.share.holds.power ≤ v := h.raises e he v (by simp [hef, TxFrame.raiseValue])
  have hnone := no_raise_behind_sending h.single he hes (by simp [hef, TxFrame.isRaise])
  refine ⟨fun hi hn => ?_, fun w hw => ?_, fun hc => ?_, fun hb => ?_, h.idle, h.slots, h.order, fun x hx w hw => ?_,
    hsingle, h.thawed⟩
  · obtain ⟨h1, h2⟩ := h.law hi hn
    exact ⟨h1.trans hv, fun x hx => (h2 x hx).trans hv⟩
  · obtain ⟨h1, h2⟩ := h.fall w hw
    exact ⟨h1.trans hv, h2⟩
  · obtain ⟨h1, h2, h3⟩ := h.carries hc
    exact ⟨h1, h2.trans hv, h3⟩
  · obtain ⟨h1, h2⟩ := h.runs hb
    exact ⟨h1.trans hv, h2⟩
  · have := isRaise_of_raiseValue hw
    simp [hnone x hx] at this

/-! ### The chain -/

/-- R25, R27, R31, R32 along a chain. -/
theorem Does.powerInv (h : Does A s t) (h0 : PowerInv s) : PowerInv t := by
  induction h with
  | refl => exact h0
  | startup _ h1 ih =>
    rw [h1]
    exact ih
  | @freezes t _ _ hs ih =>
    have ok := (powerInv_iff _).1 ih
    obtain ⟨hi, hb⟩ := ok.thawed (by simp [frozen, hs])
    refine (powerInv_iff _).2
      ⟨fun hi' => ?_, ok.fall, fun hc => ?_, fun hb' => ?_, ok.idle, ok.slots, ok.order, ok.raises, ok.single, fun _ => ⟨hi, hb⟩⟩
    · exact absurd (hi.symm.trans hi') (by decide)
    · exact absurd (hi.symm.trans (ok.carries hc).1) (by decide)
    · exact absurd (hb.symm.trans hb') (by decide)
  | power _ h1 _ ih => exact h1 ih
  | share _ h1 ih =>
    have ok := (powerInv_iff _).1 ih
    exact (powerInv_iff _).2 (ok.congr rfl rfl (by rw [State.setShare_share, h1.holds]) ok.raises ok.single)
  | lowers _ _ ih => exact (powerInv_iff _).2 ((powerInv_iff _).1 ih).lowerHold
  | raises g _ h1 _ h3 ih => exact (powerInv_iff _).2 (((powerInv_iff _).1 ih).claim g h1 h3)
  | ownRaise _ _ h2 ih => exact (powerInv_iff _).2 (((powerInv_iff _).1 ih).ownRaise h2)
  | entry n _ _ _ _ _ _ ih =>
    exact (powerInv_iff _).2 (entryRecorded_induct (P := PowerOk) (fun _ _ _ hu => hu.lowerHold)
      (((powerInv_iff _).1 ih).congr rfl rfl rfl ((powerInv_iff _).1 ih).raises ((powerInv_iff _).1 ih).single))
  | line _ h1 ih =>
    have ok := (powerInv_iff _).1 ih
    refine (powerInv_iff _).2 (ok.congr rfl rfl rfl (fun e he v hv => ?_) (h1.raises .power ok.single))
    obtain ⟨y, hy, hye⟩ := h1.frames e he .power (isRaise_of_raiseValue hv)
    exact ok.raises y hy v (hye ▸ hv)
  | reinit =>
    simp [PowerInv, blocksRestarted, powerRestarted, lineRestarted, Power.reset, baseRuns, PerActuator.all]
  | _ => assumption

/-- Settles O9, by the chain of changes that a step is. -/
theorem stepKeepsLoadWithinHold : Obligations.StepKeepsLoadWithinHold := by
  unfold Obligations.StepKeepsLoadWithinHold
  intro s t h hs
  refine step_keeps (I := PowerInv) (fun h h0 => h.powerInv h0) (fun _ _ _ => ?_) id h hs
  simp [PowerInv, powerOn, Power.reset, Line.reset, baseRuns, PerActuator.all]

end Sys2Proof.Machine

/-!
What no chain of changes undoes without its licence: held faults, the frozen configuration, own holds, the acid marker and
S (R42, R46, R73, R97, R99, R100, R105, R109, R148, R151, R153, R167).
-/
namespace Sys2Proof.Machine

variable {A : List Licence} {s t : State}

/-! ### Held faults -/

/-- R148: the latch stands but for a RELAY_RESTORE. -/
theorem Does.trip_stands (h : Does A s t) (hA : .restore ∉ A) (h0 : s.superv.trip = true) : t.superv.trip = true := by
  induction h with
  | refl => exact h0
  | superv _ h1 ih => exact h1.trip ih
  | restore _ h1 => exact absurd h1 hA
  | lowers _ _ ih => simpa using ih
  | raises _ _ _ _ _ ih => simpa using ih
  | entry _ _ _ _ _ _ _ ih => simpa [entryRecorded] using ih
  | _ => assumption

/-- R151. -/
theorem Does.welded_stands (h : Does A s t) (h0 : s.superv.welded = true) : t.superv.welded = true := by
  induction h with
  | refl => exact h0
  | superv _ h1 ih => exact h1.welded ih
  | lowers _ _ ih => simpa using ih
  | raises _ _ _ _ _ ih => simpa using ih
  | entry _ _ _ _ _ _ _ ih => simpa [entryRecorded] using ih
  | _ => assumption

/-- R153. -/
theorem Does.configFault_stands (h : Does A s t) (h0 : s.superv.configFault = true) : t.superv.configFault = true := by
  induction h with
  | refl => exact h0
  | superv _ h1 ih => exact h1.config ih
  | lowers _ _ ih => simpa using ih
  | raises _ _ _ _ _ ih => simpa using ih
  | entry _ _ _ _ _ _ _ ih => simpa [entryRecorded] using ih
  | _ => assumption

/-- R73. -/
theorem Does.numberClash_stands (h : Does A s t) (h0 : s.line.numberClash = true) : t.line.numberClash = true := by
  induction h with
  | refl => exact h0
  | line _ h1 ih => exact h1.clash ih
  | lowers _ _ ih => simpa using ih
  | raises _ _ _ _ _ ih => simpa using ih
  | entry _ _ _ _ _ _ _ ih => simpa [entryRecorded] using ih
  | _ => assumption

/-- R153, R155: a CONFIG_FAULT stands with the latch. -/
theorem Does.faultInv (h : Does A s t) (h0 : FaultInv s) : FaultInv t := by
  induction h with
  | refl => exact h0
  | superv _ h1 ih => exact h1.sound ih
  | restore _ _ _ h1 => exact fun hc => absurd (h1.symm.trans hc) (by decide)
  | lowers _ _ ih => simpa [FaultInv] using ih
  | raises _ _ _ _ _ ih => simpa [FaultInv] using ih
  | entry _ _ _ _ _ _ _ ih => simpa [FaultInv, entryRecorded] using ih
  | _ => assumption

theorem restore_licence {c : Instr} (h : .restore ∈ licences s c) : c = .relayRestore := by
  unfold licences at h
  split at h <;> simp_all <;> split at h <;> simp_all

/-- Settles O12, by the chain of changes that a command or an idle step is: none of them clears a held fault without a
RELAY_RESTORE. -/
theorem heldFaultsOutlastOtherCommands : Obligations.HeldFaultsOutlastOtherCommands := by
  unfold Obligations.HeldFaultsOutlastOtherCommands
  refine ⟨fun c s t h hp => ?_, fun s t hn h => ?_, fun s t h0 h => ?_⟩
  · have hd := does_exec hp h
    refine ⟨fun ht => ?_, hd.welded_stands, hd.configFault_stands, hd.numberClash_stands⟩
    by_cases hc : c = .relayRestore
    · exact .inr hc
    · refine .inl (hd.trip_stands (fun hm => hc (restore_licence (s := s) ?_)) ht)
      simpa using hm
  · obtain ⟨-, ht⟩ | ⟨c, rest, hp, -⟩ := step_cases h
    · rw [ht]
      exact ⟨(does_tick s).trip_stands (by simp [idleLicences]), (does_tick s).welded_stands,
        (does_tick s).configFault_stands, (does_tick s).numberClash_stands⟩
    · simp [hp] at hn
  · exact step_keeps (I := FaultInv) (fun h h0 => h.faultInv h0)
      (fun _ _ _ => by simp [FaultInv, powerOn, Superv.reset]) id h0 h

/-! ### The frozen configuration -/

/-- What R167 holds until power-on. -/
structure ConfigStands (s t : State) : Prop where
  frozen   : Machine.frozen t = true
  station  : t.startup.station = s.startup.station
  partner  : t.startup.partner = s.startup.partner
  supply   : t.startup.supply = s.startup.supply
  channels : t.startup.channels = s.startup.channels
  floor    : t.share.floor = s.share.floor

theorem ConfigStands.congr {u : State} (h : ConfigStands s t) (hs : u.startup = t.startup)
    (hf : u.share.floor = t.share.floor) : ConfigStands s u where
  frozen := by simpa only [Machine.frozen, hs] using h.frozen
  station := hs ▸ h.station
  partner := hs ▸ h.partner
  supply := hs ▸ h.supply
  channels := hs ▸ h.channels
  floor := hf.trans h.floor

/-- R167 along a chain. -/
theorem Does.configStands (h : Does A s t) (h0 : frozen s = true) : ConfigStands s t := by
  induction h with
  | refl => exact ⟨h0, rfl, rfl, rfl, rfl, rfl⟩
  | startup _ h1 ih =>
    rw [h1]
    exact ⟨ih.frozen, ih.station, ih.partner, ih.supply, ih.channels, ih.floor⟩
  | restart _ _ ih => exact ⟨ih.frozen, ih.station, ih.partner, ih.supply, ih.channels, ih.floor⟩
  | freezes _ _ hs ih => exact absurd ih.frozen (by simp [frozen, hs])
  | share _ h1 ih => exact ih.congr rfl h1.floor
  | lowers _ _ ih => exact ih.congr (by simp) (by simp)
  | raises _ _ _ _ _ ih => exact ih.congr (by simp) (by simp)
  | ownRaise _ _ _ ih => exact ih.congr rfl rfl
  | entry _ _ _ _ _ _ _ ih => exact ih.congr (by simp [entryRecorded]) (by simp [entryRecorded])
  | @reinit t _ _ _ ih =>
    refine ⟨ih.frozen, ih.station, ih.partner, ih.supply, ih.channels, ?_⟩
    have : (shareRestarted t.line.numberClash t.share).floor = t.share.floor := by
      unfold shareRestarted; cases t.line.numberClash <;> rfl
    exact this.trans ih.floor
  | climate _ _ ih => exact ih.congr rfl rfl
  | power _ _ _ ih => exact ih.congr rfl rfl
  | line _ _ ih => exact ih.congr rfl rfl
  | steam _ _ ih => exact ih.congr rfl rfl
  | timers _ _ _ ih => exact ih.congr rfl rfl
  | count _ _ _ _ ih => exact ih.congr rfl rfl
  | acid _ _ ih => exact ih.congr rfl rfl
  | finish _ _ _ _ _ _ _ ih => exact ih.congr rfl rfl
  | lend _ _ ih => exact ih.congr rfl rfl
  | descale _ _ ih => exact ih.congr rfl rfl
  | rinse _ _ ih => exact ih.congr rfl rfl
  | recipe _ _ ih => exact ih.congr rfl rfl
  | superv _ _ ih => exact ih.congr rfl rfl
  | close _ _ _ _ ih => exact ih.congr rfl rfl
  | restore _ _ _ _ ih => exact ih.congr rfl rfl

/-- Settles O13: a frozen configuration can be frozen no second time, and no other change touches it. -/
theorem frozenConfigurationStands : Obligations.FrozenConfigurationStands := by
  unfold Obligations.FrozenConfigurationStands
  refine ⟨fun c s t h hp hf => ?_, fun s t hn h hf => ?_⟩
  · obtain ⟨h1, h2, h3, h4, h5, h6⟩ := (does_exec hp h).configStands hf
    exact ⟨h1, h2, h3, h4, h5, h6⟩
  · obtain ⟨-, ht⟩ | ⟨c, rest, hp, -⟩ := step_cases h
    · rw [ht]
      obtain ⟨h1, h2, h3, h4, h5, h6⟩ := (does_tick s).configStands hf
      exact ⟨h1, h2, h3, h4, h5, h6⟩
    · simp [hp] at hn

/-! ### Own holds -/

/-- R42: no hold rises but by an own RAISE. -/
theorem Does.holds_le (h : Does A s t) (hA : .ownRaise ∉ A) (p : Pool) :
    t.share.holds.get p ≤ s.share.holds.get p := by
  induction h with
  | refl => exact le_rfl
  | share _ h1 ih => rwa [State.setShare_share, h1.holds]
  | lowers _ _ ih => exact (lowerHold_le _ _ _ _).trans ih
  | raises _ _ _ _ _ ih => simpa using ih
  | ownRaise _ h1 => exact absurd h1 hA
  | @entry t n e _ _ _ _ _ _ ih =>
    exact entryRecorded_induct (P := fun u => u.share.holds.get p ≤ s.share.holds.get p)
      (fun q v u hu => (lowerHold_le q p v u).trans hu) ih
  | @reinit t _ _ _ _ =>
    have : (blocksRestarted t).share.holds = PerPool.all 0 := by
      unfold blocksRestarted shareRestarted; cases t.line.numberClash <;> rfl
    rw [this, perPool_all_get]
    exact Nat.zero_le _
  | _ => assumption

/-- Where no hold is lowered to a value, a hold stands or goes to 0. -/
theorem Does.holds_stand (h : Does A s t) (hA : .ownRaise ∉ A) (hL : .lowerTo ∉ A) (p : Pool) :
    t.share.holds.get p = s.share.holds.get p ∨ t.share.holds.get p = 0 := by
  induction h with
  | refl => exact .inl rfl
  | share _ h1 ih => rwa [State.setShare_share, h1.holds]
  | @lowers t q v _ h1 ih =>
    obtain rfl := h1.resolve_right hL
    rw [lowerHold_holds]
    split
    · exact .inr (by simp)
    · exact ih
  | raises _ _ _ _ _ ih => simpa using ih
  | ownRaise _ h1 => exact absurd h1 hA
  | entry _ _ h1 => exact absurd h1 hL
  | @reinit t _ _ _ _ =>
    have : (blocksRestarted t).share.holds = PerPool.all 0 := by
      unfold blocksRestarted shareRestarted; cases t.line.numberClash <;> rfl
    exact .inr (by rw [this, perPool_all_get])
  | _ => assumption

theorem recordOwnRaise_from (p : Pool) (v : Nat) (u : State) :
    Does [] (if u.share.fell.get p then u else setHold p v u) (recordOwnRaise p v u) := by
  unfold recordOwnRaise
  cases p with
  | power => exact Does.refl.shareMoves rfl
  | inlet => exact .choice (Does.refl.lowers (.inl rfl)) .refl
  | drain => exact .choice (Does.refl.lowers (.inl rfl)) .refl

/-- A completion goes on from a state whose holds are as before, or as the RAISE that was sent asked for (R46). -/
theorem ownFrameComplete_from (vetoed : Bool) (s : State) :
    ∃ x, Does [] x (ownFrameComplete vetoed s)
      ∧ (x.share.holds = s.share.holds
        ∨ vetoed = false ∧ ∃ p g v, sendingFrame s = some (.raise p g v) ∧ x.share.holds = s.share.holds.set v p) := by
  have hkeep : (vetoed = false → .ownRaise ∈ ([] : List Licence)) →
      ∃ x, Does [] x (ownFrameComplete vetoed s) ∧ x.share.holds = s.share.holds := fun hv =>
    ⟨s, Does.refl.ownFrameComplete hv, rfl⟩
  cases vetoed with
  | true =>
    obtain ⟨x, hx, hh⟩ := hkeep (by simp)
    exact ⟨x, hx, .inl hh⟩
  | false =>
    unfold ownFrameComplete
    split
    · exact ⟨s, .refl, .inl rfl⟩
    next f hf =>
      have hplain : ownOutcome f true (finishSending s) = ownOutcome f false (finishSending s) →
          ∃ x, Does [] x (settle (endIsolation (ownOutcome f false (finishSending s)))) ∧ x.share.holds = s.share.holds :=
        fun he => ⟨s, he ▸ ((Does.refl.ownOutcome (by simp) hf).endIsolation.settle), rfl⟩
      cases f with
      | raise p g v =>
        refine ⟨_, (recordOwnRaise_from p v (finishSending s)).endIsolation.settle, ?_⟩
        split
        · exact .inl rfl
        · exact .inr ⟨rfl, p, g, v, hf, rfl⟩
      | _ =>
        obtain ⟨x, hx, hh⟩ := hplain rfl
        exact ⟨x, hx, .inl hh⟩

theorem ownRaise_licence {c : Instr} (h : .ownRaise ∈ licences s c) : c = .ownFrameComplete false := by
  unfold licences at h
  split at h <;> simp_all <;> split at h <;> simp_all

/-- Settles O10: along the chain of changes that a step is no hold rises but by the completion of an own RAISE, and the
completion goes on from the value asked for without lowering to any value but 0. -/
theorem holdsRiseOnlyByOwnRaise : Obligations.HoldsRiseOnlyByOwnRaise := by
  unfold Obligations.HoldsRiseOnlyByOwnRaise
  refine ⟨fun c s t p h hlt => ?_, fun s t p hn h => ?_⟩
  · obtain ⟨a, b, -, rfl⟩ | ⟨-, hd⟩ := exec_cases h
    · have : (powerOn a.toNat b.toNat s).share.holds = PerPool.all 0 := rfl
      rw [this, perPool_all_get] at hlt
      omega
    by_cases hl : .ownRaise ∈ licences s c
    case neg =>
      have := hd.holds_le (by simpa using hl) p
      omega
    obtain rfl := ownRaise_licence hl
    refine ⟨rfl, ?_⟩
    rw [exec_eq_worked] at h
    obtain rfl := Host.Outcome.next.inj h
    obtain ⟨x, hx, hh⟩ := ownFrameComplete_from false s
    have ht : Does [.reinit, .close] x (reInitIfDue (ownFrameComplete false s)) :=
      (hx.mono (by simp)).reInitIfDue (by simp) (by simp)
    change s.share.holds.get p < (reInitIfDue (ownFrameComplete false s)).share.holds.get p at hlt
    change ∃ f, sendingFrame s = some f ∧ f.raiseValue p = some ((reInitIfDue (ownFrameComplete false s)).share.holds.get p)
    obtain he | he := ht.holds_stand (by simp) (by simp) p
    case inr => omega
    rw [he] at hlt ⊢
    obtain hh | ⟨-, q, g, v, hf, hh⟩ := hh
    · rw [hh] at hlt
      omega
    · rw [hh] at hlt ⊢
      refine ⟨_, hf, ?_⟩
      cases p <;> cases q <;> simp [PerPool.get, PerPool.set, TxFrame.raiseValue] at hlt ⊢
  · obtain ⟨-, ht⟩ | ⟨c, rest, hp, -⟩ := step_cases h
    · rw [ht]
      exact (does_tick s).holds_le (by simp [idleLicences]) p
    · simp [hp] at hn

end Sys2Proof.Machine

/-!
The acid marker and S (R97, R99, R100, R105, R109): set and lowered with a licence alone, and a licence to end the third
rinse drain serves only where that drain was in progress.
-/
namespace Sys2Proof.Machine

variable {A : List Licence} {s t : State}

/-- R97, R98, R100 along a chain. -/
theorem Does.scaleInv (h : Does A s t) (h0 : ScaleInv s) : ScaleInv t := by
  induction h with
  | refl => exact h0
  | steam _ h1 ih => exact h1.record ih
  | timers _ _ hx ih => rw [hx]; exact ih
  | count _ _ _ h1 ih => exact (h1 ih).1
  | finish _ _ _ _ hx hv _ ih =>
    obtain ⟨h1, h2, h3, h4, h5⟩ := ih
    rw [hx]
    refine ⟨?_, ?_, h3, h4, h5⟩
    · rcases hv with ⟨he, -⟩ | ⟨-, he, -⟩
      · exact he ▸ h1
      · exact he ▸ Nat.zero_le _
    · rcases hv with ⟨-, he⟩ | ⟨-, -, he⟩
      · exact he ▸ h2
      · exact he ▸ Nat.zero_le _
  | lowers _ _ ih => simpa [ScaleInv] using ih
  | raises _ _ _ _ _ ih => simpa [ScaleInv] using ih
  | entry _ _ _ _ _ _ _ ih => simpa [ScaleInv, entryRecorded] using ih
  | _ => assumption

/-- R105: the marker is set at the first pulse of the dose alone. -/
theorem Does.acid_unset (h : Does A s t) (hA : .acid ∉ A) (h0 : s.steam.acid = false) : t.steam.acid = false := by
  induction h with
  | refl => exact h0
  | steam _ h1 ih => exact h1.acid.trans ih
  | timers _ _ hx ih => rw [hx]; exact ih
  | count _ _ hx _ ih => rw [hx]; exact ih
  | finish _ _ _ _ hx => rw [hx]; rfl
  | acid _ h1 => exact absurd h1 hA
  | lowers _ _ ih => simpa using ih
  | raises _ _ _ _ _ ih => simpa using ih
  | entry _ _ _ _ _ _ _ ih => simpa [entryRecorded] using ih
  | _ => assumption

/-- R109: the marker is cleared at the end of the third rinse drain alone. -/
theorem Does.acid_cleared (h : Does A s t) (h0 : s.steam.acid = true) :
    t.steam.acid = true ∨ .finish ∈ A ∧ ∃ u, Does A s u ∧ ThirdRinseDrains u := by
  induction h with
  | refl => exact .inl h0
  | steam _ h1 ih => exact ih.imp_left fun h => h1.acid.trans h
  | timers _ _ hx ih => rw [hx]; exact ih
  | count _ _ hx _ ih => rw [hx]; exact ih
  | finish hu h1 h2 => exact .inr ⟨h1, _, hu, h2⟩
  | acid => exact .inl rfl
  | lowers _ _ ih => simpa using ih
  | raises _ _ _ _ _ ih => simpa using ih
  | entry _ _ _ _ _ _ _ ih => simpa [entryRecorded] using ih
  | _ => assumption

/-- R100, R109: S falls at the end of the third rinse drain alone, with the soak mark; it is then 0 where no pulse counts. -/
theorem Does.scale_falls (h : Does A s t) (h0 : ScaleInv s) :
    s.steam.scale ≤ t.steam.scale ∨ .finish ∈ A ∧ (∃ u, Does A s u ∧ ThirdRinseDrains u ∧ u.descale.soakMark = true)
      ∧ (.count ∉ A → .acid ∉ A → t.steam.scale = 0 ∧ t.steam.sub = 0 ∧ t.steam.acid = false) := by
  induction h with
  | refl => exact .inl le_rfl
  | steam _ h1 ih =>
    obtain ⟨hs, hb⟩ := h1.scale
    simpa only [State.setSteam_steam, hs, hb, h1.acid] using ih
  | timers _ _ hx ih => rw [hx]; exact ih
  | count ht hc hx h1 ih =>
    obtain ih | ⟨hf, hu, -⟩ := ih
    · exact .inl (ih.trans (h1 (ht.scaleInv h0)).2)
    · exact .inr ⟨hf, hu, fun hn => absurd hc hn⟩
  | acid _ h1 ih => exact ih.imp_right fun ⟨hf, hu, _⟩ => ⟨hf, hu, fun _ hn => absurd h1 hn⟩
  | finish hu hf h3 _ hx hv _ ih =>
    obtain ⟨he, hb⟩ | ⟨hm, he, hb⟩ := hv
    · refine ih.imp (fun h => by rwa [State.setSteam_steam, he]) fun ⟨h1, h2, h3⟩ => ⟨h1, h2, fun hc ha => ?_⟩
      obtain ⟨h4, h5, -⟩ := h3 hc ha
      exact ⟨he.trans h4, hb.trans h5, by rw [hx]; rfl⟩
    · exact .inr ⟨hf, ⟨_, hu, h3, hm⟩, fun _ _ => ⟨he, hb, by rw [hx]; rfl⟩⟩
  | lowers _ _ ih => simpa using ih
  | raises _ _ _ _ _ ih => simpa using ih
  | entry _ _ _ _ _ _ _ ih => simpa [entryRecorded] using ih
  | _ => assumption

/-- Where no one is lent the generator and no rinse drain is entered, a third rinse drain was in progress before. -/
theorem Does.thirdRinse (h : Does A s t) (hL : .lend ∉ A) (hR : .rinse ∉ A) :
    ThirdRinseDrains t → ThirdRinseDrains s ∧ (t.descale.soakMark = true → s.descale.soakMark = true) := by
  induction h with
  | refl => exact fun h0 => ⟨h0, id⟩
  | steam _ h1 ih => exact fun ⟨hg, hp, hr⟩ => ih ⟨h1.lent hg, hp, hr⟩
  | timers _ _ hx ih => rw [hx]; exact ih
  | count _ _ hx _ ih => rw [hx]; exact ih
  | finish _ _ _ _ hx _ _ ih => rw [hx]; exact ih
  | lend _ h1 => exact absurd h1 hL
  | rinse _ h1 => exact absurd h1 hR
  | descale _ h1 ih =>
    rintro ⟨hg, hp, hr⟩
    obtain ⟨hp', hr', hm⟩ := h1 hp hr
    obtain ⟨h2, h3⟩ := ih ⟨hg, hp', hr'⟩
    exact ⟨h2, fun h => h3 (hm h)⟩
  | reinit => exact fun ⟨hg, _⟩ => by simp [blocksRestarted, steamRestarted, Steam.reset] at hg
  | lowers _ _ ih => simpa [ThirdRinseDrains] using ih
  | raises _ _ _ _ _ ih => simpa [ThirdRinseDrains] using ih
  | entry _ _ _ _ _ _ _ ih => simpa [ThirdRinseDrains, entryRecorded] using ih
  | _ => assumption

theorem acid_licence {c : Instr} (h : .acid ∈ licences s c) : c = .flowPulse ∧ s.descale.phase = .dose := by
  unfold licences at h
  split at h <;> simp_all <;> split at h <;> simp_all

theorem finish_licence {c : Instr} (h : .finish ∈ licences s c) : c = .drainDryTimeEnd := by
  unfold licences at h
  split at h <;> simp_all <;> split at h <;> simp_all

/-- Settles O14: the marker and S move along the chain with a licence alone; the licence to end the third rinse drain is
that of one command, and of an idle step in which a drain is in progress. -/
theorem acidAndScaleFallOnlyAtTheEnd : Obligations.AcidAndScaleFallOnlyAtTheEnd := by
  unfold Obligations.AcidAndScaleFallOnlyAtTheEnd
  refine ⟨fun c s t h0 h hp => ?_, fun s t h0 hn h => ?_, fun s t h0 h => ?_⟩
  · have hd := does_exec hp h
    have hdrain : ∀ u, .finish ∈ (.reinit :: .close :: licences s c) →
        Does (.reinit :: .close :: licences s c) s u → ThirdRinseDrains u →
        c = .drainDryTimeEnd ∧ ThirdRinseDrains s ∧ (u.descale.soakMark = true → s.descale.soakMark = true) := by
      intro u hf hu h3
      obtain rfl := finish_licence (s := s) (c := c) (by simpa using hf)
      exact ⟨rfl, hu.thirdRinse (by simp [licences]) (by simp [licences]) h3⟩
    refine ⟨fun hs ht => ?_, fun hs ht => ?_, fun hlt => ?_⟩
    · by_contra hn
      have := hd.acid_unset (fun hm => hn (acid_licence (by simpa using hm))) hs
      simp [ht] at this
    · obtain ha | ⟨hf, u, hu, h3⟩ := hd.acid_cleared hs
      · simp [ht] at ha
      · obtain ⟨hc, ⟨hg, hph, hr⟩, -⟩ := hdrain u hf hu h3
        exact ⟨hc, hg, hph, hr⟩
    · obtain hle | ⟨hf, ⟨u, hu, h3, hm⟩, hz⟩ := hd.scale_falls h0
      · omega
      · obtain ⟨rfl, ⟨hg, hph, hr⟩, hsm⟩ := hdrain u hf hu h3
        exact ⟨rfl, hg, hph, hr, hsm hm, hz (by simp [licences]) (by simp [licences])⟩
  · obtain ⟨-, ht⟩ | ⟨c, rest, hp, -⟩ := step_cases h
    case inr => simp [hp] at hn
    have hd := does_idle s
    rw [← ht] at hd
    have hadv : ScaleInv (advanceAll s) := (does_advanceAll (A := [.time]) (by simp) s).scaleInv h0
    have hdrain : ∀ u, .finish ∈ idleLicences s → Does (idleLicences s) (advanceAll s) u → ThirdRinseDrains u →
        ThirdRinseDrains s ∧ (u.descale.soakMark = true → s.descale.soakMark = true) ∧ s.steam.drain.isSome = true := by
      intro u hf hu h3
      obtain ⟨h1, h2⟩ := hu.thirdRinse (by simp [idleLicences]) (by simp [idleLicences]) h3
      exact ⟨h1, h2, by simpa [idleLicences] using hf⟩
    refine ⟨fun hs => hd.acid_unset (by simp [idleLicences]) hs, fun hs ht => ?_, fun hlt => ?_⟩
    · obtain ha | ⟨hf, u, hu, h3⟩ := hd.acid_cleared hs
      · simp [ht] at ha
      · obtain ⟨⟨hg, hph, hr⟩, -, hdr⟩ := hdrain u hf hu h3
        exact ⟨hg, hph, hr, hdr⟩
    · obtain hle | ⟨hf, ⟨u, hu, h3, hm⟩, -⟩ := hd.scale_falls hadv
      · have : (advanceAll s).steam.scale = s.steam.scale := rfl
        omega
      · obtain ⟨⟨hg, hph, hr⟩, hsm, -⟩ := hdrain u hf hu h3
        exact ⟨hg, hph, hr, hsm hm⟩
  · refine step_keeps (I := ScaleInv) (fun h h0 => h.scaleInv h0) (fun _ _ h0 => ?_) id h0 h
    obtain ⟨-, -, h3, h4, -⟩ := h0
    refine ⟨?_, ?_, ?_, ?_, ?_⟩ <;> simp [powerOn, steamAtPowerOn, Steam.reset, h3, h4]

end Sys2Proof.Machine

/-!
The relay closes at the freeze, at the re-initialisation and at a RELAY_RESTORE alone (R150, R154), with no fault held.
-/
namespace Sys2Proof.Machine

variable {A : List Licence} {s t : State}

/-! ### What stands without a licence -/

theorem Does.relay_open (h : Does A s t) (hC : .close ∉ A) (hR : .restore ∉ A) (h0 : s.superv.relayClosed = false) :
    t.superv.relayClosed = false := by
  induction h with
  | refl => exact h0
  | @superv t x _ h1 ih =>
    rw [State.setSuperv_superv]
    by_contra hn
    have := h1.closed (by simpa using hn)
    simp [ih] at this
  | close _ h1 => exact absurd h1 hC
  | restore _ h1 => exact absurd h1 hR
  | lowers _ _ ih => simpa using ih
  | raises _ _ _ _ _ ih => simpa using ih
  | entry _ _ _ _ _ _ _ ih => simpa [entryRecorded] using ih
  | _ => assumption

/-- R150, R153: a relay that closes along a chain finds no fault held. -/
theorem Does.relayClean (h : Does A s t) (hf : FaultInv s) (h0 : RelayClean s.superv) : RelayClean t.superv := by
  induction h with
  | refl => exact h0
  | superv _ h1 ih => exact h1.clean ih
  | close ht _ h1 h2 =>
    refine fun _ => ⟨h1, h2, ?_⟩
    by_contra hn
    have := ht.faultInv hf (by simpa using hn)
    simp [h1] at this
  | restore _ _ h1 h2 => exact fun _ => ⟨rfl, h1, h2⟩
  | lowers _ _ ih => simpa [RelayClean] using ih
  | raises _ _ _ _ _ ih => simpa [RelayClean] using ih
  | entry _ _ _ _ _ _ _ ih => simpa [RelayClean, entryRecorded] using ih
  | _ => assumption

/-- R159: a restart begins by RESTART alone. -/
theorem Does.restarting_off (h : Does A s t) (hR : .restart ∉ A) (h0 : s.startup.restarting = false) :
    t.startup.restarting = false := by
  induction h with
  | refl => exact h0
  | startup _ h1 ih => rw [h1]; exact ih
  | restart _ h1 => exact absurd h1 hR
  | reinit => rfl
  | lowers _ _ ih => simpa using ih
  | raises _ _ _ _ _ ih => simpa using ih
  | entry _ _ _ _ _ _ _ ih => simpa [entryRecorded] using ih
  | _ => assumption

theorem Does.not_frozen_before (h : Does A s t) (ht : t.startup.setup = .opened) : frozen s = false := by
  by_contra hn
  have := (h.configStands (by simpa using hn)).frozen
  simp [frozen, ht] at this

/-! ### The re-initialisation -/

/-- R160: it comes, or nothing does. -/
theorem reInitIfDue_cases (s : State) :
    reInitIfDue s = s
      ∨ (s.startup.restarting = true ∧ sendingFrame s = none ∧ reInitIfDue s = reInitialise s) := by
  unfold reInitIfDue reInitialisation
  split
  · split
    next h => exact .inr ⟨h.1, h.2, rfl⟩
    · exact .inl rfl
  · exact .inl rfl

@[simp] theorem reInitialise_restarting (s : State) : (reInitialise s).startup.restarting = false := by
  simp [reInitialise]

/-- A relay that is closed where a re-initialisation may have come was closed before, or the restart has ended. -/
theorem relay_of_reInitIfDue (h : (reInitIfDue s).superv.relayClosed = true) (h0 : s.superv.relayClosed = false) :
    s.startup.restarting = true ∧ (reInitIfDue s).startup.restarting = false := by
  obtain he | ⟨hr, -, he⟩ := reInitIfDue_cases s
  · rw [he, h0] at h
    exact absurd h (by decide)
  · exact ⟨hr, by rw [he, reInitialise_restarting]⟩

/-- R160, R66: a received frame that takes the line from an own one can bring the re-initialisation. -/
theorem relay_of_found {c : Instr} (h : (found c s).superv.relayClosed = true) (h0 : s.superv.relayClosed = false) :
    s.startup.restarting = true ∧ receivesFrame c = true ∧ (sendingFrame s).isSome = true
      ∧ (found c s).startup.restarting = false := by
  unfold found at h ⊢
  split at h
  case isFalse => simp [h0] at h
  next hc =>
    rw [if_pos hc]
    unfold openingSeen at h ⊢
    split at h
    · simp [h0] at h
    next hu =>
      rw [if_neg hu]
      unfold beginReceive at h ⊢
      split at h
      next hs =>
        rw [if_pos hs]
        have h1 : Does [] s (arbitrationLost s) := Does.refl.arbitrationLost
        obtain ⟨hr, hr'⟩ := relay_of_reInitIfDue h (h1.relay_open (by simp) (by simp) h0)
        refine ⟨?_, hc, hs, hr'⟩
        by_contra hn
        exact absurd ((h1.restarting_off (by simp) (Bool.eq_false_of_not_eq_true hn)).symm.trans hr) (by decide)
      · simp [h0] at h

/-! ### Commands of the partner panel -/

/-- R155: a command is refused or not seen, or its owner judges it in a state that the frame was received in. -/
theorem takeCommand_cases (k : CmdKind) (owner : State → State) (s : State) :
    Does [.lowerTo] (openingSeen s) (takeCommand k owner s)
      ∨ ∃ u, Does [.lowerTo] (openingSeen s) u ∧ takeCommand k owner s = settle (markClosed (owner u)) := by
  unfold takeCommand
  split
  next hu =>
    left
    unfold openingSeen
    rw [if_pos hu]
    exact .refl
  next hu =>
    have h1 : Does [.lowerTo] (openingSeen s) (takeFrame s.startup.partner false (beginReceive s)) := by
      unfold openingSeen
      rw [if_neg hu]
      exact Does.refl.takeFrame (by simp)
    unfold closeFrame judgeCommand
    split
    · exact .inl h1.respond.markClosed.settle
    split
    · exact .inl h1.respond.markClosed.settle
    · exact .inr ⟨_, h1, rfl⟩

theorem takeSized_cases (ok : Bool) (k : CmdKind) (owner : State → State) (s : State) :
    Does [.lowerTo] (openingSeen s) (takeSized ok k owner s)
      ∨ ∃ u, Does [.lowerTo] (openingSeen s) u ∧ takeSized ok k owner s = settle (markClosed (owner u)) := by
  unfold takeSized
  split
  · exact takeCommand_cases k owner s
  · exact .inl ((does_malformedFrame [] _ s).mono (by simp))

/-- R167: a SETUP that closes the relay found the window open and leaves the configuration frozen. -/
theorem relay_of_setup {sec : Byte} {fields : List Byte} {u : State}
    (h : (setupCommand sec fields u).superv.relayClosed = true) (h0 : u.superv.relayClosed = false) :
    u.startup.setup = .opened ∧ frozen (setupCommand sec fields u) = true := by
  unfold setupCommand at h ⊢
  split at h
  · simp [h0] at h
  next hs =>
    refine ⟨hs, ?_⟩
    unfold setupSection at h ⊢
    split at h
    · have : Does [] u (setupSupply fields u) := Does.refl.setupSupply
      exact absurd ((this.relay_open (by simp) (by simp) h0).symm.trans h) (by decide)
    next hz =>
      rw [if_neg hz]
      split at h
      next he =>
        rw [if_pos he]
        unfold setupEnd at h ⊢
        split at h
        next hf => rw [if_pos hf]; simp [frozen, frozenStartup]
        · simp [h0] at h
      · split at h <;> simp [h0] at h
  · simp [h0] at h

/-- R159: a RESTART opens the relay, and its re-initialisation alone closes it. -/
theorem relay_of_restart {u : State} (h : (restartCommand u).superv.relayClosed = true)
    (h0 : u.superv.relayClosed = true → u.startup.restarting = false) :
    (restartCommand u).startup.restarting = false := by
  unfold restartCommand at h ⊢
  split
  next hf =>
    rw [if_pos hf] at h
    refine (relay_of_reInitIfDue h ?_).2
    simp [takeRestart, commandRelay]
  next hf =>
    rw [if_neg hf] at h
    simp only [respond_frame] at h ⊢
    exact h0 h

theorem restart_licence {c : Instr} (hc : c ≠ .restart) : .restart ∉ licences s c := by
  intro h
  unfold licences at h
  split at h <;> simp_all <;> split at h <;> simp_all

theorem close_licence {c : Instr} (hw : c.wellFormed = true) (h : .close ∈ licences s c) :
    (∃ fields, c = .setupEnd fields) ∨ c = .setupWindowExpiry ∨ c = .restart ∨ c = .reInitialisation := by
  unfold licences at h
  split at h <;> simp_all
  next sec fields =>
    split at h
    next he =>
      have : sec = 255 := BitVec.eq_of_toNat_eq (by simpa using he)
      simp [Instr.wellFormed, this] at hw
    · simp at h
  next => split at h <;> simp at h

/-- R160: the commands behind which a re-initialisation may come close no relay themselves. -/
theorem relay_of_bringsRestart {c : Instr} (hb : bringsRestart c = true) (h : exec c s = .next t)
    (h0 : s.superv.relayClosed = false) (ht : t.superv.relayClosed = true) :
    s.startup.restarting = true ∧ t.startup.restarting = false := by
  have hp : ∀ a b, c ≠ .powerOn a b := by rintro a b rfl; simp [bringsRestart] at hb
  have hA : ∀ l ∈ [Licence.close, .restore, .restart], l ∉ licences s c := by
    cases c <;> simp [bringsRestart] at hb <;> simp [licences]
  have hd := does_worked c s hp
  have hf : found c s = s := by cases c <;> simp [bringsRestart] at hb <;> rfl
  rw [hf] at hd
  rw [exec_eq_worked, if_pos hb] at h
  obtain rfl := Host.Outcome.next.inj h
  obtain ⟨hr, hr'⟩ := relay_of_reInitIfDue ht (hd.relay_open (hA _ (by simp)) (hA _ (by simp)) h0)
  refine ⟨?_, hr'⟩
  by_contra hn
  have := hd.restarting_off (hA _ (by simp)) (by simpa using hn)
  simp [hr] at this

/-- Behind its opening mark a command closes the relay by the licence it has. -/
theorem relay_of_worked {c : Instr} (hp : ∀ a b, c ≠ .powerOn a b) (hw : c.wellFormed = true)
    (h0 : (found c s).superv.relayClosed = false) (ht : (worked c s).superv.relayClosed = true) :
    (∃ fields, c = .setupEnd fields) ∨ c = .setupWindowExpiry ∨ c = .restart ∨ c = .reInitialisation
      ∨ c = .relayRestore := by
  by_cases hR : .restore ∈ licences s c
  · simp [restore_licence hR]
  · by_cases hC : .close ∈ licences s c
    · obtain h | h | h | h := close_licence hw hC <;> simp [h]
    · simp [(does_worked c s hp).relay_open hC hR h0] at ht

theorem relay_of_exec {c : Instr} (hw : c.wellFormed = true) (h : exec c s = .next t)
    (h0 : s.superv.relayClosed = false) (ht : t.superv.relayClosed = true) :
    (frozen s = false ∧ frozen t = true ∧ ((∃ fields, c = .setupEnd fields) ∨ c = .setupWindowExpiry))
      ∨ (t.startup.restarting = false
          ∧ (c = .restart ∨ (s.startup.restarting = true
              ∧ ((∃ vetoed, c = .ownFrameComplete vetoed) ∨ c ∈ [.reInitialisation, .arbitrationLost, .driveFault, .clash,
                  .closingMarkBroken]
                ∨ (receivesFrame c = true ∧ (sendingFrame s).isSome = true)))))
      ∨ c = .relayRestore := by
  obtain ⟨a, b, -, rfl⟩ | ⟨hp, -⟩ := exec_cases h
  · simp [powerOn, Superv.reset] at ht
  by_cases hb : bringsRestart c = true
  · obtain ⟨hr, hr'⟩ := relay_of_bringsRestart hb h h0 ht
    refine .inr (.inl ⟨hr', .inr ⟨hr, ?_⟩⟩)
    cases c <;> simp [bringsRestart] at hb <;> simp
  have ht' : t = worked c s := by
    rw [exec_eq_worked, if_neg hb] at h
    exact (Host.Outcome.next.inj h).symm
  have hfrozen : ∀ u, Does [.lowerTo] (found c s) u → u.startup.setup = .opened → frozen s = false := fun u hu hs =>
    Does.not_frozen_before (A := [.reinit, .close, .lowerTo])
      (((does_found c s).mono (by simp)).trans (hu.mono (by simp))) hs
  by_cases hc : c = .restart
  · subst hc
    refine .inr (.inl ⟨?_, .inl rfl⟩)
    have hfound : (found .restart s).superv.relayClosed = true → (found .restart s).startup.restarting = false :=
      fun hx => (relay_of_found hx h0).2.2.2
    subst ht'
    change (takeCommand .restart restartCommand s).superv.relayClosed = true at ht
    change (takeCommand .restart restartCommand s).startup.restarting = false
    have hkeep : ∀ x, Does [.lowerTo] (openingSeen s) x → x.superv.relayClosed = true → x.startup.restarting = false := by
      intro x hx hxc
      refine hx.restarting_off (by simp) (hfound ?_)
      by_contra hn
      exact absurd ((hx.relay_open (by simp) (by simp) (Bool.eq_false_of_not_eq_true hn)).symm.trans hxc) (by decide)
    obtain hd | ⟨u, hu, he⟩ := takeCommand_cases .restart restartCommand s
    · exact hkeep _ hd ht
    · rw [he] at ht ⊢
      simp only [settle_frame, markClosed_frame] at ht ⊢
      exact relay_of_restart ht (hkeep u hu)
  by_cases hfc : (found c s).superv.relayClosed = true
  · obtain ⟨hr, hrec, hsend, hr'⟩ := relay_of_found hfc h0
    by_cases hc' : c = .relayRestore
    · exact .inr (.inr hc')
    refine .inr (.inl ⟨?_, .inr ⟨hr, .inr (.inr ⟨hrec, hsend⟩)⟩⟩)
    rw [ht']
    exact (does_worked c s hp).restarting_off (restart_licence hc) hr'
  obtain ⟨fields, rfl⟩ | rfl | rfl | rfl | rfl := relay_of_worked hp hw (by simpa using hfc) (ht' ▸ ht)
  · left
    subst ht'
    change (takeSized (setupLengthOk fields) .setup (setupCommand 255 fields) s).superv.relayClosed = true at ht
    change _ ∧ frozen (takeSized (setupLengthOk fields) .setup (setupCommand 255 fields) s) = true ∧ _
    have hopen : (openingSeen s).superv.relayClosed = false := Bool.eq_false_of_not_eq_true hfc
    obtain hd | ⟨u, hu, he⟩ := takeSized_cases (setupLengthOk fields) .setup (setupCommand 255 fields) s
    · exact absurd ((hd.relay_open (by simp) (by simp) hopen).symm.trans ht) (by decide)
    · rw [he] at ht ⊢
      simp only [settle_frame, markClosed_frame, frozen] at ht ⊢
      obtain ⟨hs, hf⟩ := relay_of_setup ht (hu.relay_open (by simp) (by simp) hopen)
      exact ⟨hfrozen u hu hs, hf, .inl ⟨fields, rfl⟩⟩
  · left
    subst ht'
    change (setupWindowExpiry s).superv.relayClosed = true at ht
    change _ ∧ frozen (setupWindowExpiry s) = true ∧ _
    unfold setupWindowExpiry at ht ⊢
    split at ht
    next hs =>
      rw [if_pos hs]
      exact ⟨by simp [frozen, hs], by simp [frozen, frozenStartup], .inr rfl⟩
    · simp [h0] at ht
  · exact absurd rfl hc
  · right; left
    subst ht'
    change (reInitialisation s).superv.relayClosed = true at ht
    change (reInitialisation s).startup.restarting = false ∧ _
    unfold reInitialisation at ht ⊢
    split at ht
    next hr =>
      rw [if_pos hr]
      exact ⟨reInitialise_restarting s, .inr ⟨hr.1, by simp⟩⟩
    · simp [h0] at ht
  · exact .inr (.inr rfl)

/-! ### An idle step -/

/-- Behind the start-up rows an idle step closes no relay. -/
theorem does_behindStart (s : State) : Does [.lowerTo, .finish] (fireStart (advanceAll s)) (tick s) :=
  (Does.fireSteam ((Does.refl.fireDoor.firePower).fireShare (by simp)) fun _ _ _ _ _ => by simp).fireChannels
    |>.fireRelay.fireDescale.fireRecipe.frameBegin

/-- In time alone the relay closes as the window expires or a restart ends. -/
theorem relay_of_tick (h0 : s.superv.relayClosed = false) (ht : (tick s).superv.relayClosed = true) :
    (frozen s = false ∧ frozen (tick s) = true)
      ∨ (s.startup.restarting = true ∧ (tick s).startup.restarting = false) := by
  have hd := does_behindStart s
  let v := fire (fun s => decide (10000 ≤ s.startup.windowMs)) setupWindowExpiry (advanceAll s)
  have hclimate : Does [] (reInitIfDue v) (fireStart (advanceAll s)) := Does.refl.fire fun _ => Does.refl.climateSample
  have hd' : Does [.lowerTo, .finish] (reInitIfDue v) (tick s) := (hclimate.mono (by simp)).trans hd
  have hw : (reInitIfDue v).superv.relayClosed = true := by
    by_contra hn
    exact absurd ((hd'.relay_open (by simp) (by simp) (Bool.eq_false_of_not_eq_true hn)).symm.trans ht) (by decide)
  have hadv : (advanceAll s).superv.relayClosed = false := h0
  have hv : v = advanceAll s ∨ ((advanceAll s).startup.setup = .opened ∧ v = freeze (advanceAll s)) := by
    simp only [v, fire, setupWindowExpiry]
    split
    · split
      next h => exact .inr ⟨h, rfl⟩
      · exact .inl rfl
    · exact .inl rfl
  obtain hv | ⟨hs, hv⟩ := hv
  · obtain ⟨hr, hr'⟩ := relay_of_reInitIfDue hw (hv ▸ hadv)
    rw [hv] at hr
    exact .inr ⟨hr, hd'.restarting_off (by simp) hr'⟩
  · have hfz : frozen v = true := by simp [hv, frozen, frozenStartup]
    have hv' : Does [.reinit, .close] v (reInitIfDue v) := Does.refl.reInitIfDue (by simp) (by simp)
    refine .inl ⟨?_, (hd'.configStands (hv'.configStands hfz).frozen).frozen⟩
    have : s.startup.setup = .opened := hs
    simp [frozen, this]

/-- Settles O11: the relay closes with a licence alone, and the chain that closes it finds no fault held. -/
theorem relayClosesOnlyWhereAllowed : Obligations.RelayClosesOnlyWhereAllowed := by
  unfold Obligations.RelayClosesOnlyWhereAllowed
  refine ⟨fun c s t hw hf h h0 ht => ?_, fun s t hf hn h h0 ht => ?_⟩
  · refine ⟨relay_of_exec hw h h0 ht, ?_⟩
    obtain ⟨a, b, -, rfl⟩ | ⟨-, hd⟩ := exec_cases h
    · simp [powerOn, Superv.reset] at ht
    · exact hd.relayClean hf (fun hc => absurd (h0.symm.trans hc) (by decide)) ht
  · obtain ⟨-, he⟩ | ⟨c, rest, hp, -⟩ := step_cases h
    · rw [he] at ht ⊢
      exact ⟨relay_of_tick h0 ht, (does_tick s).relayClean hf (fun hc => absurd (h0.symm.trans hc) (by decide)) ht⟩
    · simp [hp] at hn

end Sys2Proof.Machine

/-!
The four outputs of the generator are what the rules give after every step (R83, R86 to R88, R92, R95, R96): what moves
them settles them, and everything else leaves alone what they are read from.
-/
namespace Sys2Proof.Machine

/-- Everything that the four outputs are read from, and the outputs themselves, stand. -/
structure OutputsStand (s t : State) : Prop where
  restarting : t.startup.restarting = s.startup.restarting
  setup      : t.startup.setup = s.startup.setup
  supply     : t.startup.supply = s.startup.supply
  demand     : t.climate.steamDemand = s.climate.steamDemand
  boil       : t.superv.readings.boil.value = s.superv.readings.boil.value
  inlet      : t.share.holds.inlet = s.share.holds.inlet
  drain      : t.share.holds.drain = s.share.holds.drain
  trips      : t.share.tripSet = s.share.tripSet
  link       : t.share.link = .isolated ↔ s.share.link = .isolated
  steam      : t.steam = { s.steam with
    levelInputs := t.steam.levelInputs, levelMs := t.steam.levelMs, fill := t.steam.fill, drain := t.steam.drain
    coolMs := t.steam.coolMs, record := t.steam.record, writing := t.steam.writing, writeAgain := t.steam.writeAgain }
  fills      : t.steam.fill.isSome = s.steam.fill.isSome
  drains     : t.steam.drain.isSome = s.steam.drain.isSome

theorem SteamOutputs.stand {s t : State} (h : SteamOutputs s) (hs : OutputsStand s t) : SteamOutputs t := by
  obtain ⟨hr, hz, hv, hd, hb, hi, hdr, htr, hl, hst, hf, hdn⟩ := hs
  have hgen : t.steam.gen = s.steam.gen := by rw [hst]
  have hlv : t.steam.levels = s.steam.levels := by rw [hst]
  have hreq : t.steam.request = s.steam.request := by rw [hst]
  have hlock : t.steam.lock = s.steam.lock := by rw [hst]
  have hfr : t.steam.fillReq = s.steam.fillReq := by rw [hst]
  have hpr : t.steam.pumpReq = s.steam.pumpReq := by rw [hst]
  have hbd : t.steam.boilerDemand = s.steam.boilerDemand := by rw [hst]
  have hg : t.steam.gate = s.steam.gate := by rw [hst]
  have hsc : t.steam.scale = s.steam.scale := by rw [hst]
  have hac : t.steam.acid = s.steam.acid := by rw [hst]
  have hlevel : levelNow t = levelNow s := by simp [levelNow, hsc, hv]
  have hboil : reading t .boil = reading s .boil := by simp [reading, PerChannel.get, hb]
  have hfz : frozen t = frozen s := by simp [frozen, hz]
  have hserved : servedInReady t = servedInReady s := by simp [servedInReady, hlevel, hac, hlock, hd]
  have hcalled : boilerCalled t = boilerCalled s := by
    unfold boilerCalled readingAtLeast
    rw [hgen, hreq, hserved, hboil, hlv]
  simp only [SteamOutputs, boilerLimited, hr, hfz, hlock, hboil, hlevel, hcalled, hserved, hgen, hg, hbd, hfr, hpr, hf,
    hdn, hi, hdr, htr, hl, hlv, ne_eq] at h ⊢
  exact h

/-! ### What settles the outputs, and what leaves them -/

section
variable {s : State}

theorem SteamOutputs.notice {code : NoticeCode} {detail : Nat} (h : SteamOutputs s) : SteamOutputs (notice code detail s) :=
  h.stand (by constructor <;> simp)

theorem SteamOutputs.evalWater {p : Pool} (h : SteamOutputs s) : SteamOutputs (evalWater p s) :=
  h.stand (by constructor <;> simp)

theorem SteamOutputs.queueStatus (h : SteamOutputs s) : SteamOutputs (queueStatus s) :=
  h.stand (by constructor <;> simp)

theorem SteamOutputs.voidRaises (h : SteamOutputs s) : SteamOutputs (voidRaises s) :=
  h.stand (by constructor <;> simp)

theorem SteamOutputs.breakOff {st : LineState} {b : Bool} (h : SteamOutputs s) : SteamOutputs (breakOff st b s) :=
  h.stand (by constructor <;> simp)

theorem SteamOutputs.markClosed (h : SteamOutputs s) : SteamOutputs (markClosed s) :=
  h.stand (by constructor <;> simp)

theorem SteamOutputs.arbitrationLost (h : SteamOutputs s) : SteamOutputs (arbitrationLost s) :=
  h.stand (by constructor <;> simp)

theorem SteamOutputs.frameBegin (h : SteamOutputs s) : SteamOutputs (frameBegin s) :=
  h.stand (by constructor <;> simp)

theorem SteamOutputs.choice {c : Prop} [Decidable c] {u v : State} (hu : c → SteamOutputs u) (hv : SteamOutputs v) :
    SteamOutputs (if c then u else v) := by
  split
  next hc => exact hu hc
  · exact hv

/-- R166: before the power-on commands and at power-on every output is off. -/
theorem powerOn_steamOutputs (a b : Nat) (s : State) : SteamOutputs (powerOn a b s) := by
  have : frozen (powerOn a b s) = false := by
    simp only [frozen, powerOn, strapped]
    split <;> rfl
  simp [SteamOutputs, boilerLimited, this]
  simp [powerOn, steamAtPowerOn, Steam.reset]

theorem SteamOutputs.takeFrameOf {k : CmdKind} {owner : State → State} (h : SteamOutputs s) :
    SteamOutputs (takeCommand k owner s) :=
  .choice (fun _ => h) (settle_steamOutputs _)

theorem SteamOutputs.reInitIfDue (h : SteamOutputs s) : SteamOutputs (reInitIfDue s) := by
  obtain he | ⟨-, -, he⟩ := reInitIfDue_cases s <;> rw [he]
  · exact h
  · exact settle_steamOutputs _

theorem SteamOutputs.beginReceive (h : SteamOutputs s) : SteamOutputs (beginReceive s) :=
  .choice (fun _ => h.arbitrationLost.reInitIfDue) (.voidRaises (h.stand (by constructor <;> simp)))

theorem SteamOutputs.judgeMalformed {g : MalformGround} (h : SteamOutputs s) : SteamOutputs (judgeMalformed g s) := by
  cases g <;> exact h.stand (by constructor <;> simp [Machine.judgeMalformed])

theorem SteamOutputs.malformedFrame {g : MalformGround} (h : SteamOutputs s) : SteamOutputs (malformedFrame g s) :=
  .choice (fun _ => h) h.beginReceive.judgeMalformed

theorem SteamOutputs.takeSized {ok : Bool} {k : CmdKind} {owner : State → State} (h : SteamOutputs s) :
    SteamOutputs (takeSized ok k owner s) :=
  .choice (fun _ => h.takeFrameOf) h.malformedFrame

theorem SteamOutputs.receiveFrame {n : Nat} {c : FrameContent} {v : Bool} (h : SteamOutputs s) :
    SteamOutputs (receiveFrame n c v s) :=
  .choice (fun _ => h) (.choice (fun _ => h.malformedFrame) (settle_steamOutputs _))

theorem SteamOutputs.zeroCrossing {i v : Nat} (h : SteamOutputs s) : SteamOutputs (zeroCrossing i v s) := by
  unfold Machine.zeroCrossing
  dsimp only
  split
  · split
    · exact h.stand (by constructor <;> simp)
    · exact settle_steamOutputs _
  · split
    · exact settle_steamOutputs _
    · exact h.stand (by constructor <;> simp)

/-! #### The rows that settle no output -/

theorem SteamOutputs.doorCloses (h : SteamOutputs s) : SteamOutputs (doorCloses s) :=
  .choice (fun _ => h.stand (by constructor <;> simp)) h

theorem SteamOutputs.missedCrossing (h : SteamOutputs s) : SteamOutputs (missedCrossing s) := by
  unfold Machine.missedCrossing
  dsimp only
  split
  · refine .choice (fun _ => settle_steamOutputs _) ?_
    split <;> exact h.stand (by constructor <;> simp)
  · exact h

theorem SteamOutputs.doorInput {b : Bool} (h : SteamOutputs s) : SteamOutputs (doorInput b s) :=
  h.stand (by constructor <;> simp [Machine.doorInput])

theorem SteamOutputs.leakInput {b : Bool} (h : SteamOutputs s) : SteamOutputs (leakInput b s) :=
  h.stand (by constructor <;> simp [Machine.leakInput])

theorem SteamOutputs.yieldBackoffEnd (h : SteamOutputs s) : SteamOutputs (yieldBackoffEnd s) :=
  h.stand (by constructor <;> simp [Machine.yieldBackoffEnd])

theorem SteamOutputs.relayFeedback {b : Bool} (h : SteamOutputs s) : SteamOutputs (relayFeedback b s) :=
  h.stand (by constructor <;> simp [Machine.relayFeedback])

theorem SteamOutputs.levelInput {e : Electrode} {b : Bool} (h : SteamOutputs s) : SteamOutputs (levelInput e b s) :=
  h.stand (by constructor <;> simp [Machine.levelInput])

theorem SteamOutputs.lineIdle (h : SteamOutputs s) : SteamOutputs (lineIdle s) :=
  .choice (fun _ => h.stand (by constructor <;> simp)) h

theorem SteamOutputs.lineIdleAfterBreak (h : SteamOutputs s) : SteamOutputs (lineIdleAfterBreak s) :=
  .choice (fun _ => h.stand (by constructor <;> simp)) h

theorem SteamOutputs.supplyStarved (h : SteamOutputs s) : SteamOutputs (supplyStarved s) :=
  .choice (fun _ => h.stand (by constructor <;> simp)) h

theorem SteamOutputs.waterRaiseRetry (h : SteamOutputs s) : SteamOutputs (waterRaiseRetry s) :=
  h.stand (by constructor <;> simp [Machine.waterRaiseRetry])

theorem SteamOutputs.evalFor {e : Entry} (h : SteamOutputs s) : SteamOutputs (evalFor e s) :=
  .choice (fun _ => h.evalWater.evalWater) h

theorem SteamOutputs.entryExpired {n : Nat} (h : SteamOutputs s) : SteamOutputs (entryExpired n s) := by
  unfold Machine.entryExpired
  split
  · exact h
  · exact .choice (fun _ => h) (.evalFor (h.stand (by constructor <;> simp)))

theorem SteamOutputs.entryRemoved {n : Nat} (h : SteamOutputs s) : SteamOutputs (entryRemoved n s) := by
  unfold Machine.entryRemoved
  split
  · exact h
  · exact .evalFor (h.stand (by constructor <;> simp))

theorem SteamOutputs.joinWindowEnd (h : SteamOutputs s) : SteamOutputs (joinWindowEnd s) :=
  .choice (fun hc => h.stand (by constructor <;> simp [hc.1])) h

theorem SteamOutputs.serviceRecordWritten (h : SteamOutputs s) : SteamOutputs (serviceRecordWritten s) := by
  unfold Machine.serviceRecordWritten
  split
  · exact h
  · exact h.stand (by constructor <;> simp)

theorem setSideRec_readings (v : Superv) (c : Channel) (r : SideRec) (d : Side) :
    (setSideRec v c r d).readings = v.readings := by cases d <;> rfl

theorem SteamOutputs.setSide {c : Channel} {r : SideRec} {d : Side} {k : PerChannel Nat} (h : SteamOutputs s) :
    SteamOutputs (s.setSuperv { setSideRec s.superv c r d with strikes := k }) :=
  h.stand (by constructor <;> simp [setSideRec_readings])

theorem SteamOutputs.startExcursion {c : Channel} {d : Side} (h : SteamOutputs s) :
    SteamOutputs (startExcursion c d s) := by
  unfold Machine.startExcursion
  dsimp only
  split
  · exact h.setSide.notice
  · exact .choice (fun _ => h.setSide.notice) (settle_steamOutputs _)
  · exact settle_steamOutputs _

theorem SteamOutputs.excursionStart {c : Channel} {d : Side} (h : SteamOutputs s) :
    SteamOutputs (excursionStart c d s) :=
  .choice (fun _ => .choice (fun _ => h.stand (by constructor <;> simp [setSideRec_readings])) h.startExcursion) h

theorem SteamOutputs.configCheck (h : SteamOutputs s) : SteamOutputs (configCheck s) :=
  .choice (fun _ => .choice (fun _ => h.stand (by constructor <;> simp)) (settle_steamOutputs _)) h

theorem SteamOutputs.waitNotice (h : SteamOutputs s) : SteamOutputs (waitNotice s) := by
  unfold Machine.waitNotice
  split
  · exact h
  · exact .choice (fun _ => h) (h.stand (by constructor <;> simp))

theorem SteamOutputs.loadTimeout (h : SteamOutputs s) : SteamOutputs (loadTimeout s) :=
  .choice (fun _ => h.stand (by constructor <;> simp)) h

theorem SteamOutputs.steamWithheld (h : SteamOutputs s) : SteamOutputs (steamWithheld s) :=
  .choice (fun _ => h.stand (by constructor <;> simp)) h

theorem SteamOutputs.frequencyTimeout (h : SteamOutputs s) : SteamOutputs (frequencyTimeout s) :=
  .choice (fun _ => h.stand (by constructor <;> simp)) h

theorem SteamOutputs.drainDryTimeEnd (h : SteamOutputs s) : SteamOutputs (drainDryTimeEnd s) :=
  .choice (fun _ => .choice (fun _ => settle_steamOutputs _) (settle_steamOutputs _)) h

theorem SteamOutputs.pumpTimeLimit (h : SteamOutputs s) : SteamOutputs (pumpTimeLimit s) :=
  .choice (fun _ => .choice (fun _ => settle_steamOutputs _) (settle_steamOutputs _)) h

theorem SteamOutputs.valveTimeLimit (h : SteamOutputs s) : SteamOutputs (valveTimeLimit s) := by
  unfold Machine.valveTimeLimit
  split
  · exact h
  · refine .choice (fun _ => h) ?_
    split
    · exact .choice (fun _ => h) (settle_steamOutputs _)
    · exact .choice (fun _ => h) (settle_steamOutputs _)
    · exact settle_steamOutputs _

theorem SteamOutputs.stageTimeEnd (h : SteamOutputs s) : SteamOutputs (stageTimeEnd s) := by
  unfold Machine.stageTimeEnd
  split
  · exact h
  · exact .choice (fun _ => settle_steamOutputs _) h

theorem SteamOutputs.promptTimeout (h : SteamOutputs s) : SteamOutputs (promptTimeout s) := by
  unfold Machine.promptTimeout
  split
  · exact h
  · exact .choice (fun _ => settle_steamOutputs _) h

theorem SteamOutputs.probeStateChange (h : SteamOutputs s) : SteamOutputs (probeStateChange s) :=
  .choice (fun _ => h) (.choice (fun _ => settle_steamOutputs _) (settle_steamOutputs _))

theorem SteamOutputs.flowPulse (h : SteamOutputs s) : SteamOutputs (flowPulse s) := by
  unfold Machine.flowPulse
  split
  · exact h
  · split <;> exact settle_steamOutputs _

theorem SteamOutputs.ownFrameComplete {v : Bool} (h : SteamOutputs s) : SteamOutputs (ownFrameComplete v s) := by
  unfold Machine.ownFrameComplete
  split
  · exact h
  · exact settle_steamOutputs _

/-- A row that settles the outputs where it acts at all. -/
theorem SteamOutputs.settled {c : Prop} [Decidable c] {u : State} (h : SteamOutputs s) :
    SteamOutputs (if c then settle u else s) := .choice (fun _ => settle_steamOutputs u) h

/-! ### Every command -/

theorem SteamOutputs.worked {c : Instr} (h : SteamOutputs s) : SteamOutputs (worked c s) := by
  cases c with
  | powerOn a b => exact powerOn_steamOutputs _ _ _
  | setupSupply | setupChannel | setupEnd | stage | runManual => exact h.takeSized
  | query | loadOpen | start | pause | resume | abort | answer | finishAck | descaleStart | descaleConfirm | relayRestore
  | restart => exact h.takeFrameOf
  | partnerVeto | raiseReceived | lowerReceived | yieldReceived | statusReceived | tripReceived | tripClearReceived
  | wellFormedFrameNotTaken | ownNumberFrame => exact h.receiveFrame
  | malformedFrame => exact h.malformedFrame
  | setupWindowExpiry | reInitialisation | climateSample | doorOpens | lineIsolated | lineLost | leakWet | leakDry
  | coolingTimerExpiry | clash | channelFailed | excursionEnd | relayOpenFault | relayWelded | prepTimeout | heatLimit
  | descaleLowWater | soakTimerEnd => exact h.settled
  | levelReadingChange => exact .choice (fun _ => h) (settle_steamOutputs _)
  | sensorReading => exact settle_steamOutputs _
  | doorInputChange => exact h.doorInput
  | lineIdle => exact h.lineIdle
  | lineIdleAfterBreak => exact h.lineIdleAfterBreak
  | relayFeedbackChange => exact h.relayFeedback
  | leakInputChange => exact h.leakInput
  | levelInputChange => exact h.levelInput
  | yieldBackoffEnd => exact h.yieldBackoffEnd
  | doorCloses => exact h.doorCloses
  | zeroCrossing => exact h.zeroCrossing
  | frequencyTimeout => exact h.frequencyTimeout
  | missedCrossing => exact h.missedCrossing
  | supplyStarved => exact h.supplyStarved
  | waterRaiseRetry => exact h.waterRaiseRetry
  | ownFrameComplete => exact h.ownFrameComplete
  | statusPeriod => exact .choice (fun _ => h.queueStatus) h
  | entryExpired => exact h.entryExpired
  | entryRemoved => exact h.entryRemoved
  | joinWindowEnd => exact h.joinWindowEnd
  | frameBegin => exact h.frameBegin
  | openingMarkSeen => exact .choice (fun _ => .voidRaises (h.stand (by constructor <;> simp))) h
  | arbitrationLost => exact h.arbitrationLost
  | driveFault | closingMarkBroken => exact .choice (fun _ => h.breakOff) h
  | flowPulse => exact h.flowPulse
  | valveTimeLimit => exact h.valveTimeLimit
  | drainDryTimeEnd => exact h.drainDryTimeEnd
  | pumpTimeLimit => exact h.pumpTimeLimit
  | serviceRecordWritten => exact h.serviceRecordWritten
  | excursionStart => exact h.excursionStart
  | configCheck => exact h.configCheck
  | waitingForPool => exact h.waitNotice
  | loadTimeout => exact h.loadTimeout
  | stageTimeEnd => exact h.stageTimeEnd
  | promptTimeout => exact h.promptTimeout
  | probeStateChange => exact h.probeStateChange
  | steamWithheld => exact h.steamWithheld

theorem SteamOutputs.exec {c : Instr} {t : State} (h : SteamOutputs s) (hc : exec c s = .next t) : SteamOutputs t := by
  rw [exec_eq_worked] at hc
  obtain rfl := Host.Outcome.next.inj hc
  exact .choice (fun _ => h.worked.reInitIfDue) h.worked

/-! ### The idle step -/

theorem SteamOutputs.advanceAll (h : SteamOutputs s) : SteamOutputs (advanceAll s) :=
  h.stand (by constructor <;> simp [Machine.advanceAll, advanceStartup, advanceClimate, advanceShare, advanceSteam,
    advanceSuperv, PerChannel.map, advanceReading])

theorem SteamOutputs.fire {due : State → Bool} {effect : State → State} (h : SteamOutputs s)
    (he : SteamOutputs (effect s)) : SteamOutputs (fire due effect s) := .choice (fun _ => he) h

theorem SteamOutputs.foldl {α : Type} {f : State → α → State} (hf : ∀ u a, SteamOutputs u → SteamOutputs (f u a))
    (l : List α) {s : State} (h : SteamOutputs s) : SteamOutputs (l.foldl f s) := by
  induction l generalizing s with
  | nil => exact h
  | cons a l ih => exact ih (hf s a h)

/-- An idle step takes a row by the effect that its command has. -/
theorem SteamOutputs.row {due : State → Bool} (c : Instr) (h : SteamOutputs s) :
    SteamOutputs (Machine.fire due (Machine.worked c) s) := h.fire h.worked

theorem SteamOutputs.fireStart (h : SteamOutputs s) : SteamOutputs (fireStart s) :=
  .row .climateSample (SteamOutputs.reInitIfDue (.row .setupWindowExpiry h))

theorem SteamOutputs.fireDoor (h : SteamOutputs s) : SteamOutputs (fireDoor s) :=
  .row .doorCloses (.row .doorOpens h)

theorem SteamOutputs.firePower (h : SteamOutputs s) : SteamOutputs (firePower s) :=
  .row .supplyStarved (.row .missedCrossing (.row .missedCrossing (.row .frequencyTimeout h)))

theorem SteamOutputs.fireEntries (h : SteamOutputs s) : SteamOutputs (fireEntries s) :=
  .foldl (fun _ _ hu => .choice (fun _ => hu.entryRemoved) (.choice (fun _ => hu.entryExpired) hu)) _ h

theorem SteamOutputs.fireLink (h : SteamOutputs s) : SteamOutputs (fireLink s) :=
  .row .yieldBackoffEnd (.row .joinWindowEnd (.row .lineLost (.row .lineIsolated h)))

theorem SteamOutputs.fireLeak (h : SteamOutputs s) : SteamOutputs (fireLeak s) := .row .leakDry (.row .leakWet h)

theorem SteamOutputs.fireShare (h : SteamOutputs s) : SteamOutputs (fireShare s) := by
  have h1 := h.row (due := fun s => decide (1000 ≤ s.share.retryMs)) .waterRaiseRetry
  have h2 := h1.row (due := fun s => decide (1000 ≤ s.share.statusMs)) .statusPeriod
  exact h2.fireEntries.fireLink.fireLeak

theorem SteamOutputs.fireLevel (e : Electrode) (h : SteamOutputs s) : SteamOutputs (fireLevel e s) :=
  .row (.levelReadingChange e) h

theorem SteamOutputs.fireSteam (h : SteamOutputs s) : SteamOutputs (fireSteam s) :=
  .row .pumpTimeLimit (.row .drainDryTimeEnd (.row .coolingTimerExpiry (.row .valveTimeLimit
    (.fireLevel _ (.fireLevel _ (.fireLevel _ h))))))

theorem SteamOutputs.fireSide (d : Side) (c : Channel) (h : SteamOutputs s) : SteamOutputs (fireSide d c s) :=
  .row (.excursionEnd c d) (.row (.excursionStart c d) h)

theorem SteamOutputs.fireChannels (h : SteamOutputs s) : SteamOutputs (fireChannels s) :=
  .fireSide _ _ (.foldl (fun _ _ hu => .fireSide _ _ (.fireSide _ _ hu)) _
    (.foldl (fun _ c hu => .row (.channelFailed c) hu) _ h))

theorem SteamOutputs.fireRelay (h : SteamOutputs s) : SteamOutputs (fireRelay s) :=
  .row .configCheck (.row .relayWelded (.row .relayOpenFault h))

theorem SteamOutputs.fireDescale (h : SteamOutputs s) : SteamOutputs (fireDescale s) :=
  .row .waitingForPool (.row .soakTimerEnd (.row .descaleLowWater (.row .heatLimit (.row .prepTimeout h))))

theorem SteamOutputs.fireRecipe (h : SteamOutputs s) : SteamOutputs (fireRecipe s) :=
  .row .steamWithheld (.row .probeStateChange (.row .promptTimeout (.row .stageTimeEnd (.row .loadTimeout h))))

theorem SteamOutputs.tick (h : SteamOutputs s) : SteamOutputs (tick s) :=
  h.advanceAll.fireStart.fireDoor.firePower.fireShare.fireSteam.fireChannels.fireRelay.fireDescale.fireRecipe.frameBegin

end

/-! ### What the outputs say -/

/-- R87, R96: the gate is open while a served demand stands alone. -/
theorem SteamOutputs.gate_open {s : State} (h : SteamOutputs s) (hg : s.steam.gate = true) :
    s.steam.gen = .ready ∧ withheldReason s = .none ∧ 0 < s.climate.steamDemand ∧ s.startup.restarting = false := by
  obtain ⟨hgate, -⟩ := h
  obtain ⟨hgen, hserved, hr⟩ := hgate.1 hg
  unfold servedInReady at hserved
  split at hserved
  · simp at hserved
  next hc =>
    simp only [not_or] at hc
    obtain ⟨ha, hb, hl⟩ := hc
    refine ⟨hgen, ?_, hserved, hr⟩
    simp [withheldReason, ha, hb, hl, hgen]

/-- R96: under the acid marker the gate is closed, and READY keeps the water hot at most. -/
theorem SteamOutputs.under_acid {s : State} (h : SteamOutputs s) (ha : s.steam.acid = true) :
    s.steam.gate = false ∧ (s.steam.gen = .ready → s.steam.boilerDemand ≤ 2) := by
  have hserved : servedInReady s = 0 := by simp [servedInReady, ha]
  obtain ⟨hgate, hdemand, -, -⟩ := h
  refine ⟨?_, fun hgen => ?_⟩
  · by_contra hn
    have := (hgate.1 (by simpa using hn)).2.1
    omega
  · have hcalled : boilerCalled s ≤ 2 := by
      simp only [boilerCalled, hgen, hserved]
      split <;> simp
    rw [hdemand]
    unfold boilerLimited
    (repeat' split) <;> omega

/-- Settles O15: every command and an idle step either settle the outputs or leave what they are read from. -/
theorem stepKeepsSteamOutputs : Obligations.StepKeepsSteamOutputs := by
  unfold Obligations.StepKeepsSteamOutputs
  refine ⟨fun s t h hs => ?_, fun s h => ⟨h.gate_open, h.under_acid⟩⟩
  obtain ⟨-, ht⟩ | ⟨c, rest, -, hx⟩ := step_cases hs
  · exact ht ▸ h.tick
  · exact SteamOutputs.exec (s := s.setPending rest) h hx

end Sys2Proof.Machine

/-!
What an idle step takes (R5, R15, R22, R43, R48, R51, R52, R57, R79, R85, R92, R103, R129, R141, R150, R160, R167): the
idle step as a list of rows, each with its moment and its effect, and the lemma that a list of rows of which one is due
does what that one does.
-/
namespace Sys2Proof.Machine

/-- A row of the idle step: the commands that stand for what is due of it, and what the idle step does for it. -/
structure Row where
  due : State → List Instr
  run : State → State

/-- A row does nothing where it is not due, and where one command is due it does what that command does. -/
structure Row.Sound (r : Row) : Prop where
  quiet : ∀ s, ShareInv s → r.due s = [] → r.run s = s
  fires : ∀ s u c, ShareInv s → ShareInv u → r.due s = [c] → exec c s = .next u → r.due u = [] → r.run s = u

/-- The rows of a list, one after the other. -/
def Row.all (l : List Row) : Row := ⟨fun s => l.flatMap (·.due s), fun s => l.foldl (fun s r => r.run s) s⟩

theorem Row.Sound.all {l : List Row} (h : ∀ r ∈ l, r.Sound) : (Row.all l).Sound := by
  have hquiet : ∀ {l : List Row}, (∀ r ∈ l, r.Sound) → ∀ s, ShareInv s → (Row.all l).due s = [] →
      (Row.all l).run s = s := by
    intro l
    induction l with
    | nil => exact fun _ _ _ _ => rfl
    | cons r l ih =>
      intro h s hs hd
      simp only [Row.all, List.flatMap_cons, List.append_eq_nil_iff] at hd
      have hr : r.run s = s := (h r (by simp)).quiet s hs hd.1
      simp only [Row.all, List.foldl_cons, hr]
      exact ih (fun x hx => h x (by simp [hx])) s hs hd.2
  refine ⟨hquiet h, ?_⟩
  induction l with
  | nil => exact fun s u c _ _ hd => by simp [Row.all] at hd
  | cons r l ih =>
    intro s u c hs hu hd hc hn
    have hl : ∀ x ∈ l, x.Sound := fun x hx => h x (by simp [hx])
    simp only [Row.all, List.flatMap_cons, List.append_eq_nil_iff, List.append_eq_singleton_iff] at hd hn
    simp only [Row.all, List.foldl_cons]
    obtain ⟨h0, h1⟩ | ⟨h1, h0⟩ := hd
    · rw [(h r (by simp)).quiet s hs h0]
      exact ih hl s u c hs hu h1 hc hn.2
    · rw [(h r (by simp)).fires s u c hs hu h1 hc hn.1]
      exact hquiet hl u hu hn.2

/-- A row of one command: it falls due at a moment, and the idle step gives it the command's effect on a timer. -/
def Row.of (c : Instr) (due : State → Bool) (timer : State → Bool) (effect : State → State) : Row :=
  ⟨fun s => moment (due s) c, fire timer effect⟩

theorem Row.Sound.of {c : Instr} {due timer : State → Bool} {effect : State → State}
    (he : ∀ s, exec c s = .next (effect s)) (ht : ∀ s, due s = true → timer s = true)
    (hq : ∀ s, timer s = true → due s = false → effect s = s) : (Row.of c due timer effect).Sound where
  quiet s _ hd := fire_of_not_due fun h => hq s h (moment_eq_nil.1 hd)
  fires s u x _ _ hd hx _ := by
    simp only [Row.of, moment] at hd ⊢
    split at hd
    next h =>
      obtain rfl := List.singleton_inj.1 hd
      rw [he] at hx
      rw [fire, if_pos (ht s h)]
      exact Host.Outcome.next.inj hx
    · simp at hd

/-! ### Start-up and door -/

def rowWindow : Row := .of .setupWindowExpiry
  (fun s => decide (s.startup.setup = .opened ∧ 10000 ≤ s.startup.windowMs))
  (fun s => decide (10000 ≤ s.startup.windowMs)) setupWindowExpiry

theorem rowWindow_sound : rowWindow.Sound :=
  .of (fun _ => rfl) (by simp) fun s ht hd => if_neg fun h => of_decide_eq_false hd ⟨h, of_decide_eq_true ht⟩

def rowRestart : Row :=
  ⟨fun s => moment (decide (s.startup.restarting = true ∧ sendingFrame s = none
      ∧ (s.startup.restartLowers = PerPool.all false ∨ 1000 ≤ s.startup.restartMs))) .reInitialisation, reInitIfDue⟩

theorem restartDue_iff (s : State) :
    restartDue s = true ↔ s.startup.restartLowers = PerPool.all false ∨ 1000 ≤ s.startup.restartMs := by
  simp [restartDue, PerPool.eq_all_false, and_assoc]

theorem rowRestart_sound : rowRestart.Sound where
  quiet s _ hd := by
    have hd := of_decide_eq_false (moment_eq_nil.1 hd)
    obtain he | ⟨hr, hs, he⟩ := reInitIfDue_cases s
    · exact he
    · by_cases hx : restartDue s = true
      · exact absurd ⟨hr, hs, (restartDue_iff s).1 hx⟩ hd
      · exact if_neg hx
  fires s u x _ _ hd hx _ := by
    simp only [rowRestart, moment] at hd ⊢
    split at hd
    next h =>
      obtain ⟨-, -, hdue⟩ := of_decide_eq_true h
      obtain rfl := List.singleton_inj.1 hd
      rw [reInitIfDue, if_pos ((restartDue_iff s).2 hdue)]
      exact Host.Outcome.next.inj hx
    · simp at hd

def rowSample : Row := .of .climateSample
  (fun s => decide (frozen s = true ∧ s.startup.restarting = false ∧ 1000 ≤ s.climate.sampleMs))
  (fun s => decide (1000 ≤ s.climate.sampleMs)) climateSample

theorem rowSample_sound : rowSample.Sound :=
  .of (fun _ => rfl) (by simp) fun s ht hd =>
    if_neg fun h => of_decide_eq_false hd (by simpa [and_assoc] using And.intro h (of_decide_eq_true ht))

def rowDoorOpens : Row := .of .doorOpens
  (fun s => decide (s.climate.doorInputOpen = true ∧ s.climate.doorOpen = false ∧ 50 ≤ s.climate.doorMs))
  (fun s => decide (50 ≤ s.climate.doorMs)) doorOpens

theorem rowDoorOpens_sound : rowDoorOpens.Sound :=
  .of (fun _ => rfl) (by simp) fun s ht hd =>
    if_neg fun h => of_decide_eq_false hd (by simpa [and_assoc] using And.intro h (of_decide_eq_true ht))

def rowDoorCloses : Row := .of .doorCloses
  (fun s => decide (s.climate.doorInputOpen = false ∧ s.climate.doorOpen = true ∧ 50 ≤ s.climate.doorMs))
  (fun s => decide (50 ≤ s.climate.doorMs)) doorCloses

theorem rowDoorCloses_sound : rowDoorCloses.Sound :=
  .of (fun _ => rfl) (by simp) fun s ht hd =>
    if_neg fun h => of_decide_eq_false hd (by simpa [and_assoc] using And.intro h (of_decide_eq_true ht))

/-! ### The scheduler -/

def rowFrequency : Row := .of .frequencyTimeout
  (fun s => decide (s.power.freq = .undecided ∧ 10000 ≤ s.power.freqMs))
  (fun s => decide (10000 ≤ s.power.freqMs)) frequencyTimeout

theorem rowFrequency_sound : rowFrequency.Sound :=
  .of (fun _ => rfl) (by simp) fun s ht hd => if_neg fun h => of_decide_eq_false hd ⟨h, of_decide_eq_true ht⟩

/-- Two crossings can be missed in one idle step. -/
def rowMiss : Row :=
  ⟨fun s => moment (s.power.inFrame
      && s.power.halfPeriodUs.any fun h => decide (h + h / 4 + s.power.misses * h ≤ s.power.sinceCrossUs)) .missedCrossing,
    fun s => fire missDue missedCrossing (fire missDue missedCrossing s)⟩

theorem rowMiss_sound : rowMiss.Sound := by
  have hone : (Row.of .missedCrossing (fun s => s.power.inFrame && missDue s) missDue missedCrossing).Sound :=
    .of (fun _ => rfl) (fun s h => (Bool.and_eq_true _ _ ▸ h).2) fun s ht hd => if_neg fun h => by simp [h, ht] at hd
  refine ⟨fun s hs hd => ?_, fun s u c hs hu hd hc hn => ?_⟩
  · have h1 := hone.quiet s hs hd
    exact (congrArg _ h1).trans h1
  · exact (congrArg _ (hone.fires s u c hs hu hd hc hn)).trans (hone.quiet u hu hn)

def rowStarved : Row := .of .supplyStarved (fun s => s.power.starveMs.any fun ms => decide (60000 ≤ ms))
  (fun s => reached 60000 s.power.starveMs) supplyStarved

theorem rowStarved_sound : rowStarved.Sound :=
  .of (fun _ => rfl) (fun _ h => h) fun s ht hd => absurd (ht.symm.trans hd) (by decide)

/-! ### The shares -/

def rowRetry : Row := .of .waterRaiseRetry (fun s => decide (1000 ≤ s.share.retryMs))
  (fun s => decide (1000 ≤ s.share.retryMs)) waterRaiseRetry

theorem rowRetry_sound : rowRetry.Sound :=
  .of (fun _ => rfl) (fun _ h => h) fun s ht hd => absurd (ht.symm.trans hd) (by decide)

def rowStatus : Row := .of .statusPeriod (fun s => decide (frozen s = true ∧ 1000 ≤ s.share.statusMs))
  (fun s => decide (1000 ≤ s.share.statusMs)) statusPeriod

theorem rowStatus_sound : rowStatus.Sound :=
  .of (fun _ => rfl) (by simp) fun s ht hd => if_neg fun h => of_decide_eq_false hd ⟨h, of_decide_eq_true ht⟩

def rowIsolated : Row := .of .lineIsolated
  (fun s => decide (s.share.link ≠ .isolated) && s.share.sinceOwnMs.any fun ms => decide (2000 ≤ ms))
  (fun s => reached 2000 s.share.sinceOwnMs) lineIsolated

theorem rowIsolated_sound : rowIsolated.Sound :=
  .of (fun _ => rfl) (by simp [reached]) fun s ht hd => if_neg fun h => by
    simp only [reached] at ht
    simp [h.1, ht] at hd

def rowLost : Row := .of .lineLost
  (fun s => decide (s.share.link = .isolated ∧ s.share.lost = false ∧ 60000 ≤ s.share.isolatedMs))
  (fun s => decide (60000 ≤ s.share.isolatedMs)) lineLost

theorem rowLost_sound : rowLost.Sound :=
  .of (fun _ => rfl) (by simp) fun s ht hd => if_neg fun h => of_decide_eq_false hd ⟨h.1, h.2, of_decide_eq_true ht⟩

def rowJoin : Row := .of .joinWindowEnd
  (fun s => decide (s.share.link = .joining) && s.share.joinMs.any fun ms => decide (3500 ≤ ms))
  (fun s => reached 3500 s.share.joinMs) joinWindowEnd

theorem rowJoin_sound : rowJoin.Sound :=
  .of (fun _ => rfl) (by simp [reached]) fun s ht hd => if_neg fun h => by
    simp only [reached] at ht
    simp [h.1, ht] at hd

def rowBackoff : Row := .of .yieldBackoffEnd (fun s => s.share.backoffMs.any fun ms => decide (5000 ≤ ms))
  (fun s => reached 5000 s.share.backoffMs) yieldBackoffEnd

theorem rowBackoff_sound : rowBackoff.Sound :=
  .of (fun _ => rfl) (fun _ h => h) fun s ht hd => absurd (ht.symm.trans hd) (by decide)

def rowLeakWet : Row := .of .leakWet
  (fun s => decide (unnumbered s = false ∧ s.share.leakInputWet = true ∧ s.share.leakWet = false ∧ 2000 ≤ s.share.leakMs))
  (fun s => decide (2000 ≤ s.share.leakMs)) leakWet

theorem rowLeakWet_sound : rowLeakWet.Sound :=
  .of (fun _ => rfl) (by simp) fun s ht hd => if_neg fun h => of_decide_eq_false hd (by simp at h ht; tauto)

def rowLeakDry : Row := .of .leakDry
  (fun s => decide (unnumbered s = false ∧ s.share.leakInputWet = false ∧ s.share.leakWet = true ∧ 30000 ≤ s.share.leakMs))
  (fun s => decide (30000 ≤ s.share.leakMs)) leakDry

theorem rowLeakDry_sound : rowLeakDry.Sound :=
  .of (fun _ => rfl) (by simp) fun s ht hd => if_neg fun h => of_decide_eq_false hd (by simp at h ht; tauto)

/-! ### The generator -/

def rowLevel (e : Electrode) : Row := .of (.levelReadingChange e)
  (fun s => decide (s.steam.levelInputs.get e ≠ s.steam.levels.get e ∧ 1000 ≤ s.steam.levelMs.get e))
  (fun s => decide (1000 ≤ s.steam.levelMs.get e)) (levelReadingChange e)

theorem rowLevel_sound (e : Electrode) : (rowLevel e).Sound :=
  .of (fun _ => rfl) (by simp) fun s ht hd =>
    if_pos (by by_contra h; exact of_decide_eq_false hd ⟨h, of_decide_eq_true ht⟩)

def rowValve : Row := .of .valveTimeLimit (fun s => s.steam.fill.any (valveLimitActs s))
  (fun s => s.steam.fill.any fun f => decide (180000 ≤ f.valveMs)) valveTimeLimit

theorem rowValve_sound : rowValve.Sound := by
  refine .of (fun _ => rfl) (fun s h => ?_) fun s ht hd => ?_
  · obtain ⟨f, hf, hv⟩ := (Option.any_eq_true _ _).1 h
    simp only [valveLimitActs, Bool.and_eq_true] at hv
    exact (Option.any_eq_true _ _).2 ⟨f, hf, hv.1.1⟩
  · unfold valveTimeLimit
    cases hf : s.steam.fill with
    | none => rfl
    | some f =>
      simp only [hf, Option.any_some, decide_eq_true_eq, valveLimitActs, Bool.and_eq_false_iff] at ht hd ⊢
      split
      · rfl
      · cases hk : f.kind <;> simp_all [workOrHigh]

def rowCooling : Row := .of .coolingTimerExpiry
  (fun s => decide (s.steam.gen = .cooling ∧ s.startup.restarting = false ∧ 1200000 ≤ s.steam.coolMs))
  (fun s => decide (1200000 ≤ s.steam.coolMs)) coolingTimerExpiry

theorem rowCooling_sound : rowCooling.Sound :=
  .of (fun _ => rfl) (by simp) fun s ht hd => if_neg fun h => of_decide_eq_false hd ⟨h.1, h.2, of_decide_eq_true ht⟩

def rowDry : Row := .of .drainDryTimeEnd
  (fun s => s.power.base.pump && !s.steam.levels.low && s.steam.drain.any fun d => decide (30000 ≤ d.dryMs))
  (fun s => s.steam.drain.any fun d => decide (30000 ≤ d.dryMs)) drainDryTimeEnd

theorem rowDry_sound : rowDry.Sound :=
  .of (fun _ => rfl) (fun s h => (Bool.and_eq_true _ _ ▸ h).2) fun s ht hd => if_neg fun h => by simp_all

def rowPump : Row := .of .pumpTimeLimit
  (fun s => s.power.base.pump && s.steam.drain.any fun d => decide (240000 ≤ d.pumpMs))
  (fun s => s.steam.drain.any fun d => decide (240000 ≤ d.pumpMs)) pumpTimeLimit

theorem rowPump_sound : rowPump.Sound :=
  .of (fun _ => rfl) (fun s h => (Bool.and_eq_true _ _ ▸ h).2) fun s ht hd => if_neg fun h => by simp_all

end Sys2Proof.Machine

/-!
The remaining rows of the idle step: silent neighbours, channels and sides, relay and configuration, descale, program; and
the idle step as all of them.
-/
namespace Sys2Proof.Machine

/-! ### Silent neighbours -/

/-- A table with one entry per station finds each of its entries. -/
theorem findEntry_of_mem {l : List Entry} {e : Entry} (ht : (l.map (·.station)).Pairwise (· < ·)) (he : e ∈ l) :
    findEntry l e.station = some e := by
  induction l with
  | nil => simp at he
  | cons x l ih =>
    simp only [List.map_cons, List.pairwise_cons, List.mem_map, forall_exists_index, and_imp,
      forall_apply_eq_imp_iff₂] at ht
    rcases List.mem_cons.1 he with rfl | he
    · simp [findEntry]
    · have hx : x.station ≠ e.station := (ht.1 e he).ne
      have := ih ht.2 he
      simp only [findEntry] at this ⊢
      rw [List.find?_cons_of_neg (by simpa using hx)]
      exact this

/-- What the idle step does for one entry of the table as it stood (R52). -/
def fireEntry (s : State) (e : Entry) : State :=
  if 65000 ≤ e.heardMs then entryRemoved e.station s
  else if 3500 ≤ e.heardMs then entryExpired e.station s
  else s

/-- An entry that is not due is left alone, wherever the table still holds it. -/
theorem fireEntry_quiet {s : State} {e : Entry} (hs : ShareInv s) (he : e ∈ s.share.table) (hm : entryMoment e = []) :
    fireEntry s e = s := by
  obtain ⟨-, -, hsorted, -⟩ := hs
  unfold entryMoment at hm
  unfold fireEntry
  split at hm
  · simp at hm
  next hn =>
    rw [if_neg hn]
    simp only [moment_eq_nil, decide_eq_false_iff_not, not_and, Bool.not_eq_false] at hm
    split
    next h3 => simp [entryExpired, findEntry_of_mem hsorted he, hm h3]
    · rfl

theorem fireEntry_quiets {s : State} {l : List Entry} (hs : ShareInv s) (hl : ∀ e ∈ l, e ∈ s.share.table)
    (hm : l.flatMap entryMoment = []) : l.foldl fireEntry s = s := by
  induction l with
  | nil => rfl
  | cons e l ih =>
    simp only [List.flatMap_cons, List.append_eq_nil_iff] at hm
    rw [List.foldl_cons, fireEntry_quiet hs (hl e (by simp)) hm.1]
    exact ih (fun x hx => hl x (by simp [hx])) hm.2

/-- An entry that is due is treated as its command treats it, and every other station's entry stands. -/
theorem fireEntry_fires {s u : State} {e : Entry} {c : Instr} (hs : ShareInv s) (he : e ∈ s.share.table)
    (hm : entryMoment e = [c]) (hc : exec c s = .next u) :
    fireEntry s e = u ∧ ∀ x ∈ s.share.table, x.station ≠ e.station → x ∈ u.share.table := by
  obtain ⟨-, -, hsorted, hrange, -⟩ := hs
  have hn : (BitVec.ofNat 4 e.station).toNat = e.station := by
    have := (hrange e he).2.2
    simp only [BitVec.toNat_ofNat]
    omega
  have hfind := findEntry_of_mem hsorted he
  unfold entryMoment moment at hm
  unfold fireEntry
  split at hm
  next h65 =>
    rw [if_pos h65]
    obtain rfl := List.singleton_inj.1 hm
    obtain rfl := Host.Outcome.next.inj hc
    rw [hn]
    refine ⟨rfl, fun x hx hne => ?_⟩
    simp only [entryRemoved, hfind]
    simpa using ⟨hx, hne⟩
  next h65 =>
    rw [if_neg h65]
    split at hm
    next h3 =>
      obtain ⟨h35, hexp⟩ := of_decide_eq_true h3
      rw [if_pos h35]
      obtain rfl := List.singleton_inj.1 hm
      obtain rfl := Host.Outcome.next.inj hc
      rw [hn]
      refine ⟨rfl, fun x hx hne => ?_⟩
      simp only [entryExpired, hfind, hexp]
      simp only [updateEntry, Bool.false_eq_true, if_false, evalFor_frame, State.setShare_share]
      exact List.mem_map.2 ⟨x, hx, if_neg hne⟩
    · simp at hm

def rowEntries : Row := ⟨fun s => s.share.table.flatMap entryMoment, fireEntries⟩

theorem rowEntries_sound : rowEntries.Sound where
  quiet s hs hd := fireEntry_quiets hs (fun _ h => h) hd
  fires s u c hs hu hd hc _ := by
    show s.share.table.foldl fireEntry s = u
    obtain ⟨-, -, hsorted, -⟩ := id hs
    obtain ⟨l1, e, l2, htab, h1, hm, h2⟩ : ∃ l1 e l2, s.share.table = l1 ++ e :: l2 ∧ l1.flatMap entryMoment = []
        ∧ entryMoment e = [c] ∧ l2.flatMap entryMoment = [] := by
      change s.share.table.flatMap entryMoment = [c] at hd
      generalize s.share.table = l at hd
      induction l with
      | nil => simp at hd
      | cons x l ih =>
        simp only [List.flatMap_cons, List.append_eq_singleton_iff] at hd
        obtain ⟨hx, hl⟩ | ⟨hx, hl⟩ := hd
        · obtain ⟨l1, e, l2, rfl, h1, h2, h3⟩ := ih hl
          exact ⟨x :: l1, e, l2, rfl, by simp [hx, h1], h2, h3⟩
        · exact ⟨[], x, l, rfl, rfl, hx, hl⟩
    obtain ⟨hfire, hkeep⟩ := fireEntry_fires hs (e := e) (by simp [htab]) hm hc
    rw [htab] at hsorted ⊢
    rw [List.foldl_append, fireEntry_quiets hs (fun x hx => by simp [htab, hx]) h1, List.foldl_cons, hfire]
    refine fireEntry_quiets hu (fun x hx => hkeep x (by simp [htab, hx]) ?_) h2
    simp only [List.map_append, List.map_cons, List.pairwise_append, List.pairwise_cons] at hsorted
    exact (hsorted.2.1.1 _ (List.mem_map_of_mem hx)).ne'

/-! ### Channels, sides and relay -/

def rowFailed (c : Channel) : Row := .of (.channelFailed c)
  (fun s => decide ((s.superv.readings.get c).holding = true ∧ 2000 ≤ (s.superv.readings.get c).holdMs))
  (fun s => decide (2000 ≤ (s.superv.readings.get c).holdMs)) (channelFails c)

theorem rowFailed_sound (c : Channel) : (rowFailed c).Sound :=
  .of (fun _ => rfl) (by simp) fun s ht hd => if_neg fun h => of_decide_eq_false hd ⟨h, of_decide_eq_true ht⟩

def rowStart (c : Channel) (d : Side) : Row := .of (.excursionStart c d)
  (fun s => decide ((sideRec s.superv c d).state = .pending ∧ sideDebounce s c d ≤ (sideRec s.superv c d).ms))
  (fun s => decide (sideDebounce s c d ≤ (sideRec s.superv c d).ms)) (excursionStart c d)

theorem rowStart_sound (c : Channel) (d : Side) : (rowStart c d).Sound :=
  .of (fun _ => rfl) (by simp) fun s ht hd => if_neg fun h => of_decide_eq_false hd (by simp at h ht; tauto)

def rowEnd (c : Channel) (d : Side) : Row := .of (.excursionEnd c d)
  (fun s => decide ((sideRec s.superv c d).state = .recovering
    ∧ (s.superv.readings.get c).cond.showsAbsent = false ∧ sideDebounce s c d ≤ (sideRec s.superv c d).ms))
  (fun s => decide (sideDebounce s c d ≤ (sideRec s.superv c d).ms)) (excursionEnd c d)

theorem rowEnd_sound (c : Channel) (d : Side) : (rowEnd c d).Sound :=
  .of (fun _ => rfl) (by simp) fun s ht hd =>
    if_neg fun h => of_decide_eq_false hd (by simp [recoveryCounts] at h ht; tauto)

def rowRelayOpen : Row := .of .relayOpenFault
  (fun s => decide (s.superv.relayClosed = true ∧ s.superv.feedbackClosed = false ∧ 200 ≤ s.superv.mismatchMs))
  (fun s => decide (200 ≤ s.superv.mismatchMs)) relayOpenFault

theorem rowRelayOpen_sound : rowRelayOpen.Sound :=
  .of (fun _ => rfl) (by simp) fun s ht hd => if_neg fun h => of_decide_eq_false hd (by simp at h ht; tauto)

def rowWelded : Row := .of .relayWelded
  (fun s => decide (s.superv.relayClosed = false ∧ s.superv.feedbackClosed = true ∧ s.superv.welded = false
    ∧ 200 ≤ s.superv.mismatchMs))
  (fun s => decide (200 ≤ s.superv.mismatchMs)) relayWelded

theorem rowWelded_sound : rowWelded.Sound :=
  .of (fun _ => rfl) (by simp) fun s ht hd => if_neg fun h => of_decide_eq_false hd (by simp at h ht; tauto)

def rowCheck : Row := .of .configCheck
  (fun s => decide (frozen s = true ∧ s.superv.configFault = false ∧ 10000 ≤ s.superv.checkMs))
  (fun s => decide (10000 ≤ s.superv.checkMs)) configCheck

theorem rowCheck_sound : rowCheck.Sound :=
  .of (fun _ => rfl) (by simp) fun s ht hd => if_neg fun h => of_decide_eq_false hd (by simp at h ht; tauto)

/-! ### The descale -/

def rowPrep : Row := .of .prepTimeout
  (fun s => decide (s.descale.phase = .prep ∧ s.startup.restarting = false ∧ 1800000 ≤ s.descale.prepMs))
  (fun s => decide (1800000 ≤ s.descale.prepMs)) prepTimeout

theorem rowPrep_sound : rowPrep.Sound :=
  .of (fun _ => rfl) (by simp) fun s ht hd => if_neg fun h => of_decide_eq_false hd ⟨h.1, h.2, of_decide_eq_true ht⟩

def rowHeat : Row := .of .heatLimit
  (fun s => decide (heatingPhase s.descale = true ∧ s.startup.restarting = false
    ∧ ((s.power.freq = .hz50 ∧ 90000 ≤ s.descale.heatClock) ∨ (s.power.freq = .hz60 ∧ 108000 ≤ s.descale.heatClock))))
  (fun s => (heatLimitClock s.power).any fun n => decide (n ≤ s.descale.heatClock)) heatLimit

theorem heatLimitClock_reached (s : State) :
    ((heatLimitClock s.power).any fun n => decide (n ≤ s.descale.heatClock)) = true
      ↔ (s.power.freq = .hz50 ∧ 90000 ≤ s.descale.heatClock) ∨ (s.power.freq = .hz60 ∧ 108000 ≤ s.descale.heatClock) := by
  cases h : s.power.freq <;> simp [heatLimitClock, h]

theorem rowHeat_sound : rowHeat.Sound :=
  .of (fun _ => rfl) (fun s h => (heatLimitClock_reached s).2 (of_decide_eq_true h).2.2) fun s ht hd => if_neg fun h => by
    simp only [Bool.and_eq_true, Bool.not_eq_true'] at h
    exact of_decide_eq_false hd ⟨h.1.1, h.2, (heatLimitClock_reached s).1 ht⟩

def rowLow : Row := .of .descaleLowWater
  (fun s => decide ((heatingPhase s.descale = true ∨ s.descale.phase = .soak) ∧ s.steam.levels.low = false
    ∧ s.startup.restarting = false ∧ 60000 ≤ s.descale.lowMs))
  (fun s => decide (60000 ≤ s.descale.lowMs)) descaleLowWater

theorem rowLow_sound : rowLow.Sound :=
  .of (fun _ => rfl) (by simp) fun s ht hd =>
    if_neg fun h => of_decide_eq_false hd (by simp [lowWaterPhase] at h ht; tauto)

def rowSoak : Row := .of .soakTimerEnd
  (fun s => decide (s.descale.phase = .soak ∧ readingAtLeast s .boil 650 = true ∧ s.startup.restarting = false
    ∧ 1200000 ≤ s.descale.soakMs))
  (fun s => decide (1200000 ≤ s.descale.soakMs)) soakTimerEnd

theorem rowSoak_sound : rowSoak.Sound :=
  .of (fun _ => rfl) (by simp) fun s ht hd =>
    if_neg fun h => of_decide_eq_false hd ⟨h.1, h.2.1, h.2.2, of_decide_eq_true ht⟩

def rowWait : Row := .of .waitingForPool
  (fun s => decide ((waitingPool s).isSome = true ∧ s.descale.waitNoted = false ∧ 600000 ≤ s.descale.waitMs))
  (fun s => decide (600000 ≤ s.descale.waitMs)) waitNotice

theorem rowWait_sound : rowWait.Sound := by
  refine .of (fun _ => rfl) (by simp) fun s ht hd => ?_
  unfold waitNotice
  cases hw : waitingPool s with
  | none => rfl
  | some p =>
    refine if_pos ?_
    by_contra hn
    exact of_decide_eq_false hd ⟨by simp [hw], by simpa using hn, of_decide_eq_true ht⟩

/-! ### The program -/

def rowLoad : Row := .of .loadTimeout (fun s => decide (s.recipe.state = .loading ∧ 10000 ≤ s.recipe.gapMs))
  (fun s => decide (10000 ≤ s.recipe.gapMs)) loadTimeout

theorem rowLoad_sound : rowLoad.Sound :=
  .of (fun _ => rfl) (by simp) fun s ht hd => if_neg fun h => of_decide_eq_false hd ⟨h, of_decide_eq_true ht⟩

theorem durationDue_of_run {s : State} {h : HeatStage} (hc : currentHeat s.recipe = some h)
    (hr : durationRun s h = true) : durationDue s = true := by
  simp only [durationRun, Bool.and_eq_true] at hr
  simpa [durationDue, hc, durationReached] using hr.2

def rowStage : Row := .of .stageTimeEnd
  (fun s => decide (s.recipe.state = .running)
    && (currentHeat s.recipe).any fun h => durationRun s h && endsByTime s h) durationDue stageTimeEnd

theorem rowStage_sound : rowStage.Sound := by
  refine .of (fun _ => rfl) (fun s hd => ?_) fun s ht hd => ?_
  · obtain ⟨h, hc, hr⟩ := (Option.any_eq_true _ _).1 (Bool.and_eq_true _ _ ▸ hd).2
    exact durationDue_of_run hc (Bool.and_eq_true _ _ ▸ hr).1
  · unfold stageTimeEnd
    cases hc : currentHeat s.recipe with
    | none => rfl
    | some h =>
      simp only [durationDue, hc, Option.any_some] at ht hd
      refine if_neg fun hr => ?_
      simp_all [durationRun, endsByTime, endsOnTime, durationReached]

def rowPrompt : Row := .of .promptTimeout
  (fun s => decide (s.recipe.state = .prompting)
    && (currentHeat s.recipe).any fun h => durationRun s h && decide (h.endKind = .prompt)) durationDue promptTimeout

theorem rowPrompt_sound : rowPrompt.Sound := by
  refine .of (fun _ => rfl) (fun s hd => ?_) fun s ht hd => ?_
  · obtain ⟨h, hc, hr⟩ := (Option.any_eq_true _ _).1 (Bool.and_eq_true _ _ ▸ hd).2
    exact durationDue_of_run hc (Bool.and_eq_true _ _ ▸ hr).1
  · unfold promptTimeout
    cases hc : currentHeat s.recipe with
    | none => rfl
    | some h =>
      simp only [durationDue, hc, Option.any_some] at ht hd
      refine if_neg fun hr => ?_
      simp_all [durationRun, durationReached]

def rowProbe : Row := .of .probeStateChange
  (fun s => decide (s.recipe.probeShows ≠ s.recipe.probePresent ∧ 2000 ≤ s.recipe.probeMs))
  (fun s => decide (2000 ≤ s.recipe.probeMs)) probeStateChange

theorem rowProbe_sound : rowProbe.Sound :=
  .of (fun _ => rfl) (by simp) fun s ht hd =>
    if_pos (by by_contra h; exact of_decide_eq_false hd ⟨h, of_decide_eq_true ht⟩)

def rowWithheld : Row := .of .steamWithheld (fun s => withheldWatched s && decide (5000 ≤ s.recipe.withheldMs))
  (fun s => decide (5000 ≤ s.recipe.withheldMs)) steamWithheld

theorem rowWithheld_sound : rowWithheld.Sound :=
  .of (fun _ => rfl) (by simp) fun s ht hd => if_neg fun h => by simp_all

/-! ### The idle step -/

def startRows : List Row := [rowWindow, rowRestart, rowSample, rowDoorOpens, rowDoorCloses]
def powerRows : List Row := [rowFrequency, rowMiss, rowStarved]
def shareRows : List Row :=
  [rowRetry, rowStatus, rowEntries, rowIsolated, rowLost, rowJoin, rowBackoff, rowLeakWet, rowLeakDry]
def steamRows : List Row := [rowLevel .low, rowLevel .work, rowLevel .high, rowValve, rowCooling, rowDry, rowPump]
def sideRows (c : Channel) : List Row := [rowStart c .low, rowEnd c .low, rowStart c .high, rowEnd c .high]
def failRows : List Row := channelList.map rowFailed
def channelRows : List Row := channelList.flatMap sideRows
def relayRows : List Row := [rowStart .cav .fixed, rowEnd .cav .fixed, rowRelayOpen, rowWelded, rowCheck]
def descaleRows : List Row := [rowPrep, rowHeat, rowLow, rowSoak, rowWait]
def recipeRows : List Row := [rowLoad, rowStage, rowPrompt, rowProbe, rowWithheld]

/-- The rows of the idle step, in its order (log entry 2). -/
def idleRows : List Row :=
  startRows ++ powerRows ++ shareRows ++ steamRows ++ (failRows ++ channelRows ++ relayRows) ++ descaleRows ++ recipeRows

theorem sideRows_sound (c : Channel) : ∀ r ∈ sideRows c, r.Sound := by
  simp [sideRows, rowStart_sound, rowEnd_sound]

theorem idleRows_sound : ∀ r ∈ idleRows, r.Sound := by
  intro r hr
  simp only [idleRows, List.mem_append] at hr
  obtain ((((((hr | hr) | hr) | hr) | ((hr | hr) | hr)) | hr) | hr) := hr
  · revert r
    simp [startRows, rowWindow_sound, rowRestart_sound, rowSample_sound, rowDoorOpens_sound, rowDoorCloses_sound]
  · revert r
    simp [powerRows, rowFrequency_sound, rowMiss_sound, rowStarved_sound]
  · revert r
    simp [shareRows, rowRetry_sound, rowStatus_sound, rowEntries_sound, rowIsolated_sound, rowLost_sound, rowJoin_sound,
      rowBackoff_sound, rowLeakWet_sound, rowLeakDry_sound]
  · revert r
    simp [steamRows, rowLevel_sound, rowValve_sound, rowCooling_sound, rowDry_sound, rowPump_sound]
  · obtain ⟨c, -, rfl⟩ := List.mem_map.1 hr
    exact rowFailed_sound c
  · obtain ⟨c, -, hr⟩ := List.mem_flatMap.1 hr
    exact sideRows_sound c r hr
  · revert r
    simp [relayRows, rowStart_sound, rowEnd_sound, rowRelayOpen_sound, rowWelded_sound, rowCheck_sound]
  · revert r
    simp [descaleRows, rowPrep_sound, rowHeat_sound, rowLow_sound, rowSoak_sound, rowWait_sound]
  · revert r
    simp [recipeRows, rowLoad_sound, rowStage_sound, rowPrompt_sound, rowProbe_sound, rowWithheld_sound]

theorem Row.all_append_due (l m : List Row) (s : State) :
    (Row.all (l ++ m)).due s = (Row.all l).due s ++ (Row.all m).due s := List.flatMap_append

theorem Row.all_append_run (l m : List Row) (s : State) :
    (Row.all (l ++ m)).run s = (Row.all m).run ((Row.all l).run s) := List.foldl_append

theorem startRows_due (s : State) : (Row.all startRows).due s = startMoments s := by
  simp [Row.all, startRows, startMoments, rowWindow, rowRestart, rowSample, rowDoorOpens, rowDoorCloses, Row.of]

theorem powerRows_due (s : State) : (Row.all powerRows).due s = powerMoments s := by
  simp [Row.all, powerRows, powerMoments, rowFrequency, rowMiss, rowStarved, Row.of]

theorem shareRows_due (s : State) : (Row.all shareRows).due s = shareMoments s := by
  simp [Row.all, shareRows, shareMoments, rowRetry, rowStatus, rowEntries, rowIsolated, rowLost, rowJoin, rowBackoff,
    rowLeakWet, rowLeakDry, Row.of]

theorem steamRows_due (s : State) : (Row.all steamRows).due s = steamMoments s := by
  simp [Row.all, steamRows, steamMoments, levelMoment, rowLevel, rowValve, rowCooling, rowDry, rowPump, Row.of]

theorem failRows_due (s : State) : (Row.all failRows).due s = channelList.flatMap (failMoment s) := by
  simp [Row.all, failRows, channelList, failMoment, rowFailed, Row.of]

theorem channelRows_due (s : State) : (Row.all channelRows).due s = channelList.flatMap (channelMoments s) := by
  have hside : ∀ c, (sideRows c).flatMap (·.due s) = channelMoments s c := fun c => by
    simp only [sideRows, channelMoments, sideMoments, rowStart, rowEnd, Row.of, List.flatMap_cons, List.flatMap_nil,
      List.append_nil, List.append_assoc]
    rfl
  simp only [Row.all, channelRows, List.flatMap_assoc, hside]

theorem relayRows_due (s : State) : (Row.all relayRows).due s = sideMoments s .cav .fixed 1000
    ++ moment (decide (s.superv.relayClosed = true ∧ s.superv.feedbackClosed = false ∧ 200 ≤ s.superv.mismatchMs))
        .relayOpenFault
    ++ moment (decide (s.superv.relayClosed = false ∧ s.superv.feedbackClosed = true ∧ s.superv.welded = false
        ∧ 200 ≤ s.superv.mismatchMs)) .relayWelded
    ++ moment (decide (frozen s = true ∧ s.superv.configFault = false ∧ 10000 ≤ s.superv.checkMs)) .configCheck := by
  simp only [Row.all, relayRows, sideMoments, rowStart, rowEnd, rowRelayOpen, rowWelded, rowCheck, Row.of,
    List.flatMap_cons, List.flatMap_nil, List.append_nil, List.append_assoc]
  rfl

theorem descaleRows_due (s : State) : (Row.all descaleRows).due s = descaleMoments s := by
  simp [Row.all, descaleRows, descaleMoments, rowPrep, rowHeat, rowLow, rowSoak, rowWait, Row.of]

theorem recipeRows_due (s : State) : (Row.all recipeRows).due s = recipeMoments s := by
  simp [Row.all, recipeRows, recipeMoments, rowLoad, rowStage, rowPrompt, rowProbe, rowWithheld, Row.of]

/-- The rows fall due as the rules' figures say. -/
theorem idleRows_due (s : State) : (Row.all idleRows).due s = dueRows s := by
  simp only [idleRows, Row.all_append_due, startRows_due, powerRows_due, shareRows_due, steamRows_due, failRows_due,
    channelRows_due, relayRows_due, descaleRows_due, recipeRows_due]
  simp only [dueRows, supervMoments, channelList, List.append_assoc]

theorem shareRows_run (u : State) : fireShare u = (Row.all shareRows).run u := by
  simp only [Row.all, shareRows, List.foldl_cons, List.foldl_nil, rowRetry, rowStatus, rowEntries, rowIsolated, rowLost,
    rowJoin, rowBackoff, rowLeakWet, rowLeakDry, Row.of, fireShare, fireLink, fireLeak]

theorem relayRows_run (u : State) : fireRelay (fireChannels u)
    = (Row.all relayRows).run ((Row.all channelRows).run ((Row.all failRows).run u)) := by
  have hside : ∀ c u, fireSide .high c (fireSide .low c u) = (sideRows c).foldl (fun s r => r.run s) u := fun c u => by
    simp only [sideRows, List.foldl_cons, List.foldl_nil, rowStart, rowEnd, Row.of, fireSide]
  have hfail : ∀ c u, fireFailed c u = (rowFailed c).run u := fun _ _ => rfl
  simp only [Row.all, channelRows, failRows, List.foldl_flatMap, List.foldl_map, ← hside, ← hfail, fireChannels, fireRelay,
    relayRows, List.foldl_cons, List.foldl_nil, rowStart, rowEnd, rowRelayOpen, rowWelded, rowCheck, Row.of, fireSide]

/-- And the idle step takes them in turn. -/
theorem tick_eq (s : State) : tick s = frameBegin ((Row.all idleRows).run (tenMsLater s)) := by
  have h1 : ∀ u, fireDoor (fireStart u) = (Row.all startRows).run u := fun _ => rfl
  have h2 : ∀ u, firePower u = (Row.all powerRows).run u := fun _ => rfl
  have h4 : ∀ u, fireSteam u = (Row.all steamRows).run u := fun _ => rfl
  have h6 : ∀ u, fireDescale u = (Row.all descaleRows).run u := fun _ => rfl
  have h7 : ∀ u, fireRecipe u = (Row.all recipeRows).run u := fun _ => rfl
  simp only [idleRows, Row.all_append_run, ← advanceAll_eq_tenMsLater, tick, h1, h2, shareRows_run, h4,
    relayRows_run, h6, h7]

/-! ### Commands that wait -/

/-- No change touches the commands that wait. -/
theorem Does.pending {A : List Licence} {s t : State} (h : Does A s t) : t.pending = s.pending := by
  induction h with
  | refl => rfl
  | lowers _ _ ih => simpa using ih
  | raises _ _ _ _ _ ih => simpa using ih
  | entry _ _ _ _ _ _ _ ih => simpa [entryRecorded] using ih
  | _ => assumption

theorem exec_pending {c : Instr} {s t : State} (h : exec c s = .next t) : t.pending = s.pending := by
  obtain ⟨a, b, -, rfl⟩ | ⟨-, hd⟩ := exec_cases h
  · rfl
  · exact hd.pending

theorem step_of_idle {s : State} (h : s.pending = []) : step s = .next (tick s) := by
  unfold step
  rw [h]

/-- Ten milliseconds change no entry's station. -/
theorem tenMsLater_shareInv {s : State} (h : ShareInv s) : ShareInv (tenMsLater s) := by
  rw [← advanceAll_eq_tenMsLater]
  exact (does_advanceAll (A := [.time]) (by simp) s).shareInv h

theorem exec_shareInv {c : Instr} {s t : State} (h : exec c s = .next t) (h0 : ShareInv s) : ShareInv t := by
  have hs : step (s.setPending (c :: s.pending)) = .next t := h
  exact stepKeepsShareTable (s.setPending (c :: s.pending)) t h0 hs

/-- Settles O2: every command is a chain of changes, none of which touches the commands that wait; and an idle step takes
its rows in turn, of which one that is due does what its command does and one that is not does nothing. -/
theorem everyCommandCompletes : Obligations.EveryCommandCompletes := by
  unfold Obligations.EveryCommandCompletes
  have hall := Row.Sound.all idleRows_sound
  refine ⟨fun c s => ?_, fun s hp => ⟨_, step_of_idle hp, (does_tick s).pending.trans hp⟩, fun s hp hs hd => ?_,
    fun s u c hp hs hd hc hn => ?_⟩
  · exact ⟨_, exec_eq_worked c s, exec_pending (exec_eq_worked c s)⟩
  · rw [step_of_idle hp, tick_eq, hall.quiet _ (tenMsLater_shareInv hs) ((idleRows_due _).trans hd)]
    rfl
  · have ha := tenMsLater_shareInv hs
    rw [step_of_idle hp, tick_eq, hall.fires _ u c ha (exec_shareInv hc ha) ((idleRows_due _).trans hd) hc
      ((idleRows_due _).trans hn)]
    rfl

end Sys2Proof.Machine

/-!
POWER_ON (R166): the straps are read, and every block takes its power-on values.
-/
namespace Sys2Proof.Machine

/-- R166, R167: the window opens unless the straps leave the part UNNUMBERED. -/
theorem strapped_setup (station partner : Nibble) :
    (strapped station.toNat partner.toNat).setup
      = if station = 0 ∨ partner = 0 ∨ station = partner then .noWindow else .opened := by
  have hz : ∀ n : Nibble, n.toNat = 0 ↔ n = 0 := fun n => by rw [← BitVec.toNat_inj]; rfl
  simp only [strapped, hz, BitVec.toNat_inj]
  split <;> rfl

/-- R166, R167: the other values of the Start-up Unit as the straps are read. -/
theorem strapped_values (station partner : Nat) :
    (strapped station partner).windowMs = 0 ∧ (strapped station partner).restarting = false
      ∧ (strapped station partner).workSupply = Supply.defaults
      ∧ (strapped station partner).workChannels = ChannelRecord.defaults := by
  unfold strapped
  dsimp only
  split <;> exact ⟨rfl, rfl, rfl, rfl⟩

/-- Settles O16: the Start-up Unit by the straps, every other block by its power-on values. -/
theorem powerOnReadsStraps : Obligations.PowerOnReadsStraps := by
  intro station partner s
  obtain ⟨hw, hr, hs, hc⟩ := strapped_values station.toNat partner.toNat
  exact ⟨powerOn station.toNat partner.toNat s, rfl, strapped_station .., strapped_partner .., strapped_setup .., hw, hr,
    hs, hc, rfl, rfl, rfl, rfl, rfl, rfl, rfl, rfl, rfl, rfl, rfl, rfl, rfl, rfl, rfl, rfl, rfl, rfl, rfl, rfl⟩

end Sys2Proof.Machine

/-!
What an operation tells on the line: of the line the queue alone changes, and while few REPORTs wait none of them is lost
and the new ones stand behind them in the order in which they were raised (R75, R76).
-/
namespace Sys2Proof.Machine

/-! ### The queue -/

/-- The line but for its queue. -/
def Line.still (x : Line) : Line := { x with queue := [] }

theorem Line.still_eq_iff {x y : Line} : x.still = y.still ↔ x = { y with queue := x.queue } := by
  cases x; cases y; simp [Line.still]

/-- A queue in which nothing is being sent, of which the REPORTs are these in order, and which holds neither SAFETY nor
YIELD. -/
structure Told (q : List QEntry) (l : List TxFrame) : Prop where
  ok      : QueueOk q
  waits   : ∀ e ∈ q, e.sending = false
  calm    : ∀ e ∈ q, e.frame.isSafety = false ∧ e.frame.isYield = false
  reports : q.filter (fun e => e.frame.isReport) = l.map fun f => ⟨f, false⟩

theorem Told.nil : Told [] [] := ⟨.nil, by simp, by simp, rfl⟩

variable {q : List QEntry} {l : List TxFrame} {f : TxFrame}

/-- Beside the REPORTs a STATUS and a claim of each pool wait at most. -/
theorem Told.length_counts (h : Told q l) :
    q.length ≤ l.length + waitingOf .status q + waitingOf (.claim .power) q + waitingOf (.claim .inlet) q
      + waitingOf (.claim .drain) q := by
  have hlen := length_le_counts q
  have hs : q.countP (·.sending) = 0 := List.countP_eq_zero.2 fun e he => by simp [h.waits e he]
  have hr : waitingReports q ≤ l.length := by
    have := congrArg List.length h.reports
    rw [← List.countP_eq_length_filter, List.length_map] at this
    rw [← this]
    exact List.countP_mono_left fun e _ => by simp +contextual
  have hz : waitingOf .safety q = 0 := List.countP_eq_zero.2 fun e he => by simp [Sort1.has, (h.calm e he).1]
  have hy : waitingOf .yields q = 0 := List.countP_eq_zero.2 fun e he => by simp [Sort1.has, (h.calm e he).2]
  omega

/-- Four frames beside the REPORTs, and three where none of one sort waits. -/
theorem Told.length (h : Told q l) : q.length ≤ l.length + 4 := by
  have := h.length_counts
  have := h.ok.waiting .status
  have := h.ok.waiting (.claim .power)
  have := h.ok.waiting (.claim .inlet)
  have := h.ok.waiting (.claim .drain)
  omega

theorem Told.length_of_none (h : Told q l) {k : Sort1} (hk : k ≠ .safety ∧ k ≠ .yields) (hz : waitingOf k q = 0) :
    q.length ≤ l.length + 3 := by
  have := h.length_counts
  have := h.ok.waiting .status
  have := h.ok.waiting (.claim .power)
  have := h.ok.waiting (.claim .inlet)
  have := h.ok.waiting (.claim .drain)
  rcases k with _ | _ | _ | p
  · exact absurd rfl hk.1
  · exact absurd rfl hk.2
  · omega
  · cases p <;> omega

/-- A REPORT enters behind every other. -/
theorem filter_insertFrame_report (hf : f.cls = 5) (h : QueueSorted q) :
    (insertFrame f q).filter (fun e => e.frame.isReport) = q.filter (fun e => e.frame.isReport) ++ [⟨f, false⟩] := by
  induction q with
  | nil => simp [insertFrame, TxFrame.isReport, hf]
  | cons e q ih =>
    obtain ⟨he, hq⟩ := List.pairwise_cons.1 h
    unfold insertFrame
    split
    · simp [List.filter_cons, ih hq]; split <;> simp
    · next hlt =>
      have hnone : (e :: q).filter (fun e => e.frame.isReport) = [] := by
        simp only [List.filter_eq_nil_iff, List.mem_cons, forall_eq_or_imp, TxFrame.isReport, decide_eq_true_eq]
        exact ⟨by omega, fun x hx => by have := he x hx; omega⟩
      rw [hnone, List.filter_cons, hnone]
      simp [TxFrame.isReport, hf]

/-- Another frame enters between the REPORTs and leaves them in their order. -/
theorem filter_insertFrame_other (hf : f.isReport = false) (q : List QEntry) :
    (insertFrame f q).filter (fun e => e.frame.isReport) = q.filter (fun e => e.frame.isReport) := by
  induction q with
  | nil => simp [insertFrame, hf]
  | cons e q ih =>
    unfold insertFrame
    split <;> simp [List.filter_cons, ih, hf]

/-- A frame that takes the place of another, neither of them a REPORT, leaves the REPORTs. -/
theorem filter_replaceWaiting {p : TxFrame → Bool} (hf : f.isReport = false) (hp : ∀ g, p g = true → g.isReport = false)
    (q : List QEntry) :
    (replaceWaiting p f q).filter (fun e => e.frame.isReport) = q.filter (fun e => e.frame.isReport) := by
  induction q with
  | nil => rfl
  | cons e q ih =>
    have hcons : replaceWaiting p f (e :: q) = replaceEntry p f e :: replaceWaiting p f q := rfl
    rw [hcons, List.filter_cons, List.filter_cons, ih]
    by_cases he : p e.frame = true
    · have hr := hp _ he
      unfold replaceEntry
      split <;> simp [hf, hr]
    · simp [replaceEntry, he]

/-- A frame that is no REPORT leaves the REPORTs of a queue that is not full. -/
theorem filter_putFrame {p : TxFrame → Bool} (hf : f.isReport = false) (hp : ∀ g, p g = true → g.isReport = false)
    (hl : anyWaiting p q = false → q.length < 8) :
    (putFrame p f q).filter (fun e => e.frame.isReport) = q.filter (fun e => e.frame.isReport) := by
  unfold putFrame
  split
  · exact filter_replaceWaiting hf hp q
  · next hw =>
    have := hl (Bool.eq_false_of_not_eq_true hw)
    rw [addFrame, queueLimit, if_neg (by omega)]
    exact filter_insertFrame_other hf q

/-- Removing waiting frames that are no REPORTs leaves the REPORTs. -/
theorem filter_removeWaiting {p : TxFrame → Bool} (hp : ∀ g, p g = true → g.isReport = false) (q : List QEntry) :
    (removeWaiting p q).filter (fun e => e.frame.isReport) = q.filter (fun e => e.frame.isReport) := by
  unfold removeWaiting
  rw [List.filter_filter]
  refine List.filter_congr fun e _ => ?_
  by_cases he : p e.frame = true
  · simp [hp _ he]
  · simp [he]

theorem isReport_of_isLower {p : Pool} {g : TxFrame} (h : g.isLower p = true) : g.isReport = false := by
  simp [TxFrame.isReport, (isLower_iff_cls.1 h).1]

theorem isReport_of_isRaise {p : Pool} {g : TxFrame} (h : g.isRaise p = true) : g.isReport = false := by
  simp [TxFrame.isReport, (isRaise_iff_cls.1 h).1]

theorem isReport_of_isStatus {g : TxFrame} (h : g.isStatus = true) : g.isReport = false := by
  simp_all [TxFrame.isReport, TxFrame.isStatus]

/-- A REPORT that enters stands behind those that wait, and none is lost. -/
theorem Told.report (h : Told q l) (hl : l.length ≤ 3) (hf : f.isReport = true) : Told (enqueueQueue f q) (l ++ [f]) := by
  have hcls : f.cls = 5 := by simpa [TxFrame.isReport] using hf
  have hlen := h.length
  have hcount : q.countP (·.frame.isReport) = l.length := by
    rw [List.countP_eq_length_filter, h.reports, List.length_map]
  have hq : enqueueQueue f q = insertFrame f q := by
    have hadd : addReport f q = insertFrame f q := by
      simp only [addReport, reportLimit, hcount, if_neg (by omega : ¬ 5 ≤ l.length), addFrame, queueLimit,
        if_neg (by omega : ¬ 8 ≤ q.length)]
    cases f <;> first | exact hadd | simp [TxFrame.cls] at hcls
  have hmem : ∀ e ∈ enqueueQueue f q, e = ⟨f, false⟩ ∨ e ∈ q := fun e he => mem_enqueueQueue he
  refine ⟨h.ok.enqueue f, fun e he => ?_, fun e he => ?_, ?_⟩
  · rcases hmem e he with rfl | he
    · rfl
    · exact h.waits e he
  · rcases hmem e he with rfl | he
    · simp [TxFrame.isSafety, TxFrame.isYield, hcls]
    · exact h.calm e he
  · rw [hq, filter_insertFrame_report hcls h.ok.sorted, h.reports]
    simp

/-- A queue without some frames that are no REPORTs. -/
theorem Told.remove (h : Told q l) {p : TxFrame → Bool} (hp : ∀ g, p g = true → g.isReport = false) :
    Told (removeWaiting p q) l where
  ok := h.ok.sublist (removeWaiting_sublist p q)
  waits e he := h.waits e ((removeWaiting_sublist p q).mem he)
  calm e he := h.calm e ((removeWaiting_sublist p q).mem he)
  reports := (filter_removeWaiting hp q).trans h.reports

theorem anyWaiting_removeWaiting (p : TxFrame → Bool) (q : List QEntry) : anyWaiting p (removeWaiting p q) = false := by
  simp only [anyWaiting, removeWaiting, List.any_eq_false, List.mem_filter]
  rintro e ⟨-, he⟩
  cases hs : e.sending <;> simp_all

/-- A claim or a STATUS enters without the loss of a REPORT. -/
theorem Told.other (h : Told q l) (hl : l.length ≤ 4) (hr : f.isReport = false) (hs : f.isSafety = false)
    (hy : f.isYield = false) : Told (enqueueQueue f q) l := by
  refine ⟨h.ok.enqueue f, fun e he => ?_, fun e he => ?_, ?_⟩
  · rcases mem_enqueueQueue he with rfl | he
    · rfl
    · exact h.waits e he
  · rcases mem_enqueueQueue he with rfl | he
    · exact ⟨hs, hy⟩
    · exact h.calm e he
  · rw [← h.reports]
    cases f with
    | lower p group hold =>
      have hw := h.remove (p := TxFrame.isRaise p) fun _ => isReport_of_isRaise
      refine (filter_putFrame hr (fun _ => isReport_of_isLower) fun hno => ?_).trans
        (filter_removeWaiting (fun _ => isReport_of_isRaise) q)
      have := hw.length_of_none (k := .claim p) (by simp) (waitingOf_claim_eq_zero hno (anyWaiting_removeWaiting _ q))
      omega
    | raise p group hold =>
      simp only [enqueueQueue]
      split
      · rfl
      · next hlow =>
        refine filter_putFrame hr (fun _ => isReport_of_isRaise) fun hno => ?_
        have := h.length_of_none (k := .claim p) (by simp)
          (waitingOf_claim_eq_zero (Bool.eq_false_of_not_eq_true hlow) hno)
        omega
    | status =>
      refine filter_putFrame hr (fun _ => isReport_of_isStatus) fun hno => ?_
      have := h.length_of_none (k := .status) (by simp) (anyWaiting_eq_false (k := .status).1 hno)
      omega
    | trip | tripClear => simp [TxFrame.isSafety, TxFrame.cls] at hs
    | yields => simp [TxFrame.isYield, TxFrame.cls] at hy
    | result | notice | reading => simp [TxFrame.isReport, TxFrame.cls] at hr

/-! ### Operations -/

/-- From `s` to `t` the REPORTs `l` are raised, in this order; of the line nothing but the queue changes, and no pool comes to
be decided again. -/
structure Tells (l : List TxFrame) (s t : State) : Prop where
  still  : t.line.still = s.line.still
  number : unnumbered t = unnumbered s
  decided : t.share.redecide = s.share.redecide
  queue  : unnumbered s = false → ∀ r : List TxFrame, r.length + l.length ≤ 4 → Told s.line.queue r →
    Told t.line.queue (r ++ l)

variable {s t u : State} {l' : List TxFrame}

theorem Tells.refl (s : State) : Tells [] s s := ⟨rfl, rfl, rfl, fun _ r _ h => by simpa using h⟩

theorem Tells.trans (h : Tells l s t) (h' : Tells l' t u) : Tells (l ++ l') s u where
  still := h'.still.trans h.still
  number := h'.number.trans h.number
  decided := h'.decided.trans h.decided
  queue hn r hl hr := by
    rw [List.length_append] at hl
    rw [← List.append_assoc]
    exact h'.queue (h.number.trans hn) (r ++ l) (by rw [List.length_append]; omega) (h.queue hn r (by omega) hr)

/-- What follows without a change of the line, of the number or of the pools to be decided again. -/
theorem Tells.same (h : Tells l s t) (hl : u.line = t.line) (hn : unnumbered u = unnumbered t)
    (hd : u.share.redecide = t.share.redecide) : Tells l s u where
  decided := hd.trans h.decided
  still := by rw [hl]; exact h.still
  number := hn.trans h.number
  queue := by rw [hl]; exact h.queue

/-- In a numbered part with an empty queue the REPORTs are those raised. -/
theorem Tells.told (h : Tells l s t) (hn : unnumbered s = false) (hq : s.line.queue = []) (hl : l.length ≤ 4) :
    Told t.line.queue l :=
  h.queue hn [] (by simpa using hl) (by rw [hq]; exact .nil)

theorem Told.reportsAre {t : State} (h : Told t.line.queue l) : ReportsAre t l := h.reports

theorem Told.queued {t : State} (h : Told t.line.queue l) (hf : f ∈ l) : Queued f t := by
  have : (⟨f, false⟩ : QEntry) ∈ t.line.queue.filter (fun e => e.frame.isReport) := by
    rw [h.reports]
    exact List.mem_map.2 ⟨f, hf, rfl⟩
  exact (List.mem_filter.1 this).1

protected theorem Tells.report (h : Tells l s t) (hf : f.isReport = true) : Tells (l ++ [f]) s (enqueue f t) where
  still := by unfold enqueue; split; exacts [h.still, h.still]
  number := by unfold enqueue; split; exacts [h.number, h.number]
  decided := by unfold enqueue; split; exacts [h.decided, h.decided]
  queue hn r hl hr := by
    have hnt : ¬ unnumbered t = true := by simp [h.number, hn]
    rw [List.length_append, List.length_singleton] at hl
    rw [enqueue, if_neg hnt, ← List.append_assoc]
    exact (h.queue hn r (by omega) hr).report (by rw [List.length_append]; omega) hf

protected theorem Tells.other (h : Tells l s t) (hr : f.isReport = false) (hs : f.isSafety = false)
    (hy : f.isYield = false) : Tells l s (enqueue f t) where
  still := by unfold enqueue; split; exacts [h.still, h.still]
  number := by unfold enqueue; split; exacts [h.number, h.number]
  decided := by unfold enqueue; split; exacts [h.decided, h.decided]
  queue hn r hl hr' := by
    have hnt : ¬ unnumbered t = true := by simp [h.number, hn]
    rw [enqueue, if_neg hnt]
    exact (h.queue hn r hl hr').other (by rw [List.length_append]; omega) hr hs hy

protected theorem Tells.otherShare (h : Tells l s t) (hr : f.isReport = false) (hs : f.isSafety = false)
    (hy : f.isYield = false) : Tells l s (enqueueShare f t) := by
  unfold enqueueShare
  split
  · exact h.other hr hs hy
  · exact h

protected theorem Tells.noticeAt {code : NoticeCode} {index detail : Nat} (h : Tells l s t) :
    Tells (l ++ [.notice code (noticeTag t.recipe) index detail]) s (noticeAt code index detail t) := h.report rfl

protected theorem Tells.notice {code : NoticeCode} {detail : Nat} (h : Tells l s t) :
    Tells (l ++ [.notice code (noticeTag t.recipe) t.recipe.cur detail]) s (notice code detail t) := h.noticeAt

/-- A notice of a program whose tag and index are known. -/
theorem Tells.noticeOf {code : NoticeCode} {tag index detail : Nat} (h : Tells l s t)
    (ht : noticeTag t.recipe = tag) (hi : t.recipe.cur = index) :
    Tells (l ++ [.notice code tag index detail]) s (Machine.notice code detail t) := by
  subst ht hi
  exact h.notice

protected theorem Tells.respond {kind : CmdKind} {code : ResultCode} {detail : Nat} (h : Tells l s t) :
    Tells (l ++ [.result kind code detail]) s (respond kind code detail t) := h.report rfl

protected theorem Tells.lower {p : Pool} {group hold : Nat} (h : Tells l s t) :
    Tells l s (enqueueShare (.lower p group hold) t) := h.otherShare rfl rfl rfl

protected theorem Tells.raise {p : Pool} {group hold : Nat} (h : Tells l s t) :
    Tells l s (enqueueShare (.raise p group hold) t) := h.otherShare rfl rfl rfl

protected theorem Tells.dropRaise {p : Pool} (h : Tells l s t) : Tells l s (dropRaise p t) where
  still := h.still
  number := h.number
  decided := h.decided
  queue hn r hl hr := (h.queue hn r hl hr).remove fun _ => isReport_of_isRaise

/-! ### Claims -/

protected theorem Tells.lowerHold {p : Pool} {v : Nat} (h : Tells l s t) : Tells l s (lowerHold p v t) := by
  unfold Machine.lowerHold
  split
  · cases p <;> exact Tells.lower (h.same rfl rfl rfl)
  · exact h

protected theorem Tells.evalWater {p : Pool} (h : Tells l s t) : Tells l s (evalWater p t) := by
  unfold Machine.evalWater
  split
  · exact h.raise
  · exact h

protected theorem Tells.wantInlet (h : Tells l s t) : Tells l s (wantInlet t) := by
  unfold Machine.wantInlet
  split
  · exact h
  · exact Tells.evalWater (h.same rfl rfl rfl)

protected theorem Tells.wantDrain (h : Tells l s t) : Tells l s (wantDrain t) := by
  unfold Machine.wantDrain
  split
  · exact h
  · exact Tells.evalWater (h.same rfl rfl rfl)

protected theorem Tells.releaseWater {p : Pool} (h : Tells l s t) : Tells l s (releaseWater p t) := by
  unfold Machine.releaseWater
  split
  · exact h.lowerHold
  · exact h.dropRaise

protected theorem Tells.unwantInlet (h : Tells l s t) : Tells l s (unwantInlet t) := by
  unfold Machine.unwantInlet
  split
  · exact Tells.releaseWater (h.same rfl rfl rfl)
  · exact h

protected theorem Tells.unwantDrain (h : Tells l s t) : Tells l s (unwantDrain t) := by
  unfold Machine.unwantDrain
  split
  · exact Tells.releaseWater (h.same rfl rfl rfl)
  · exact h

protected theorem Tells.queueStatus (h : Tells l s t) : Tells l s (queueStatus t) :=
  (h.otherShare (f := .status) rfl rfl rfl).same rfl rfl (by simp [Machine.queueStatus])

/-! ### The generator -/

protected theorem Tells.beginFill {kind : FillKind} {budget : Nat} (h : Tells l s t) :
    Tells l s (beginFill kind budget t) := Tells.wantInlet (h.same rfl rfl rfl)

protected theorem Tells.clearFill (h : Tells l s t) : Tells l s (clearFill t) := Tells.unwantInlet (h.same rfl rfl rfl)

protected theorem Tells.beginDrain (h : Tells l s t) : Tells l s (beginDrain t) := Tells.wantDrain (h.same rfl rfl rfl)

protected theorem Tells.clearDrain (h : Tells l s t) : Tells l s (clearDrain t) := Tells.unwantDrain (h.same rfl rfl rfl)

protected theorem Tells.enterDraining (h : Tells l s t) : Tells l s (enterDraining t) :=
  Tells.beginDrain (h.same rfl rfl rfl)

protected theorem Tells.endCookingFill (h : Tells l s t) : Tells l s (endCookingFill t) := h.clearFill.same rfl rfl rfl

protected theorem Tells.enterFilling (h : Tells l s t) : Tells l s (enterFilling t) := by
  have hb : Tells l s (beginFill .cooking cookingBudget (t.setSteam { t.steam with gen := .filling })) :=
    Tells.beginFill (h.same rfl rfl rfl)
  unfold Machine.enterFilling
  dsimp only
  split
  · exact hb.endCookingFill
  · exact hb

protected theorem Tells.beginTopUp (h : Tells l s t) : Tells l s (beginTopUp t) := by
  unfold Machine.beginTopUp
  dsimp only
  split
  · exact h.beginFill.clearFill
  · exact h.beginFill

protected theorem Tells.genFromLevels (h : Tells l s t) : Tells l s (genFromLevels t) := by
  unfold Machine.genFromLevels
  split <;> exact h.same rfl rfl rfl

protected theorem Tells.drainIfCool (h : Tells l s t) : Tells l s (drainIfCool t) := by
  unfold Machine.drainIfCool
  split
  · exact h.enterDraining
  · exact h

protected theorem Tells.endSteam (h : Tells l s t) : Tells l s (endSteam t) := Tells.drainIfCool (h.clearFill.same rfl rfl rfl)

protected theorem Tells.judgeSteam (h : Tells l s t) : Tells l s (judgeSteam t) := by
  unfold Machine.judgeSteam
  split
  · exact h
  · split
    · exact h.enterFilling
    · exact h.endSteam
    · exact h.endSteam
    · exact h.endSteam
    · split
      · exact h.same rfl rfl rfl
      · exact h.enterFilling
    · exact h

protected theorem Tells.judgeBoil (h : Tells l s t) : Tells l s (judgeBoil t) := by
  unfold Machine.judgeBoil
  split
  · exact h
  · split
    · split
      · exact h.same rfl rfl rfl
      · exact h
    · exact h.drainIfCool
    all_goals exact h

protected theorem Tells.settle (h : Tells l s t) : Tells l s (settle t) := by
  have hj := h.judgeSteam
  exact hj.same (by simp [Machine.settle, settleBase]) (by simp [Machine.settle, settleBase, unnumbered])
    (by simp [Machine.settle, settleBase])

protected theorem Tells.enterFault {kind : FaultKind} (h : Tells l s t) :
    Tells (l ++ [.notice .steamWithheld (noticeTag t.recipe) t.recipe.cur
      (Withheld.code .fault * 256 + faultKindCode (some kind))]) s (enterFault kind t) :=
  Tells.noticeOf (h.clearFill.clearDrain.same rfl rfl rfl) (by simp) (by simp)

protected theorem Tells.leaveFault (h : Tells l s t) : Tells l s (leaveFault t) := by
  unfold Machine.leaveFault
  split
  · exact h.genFromLevels
  · exact h

protected theorem Tells.clearRequest (h : Tells l s t) : Tells l s (clearRequest t) :=
  h.clearFill.clearDrain.same rfl rfl rfl

protected theorem Tells.enterService (h : Tells l s t) : Tells l s (enterService t) := h.clearRequest.same rfl rfl rfl

protected theorem Tells.releaseGenerator (h : Tells l s t) : Tells l s (releaseGenerator t) :=
  h.clearRequest.genFromLevels

protected theorem Tells.askWrite (h : Tells l s t) : Tells l s (askWrite t) := by
  unfold Machine.askWrite
  split <;> exact h.same rfl rfl rfl

protected theorem Tells.setAcid {b : Bool} (h : Tells l s t) : Tells l s (setAcid b t) :=
  Tells.askWrite (h.same rfl rfl rfl)

protected theorem Tells.completionStep (h : Tells l s t) : Tells l s (completionStep t) :=
  Tells.askWrite (h.same rfl rfl rfl)

/-! ### Climate and program -/

protected theorem Tells.leaveClimate (h : Tells l s t) : Tells l s (leaveClimate t) :=
  h.same (by simp) (by simp [unnumbered]) (by simp)

protected theorem Tells.forceZero (h : Tells l s t) : Tells l s (forceZero t) := h.same (by simp) (by simp [unnumbered]) (by simp)

protected theorem Tells.handOver {k : HeatStage} (h : Tells l s t) : Tells l s (handOver k t) := h.same rfl rfl rfl

protected theorem Tells.barHeat (h : Tells l s t) : Tells l s (barHeat t) := h.same (by simp) (by simp [unnumbered]) (by simp)

protected theorem Tells.finishProgram (h : Tells l s t) :
    Tells (l ++ [.notice .programFinished (noticeTag t.recipe) t.recipe.lastHeat 0]) s (finishProgram t) :=
  Tells.noticeOf (Tells.leaveClimate (h.same rfl rfl rfl)) (by simp [noticeTag]) (by simp)

/-- R136: the notice of a program that faults. -/
def faultNotice (cause : ProgramFault) (s : State) : List TxFrame :=
  if programActive s.recipe then [.notice .programFault (noticeTag s.recipe) s.recipe.lastHeat cause.code] else []

protected theorem Tells.faultProgram {cause : ProgramFault} (h : Tells l s t) :
    Tells (l ++ faultNotice cause t) s (faultProgram cause t) := by
  unfold Machine.faultProgram faultNotice
  split
  · exact Tells.noticeOf (Tells.leaveClimate (h.same rfl rfl rfl)) (by simp [noticeTag]) (by simp)
  · simpa using h

/-! ### The descale -/

protected theorem Tells.enterPhase {phase : Phase} {rinse : Nat} {cause : DescaleCause} (h : Tells l s t) :
    Tells (l ++ [.notice .descalePhase (noticeTag t.recipe) t.recipe.cur (descaleCode phase rinse * 256 + cause.code)]) s
      (enterPhase phase rinse cause t) :=
  Tells.noticeOf (h.same rfl rfl rfl) rfl rfl

protected theorem Tells.giveRequest {r : ServiceRequest} (h : Tells l s t) : Tells l s (giveRequest r t) := by
  have hr : Tells l s ((clearRequest t).setSteam { (clearRequest t).steam with request := r }) :=
    h.clearRequest.same rfl rfl rfl
  cases r with
  | fill v => exact hr.beginFill
  | drain => exact hr.beginDrain
  | heat | hold | none => exact hr

protected theorem Tells.endPhase {phase : Phase} {cause : DescaleCause} (h : Tells l s t) :
    Tells (l ++ [.notice .descalePhase (noticeTag t.recipe) t.recipe.cur (descaleCode phase 0 * 256 + cause.code)]) s
      (endPhase phase cause t) :=
  Tells.noticeOf (h.releaseGenerator.same rfl rfl rfl) (by simp) (by simp)

/-- R112, R114: the notice of a descale that faults. -/
def descaleNotice (cause : DescaleCause) (s : State) : List TxFrame :=
  if descaleActive s.descale then
    [.notice .descalePhase (noticeTag s.recipe) s.recipe.cur ((if s.steam.acid then 17 else 0) * 256 + cause.code)]
  else []

protected theorem Tells.descaleFault {cause : DescaleCause} (h : Tells l s t) :
    Tells (l ++ descaleNotice cause t) s (descaleFault cause t) := by
  unfold Machine.descaleFault descaleNotice
  split
  · have := h.endPhase (phase := if t.steam.acid then .holdAcid else .off) (cause := cause)
    cases ha : t.steam.acid <;> simpa [ha, descaleCode] using this
  · simpa using h

end Sys2Proof.Machine

/-!
The reception of a frame on a free line (`LineFree`), from its opening mark to what settles behind its closing mark, said once
for the frames of the line and for the commands of the partner panel (R62, R69, R155, R157).
-/
namespace Sys2Proof.Machine

/-! ### The state in which a frame has its effect -/

/-- A frame from station `n` has been received and its sender heard: what the frame then finds. -/
structure HeardFrom (n : Nat) (driven : Bool) (s h : State) : Prop where
  line   : h.line = { s.line with
    state := .busy, breakSeen := false, malformed := 0, verdictDriven := driven
    txBytes := h.line.txBytes, queue := stopQueue s.line.queue }
  share  : SenderHeard n s h
  stands : OnlyTouches [.line, .share] s h

variable {s t u h : State} {n : Nat} {driven : Bool} {l : List TxFrame}

/-- On a free line a frame from another station is received without more ado. -/
theorem heardFrom_takeFrame (hf : LineFree s) (hn : n ≠ s.startup.station) :
    HeardFrom n driven s (takeFrame n driven (beginReceive s)) := by
  obtain ⟨-, hraise, -, hrest⟩ := hf
  rw [beginReceive_of_free hraise hrest, takeFrame_of_other (by simpa using hn)]
  refine ⟨rfl, ⟨rfl, rfl⟩, rfl, fun b hb => ?_⟩
  cases b <;> first | rfl | exact absurd hb (by decide)

/-- The partner panel is another station. -/
theorem heardFrom_commandHeard (hf : LineFree s) : HeardFrom s.startup.partner false s (commandHeard s) := by
  refine heardFrom_takeFrame hf fun hp => ?_
  have hn := hf.1
  simp [unnumbered, hp] at hn

theorem HeardFrom.blocks (hh : HeardFrom n driven s h) :
    h.pending = s.pending ∧ h.startup = s.startup ∧ h.climate = s.climate ∧ h.power = s.power ∧ h.steam = s.steam
      ∧ h.descale = s.descale ∧ h.recipe = s.recipe ∧ h.superv = s.superv :=
  ⟨hh.stands.1, hh.stands.2 .startup (by decide), hh.stands.2 .climate (by decide), hh.stands.2 .power (by decide),
    hh.stands.2 .steam (by decide), hh.stands.2 .descale (by decide), hh.stands.2 .recipe (by decide),
    hh.stands.2 .superv (by decide)⟩

theorem HeardFrom.redecide (hf : LineFree s) (hh : HeardFrom n driven s h) : h.share.redecide = PerPool.all false := by
  rw [hh.share.1]
  exact hf.2.2.1

/-- A queue without a frame being sent stands as a frame is received. -/
theorem HeardFrom.queue (hh : HeardFrom n driven s h) (hs : sendingFrame s = none) : h.line.queue = s.line.queue := by
  rw [hh.line]
  exact stopQueue_of_none (by simpa [sendingFrame] using hs)

theorem sendingFrame_of_empty (hq : s.line.queue = []) : sendingFrame s = none := by simp [sendingFrame, hq]

/-! ### The closing mark -/

/-- At the closing mark the line is IDLE, where no pool waits to be decided again. -/
theorem markClosed_of_tells (hr : h.share.redecide = PerPool.all false) (hu : Tells l h u) :
    markClosed u = u.setLine { u.line with state := .idle, breakSeen := false } :=
  markClosed_of_none (hu.decided.trans hr)

/-- R62: behind its closing mark a frame leaves the line IDLE, and the malformation count 0. -/
theorem HeardFrom.closed (hh : HeardFrom n driven s h) (hr : h.share.redecide = PerPool.all false) (hu : Tells l h u) :
    FrameClosed driven s (settle (markClosed u)) := by
  rw [markClosed_of_tells hr hu]
  have hs := (Tells.refl (u.setLine { u.line with state := .idle, breakSeen := false })).settle.still
  have hl := hu.still
  have hline := hh.line
  simp only [Line.still_eq_iff, FrameClosed] at *
  rw [hs]
  simp only [State.setLine_line]
  rw [hl, hline]

/-- The REPORTs raised by a frame that finds an empty queue. -/
theorem HeardFrom.told (hf : LineFree s) (hh : HeardFrom n driven s h) (hu : Tells l h u) (hq : s.line.queue = [])
    (hl : l.length ≤ 4) : Told (settle (markClosed u)).line.queue l := by
  have hn : unnumbered h = false := by
    obtain ⟨-, hs, -⟩ := hh.blocks
    have := hf.1
    simpa [unnumbered, hs] using this
  have hu' : Told u.line.queue l :=
    hu.told hn (by rw [hh.queue (sendingFrame_of_empty hq), hq]) hl
  rw [markClosed_of_tells (hh.redecide hf) hu]
  have := (Tells.refl (u.setLine { u.line with state := .idle, breakSeen := false })).settle.queue
    (hu.number.trans hn) l (by simpa using hl) hu'
  simpa using this

/-! ### Operations that leave the shares and the generator -/

/-- The shares stand, of the line the queue alone changes, and generator, scheduler and descale change in what settles at
most. -/
structure Aside (s t : State) : Prop where
  still   : t.line.still = s.line.still
  share   : t.share = s.share
  settles : SettlesOnly s t

theorem SettlesOnly.refl (s : State) : SettlesOnly s s := ⟨rfl, rfl, rfl⟩

theorem SettlesOnly.trans (h1 : SettlesOnly s t) (h2 : SettlesOnly t u) : SettlesOnly s u := by
  obtain ⟨ho, ha, hw⟩ := h1
  obtain ⟨ho', ha', hw'⟩ := h2
  unfold OutputsOnly ActuatorsOnly WaitOnly at *
  exact ⟨by unfold OutputsOnly; rw [ho', ho], by unfold ActuatorsOnly; rw [ha', ha], by unfold WaitOnly; rw [hw', hw]⟩

theorem SettlesOnly.of_eq (hs : u.steam = t.steam) (hp : u.power = t.power) (hd : u.descale = t.descale) :
    SettlesOnly t u := by
  simp [SettlesOnly, OutputsOnly, ActuatorsOnly, WaitOnly, hs, hp, hd]

theorem Aside.refl (s : State) : Aside s s := ⟨rfl, rfl, .refl s⟩

theorem Aside.trans (h1 : Aside s t) (h2 : Aside t u) : Aside s u :=
  ⟨h2.still.trans h1.still, h2.share.trans h1.share, h1.settles.trans h2.settles⟩

/-- What changes none of these blocks. -/
theorem Aside.same (ha : Aside s t) (hl : u.line = t.line) (hx : u.share = t.share) (hs : u.steam = t.steam)
    (hp : u.power = t.power) (hd : u.descale = t.descale) : Aside s u :=
  ha.trans ⟨by rw [hl], hx, .of_eq hs hp hd⟩

protected theorem Aside.enqueue {f : TxFrame} (ha : Aside s t) : Aside s (enqueue f t) :=
  ha.trans ⟨by unfold Machine.enqueue; split <;> rfl, by simp, .of_eq (by simp) (by simp) (by simp)⟩

protected theorem Aside.respond {kind : CmdKind} {code : ResultCode} {detail : Nat} (ha : Aside s t) :
    Aside s (respond kind code detail t) := ha.enqueue

protected theorem Aside.notice {code : NoticeCode} {detail : Nat} (ha : Aside s t) :
    Aside s (notice code detail t) := ha.enqueue

/-- The program, the configuration and the setup state decide nothing new about steam. -/
def SteamAlike (s t : State) : Prop :=
  steamWanted t = steamWanted s ∧ t.startup.restarting = s.startup.restarting ∧ t.startup.setup = s.startup.setup

theorem SteamAlike.refl (s : State) : SteamAlike s s := ⟨rfl, rfl, rfl⟩

theorem SteamAlike.trans (h1 : SteamAlike s t) (h2 : SteamAlike t u) : SteamAlike s u :=
  ⟨h2.1.trans h1.1, h2.2.1.trans h1.2.1, h2.2.2.trans h1.2.2⟩

theorem SettlesOnly.steam (hs : SettlesOnly s t) :
    t.steam.gen = s.steam.gen ∧ t.steam.scale = s.steam.scale ∧ t.steam.acid = s.steam.acid := by
  obtain ⟨ho, -, -⟩ := hs
  unfold OutputsOnly at ho
  rw [ho]
  exact ⟨rfl, rfl, rfl⟩

/-- Steam is wanted as before where generator, program and configuration stand. -/
theorem steamAlike_of_settles (hs : SettlesOnly s t) (hu : t.startup = s.startup)
    (hr : programActive t.recipe = programActive s.recipe)
    (hc : programActive s.recipe = true → t.recipe.cur = s.recipe.cur ∧ t.recipe.store = s.recipe.store) :
    SteamAlike s t := by
  obtain ⟨-, hsc, ha⟩ := hs.steam
  exact ⟨steamWanted_congr hr hc hsc ha (by rw [hu]), by rw [hu], by rw [hu]⟩

theorem Aside.judgeSteam (ha : Aside s t) (hg : GenSettled s) (hw : SteamAlike s t) : judgeSteam t = t :=
  judgeSteam_of_settled (genSettled_congr hg hw.1 ha.settles.steam.1 hw.2.1 hw.2.2)

protected theorem Aside.settle (ha : Aside s t) (hj : Machine.judgeSteam t = t) : Aside s (settle t) := by
  obtain ⟨hl, hx, hs, -⟩ := settle_of_fixed hj
  exact ha.trans ⟨by rw [hl], hx, hs⟩

/-- `settle` leaves the program but for the count of a withheld reason. -/
theorem settle_recipe (s : State) : (settle s).recipe = { s.recipe with withheldMs := (settle s).recipe.withheldMs } := by
  unfold settle
  generalize hv : settleBase (settleOutputs (judgeSteam s)) = v
  have hr : v.recipe = s.recipe := by subst hv; simp [settleBase]
  unfold settleWaits
  dsimp only
  (repeat' split) <;> simp [hr]

theorem SteamAlike.settle (hw : SteamAlike s t) (hj : Machine.judgeSteam t = t) : SteamAlike s (settle t) := by
  have hs := (settle_of_fixed hj).2.2.1
  refine hw.trans (steamAlike_of_settles hs (by simp) ?_ fun _ => by simp)
  simp [programActive]

/-! ### A frame with an effect aside -/

/-- What is left of a frame whose effect leaves the shares and the generator: nothing but the closing mark, the sender's
entry and what settles. -/
theorem HeardFrom.aside (hf : LineFree s) (hg : GenSettled s) (hh : HeardFrom n driven s h) (ha : Aside h u)
    (hw : SteamAlike h u) :
    FrameClosed driven s (settle (markClosed u)) ∧ SenderHeard n s (settle (markClosed u))
      ∧ SettlesOnly s (settle (markClosed u)) ∧ (settle (markClosed u)).line.queue = u.line.queue
      ∧ (settle (markClosed u)).recipe
          = { u.recipe with withheldMs := (settle (markClosed u)).recipe.withheldMs }
      ∧ (settle (markClosed u)).startup = u.startup ∧ (settle (markClosed u)).climate = u.climate
      ∧ (settle (markClosed u)).superv = u.superv ∧ (settle (markClosed u)).pending = u.pending := by
  obtain ⟨hp, hs, hc, hpo, hst, hd, hr, hv⟩ := hh.blocks
  have hred := hh.redecide hf
  have hm : markClosed u = u.setLine { u.line with state := .idle, breakSeen := false } :=
    markClosed_of_none (by rw [ha.share, hred])
  have hgh : GenSettled h := genSettled_congr hg
    (steamWanted_congr (by rw [hr]) (fun _ => by rw [hr]; exact ⟨rfl, rfl⟩) (by rw [hst]) (by rw [hst]) (by rw [hs]))
    (by rw [hst]) (by rw [hs]) (by rw [hs])
  have hgu : GenSettled u := genSettled_congr hgh hw.1 ha.settles.steam.1 hw.2.1 hw.2.2
  have hj : judgeSteam (markClosed u) = markClosed u := by
    rw [hm]
    exact judgeSteam_of_settled (genSettled_congr hgu rfl rfl rfl rfl)
  obtain ⟨hline, hshare, hset, -⟩ := settle_of_fixed hj
  have hall : SettlesOnly s (settle (markClosed u)) := by
    refine SettlesOnly.trans (SettlesOnly.of_eq hst hpo hd) (ha.settles.trans (SettlesOnly.trans ?_ hset))
    rw [hm]
    exact .of_eq rfl rfl rfl
  have hrec := settle_recipe (markClosed u)
  rw [show (markClosed u).recipe = u.recipe by rw [hm]; rfl] at hrec
  refine ⟨?_, ?_, hall, by rw [hline, hm]; rfl, hrec, ?_, ?_, ?_, ?_⟩
  · have hl := (Line.still_eq_iff.1 ha.still).trans (by rw [hh.line])
    unfold FrameClosed
    rw [hline, hm]
    simp only [State.setLine_line]
    rw [hl]
  · have hx : (settle (markClosed u)).share = h.share := by rw [hshare, hm]; exact ha.share
    unfold SenderHeard
    rw [hx]
    exact hh.share
  all_goals simp [hm]

/-! ### A panel command -/

/-- What a command of the partner panel leaves behind it that its owner answers aside. -/
structure PanelAnswered (s u t : State) : Prop where
  frame   : PanelFrame s t
  queue   : t.line.queue = u.line.queue
  recipe  : t.recipe = { u.recipe with withheldMs := t.recipe.withheldMs }
  startup : t.startup = u.startup
  climate : t.climate = u.climate
  superv  : t.superv = u.superv
  pending : t.pending = s.pending

/-- The command as `judgeCommand` hands it on, in the state in which it has been received. -/
theorem takeCommand_of_lineFree (hf : LineFree s) (k : CmdKind) (owner : State → State) :
    takeCommand k owner s = settle (markClosed (judgeCommand k owner (commandHeard s))) := by
  have hn := hf.1
  simp only [takeCommand, hn]
  rfl

theorem panelAnswered (hf : LineFree s) (hg : GenSettled s) {k : CmdKind} {owner : State → State}
    (ho : judgeCommand k owner (commandHeard s) = u) (ha : Aside (commandHeard s) u)
    (hw : SteamAlike (commandHeard s) u) (hp : u.pending = s.pending) : PanelAnswered s u (takeCommand k owner s) := by
  rw [takeCommand_of_lineFree hf, ho]
  obtain ⟨h1, h2, h3, h4, h5, h6, h7, h8, h9⟩ := (heardFrom_commandHeard hf).aside hf hg ha hw
  exact ⟨⟨h1, h2, h3⟩, h4, h5, h6, h7, h8, h9.trans hp⟩

theorem judgeCommand_of_panelFree (hf : PanelFree s) (k : CmdKind) (owner : State → State) :
    judgeCommand k owner (commandHeard s) = owner (commandHeard s) := by
  obtain ⟨-, hs, -, -, -, -, -, hv⟩ := (heardFrom_commandHeard hf.1).blocks
  simp [judgeCommand, hs, hv, hf.2.1, hf.2.2]

/-- R166: what a numbered part queues with a RESULT. -/
theorem queued_respond (hn : unnumbered s = false) (kind : CmdKind) (code : ResultCode) (detail : Nat) :
    Queued (.result kind code detail) (respond kind code detail s) := by
  simp [Queued, respond, enqueue, hn, setQueue, enqueueQueue, addReport, addFrame, mem_insertFrame]

theorem commandHeard_numbered (hf : LineFree s) : unnumbered (commandHeard s) = false := by
  obtain ⟨-, hs, -⟩ := (heardFrom_commandHeard hf).blocks
  have := hf.1
  simpa [unnumbered, hs] using this

end Sys2Proof.Machine

/-!
Commands of the partner panel that are refused (R153, R155, R159), the SETUP sections (R167 to R169) and RELAY_RESTORE (R152).
-/
namespace Sys2Proof.Machine

variable {s u : State} {k : CmdKind}

/-! ### Commands and their owners -/

/-- R156: each well-formed command of the panel is taken for its owner. -/
theorem exec_panelCommand {c : Instr} (hk : panelKind c = some k) (hw : c.wellFormed = true) :
    ∃ owner, ∀ s, exec c s = .next (takeCommand k owner s) := by
  have hsized : ∀ {ok : Bool} {owner : State → State} {s : State}, ok = true →
      takeSized ok k owner s = takeCommand k owner s := fun h => if_pos h
  cases c with
  | stage index record =>
    cases hk; exact ⟨stageCommand index record, fun s => congrArg _ (hsized hw)⟩
  | runManual record => cases hk; exact ⟨runManual record, fun s => congrArg _ (hsized hw)⟩
  | setupSupply fields => cases hk; exact ⟨setupCommand 0 fields, fun s => congrArg _ (hsized hw)⟩
  | setupChannel sec fields =>
    cases hk
    simp only [Instr.wellFormed, Bool.and_eq_true] at hw
    exact ⟨setupCommand sec fields, fun s => congrArg _ (hsized hw.1.1)⟩
  | setupEnd fields => cases hk; exact ⟨setupCommand 255 fields, fun s => congrArg _ (hsized hw)⟩
  | query | start | pause | resume | abort | finishAck | descaleStart | descaleConfirm | relayRestore | restart =>
    cases hk; exact ⟨_, fun s => rfl⟩
  | loadOpen | answer => cases hk; exact ⟨_, fun s => rfl⟩
  | _ => cases hk

/-- A program that stands, and every block but those that a panel command touches beside its own effect. -/
theorem PanelAnswered.stands {t : State} (h : PanelAnswered s u t) (hr : u.recipe = s.recipe) (hs : u.startup = s.startup)
    (hc : u.climate = s.climate) (hv : u.superv = s.superv) :
    ProgramStands s t ∧ OnlyTouches [.power, .share, .line, .steam, .descale, .recipe] s t :=
  ⟨by unfold ProgramStands; rw [← hr]; exact h.recipe,
    onlyTouches_descaling h.pending (h.startup.trans hs) (h.climate.trans hc) (h.superv.trans hv)⟩

/-- A command that is answered by a RESULT alone. -/
theorem panelResult (hf : LineFree s) (hg : GenSettled s) {owner : State → State} {kind : CmdKind} {code : ResultCode}
    {detail : Nat} (ho : judgeCommand k owner (commandHeard s) = respond kind code detail (commandHeard s)) :
    PanelFrame s (takeCommand k owner s) ∧ ProgramStands s (takeCommand k owner s)
      ∧ OnlyTouches [.power, .share, .line, .steam, .descale, .recipe] s (takeCommand k owner s)
      ∧ (takeCommand k owner s).superv = s.superv
      ∧ Queued (.result kind code detail) (takeCommand k owner s) := by
  obtain ⟨hp, hs, hc, -, -, -, hr, hv⟩ := (heardFrom_commandHeard hf).blocks
  have h := panelAnswered hf hg ho (Aside.refl _).respond
    (steamAlike_of_settles ((Aside.refl _).respond).settles (by simp) (by simp) (by simp)) (by simp [hp])
  have hstands := h.stands (by simp [hr]) (by simp [hs]) (by simp [hc]) (by simp [hv])
  refine ⟨h.frame, hstands.1, hstands.2, by simp [h.superv, hv], ?_⟩
  unfold Queued
  rw [h.queue]
  exact queued_respond (commandHeard_numbered hf) kind code detail

/-- Settles O22: such a command is answered before its owner judges it. -/
theorem commandsRefusedUnderFaultOrRestart : Obligations.CommandsRefusedUnderFaultOrRestart := by
  intro s c k hf hg hw hk hq hcase
  obtain ⟨owner, hexec⟩ := exec_panelCommand hk hw
  obtain ⟨-, hs, -, -, -, -, -, hv⟩ := (heardFrom_commandHeard hf).blocks
  have ho : judgeCommand k owner (commandHeard s)
      = respond k (if s.superv.configFault then .refusedConfig else .refusedState) 0 (commandHeard s) := by
    cases hconf : s.superv.configFault with
    | true => simp [judgeCommand, hv, hconf, hq, noDetail]
    | false => simp [judgeCommand, hs, hv, hconf, hq, noDetail, hcase.resolve_left (by simp [hconf])]
  obtain ⟨h1, h2, h3, -, h5⟩ := panelResult hf hg ho
  exact ⟨_, hexec s, h5, h1, h2, h3⟩

/-! ### SETUP -/

/-- In the open window nothing of the generator is judged. -/
theorem genSettled_of_opened (h : s.startup.setup = .opened) : GenSettled s :=
  .inr (.inl (by simp [frozen, h]))

/-- The first check that fails is one of those made, and none fails where each holds. -/
theorem firstInvalid_eq_none {l : List (Bool × Nat)} : firstInvalid l = none ↔ ∀ x ∈ l, x.1 = true := by
  induction l with
  | nil => simp [firstInvalid]
  | cons x l ih =>
    obtain ⟨ok, off⟩ := x
    cases ok <;> simp [firstInvalid, ih]

theorem firstInvalid_mem {l : List (Bool × Nat)} {off : Nat} (h : firstInvalid l = some off) : off ∈ l.map (·.2) := by
  induction l with
  | nil => cases h
  | cons x l ih =>
    obtain ⟨ok, o⟩ := x
    cases ok with
    | false => cases h; simp
    | true => exact List.mem_cons_of_mem _ (ih h)

/-- R177: the fields of a SUPPLY section are read from its bytes. -/
theorem readSupply_bytes {v : Supply} (h : SupplyFits v) : readSupply v.bytes = v := by
  obtain ⟨hc, hw, hcap, hst, hb, hr, hv, hi, hd, hh, ht⟩ := h
  have htop := hr .top; have hbot := hr .bottom; have hring := hr .ring; have hboil := hr .boiler
  simp only [PerElement.get] at htop hbot hring hboil
  obtain ⟨cg, wg, cap, st, bl, ⟨rt, rb, rr, ro⟩, vn, ic, dc, ha, td⟩ := v
  simp only [readSupply, Supply.bytes, bytes2, List.cons_append, List.nil_append, Nat.reduceSub, List.drop_succ_cons,
    List.drop_zero, List.take_succ_cons, List.take_zero, bytesToNat, List.foldl_cons, List.foldl_nil, byteOf_toNat, Supply.mk.injEq, PerElement.mk.injEq]
  dsimp only at *
  refine ⟨?_, ?_, ?_, ?_, ?_, ⟨?_, ?_, ?_, ?_⟩, ?_, ?_, ?_, ?_, ?_⟩ <;> omega

/-- R168: every check of a SUPPLY section holds where its fields lie in their ranges. -/
theorem supplyChecks_hold (v : Supply) : firstInvalid (supplyChecks v) = none ↔ SupplyInRange v := by
  have hr : (∀ e, v.ratings.get e ≤ 400) ↔ v.ratings.top ≤ 400 ∧ v.ratings.bottom ≤ 400 ∧ v.ratings.ring ≤ 400
      ∧ v.ratings.boiler ≤ 400 :=
    ⟨fun h => ⟨h .top, h .bottom, h .ring, h .boiler⟩, fun h e => by cases e <;> simp [PerElement.get, h]⟩
  rw [firstInvalid_eq_none, SupplyInRange, hr]
  simp [supplyChecks, and_assoc]

theorem supplyChecks_offsets (v : Supply) {off : Nat} (h : firstInvalid (supplyChecks v) = some off) :
    1 ≤ off ∧ off < 19 := by
  have := firstInvalid_mem h
  simp [supplyChecks] at this
  omega

/-- R168: a SUPPLY section in the layout of R177 is valid where its fields lie in their ranges. -/
theorem judgeSupply_bytes {v : Supply} (h : SupplyFits v) :
    (SupplyInRange v → judgeSupply v.bytes = .valid v)
      ∧ (¬ SupplyInRange v → ∃ off, judgeSupply v.bytes = .refused off ∧ 1 ≤ off ∧ off < 19) := by
  simp only [judgeSupply, Supply.length_bytes, ne_eq, not_true, if_false, readSupply_bytes h, ← supplyChecks_hold]
  constructor
  · intro hv; rw [hv]
  · intro hv
    obtain ⟨off, hoff⟩ := Option.ne_none_iff_exists'.1 hv
    exact ⟨off, by rw [hoff], supplyChecks_offsets v hoff⟩

/-- R177: a limit is read from its two bytes. -/
theorem limitOf_limitBytes {c : Channel} {v : Int} (h1 : (channelRange c).1 ≤ v) (h2 : v ≤ (channelRange c).2) :
    limitOf c (bytesToNat (limitBytes v)) = v := by
  rw [limitBytes, bytesToNat_bytes2]
  cases c <;> simp only [channelRange, limitOf] at * <;> simp <;> omega

/-- R177: the two bytes of a limit as the section carries them. -/
theorem limitOf_sent (c : Channel) (hi lo : Byte) : limitOf c (bytesToNat [hi, lo]) = sentLimit c hi lo := by
  have hv : bytesToNat [hi, lo] = (hi ++ lo).toNat := by
    have := lo.isLt
    simp only [bytesToNat, List.foldl, BitVec.toNat_append]
    rw [← Nat.shiftLeft_add_eq_or_of_lt (by omega)]
    simp [Nat.shiftLeft_eq]
  rw [hv, sentLimit, limitOf]
  have := (hi ++ lo).isLt
  by_cases hc : c = .board
  · simp only [hc, true_and, if_true, BitVec.toInt_eq_toNat_cond]
    split <;> split <;> omega
  · simp [hc]

theorem channelOfSection_section (c : Channel) : channelOfSection (channelSection c) = some c := by
  cases c <;> rfl

/-- R169: every check of a CHANNEL section holds where its bytes are valid, and otherwise one of them fails. -/
theorem judgeChannel_of_length {c : Channel} {fields : List Byte} (hl : fields.length = 8) :
    (ChannelBytesValid c fields → judgeChannel c fields = .valid
        { enabled := (fields.getD 0 0).toNat == 1
          lowLimit := sentLimit c (fields.getD 1 0) (fields.getD 2 0)
          highLimit := sentLimit c (fields.getD 3 0) (fields.getD 4 0)
          lowCode := (fields.getD 5 0).toNat / 16, highCode := (fields.getD 5 0).toNat % 16
          lowMap := Consequence.ofCode ((fields.getD 6 0).toNat / 16)
          highMap := Consequence.ofCode ((fields.getD 6 0).toNat % 16)
          strikeLimit := (fields.getD 7 0).toNat })
      ∧ (¬ ChannelBytesValid c fields → ∃ off, judgeChannel c fields = .refused off ∧ 1 ≤ off ∧ off ≤ 8) := by
  match fields, hl with
  | [b0, b1, b2, b3, b4, b5, b6, b7], _ =>
    have hone : ∀ b : Byte, bytesToNat [b] = b.toNat := fun b => by simp [bytesToNat]
    simp only [judgeChannel, ChannelBytesValid, Nat.reduceSub, List.drop_succ_cons, List.drop_zero, List.take_succ_cons,
      List.take_zero, hone, limitOf_sent, List.getD_cons_zero, List.getD_cons_succ, List.length_cons, List.length_nil,
      Nat.reduceAdd, ne_eq, not_true, if_false]
    generalize sentLimit c b1 b2 = lo
    generalize sentLimit c b3 b4 = hi
    constructor
    · rintro ⟨h1, h2, h3, h4, h5, h6, h7⟩
      rw [firstInvalid_eq_none.2]
      simp only [List.mem_cons, List.not_mem_nil, or_false, forall_eq_or_imp, forall_eq, Bool.and_eq_true,
        decide_eq_true_eq]
      omega
    · intro h
      split
      · next off hoff =>
        have := firstInvalid_mem hoff
        simp at this
        exact ⟨off, rfl, by omega, by omega⟩
      · next hnone =>
        rw [firstInvalid_eq_none] at hnone
        simp only [List.mem_cons, List.not_mem_nil, or_false, forall_eq_or_imp, forall_eq, Bool.and_eq_true,
          decide_eq_true_eq] at hnone
        omega

theorem Consequence.ofCode_code (k : Consequence) : Consequence.ofCode k.code = k := by cases k <;> rfl

/-- R169, R177: a record in its ranges is sent by valid bytes, and they stand for it. -/
theorem judgeChannel_bytes {c : Channel} {r : ChannelRecord} (h : RecordInRange c r) :
    judgeChannel c r.bytes = .valid r := by
  obtain ⟨hlo, hlt, hhi, hlc, hhc, hs⟩ := h
  have hlow : sentLimit c (byteOf ((r.lowLimit % 65536).toNat / 256)) (byteOf (r.lowLimit % 65536).toNat) = r.lowLimit := by
    rw [← limitOf_sent]; exact limitOf_limitBytes hlo (by omega)
  have hhigh : sentLimit c (byteOf ((r.highLimit % 65536).toNat / 256)) (byteOf (r.highLimit % 65536).toNat) = r.highLimit := by
    rw [← limitOf_sent]; exact limitOf_limitBytes (by omega) hhi
  have hmap : ∀ k : Consequence, k.code ≤ 2 := fun k => by cases k <;> decide
  have h1 := hmap r.lowMap
  have h2 := hmap r.highMap
  have hb : bitNat r.enabled ≤ 1 := by cases r.enabled <;> decide
  have he : (bitNat r.enabled == 1) = r.enabled := by cases r.enabled <;> rfl
  rw [(judgeChannel_of_length (c := c) (fields := r.bytes) (by simp)).1]
  · simp only [ChannelRecord.bytes, limitBytes, bytes2, List.cons_append, List.nil_append, List.getD_cons_zero,
      List.getD_cons_succ, byteOf_toNat, hlow, hhigh]
    have e1 : (r.lowMap.code * 16 + r.highMap.code) % 256 / 16 = r.lowMap.code := by omega
    have e2 : (r.lowMap.code * 16 + r.highMap.code) % 256 % 16 = r.highMap.code := by omega
    have e3 : (r.lowCode * 16 + r.highCode) % 256 / 16 = r.lowCode := by omega
    have e4 : (r.lowCode * 16 + r.highCode) % 256 % 16 = r.highCode := by omega
    rw [e1, e2, e3, e4, Nat.mod_eq_of_lt (by omega), he, Nat.mod_eq_of_lt (by omega), Consequence.ofCode_code,
      Consequence.ofCode_code]
  · simp only [ChannelBytesValid, ChannelRecord.bytes, limitBytes, bytes2, List.cons_append, List.nil_append,
      List.getD_cons_zero, List.getD_cons_succ, byteOf_toNat, hlow, hhigh]
    omega

/-- In the open window a SETUP is judged by its section. -/
theorem judgeCommand_setup (hf : PanelFree s) (ho : s.startup.setup = .opened) (sec : Byte) (fields : List Byte) :
    judgeCommand .setup (setupCommand sec fields) (commandHeard s) = setupSection sec fields (commandHeard s) := by
  obtain ⟨-, hs, -⟩ := (heardFrom_commandHeard hf.1).blocks
  rw [judgeCommand_of_panelFree hf, setupCommand, hs, ho]

theorem setupSection_channel (c : Channel) (fields : List Byte) (s : State) :
    setupSection (channelSection c) fields s = setupChannel c fields s := by
  unfold setupSection
  rw [channelOfSection_section]
  cases c <;> rfl

/-- A SETUP of a length that R173 allows is taken as a command. -/
theorem exec_setupSupply {fields : List Byte} (h : setupLengthOk fields = true) (s : State) :
    exec (.setupSupply fields) s = .next (takeCommand .setup (setupCommand 0 fields) s) := by
  rw [← if_pos (c := setupLengthOk fields = true) h (t := takeCommand .setup (setupCommand 0 fields) s)]
  rfl

theorem exec_setupChannel {sec : Byte} {fields : List Byte} (h : setupLengthOk fields = true) (s : State) :
    exec (.setupChannel sec fields) s = .next (takeCommand .setup (setupCommand sec fields) s) := by
  rw [← if_pos (c := setupLengthOk fields = true) h (t := takeCommand .setup (setupCommand sec fields) s)]
  rfl

theorem exec_setupEnd {fields : List Byte} (h : setupLengthOk fields = true) (s : State) :
    exec (.setupEnd fields) s = .next (takeCommand .setup (setupCommand 255 fields) s) := by
  rw [← if_pos (c := setupLengthOk fields = true) h (t := takeCommand .setup (setupCommand 255 fields) s)]
  rfl

/-- A SETUP that changes a working copy alone. -/
theorem panelWorks (hf : PanelFree s) (ho : s.startup.setup = .opened) {owner : State → State} {x : Startup}
    (hx : x.restarting = s.startup.restarting ∧ x.setup = s.startup.setup ∧ x.supply = s.startup.supply)
    (hn : x.station = s.startup.station ∧ x.partner = s.startup.partner)
    (hj : judgeCommand k owner (commandHeard s)
      = respond .setup .accepted noDetail ((commandHeard s).setStartup x)) :
    PanelFrame s (takeCommand k owner s) ∧ ProgramStands s (takeCommand k owner s)
      ∧ OnlyTouches [.startup, .power, .share, .line, .steam, .descale, .recipe] s (takeCommand k owner s)
      ∧ (takeCommand k owner s).startup = x ∧ Queued (.result .setup .accepted 0) (takeCommand k owner s) := by
  have hheard := heardFrom_commandHeard hf.1
  obtain ⟨hp, hs, hc, -, hst, -, hr, hv⟩ := hheard.blocks
  have ha : Aside (commandHeard s) (respond .setup .accepted noDetail ((commandHeard s).setStartup x)) :=
    ((Aside.refl (commandHeard s)).same (u := (commandHeard s).setStartup x) rfl rfl rfl rfl rfl).respond
  have hw : SteamAlike (commandHeard s) (respond .setup .accepted noDetail ((commandHeard s).setStartup x)) :=
    ⟨steamWanted_congr (by simp) (by simp) (by simp) (by simp) (by simp [hs, hx]), by simp [hs, hx], by simp [hs, hx]⟩
  have h := panelAnswered hf.1 (genSettled_of_opened ho) hj ha hw (by simp [hp])
  refine ⟨h.frame, by unfold ProgramStands; rw [h.recipe]; simp [hr], ⟨h.pending, fun b hb => ?_⟩, by simp [h.startup], ?_⟩
  · cases b with
    | climate => exact h.climate.trans (by simp [hc])
    | superv => exact h.superv.trans (by simp [hv])
    | startup | power | share | line | steam | descale | recipe => exact absurd hb (by decide)
  · have hnum := hf.1.1
    unfold Queued
    rw [h.queue]
    exact queued_respond (by simpa [unnumbered, hn] using hnum) _ _ _

/-- Settles O17: each section by the verdict on its bytes. -/
theorem setupSectionsReplaceWorkingCopies : Obligations.SetupSectionsReplaceWorkingCopies := by
  have hlen : ∀ fields : List Byte, fields.length = 8 → setupLengthOk fields = true := fun _ h => by simp [setupLengthOk, h]
  have hrefused : ∀ {s : State} {sec : Byte} {fields : List Byte} {off : Nat}, PanelFree s → s.startup.setup = .opened →
      setupSection sec fields (commandHeard s) = respond .setup .refusedField off (commandHeard s) →
      PanelFrame s (takeCommand .setup (setupCommand sec fields) s)
        ∧ ProgramStands s (takeCommand .setup (setupCommand sec fields) s)
        ∧ OnlyTouches [.power, .share, .line, .steam, .descale, .recipe] s (takeCommand .setup (setupCommand sec fields) s)
        ∧ Queued (.result .setup .refusedField off) (takeCommand .setup (setupCommand sec fields) s) := by
    intro s sec fields off hf ho hsec
    obtain ⟨h1, h2, h3, -, h5⟩ := panelResult hf.1 (genSettled_of_opened ho) ((judgeCommand_setup hf ho sec fields).trans hsec)
    exact ⟨h1, h2, h3, h5⟩
  refine ⟨fun s v hf ho hv => ?_, fun s c r hf ho hr => ?_, fun s c fields hf ho hl hbad => ?_,
    fun s c field hf ho hwell hcase => ?_, fun s c hf hg hfr hwell hk => ?_⟩
  · have hexec := exec_setupSupply (fields := v.bytes) (by simp [setupLengthOk]) s
    have hsec : setupSection 0 v.bytes (commandHeard s) = setupSupply v.bytes (commandHeard s) := rfl
    refine ⟨_, hexec, ?_⟩
    by_cases hin : SupplyInRange v
    · have hj := (judgeSupply_bytes hv).1 hin
      obtain ⟨-, hs, -⟩ := (heardFrom_commandHeard hf.1).blocks
      obtain ⟨h1, h2, h3, h4, h5⟩ := panelWorks hf ho (x := { s.startup with workSupply := v }) ⟨rfl, rfl, rfl⟩ ⟨rfl, rfl⟩
        ((judgeCommand_setup hf ho 0 v.bytes).trans (hsec.trans (by rw [setupSupply, hj, hs])))
      exact ⟨h1, h2, h3, fun _ => ⟨h4, h5⟩, fun hn => absurd hin hn⟩
    · obtain ⟨off, hj, h1, h2⟩ := (judgeSupply_bytes hv).2 hin
      obtain ⟨a1, a2, a3, a5⟩ := hrefused (sec := 0) (fields := v.bytes) (off := off) hf ho (by rw [hsec, setupSupply, hj])
      exact ⟨a1, a2, ⟨a3.1, fun b hb => a3.2 b (by simp_all)⟩, fun h => absurd h hin,
        fun _ => ⟨a3.2 .startup (by decide), off, h2, h1, a5⟩⟩
  · have hexec := exec_setupChannel (sec := channelSection c) (hlen r.bytes (by simp)) s
    obtain ⟨-, hs, -⟩ := (heardFrom_commandHeard hf.1).blocks
    exact ⟨_, hexec, panelWorks hf ho ⟨rfl, rfl, rfl⟩ ⟨rfl, rfl⟩ ((judgeCommand_setup hf ho _ _).trans
      ((setupSection_channel c r.bytes _).trans (by rw [setupChannel, judgeChannel_bytes hr, hs])))⟩
  · have hexec := exec_setupChannel (sec := channelSection c) (hlen fields hl) s
    obtain ⟨off, hj, h1, h2⟩ := (judgeChannel_of_length (c := c) hl).2 hbad
    obtain ⟨a1, a2, a3, a5⟩ := hrefused (off := off) hf ho ((setupSection_channel c fields _).trans (by rw [setupChannel, hj]))
    exact ⟨_, hexec, a1, a2, a3, off, h1, h2, a5⟩
  · have hbad : ∃ sec fields, exec c s = .next (takeCommand .setup (setupCommand sec fields) s)
        ∧ setupSection sec fields (commandHeard s) = respond .setup .refusedField field (commandHeard s) := by
      rcases hcase with ⟨sec, fields, rfl, hsec, rfl⟩ | ⟨fields, rfl, hl, rfl⟩ | ⟨k, fields, rfl, hl, rfl⟩
        | ⟨fields, rfl, hl, rfl⟩
      · simp only [Instr.wellFormed, Bool.and_eq_true, bne_iff_ne, ne_eq] at hwell
        obtain ⟨⟨hok, h0⟩, h255⟩ := hwell
        have h0' : sec.toNat ≠ 0 := fun h => h0 (BitVec.eq_of_toNat_eq h)
        have h255' : sec.toNat ≠ 255 := fun h => h255 (BitVec.eq_of_toNat_eq h)
        have hnone : channelOfSection sec = none := by
          unfold channelOfSection
          split <;> first | omega | rfl
        exact ⟨sec, fields, exec_setupChannel hok s, by simp [setupSection, h0', h255', hnone]⟩
      · exact ⟨0, fields, exec_setupSupply hwell s, by simp [setupSection, setupSupply, judgeSupply, hl, badBodyDetail]⟩
      · simp only [Instr.wellFormed, Bool.and_eq_true] at hwell
        exact ⟨channelSection k, fields, exec_setupChannel hwell.1.1 s,
          (setupSection_channel k fields _).trans (by simp [setupChannel, judgeChannel, hl, badBodyDetail])⟩
      · exact ⟨255, fields, exec_setupEnd hwell s, by simp [setupSection, setupEnd, hl, badBodyDetail]⟩
    obtain ⟨sec, fields, hexec, hsec⟩ := hbad
    exact ⟨_, hexec, hrefused hf ho hsec⟩
  · have hsetup : ∃ sec fields, exec c s = .next (takeCommand .setup (setupCommand sec fields) s) := by
      cases c with
      | setupSupply fields => exact ⟨0, fields, exec_setupSupply hwell s⟩
      | setupChannel sec fields =>
        simp only [Instr.wellFormed, Bool.and_eq_true] at hwell
        exact ⟨sec, fields, exec_setupChannel hwell.1.1 s⟩
      | setupEnd fields => exact ⟨255, fields, exec_setupEnd hwell s⟩
      | _ => cases hk
    obtain ⟨sec, fields, hexec⟩ := hsetup
    have hfrozen : s.startup.setup = .frozen := by simpa [frozen] using hfr
    obtain ⟨-, hs, -⟩ := (heardFrom_commandHeard hf.1).blocks
    obtain ⟨h1, h2, h3, -, h5⟩ := panelResult (k := .setup) (owner := setupCommand sec fields) hf.1 hg
      ((judgeCommand_of_panelFree hf _ _).trans (by rw [setupCommand, hs, hfrozen]))
    exact ⟨_, hexec, h1, h2, h3, h5⟩

end Sys2Proof.Machine

/-!
Commands that a panel has answered at once: QUERY, LOAD_OPEN and STAGE, PAUSE, RESUME and FINISH_ACK, RELAY_RESTORE, and the
refusals of the others.
-/
namespace Sys2Proof.Machine

variable {s u w : State} {k : CmdKind} {owner : State → State}

/-! ### Answers -/

theorem commandHeard_genSettled (hf : LineFree s) (hg : GenSettled s) : GenSettled (commandHeard s) := by
  obtain ⟨-, hs, -, -, hst, -, hr, -⟩ := (heardFrom_commandHeard hf).blocks
  exact genSettled_congr hg
    (steamWanted_congr (by rw [hr]) (fun _ => by rw [hr]; exact ⟨rfl, rfl⟩) (by rw [hst]) (by rw [hst]) (by rw [hs]))
    (by rw [hst]) (by rw [hs]) (by rw [hs])

/-- A command whose owner settles what it has done aside. -/
theorem panelSettled (hf : LineFree s) (hg : GenSettled s) (ho : judgeCommand k owner (commandHeard s) = settle w)
    (ha : Aside (commandHeard s) w) (hw : SteamAlike (commandHeard s) w) (hp : w.pending = s.pending) :
    PanelAnswered s w (takeCommand k owner s) := by
  have hj := ha.judgeSteam (commandHeard_genSettled hf hg) hw
  have h := panelAnswered hf hg ho (ha.settle hj) (hw.settle hj) (by simp [hp])
  exact ⟨h.frame, h.queue.trans (by rw [(settle_of_fixed hj).1]), by rw [h.recipe, settle_recipe],
    h.startup.trans (by simp), h.climate.trans (by simp), h.superv.trans (by simp), h.pending⟩

/-- A command whose owner changes the program alone and answers with a RESULT. -/
theorem panelReply (hf : PanelFree s) (hg : GenSettled s) {kind : CmdKind} {code : ResultCode} {detail : Nat} {x : Recipe}
    (hx : programActive x = programActive s.recipe)
    (hc : programActive s.recipe = true → x.cur = s.recipe.cur ∧ x.store = s.recipe.store)
    (ho : owner (commandHeard s) = respond kind code detail ((commandHeard s).setRecipe x)
      ∨ owner (commandHeard s) = settle (respond kind code detail ((commandHeard s).setRecipe x))) :
    PanelFrame s (takeCommand k owner s)
      ∧ OnlyTouches [.power, .share, .line, .steam, .descale, .recipe] s (takeCommand k owner s)
      ∧ (takeCommand k owner s).recipe = { x with withheldMs := (takeCommand k owner s).recipe.withheldMs }
      ∧ Queued (.result kind code detail) (takeCommand k owner s) := by
  obtain ⟨hp, hs, hcl, -, hst, -, hr, hv⟩ := (heardFrom_commandHeard hf.1).blocks
  have ha : Aside (commandHeard s) (respond kind code detail ((commandHeard s).setRecipe x)) :=
    ((Aside.refl (commandHeard s)).same (u := (commandHeard s).setRecipe x) rfl rfl rfl rfl rfl).respond
  have hw : SteamAlike (commandHeard s) (respond kind code detail ((commandHeard s).setRecipe x)) :=
    steamAlike_of_settles ha.settles (by simp) (by simp [hr, hx]) (by simpa [hr] using hc)
  have h : PanelAnswered s (respond kind code detail ((commandHeard s).setRecipe x)) (takeCommand k owner s) := by
    rcases ho with ho | ho
    · exact panelAnswered hf.1 hg ((judgeCommand_of_panelFree hf _ _).trans ho) ha hw (by simp [hp])
    · exact panelSettled hf.1 hg ((judgeCommand_of_panelFree hf _ _).trans ho) ha hw (by simp [hp])
  refine ⟨h.frame, onlyTouches_descaling h.pending (h.startup.trans (by simp [hs])) (h.climate.trans (by simp [hcl]))
    (h.superv.trans (by simp [hv])), h.recipe.trans (by simp), ?_⟩
  unfold Queued
  rw [h.queue]
  exact queued_respond (s := (commandHeard s).setRecipe x) (commandHeard_numbered hf.1) _ _ _

/-- A command that its owner answers with a RESULT and nothing else. -/
theorem panelRefusal (hf : PanelFree s) (hg : GenSettled s) {kind : CmdKind} {code : ResultCode} {detail : Nat}
    (ho : owner (commandHeard s) = respond kind code detail (commandHeard s)) :
    PanelFrame s (takeCommand k owner s) ∧ ProgramStands s (takeCommand k owner s)
      ∧ OnlyTouches [.power, .share, .line, .steam, .descale, .recipe] s (takeCommand k owner s)
      ∧ (takeCommand k owner s).superv = s.superv
      ∧ Queued (.result kind code detail) (takeCommand k owner s) :=
  panelResult hf.1 hg ((judgeCommand_of_panelFree hf _ _).trans ho)

/-! ### RELAY_RESTORE -/

theorem inExcursion_congr (hu : u.startup = s.startup) (hv : u.superv = s.superv) (c : Channel) :
    inExcursion u c = inExcursion s c := by
  simp [inExcursion, hu, hv]

/-- The first channel of the list that is in an excursion is the one with the lowest code. -/
theorem find_lowest {p : Channel → Bool} {c : Channel} (hc : p c = true)
    (hlow : ∀ x, channelCode x < channelCode c → p x = false) : channelList.find? p = some c := by
  have h0 := hlow .cav; have h1 := hlow .core; have h2 := hlow .boil; have h3 := hlow .moist; have h4 := hlow .mains
  cases c <;> simp_all [channelList, channelCode]

theorem mem_channelList (c : Channel) : c ∈ channelList := by cases c <;> simp [channelList]

/-- Settles O30: the owner's answer by the weld and the lowest excursion. -/
theorem relayRestoreClosesTheRelay : Obligations.RelayRestoreClosesTheRelay := by
  intro s hf hg hfr
  have hheard := heardFrom_commandHeard hf.1
  obtain ⟨hp, hs, hcl, -, hst, -, hr, hv⟩ := hheard.blocks
  have hfh : frozen (commandHeard s) = true := by simpa [frozen, hs] using hfr
  have hin : inExcursion (commandHeard s) = inExcursion s := funext (inExcursion_congr hs hv)
  refine ⟨_, rfl, ?_⟩
  have hmore : ∀ {t}, OnlyTouches [.power, .share, .line, .steam, .descale, .recipe] s t →
      OnlyTouches [.power, .share, .line, .steam, .descale, .recipe, .superv] s t :=
    fun h => ⟨h.1, fun b hb => h.2 b (by simp_all)⟩
  cases hweld : s.superv.welded with
  | true =>
    obtain ⟨h1, h2, h3, h4, h5⟩ := panelRefusal (k := .relayRestore) (owner := relayRestore) hf hg
      (kind := .relayRestore) (code := .refusedTrip) (detail := noDetail) (by simp [relayRestore, hfh, hv, hweld])
    exact ⟨h1, h2, hmore h3, by simp, fun _ => ⟨h4, h5⟩, by simp⟩
  | false =>
    cases hfind : channelList.find? (inExcursion s) with
    | some c =>
      have hc := List.find?_some hfind
      obtain ⟨h1, h2, h3, h4, h5⟩ := panelRefusal (k := .relayRestore) (owner := relayRestore) hf hg
        (kind := .relayRestore) (code := .refusedState) (detail := channelCode c + 1)
        (by simp [relayRestore, hfh, hv, hweld, hin, hfind])
      refine ⟨h1, h2, hmore h3, fun _ hno => absurd (hno c) (by simp [hc]), by simp, fun _ d hd hlow => ⟨h4, ?_⟩⟩
      have hcd : c = d := Option.some.inj (hfind.symm.trans (find_lowest hd hlow))
      rw [← hcd]
      exact h5
    | none =>
      have hno : ∀ c, inExcursion s c = false := fun c =>
        Bool.eq_false_of_not_eq_true (List.find?_eq_none.1 hfind c (mem_channelList c))
      let w : State := commandRelay true ((commandHeard s).setSuperv
        { (commandHeard s).superv with trip := false, strikes := PerChannel.all 0 })
      have ha : Aside (commandHeard s) (respond .relayRestore .accepted noDetail w) :=
        ((Aside.refl (commandHeard s)).same (u := w) rfl rfl rfl rfl rfl).respond
      have hw : SteamAlike (commandHeard s) (respond .relayRestore .accepted noDetail w) :=
        steamAlike_of_settles ha.settles (by simp [w]) (by simp [w]) (by simp [w])
      have h : PanelAnswered s (respond .relayRestore .accepted noDetail w) (takeCommand .relayRestore relayRestore s) :=
        panelAnswered hf.1 hg ((judgeCommand_of_panelFree hf _ _).trans
          (by simp [relayRestore, hfh, hv, hweld, hin, hfind, w])) ha hw (by simp [w, hp])
      refine ⟨h.frame, by unfold ProgramStands; rw [h.recipe]; simp [w, hr], ⟨h.pending, fun b hb => ?_⟩, fun _ _ => ⟨?_, ?_⟩,
        by simp, fun _ c hc => absurd hc (by simp [hno c])⟩
      · cases b with
        | climate => exact h.climate.trans (by simp [w, hcl])
        | startup => exact h.startup.trans (by simp [w, hs])
        | power | share | line | steam | descale | recipe | superv => exact absurd hb (by decide)
      · rw [h.superv]
        simp [w, commandRelay, hv]
      · unfold Queued
        rw [h.queue]
        exact queued_respond (by simpa [w, unnumbered] using commandHeard_numbered hf.1) _ _ _

/-! ### LOAD_OPEN and STAGE -/

theorem programActive_iff (r : Recipe) :
    programActive r = true ↔ r.state = .running ∨ r.state = .paused ∨ r.state = .prompting := by
  unfold programActive
  cases r.state <;> simp

theorem exec_stage {record : List Byte} (h : recordLengthOk record = true) (index : Byte) (s : State) :
    exec (.stage index record) s = .next (takeCommand .stage (stageCommand index record) s) := by
  rw [← if_pos (c := recordLengthOk record = true) h (t := takeCommand .stage (stageCommand index record) s)]
  rfl

theorem exec_runManual {record : List Byte} (h : recordLengthOk record = true) (s : State) :
    exec (.runManual record) s = .next (takeCommand .runManual (runManual record) s) := by
  rw [← if_pos (c := recordLengthOk record = true) h (t := takeCommand .runManual (runManual record) s)]
  rfl

/-- Settles O24: LOAD_OPEN by its three answers, and STAGE by what it finds. -/
theorem loadSessionTakesStages : Obligations.LoadSessionTakesStages := by
  refine ⟨fun s count tag hf hg hfr => ?_, fun s index record r clamped hf hg hst hrem hlen hidx hrec => ?_,
    fun s index record field hf hg hlen hcase => ?_⟩
  · obtain ⟨-, hs, -, -, -, hd, hr, -⟩ := (heardFrom_commandHeard hf.1).blocks
    have hfh : frozen (commandHeard s) = true := by simpa [frozen, hs] using hfr
    refine ⟨_, rfl, ?_⟩
    by_cases hbad : descaleActive s.descale = true ∨ (s.recipe.state ≠ .idle ∧ s.recipe.state ≠ .loaded)
    · obtain ⟨h1, h2, h3, -, h5⟩ := panelRefusal (k := .loadOpen) (owner := loadOpen count tag) hf hg
        (kind := .loadOpen) (code := .refusedState) (detail := noDetail)
        (by rcases hbad with h | h <;> simp [loadOpen, hfh, hd, hr, h])
      exact ⟨h1, h3, fun _ => ⟨h2, h5⟩, fun ha hi => by simp_all⟩
    · have hda : descaleActive s.descale = false := by simp_all
      have hil : s.recipe.state = .idle ∨ s.recipe.state = .loaded := by tauto
      have hna : programActive s.recipe = false := by
        rw [Bool.eq_false_iff, ne_eq, programActive_iff]
        rcases hil with h | h <;> simp [h]
      by_cases hc : count.toNat = 0 ∨ 24 < count.toNat
      · obtain ⟨h1, h2, h3, -, h5⟩ := panelRefusal (k := .loadOpen) (owner := loadOpen count tag) hf hg
          (kind := .loadOpen) (code := .refusedField) (detail := 0)
          (by rcases hil with h | h <;> simp [loadOpen, hfh, hd, hr, h, hda, hc])
        exact ⟨h1, h3, fun h => absurd h hbad, fun _ _ => ⟨fun _ => ⟨h2, h5⟩, fun _ _ => by omega⟩⟩
      · obtain ⟨h1, h3, h4, h5⟩ := panelReply (k := .loadOpen) (owner := loadOpen count tag) hf hg
          (kind := .loadOpen) (code := .accepted) (detail := noDetail)
          (x := { s.recipe with
            state := .loading, store := [], count := count.toNat, tag := tag.toNat
            remaining := count.toNat, cur := 0, gapMs := 0 })
          (by rw [hna]; rfl) (by simp [hna])
          (.inl (by rcases hil with h | h <;> simp [loadOpen, hfh, hd, hr, h, hda, hc]))
        exact ⟨h1, h3, fun h => absurd h hbad, fun _ _ => ⟨fun h => absurd h hc, fun _ _ => ⟨h4, h5⟩⟩⟩
  · obtain ⟨-, -, -, -, -, -, hr, -⟩ := (heardFrom_commandHeard hf.1).blocks
    have hna : programActive s.recipe = false := by rw [Bool.eq_false_iff, ne_eq, programActive_iff]; simp [hst]
    have howner : stageCommand index record (commandHeard s)
        = storeStage r clamped ((commandHeard s).setRecipe { s.recipe with gapMs := 0 }) := by
      simp [stageCommand, hr, hst, expectedIndex, hidx, hrec]
    refine ⟨_, exec_stage hlen index s, ?_⟩
    by_cases hmany : 2 ≤ s.recipe.remaining
    · obtain ⟨h1, h3, h4, h5⟩ := panelReply (k := .stage) (owner := stageCommand index record) hf hg
        (kind := .stage) (code := takenCode clamped) (detail := clamped.getD noDetail)
        (x := { s.recipe with gapMs := 0, store := s.recipe.store ++ [r], remaining := s.recipe.remaining - 1 })
        rfl (by simp [hna])
        (.inl (by
          rw [howner]
          simp only [storeStage, State.setRecipe_recipe]
          have hmore : s.recipe.remaining - 1 ≠ 0 := by omega
          exact if_pos hmore))
      exact ⟨h1, h3, fun _ => ⟨h4, h5⟩, fun h => by omega, fun h => by omega⟩
    · have hone : s.recipe.remaining = 1 := by omega
      cases hcheck : programCheck s.recipe.count (s.recipe.store ++ [r]) with
      | none =>
        obtain ⟨h1, h3, h4, h5⟩ := panelReply (k := .stage) (owner := stageCommand index record) hf hg
          (kind := .stage) (code := takenCode clamped) (detail := clamped.getD noDetail)
          (x := { s.recipe with gapMs := 0, store := s.recipe.store ++ [r], remaining := 0, state := .loaded })
          (by rw [hna]; rfl) (by simp [hna])
          (.inl (by
            rw [howner]
            simp only [storeStage, State.setRecipe_recipe, hone, hcheck]
            rfl))
        exact ⟨h1, h3, fun h => absurd h hmany, fun _ _ => ⟨h4, h5⟩, fun _ h => absurd rfl h⟩
      | some detail =>
        obtain ⟨h1, h3, h4, h5⟩ := panelReply (k := .stage) (owner := stageCommand index record) hf hg
          (kind := .stage) (code := .refusedProgram) (detail := detail)
          (x := { s.recipe with gapMs := 0, store := [], remaining := 0, state := .idle, count := 0, tag := 0, cur := 0 })
          (by rw [hna]; rfl) (by simp [hna])
          (.inl (by
            rw [howner]
            simp only [storeStage, State.setRecipe_recipe, hone, hcheck]
            rfl))
        exact ⟨h1, h3, fun h => absurd h hmany, fun _ h => by simp at h, fun _ _ =>
          ⟨by rw [h4], by rw [h4], by rw [h4], by rw [h4], h5⟩⟩
  · obtain ⟨-, -, -, -, -, -, hr, -⟩ := (heardFrom_commandHeard hf.1).blocks
    refine ⟨_, exec_stage hlen index s, ?_⟩
    by_cases hst : s.recipe.state = .loading
    · have hna : programActive s.recipe = false := by rw [Bool.eq_false_iff, ne_eq, programActive_iff]; simp [hst]
      simp only [hst, ne_eq, not_true, false_or, if_true, if_false] at hcase ⊢
      by_cases hidx : index.toNat = s.recipe.count - s.recipe.remaining + 1
      · obtain ⟨h1, h3, h4, h5⟩ := panelReply (k := .stage) (owner := stageCommand index record) hf hg
          (kind := .stage) (code := .refusedField) (detail := field) (x := { s.recipe with gapMs := 0 })
          rfl (by simp [hna])
          (.inl (by simp [stageCommand, hr, hst, expectedIndex, hidx, hcase.resolve_left (by simp [hidx])]))
        rw [if_neg (by simp [hidx])]
        exact ⟨h1, h3, by simpa [hst] using h4, h5⟩
      · obtain ⟨h1, h3, h4, h5⟩ := panelReply (k := .stage) (owner := stageCommand index record) hf hg
          (kind := .stage) (code := .refusedOrder) (detail := s.recipe.count - s.recipe.remaining + 1)
          (x := { s.recipe with gapMs := 0 })
          rfl (by simp [hna])
          (.inl (by simp [stageCommand, hr, hst, expectedIndex, hidx]))
        rw [if_pos hidx]
        exact ⟨h1, h3, by simpa [hst] using h4, h5⟩
    · obtain ⟨h1, h2, h3, -, h5⟩ := panelRefusal (k := .stage) (owner := stageCommand index record) hf hg
        (kind := .stage) (code := .refusedState) (detail := noDetail) (by simp [stageCommand, hr, hst])
      simp only [hst, ne_eq, not_false_eq_true, if_true, if_false]
      exact ⟨h1, h3, h2, h5⟩

end Sys2Proof.Machine

/-!
A stage that goes on as it stands, and the panel commands PAUSE, RESUME and FINISH_ACK.
-/
namespace Sys2Proof.Machine

variable {s u w : State} {k : CmdKind} {owner : State → State} {h : HeatStage}

/-! ### A stage that holds -/

theorem atTarget_congr (hv : u.superv.readings = s.superv.readings) (h : HeatStage) : atTarget u h = atTarget s h := by
  simp [atTarget, readingAtLeast, reading, hv]

theorem coreMet_congr (hv : u.superv.readings = s.superv.readings) (hp : u.recipe.probePresent = s.recipe.probePresent)
    (h : HeatStage) : coreMet u h = coreMet s h := by
  simp [coreMet, readingAtLeast, reading, hv, hp]

/-- The end condition of a stage that holds is not met before its duration (R129, R130). -/
theorem StageHolds.goes_on (hh : StageHolds s h) (hv : u.superv.readings = s.superv.readings)
    (hp : u.recipe.probePresent = s.recipe.probePresent) (hd : durationReached u.recipe h = false) :
    endConditionMet u h = false := by
  unfold StageHolds at hh
  unfold endConditionMet
  rw [atTarget_congr hv, coreMet_congr hv hp, hp]
  cases hk : h.endKind <;> simp_all

/-- With no prompt of its own, and the probe present where the stage looks at the core, the probe rule asks nothing
(R130). -/
theorem probeRule_of_present (hh : ∀ h, currentHeat s.recipe = some h →
      s.recipe.probePresent = true ∨ (h.endKind ≠ .core ∧ h.endKind ≠ .either)) : probeRule s = s := by
  unfold probeRule
  split
  · rfl
  · next h hc =>
    rcases hh h hc with hp | ⟨h1, h2⟩
    · simp [hp]
    · simp [h1, h2]

theorem StageHolds.probe (hh : StageHolds s h) :
    s.recipe.probePresent = true ∨ (h.endKind ≠ .core ∧ h.endKind ≠ .either) := by
  unfold StageHolds at hh
  cases hk : h.endKind <;> simp_all

theorem stageEnds_of_not_running (h : s.recipe.state ≠ .running) : stageEnds s = false := by simp [stageEnds, h]

theorem currentHeat_of_active {r : Recipe} (ha : programActive r = true) : currentHeat r = heatAt r r.cur := by
  simp [currentHeat, ha]

theorem stageEnds_of_current (hc : currentHeat s.recipe = some h) (he : endConditionMet s h = false) :
    stageEnds s = false := by
  simp [stageEnds, hc, he]

/-! ### Answers in which the climate takes part -/

/-- A command whose owner leaves shares and generator, and the program at its stage. -/
theorem panelAside (hf : PanelFree s) (hg : GenSettled s)
    (ho : owner (commandHeard s) = w ∨ owner (commandHeard s) = settle w)
    (ha : Aside (commandHeard s) w) (hu : w.startup = s.startup) (hp : w.pending = s.pending)
    (hx : programActive w.recipe = programActive s.recipe)
    (hc : programActive s.recipe = true → w.recipe.cur = s.recipe.cur ∧ w.recipe.store = s.recipe.store) :
    PanelAnswered s w (takeCommand k owner s) := by
  obtain ⟨-, hs, -, -, -, -, hr, -⟩ := (heardFrom_commandHeard hf.1).blocks
  have hw : SteamAlike (commandHeard s) w :=
    steamAlike_of_settles ha.settles (by rw [hu, hs]) (by rw [hx, hr]) (by rw [hr]; exact hc)
  rcases ho with ho | ho
  · exact panelAnswered hf.1 hg ((judgeCommand_of_panelFree hf _ _).trans ho) ha hw hp
  · exact panelSettled hf.1 hg ((judgeCommand_of_panelFree hf _ _).trans ho) ha hw hp

theorem PanelAnswered.touches {t : State} (ht : PanelAnswered s w t) (hu : w.startup = s.startup)
    (hv : w.superv = s.superv) : OnlyTouches [.climate, .power, .share, .line, .steam, .descale, .recipe] s t := by
  refine ⟨ht.pending, fun b hb => ?_⟩
  cases b with
  | startup => exact ht.startup.trans hu
  | superv => exact ht.superv.trans hv
  | climate | power | share | line | steam | descale | recipe => exact absurd hb (by decide)

theorem PanelAnswered.touchesLess {t : State} (ht : PanelAnswered s w t) (hu : w.startup = s.startup)
    (hc : w.climate = s.climate) (hv : w.superv = s.superv) :
    OnlyTouches [.power, .share, .line, .steam, .descale, .recipe] s t :=
  onlyTouches_descaling ht.pending (ht.startup.trans hu) (ht.climate.trans hc) (ht.superv.trans hv)

theorem queued_congr {t t' : State} {f : TxFrame} (hq : t'.line.queue = t.line.queue) (h : Queued f t) : Queued f t' := by
  unfold Queued
  rw [hq]
  exact h

/-! ### PAUSE and FINISH_ACK -/

theorem pause_answers (s : State) (hf : PanelFree s) (hg : GenSettled s) :
    PanelFrame s (takeCommand .pause pauseCommand s)
      ∧ OnlyTouches [.power, .share, .line, .steam, .descale, .recipe] s (takeCommand .pause pauseCommand s)
      ∧ (s.recipe.state = .running ∨ s.recipe.state = .prompting →
          (takeCommand .pause pauseCommand s).recipe = { s.recipe with
            state := .paused, pausedFrom := s.recipe.state
            withheldMs := (takeCommand .pause pauseCommand s).recipe.withheldMs }
          ∧ Queued (.result .pause .accepted 0) (takeCommand .pause pauseCommand s))
      ∧ (s.recipe.state ≠ .running → s.recipe.state ≠ .prompting →
          ProgramStands s (takeCommand .pause pauseCommand s)
            ∧ Queued (.result .pause .refusedState 0) (takeCommand .pause pauseCommand s)) := by
  obtain ⟨-, -, -, -, -, -, hr, -⟩ := (heardFrom_commandHeard hf.1).blocks
  by_cases hst : s.recipe.state = .running ∨ s.recipe.state = .prompting
  · have hact : programActive s.recipe = true := (programActive_iff _).2 (by tauto)
    obtain ⟨h1, h2, h3, h4⟩ := panelReply (k := .pause) (owner := pauseCommand) hf hg
      (kind := .pause) (code := .accepted) (detail := noDetail)
      (x := { s.recipe with state := .paused, pausedFrom := s.recipe.state })
      (by rw [hact]; rfl) (fun _ => ⟨rfl, rfl⟩) (.inr (by simp [pauseCommand, hr, hst]))
    exact ⟨h1, h2, fun _ => ⟨h3, h4⟩, fun hn hn' => absurd hst (by simp [hn, hn'])⟩
  · obtain ⟨h1, h2, h3, -, h5⟩ := panelRefusal (k := .pause) (owner := pauseCommand) hf hg
      (kind := .pause) (code := .refusedState) (detail := noDetail) (by simp [pauseCommand, hr, hst])
    exact ⟨h1, h3, fun h => absurd h hst, fun _ _ => ⟨h2, h5⟩⟩

/-- FINISH_ACK is accepted for a FINISHED program, and for a FAULTED one that the relay lets go (R135, R136). -/
def acknowledged (s : State) : Prop :=
  s.recipe.state = .finished ∨ (s.recipe.state = .faulted ∧ s.superv.relayClosed = true ∧ s.superv.welded = false)

theorem finishAck_of_acknowledged (ha : acknowledged s) : finishAck s = acknowledge s := by
  rcases ha with h | ⟨h, hc, hw⟩
  · simp [finishAck, h]
  · simp [finishAck, h, hc, hw]

theorem finishAck_refused (ha : ¬ acknowledged s) :
    finishAck s = respond .finishAck (if s.recipe.state = .faulted then .refusedTrip else .refusedState) noDetail s := by
  unfold acknowledged at ha
  unfold finishAck
  cases h : s.recipe.state <;> simp_all

theorem finishAck_answers (s : State) (hf : PanelFree s) (hg : GenSettled s) :
    PanelFrame s (takeCommand .finishAck finishAck s)
      ∧ OnlyTouches [.power, .share, .line, .steam, .descale, .recipe] s (takeCommand .finishAck finishAck s)
      ∧ (acknowledged s →
          (takeCommand .finishAck finishAck s).recipe = { s.recipe with
            state := .loaded, cur := 0, withheldMs := (takeCommand .finishAck finishAck s).recipe.withheldMs }
          ∧ Queued (.result .finishAck .accepted 0) (takeCommand .finishAck finishAck s))
      ∧ (¬ acknowledged s → ProgramStands s (takeCommand .finishAck finishAck s)
          ∧ Queued (.result .finishAck (if s.recipe.state = .faulted then .refusedTrip else .refusedState) 0)
              (takeCommand .finishAck finishAck s)) := by
  obtain ⟨-, -, -, -, -, -, hr, hv⟩ := (heardFrom_commandHeard hf.1).blocks
  have hack : acknowledged (commandHeard s) ↔ acknowledged s := by simp [acknowledged, hr, hv]
  by_cases ha : acknowledged s
  · have hna : programActive s.recipe = false := by
      rcases ha with h | ⟨h, -⟩ <;> simp [programActive, h]
    obtain ⟨h1, h2, h3, h4⟩ := panelReply (k := .finishAck) (owner := finishAck) hf hg
      (kind := .finishAck) (code := .accepted) (detail := noDetail)
      (x := { s.recipe with state := .loaded, cur := 0 }) (by rw [hna]; rfl) (by simp [hna])
      (.inl (by rw [finishAck_of_acknowledged (hack.2 ha), acknowledge, hr]))
    exact ⟨h1, h2, fun _ => ⟨h3, h4⟩, fun h => absurd ha h⟩
  · obtain ⟨h1, h2, h3, -, h5⟩ := panelRefusal (k := .finishAck) (owner := finishAck) hf hg
      (kind := .finishAck) (detail := noDetail) (by rw [finishAck_refused (fun h => ha (hack.1 h)), hr])
    exact ⟨h1, h3, fun h => absurd h ha, fun _ => ⟨h2, h5⟩⟩

/-! ### RESUME -/

/-- The state in which a RESUME judges the stage: the program has its state again, and a stage that ran has handed its mode
and targets over (R133, R2). -/
def resumedState (s : State) : State :=
  let s1 := respond .resume .accepted noDetail (s.setRecipe { s.recipe with state := s.recipe.pausedFrom })
  match s.recipe.pausedFrom, currentHeat s1.recipe with
  | .running, some h => handOver h s1
  | _, _ => s1

theorem resumeCommand_of_paused (h : s.recipe.state = .paused) :
    resumeCommand s = settle (judgeStageAndProbe (resumedState s)) := by
  simp only [resumeCommand, resumedState, if_pos h] <;> rfl

theorem resumedState_prompting (h : s.recipe.pausedFrom = .prompting) :
    resumedState s = respond .resume .accepted noDetail (s.setRecipe { s.recipe with state := .prompting }) := by
  simp [resumedState, h]

theorem resumedState_running (hp : s.recipe.pausedFrom = .running) (hh : heatAt s.recipe s.recipe.cur = some h) :
    resumedState s = handOver h (respond .resume .accepted noDetail (s.setRecipe { s.recipe with state := .running })) := by
  have hc : currentHeat { s.recipe with state := .running, pausedFrom := .running } = some h :=
    (currentHeat_of_active (by simp [programActive])).trans hh
  simp [resumedState, hp, hc]

/-- Where the stage goes on as it stands, RESUME ends with it (R133). -/
theorem judgeStageAndProbe_of_held (he : stageEnds s = false)
    (hh : ∀ h, currentHeat s.recipe = some h →
      s.recipe.probePresent = true ∨ (h.endKind ≠ .core ∧ h.endKind ≠ .either)) : judgeStageAndProbe s = s := by
  simp [judgeStageAndProbe, he, probeRule_of_present hh]

/-- The stage that a RESUME finds goes on: it waits for its answer, or runs and is not at its end. -/
def resumesHeld (s : State) (h : HeatStage) : Prop :=
  heatAt s.recipe s.recipe.cur = some h
    ∧ ((s.recipe.pausedFrom = .prompting ∧ (h.endKind = .prompt ∨ s.recipe.probePresent = true))
      ∨ (s.recipe.pausedFrom = .running ∧ StageHolds s h ∧ h.endKind ≠ .prompt ∧ durationReached s.recipe h = false))

@[simp] theorem resumedState_frame (s : State) :
    (resumedState s).pending = s.pending ∧ (resumedState s).startup = s.startup ∧ (resumedState s).superv = s.superv
      ∧ (resumedState s).recipe = { s.recipe with state := s.recipe.pausedFrom } := by
  unfold resumedState
  dsimp only
  split <;> simp

theorem resumeCommand_of_held (hst : s.recipe.state = .paused) (hh : resumesHeld s h) :
    resumeCommand s = settle (resumedState s) := by
  rw [resumeCommand_of_paused hst]
  congr 1
  obtain ⟨-, -, hsup, hrec⟩ := resumedState_frame s
  obtain ⟨hat, hk⟩ := hh
  have hcur : currentHeat (resumedState s).recipe = some h := by
    rw [hrec]
    exact (currentHeat_of_active (by rcases hk with ⟨hp, -⟩ | ⟨hp, -⟩ <;> simp [programActive, hp])).trans hat
  have hprobe : (resumedState s).recipe.probePresent = s.recipe.probePresent := by rw [hrec]
  rcases hk with ⟨hp, hk⟩ | ⟨hp, hold, -, hd⟩
  · refine judgeStageAndProbe_of_held (stageEnds_of_not_running (by simp [hp])) fun x hx => ?_
    obtain rfl : h = x := Option.some.inj (hcur.symm.trans hx)
    rw [hprobe]
    rcases hk with hk | hk
    · simp [hk]
    · exact .inl hk
  · refine judgeStageAndProbe_of_held (stageEnds_of_current hcur (hold.goes_on (by rw [hsup]) hprobe ?_)) fun x hx => ?_
    · simpa [durationReached, hrec] using hd
    · obtain rfl : h = x := Option.some.inj (hcur.symm.trans hx)
      rw [hprobe]
      exact hold.probe

theorem resumedState_aside : Aside s (resumedState s) := by
  have hr : Aside s (respond .resume .accepted noDetail (s.setRecipe { s.recipe with state := s.recipe.pausedFrom })) :=
    ((Aside.refl s).same (u := s.setRecipe { s.recipe with state := s.recipe.pausedFrom }) rfl rfl rfl rfl rfl).respond
  unfold resumedState
  dsimp only
  split
  · exact hr.same (by simp) (by simp) (by simp) (by simp) (by simp)
  · exact hr

theorem resumedState_queued (hn : unnumbered s = false) : Queued (.result .resume .accepted 0) (resumedState s) := by
  have h := queued_respond (s := s.setRecipe { s.recipe with state := s.recipe.pausedFrom }) hn .resume .accepted noDetail
  unfold resumedState
  dsimp only
  split
  · exact queued_congr (by simp) h
  · exact h

theorem stageHolds_congr (hv : u.superv.readings = s.superv.readings)
    (hp : u.recipe.probePresent = s.recipe.probePresent) (h : HeatStage) : StageHolds u h ↔ StageHolds s h := by
  unfold StageHolds
  rw [atTarget_congr hv, coreMet_congr hv hp, hp]

theorem resumedState_climate (s : State) :
    (resumedState s).climate.demTop = s.climate.demTop ∧ (resumedState s).climate.demBottom = s.climate.demBottom
      ∧ (resumedState s).climate.demRing = s.climate.demRing := by
  unfold resumedState
  dsimp only
  split <;> simp [handOver]

/-- A RESUME that is refused, for the program is not paused (R133). -/
theorem resume_refused (hf : PanelFree s) (hg : GenSettled s) (hst : s.recipe.state ≠ .paused) :
    PanelFrame s (takeCommand .resume resumeCommand s) ∧ ProgramStands s (takeCommand .resume resumeCommand s)
      ∧ OnlyTouches [.power, .share, .line, .steam, .descale, .recipe] s (takeCommand .resume resumeCommand s)
      ∧ Queued (.result .resume .refusedState 0) (takeCommand .resume resumeCommand s) := by
  obtain ⟨-, -, -, -, -, -, hr, -⟩ := (heardFrom_commandHeard hf.1).blocks
  obtain ⟨h1, h2, h3, -, h5⟩ := panelRefusal (k := .resume) (owner := resumeCommand) hf hg
    (kind := .resume) (code := .refusedState) (detail := noDetail) (by simp [resumeCommand, hr, hst])
  exact ⟨h1, h2, h3, h5⟩

/-- A RESUME whose stage goes on as it stands. -/
theorem resume_held (hf : PanelFree s) (hg : GenSettled s) (hst : s.recipe.state = .paused) (hh : resumesHeld s h) :
    PanelAnswered s (resumedState (commandHeard s)) (takeCommand .resume resumeCommand s) := by
  obtain ⟨hp, hs, -, -, -, -, hr, hv⟩ := (heardFrom_commandHeard hf.1).blocks
  have hheld : resumesHeld (commandHeard s) h := by
    unfold resumesHeld at *
    rwa [stageHolds_congr (u := commandHeard s) (s := s) (by rw [hv]) (by rw [hr]), hr]
  have hact : programActive { s.recipe with state := s.recipe.pausedFrom } = programActive s.recipe := by
    obtain ⟨-, ⟨h, -⟩ | ⟨h, -⟩⟩ := hh <;> simp [programActive, h, hst]
  exact panelAside hf hg (.inr (resumeCommand_of_held (by rw [hr]; exact hst) hheld)) resumedState_aside
    (by simp [hs]) (by simp [hp]) (by simpa [hr] using hact) (by simp [hr])

/-- The prompt 250 is asked again where the probe is still absent (R130). -/
theorem probeRule_asks (hc : currentHeat s.recipe = some h) (hk : h.endKind = .core) (hd : h.duration = none)
    (hst : s.recipe.state = .prompting) (hpr : s.recipe.prompt = probePrompt) :
    probeRule s = if s.recipe.probePresent then s else notice .prompt probePrompt s := by
  have hsame : s.setRecipe { s.recipe with state := .prompting, prompt := probePrompt } = s := by
    rw [← hst, ← hpr]
    rfl
  unfold probeRule
  rw [hc]
  cases hp : s.recipe.probePresent with
  | true => simp
  | false => simpa [hk, hd] using congrArg (notice .prompt probePrompt) hsame

/-- Settles O27: PAUSE and FINISH_ACK by the program state, RESUME by how the stage goes on. -/
theorem pauseResumeAndFinishAck : Obligations.PauseResumeAndFinishAck := by
  refine ⟨fun s hf hg => ⟨_, rfl, pause_answers s hf hg⟩, fun s h hf hg hheld => ?_,
    fun s h hf hg hq hat hk hd hst hpf hpr => ?_, fun s hf hg => ?_⟩
  · refine ⟨_, rfl, ?_⟩
    by_cases hst : s.recipe.state = .paused
    · obtain ⟨hat, hk⟩ := hheld hst
      have ht := resume_held hf hg hst ⟨hat, hk⟩
      obtain ⟨-, hs, hcl, -, -, -, hr, hv⟩ := (heardFrom_commandHeard hf.1).blocks
      obtain ⟨-, hsu, hsv, hrec⟩ := resumedState_frame (commandHeard s)
      obtain ⟨htop, hbot, hring⟩ := resumedState_climate (commandHeard s)
      refine ⟨ht.frame, ht.touches (hsu.trans hs) (hsv.trans hv), fun _ => ⟨?_, ?_, ?_, ?_, ?_, fun hrun => ?_⟩,
        fun h => absurd hst h⟩
      · rw [ht.recipe, hrec, hr]
      · exact queued_congr ht.queue (resumedState_queued (commandHeard_numbered hf.1))
      · rw [ht.climate, htop, hcl]
      · rw [ht.climate, hbot, hcl]
      · rw [ht.climate, hring, hcl]
      · rw [ht.climate, resumedState_running (by rw [hr]; exact hrun) (by rw [hr]; exact hat)]
        simp [handOver]
    · obtain ⟨h1, h2, h3, h4⟩ := resume_refused hf hg hst
      exact ⟨h1, ⟨h3.1, fun b hb => h3.2 b (by simp_all)⟩, fun h => absurd h hst,
        fun _ => ⟨h2, h3.2 .climate (by decide), h4⟩⟩
  · obtain ⟨hp, hs, hcl, -, -, -, hr, hv⟩ := (heardFrom_commandHeard hf.1).blocks
    let w := resumedState (commandHeard s)
    have hw : w = respond .resume .accepted noDetail
        ((commandHeard s).setRecipe { s.recipe with state := .prompting }) := by
      simp [w, resumedState_prompting, hr, hpf]
    have hwr : w.recipe = { s.recipe with state := .prompting } := by rw [hw]; simp
    have hcur : currentHeat w.recipe = some h := by
      rw [hwr]
      exact (currentHeat_of_active (by simp [programActive])).trans hat
    have hasks := probeRule_asks hcur hk hd (by rw [hwr]) (by rw [hwr]; exact hpr)
    have howner : resumeCommand (commandHeard s) = settle (probeRule w) := by
      rw [resumeCommand_of_paused (by rw [hr]; exact hst), judgeStageAndProbe,
        stageEnds_of_not_running (by rw [hwr]; simp)]
      rfl
    have haside : Aside (commandHeard s) (probeRule w) := by
      rw [hasks]
      split
      · exact resumedState_aside
      · exact resumedState_aside.notice
    have hrule : (probeRule w).recipe = { s.recipe with state := .prompting } := by rw [← hwr, hasks]; split <;> simp
    have ht : PanelAnswered s (probeRule w) (takeCommand .resume resumeCommand s) :=
      panelAside hf hg (.inr howner) haside (by simp [w, hs]) (by simp [w, hp])
        (by rw [hrule]; simp [programActive, hst]) (by simp [hrule])
    have hqh : (commandHeard s).line.queue = [] :=
      ((heardFrom_commandHeard hf.1).queue (sendingFrame_of_empty hq)).trans hq
    have htells : Tells [.result .resume .accepted 0] (commandHeard s) w := by
      rw [hw]
      exact ((Tells.refl (commandHeard s)).same (u := (commandHeard s).setRecipe { s.recipe with state := .prompting })
        rfl rfl rfl).respond
    have hnum := commandHeard_numbered hf.1
    have hwq : w.line.queue = [⟨.result .resume .accepted 0, false⟩] := by
      have hn' : unnumbered ((commandHeard s).setRecipe { s.recipe with state := .prompting }) = false := hnum
      rw [hw, respond, enqueue, if_neg (by simp [hn'])]
      simp [setQueue, hqh, enqueueQueue, addReport, addFrame, insertFrame, reportLimit, queueLimit, noDetail]
    have hclimate : w.climate = s.climate := by rw [hw]; simp [hcl]
    refine ⟨_, rfl, ht.frame, ht.touchesLess (by simp [w, hs]) (by simp [hclimate]) (by simp [w, hv]),
      by rw [ht.recipe, hrule], ?_, fun habs => ?_, fun hpres => ?_⟩
    · refine queued_congr ht.queue ?_
      rw [hasks]
      split
      · exact (htells.told hnum hqh (by simp)).queued (by simp)
      · exact (htells.notice.told hnum hqh (by simp)).queued (by simp)
    · refine queued_congr ht.queue ?_
      rw [hasks, if_neg (by simp [hwr, habs])]
      exact (htells.notice.told hnum hqh (by simp)).queued (by simp [hwr, noticeTag, probePrompt])
    · rw [ht.queue, hasks, if_pos (by simp [hwr, hpres]), hwq]
  · obtain ⟨h1, h2, h3, h4⟩ := finishAck_answers s hf hg
    refine ⟨_, rfl, h1, h2, h3, fun hst hrel => ?_, fun hfi hfa => ?_⟩
    · have := h4 (by simp [acknowledged, hst]; rcases hrel with h | h <;> simp [h])
      rwa [if_pos hst] at this
    · have := h4 (by simp [acknowledged, hfi, hfa])
      rwa [if_neg hfa] at this

end Sys2Proof.Machine

/-!
What settles behind a command in any state of the generator, the generator that follows the steam that is wanted, and the
panel commands that a free line hands to an owner who tells something; first of them ABORT.
-/
namespace Sys2Proof.Machine

variable {s t u x : State} {k : CmdKind} {owner : State → State} {l : List TxFrame}

/-! ### The generator behind R82 -/

theorem enterFilling_steam (s : State) :
    (enterFilling s).steam =
      if s.steam.levels.work || s.steam.levels.high then
        { s.steam with gen := .heating, lock := false, fill := none, inletWant := false }
      else { s.steam with gen := .filling, fill := some ⟨.cooking, 750, 0, false⟩, inletWant := true } := by
  have hw : workOrHigh (beginFill .cooking cookingBudget (s.setSteam { s.steam with gen := .filling }))
      = (s.steam.levels.work || s.steam.levels.high) := by simp [workOrHigh, beginFill]
  simp only [enterFilling, hw]
  split <;> simp [endCookingFill, enterHeating, clearFill, beginFill, cookingBudget]

theorem readingAtMost_congr (hv : u.superv.readings = s.superv.readings) (c : Channel) (v : Int) :
    readingAtMost u c v = readingAtMost s c v := by
  unfold readingAtMost reading
  rw [hv]

theorem endSteam_steam (s : State) :
    (endSteam s).steam =
      if readingAtMost s .boil 700 then
        { s.steam with
          gen := .draining, coolMs := 0, lock := false, faultKind := none, fill := none, inletWant := false
          drain := some ⟨0, 0⟩, drainWant := true }
      else { s.steam with
          gen := .cooling, coolMs := 0, lock := false, faultKind := none, fill := none, inletWant := false } := by
  have hr : readingAtMost (enterCooling (clearFill s)) .boil drainTemp = readingAtMost s .boil 700 :=
    readingAtMost_congr (by simp [enterCooling, clearFill]) _ _
  simp only [endSteam, drainIfCool, hr]
  split <;> simp [enterDraining, beginDrain, enterCooling, clearFill]

@[simp] theorem judgeSteam_scale (s : State) : (judgeSteam s).steam.scale = s.steam.scale := by
  unfold judgeSteam
  (repeat' split) <;> (try rw [enterFilling_steam]) <;> (try rw [endSteam_steam]) <;> (try split) <;> rfl

/-- Whether steam is wanted does not depend on what R82 changes. -/
@[simp] theorem steamWanted_judgeSteam (s : State) : steamWanted (judgeSteam s) = steamWanted s :=
  steamWanted_congr (by rw [(judgeSteam_frame s).2.2.2.2.1]) (fun _ => by simp) (by simp) (by simp) (by simp)

theorem enterFilling_gen (s : State) : (enterFilling s).steam.gen = fillBegins s := by
  rw [enterFilling_steam]
  unfold fillBegins
  split <;> rfl

theorem endSteam_gen (s : State) : (endSteam s).steam.gen = waterIsLeft s := by
  rw [endSteam_steam]
  unfold waterIsLeft
  split <;> rfl

/-- R82: the table. -/
theorem judgeSteam_gen (hr : s.startup.restarting = false) (hf : frozen s = true) :
    (judgeSteam s).steam.gen = steamGen s (steamWanted s) s.steam.gen := by
  unfold judgeSteam
  rw [if_neg (by simp [hr, hf])]
  cases hg : s.steam.gen <;> cases hw : steamWanted s <;> simp [steamGen, enterFilling_gen, endSteam_gen, hg]
  cases s.steam.levels.low <;> simp [enterFilling_gen, enterHeating]

/-- The table of R82 has no state that it would move. -/
theorem steamGen_settled (s : State) (w : Bool) (g : GenState) :
    (steamGen s w g = .empty ∧ w = false)
      ∨ ((steamGen s w g = .filling ∨ steamGen s w g = .heating ∨ steamGen s w g = .ready) ∧ w = true)
      ∨ (steamGen s w g = .cooling ∧ w = false)
      ∨ steamGen s w g = .draining ∨ steamGen s w g = .service ∨ steamGen s w g = .fault := by
  have hfill : fillBegins s = .filling ∨ fillBegins s = .heating := by unfold fillBegins; split <;> simp
  have hleft : waterIsLeft s = .draining ∨ waterIsLeft s = .cooling := by unfold waterIsLeft; split <;> simp
  cases g <;> cases w <;> cases hl : s.steam.levels.low <;> simp only [steamGen, hl] <;> simp <;> tauto

/-- Behind R82 the generator agrees with the steam that is wanted. -/
theorem genSettled_judgeSteam (s : State) : GenSettled (judgeSteam s) := by
  have hu : (judgeSteam s).startup = s.startup := by simp
  unfold GenSettled frozen
  rw [steamWanted_judgeSteam, hu]
  cases hr : s.startup.restarting with
  | true => exact .inl rfl
  | false =>
    cases hf : frozen s with
    | false => exact .inr (.inl hf)
    | true =>
      rw [judgeSteam_gen hr hf]
      exact .inr (.inr (steamGen_settled s _ _))

/-- What `settle` does, in any state: what R82 does, and behind it what settles. -/
theorem settle_after (s : State) :
    (settle s).line = (judgeSteam s).line ∧ (settle s).share = (judgeSteam s).share
      ∧ SettlesOnly (judgeSteam s) (settle s) := by
  have hj := judgeSteam_of_settled (genSettled_judgeSteam s)
  have hs : settle (judgeSteam s) = settle s := by simp only [settle, hj]
  obtain ⟨h1, h2, h3, -⟩ := settle_of_fixed hj
  rw [hs] at h1 h2 h3
  exact ⟨h1, h2, h3⟩

theorem waitOnly_settle (s : State) : WaitOnly s (settle s) := by
  obtain ⟨-, -, -, -, h⟩ := settle_after s
  unfold WaitOnly at *
  simpa using h

theorem steamWanted_settle (s : State) : steamWanted (settle s) = steamWanted s := by
  obtain ⟨-, -, h⟩ := settle_after s
  exact (steamAlike_of_settles h (by simp) (by simp [programActive]) (by simp)).1.trans (steamWanted_judgeSteam s)

theorem genSettled_settle (s : State) : GenSettled (settle s) := by
  obtain ⟨-, -, h⟩ := settle_after s
  exact genSettled_congr (genSettled_judgeSteam s) (by rw [steamWanted_settle, steamWanted_judgeSteam]) h.steam.1
    (by simp) (by simp)

/-- R138: no reason is timed while no program is active. -/
theorem settle_withheld (h : programActive s.recipe = false) : (settle s).recipe.withheldMs = 0 := by
  unfold settle
  generalize hv : settleBase (settleOutputs (judgeSteam s)) = v
  have hr : v.recipe = s.recipe := by subst hv; simp [settleBase]
  have hw : withheldWatched v = false := by
    simp only [withheldWatched, currentHeat, hr, h]
    simp
  unfold settleWaits
  simp [hw]

/-! ### The generator follows -/

theorem judgeSteam_follows (hr : s.startup.restarting = false) (hf : frozen s = true) :
    GeneratorFollows s.steam.gen s (judgeSteam s) := by
  unfold GeneratorFollows
  rw [steamWanted_judgeSteam]
  unfold judgeSteam
  rw [if_neg (by simp [hr, hf])]
  cases hg : s.steam.gen <;> cases hw : steamWanted s <;>
    simp only [enterFilling_steam, endSteam_steam, enterHeating, hg, steamGen, fillBegins, waterIsLeft]
      <;> (repeat' split) <;> simp_all [enterFilling_steam]

/-- The generator has followed from what stands now, where levels and BOIL are as they were. -/
theorem GeneratorFollows.congr {g : GenState} (h : GeneratorFollows g x u) (hl : x.steam.levels = s.steam.levels)
    (hb : x.superv.readings = s.superv.readings) (hw : steamWanted t = steamWanted u) (hs : SettlesOnly u t) :
    GeneratorFollows g s t := by
  have hfill : ∀ y, steamGen s y g = steamGen x y g := by
    intro y
    have hleft : waterIsLeft s = waterIsLeft x := by unfold waterIsLeft; rw [readingAtMost_congr hb]
    cases g <;> simp [steamGen, fillBegins, hleft, hl]
  obtain ⟨ho, -, -⟩ := hs
  unfold OutputsOnly at ho
  unfold GeneratorFollows at *
  rw [hw, hfill, ho]
  exact h

/-! ### A panel command that tells something on a free line -/

/-- What a panel command leaves that finds a free line with an empty queue: the REPORTs told, and of the blocks that its
owner leaves in `u` nothing but what settles. -/
structure PanelTold (l : List TxFrame) (s u t : State) : Prop where
  closed  : FrameClosed false s t
  told    : l.length ≤ 4 → Told t.line.queue l
  wait    : WaitOnly u t
  recipe  : t.recipe = { u.recipe with withheldMs := t.recipe.withheldMs }
  idle    : programActive u.recipe = false → t.recipe.withheldMs = 0
  wanted  : steamWanted t = steamWanted u
  startup : t.startup = u.startup
  climate : t.climate = u.climate
  superv  : t.superv = u.superv
  pending : t.pending = u.pending

theorem takeCommand_of_tells (hf : PanelFree s) (ho : owner (commandHeard s) = u) (hu : Tells l (commandHeard s) u) :
    takeCommand k owner s = settle (u.setLine { u.line with state := .idle, breakSeen := false }) := by
  rw [takeCommand_of_panelFree hf, ho, markClosed_of_tells ((heardFrom_commandHeard hf.1).redecide hf.1) hu]

theorem panelTold (hf : PanelFree s) (hq : s.line.queue = []) (ho : owner (commandHeard s) = u)
    (hu : Tells l (commandHeard s) u) : PanelTold l s u (takeCommand k owner s) := by
  have hh := heardFrom_commandHeard hf.1
  have ht := takeCommand_of_tells (k := k) hf ho hu
  have hclosed := hh.closed (hh.redecide hf.1) hu
  have htold := hh.told hf.1 hu hq
  rw [markClosed_of_tells (hh.redecide hf.1) hu, ← ht] at hclosed htold
  have hw := waitOnly_settle (u.setLine { u.line with state := .idle, breakSeen := false })
  have hr := settle_recipe (u.setLine { u.line with state := .idle, breakSeen := false })
  have hi := settle_withheld (s := u.setLine { u.line with state := .idle, breakSeen := false })
  have hs := steamWanted_settle (u.setLine { u.line with state := .idle, breakSeen := false })
  rw [← ht] at hw hr hi hs
  exact ⟨hclosed, htold, hw, hr, hi, hs, by simp [ht], by simp [ht], by simp [ht], by simp [ht]⟩

/-- Where the owner leaves a settled generator, nothing but its outputs follows. -/
theorem panelTold_settles (hf : PanelFree s) (ho : owner (commandHeard s) = u) (hu : Tells l (commandHeard s) u)
    (hg : GenSettled u) : SettlesOnly u (takeCommand k owner s) := by
  rw [takeCommand_of_tells hf ho hu]
  have hj : judgeSteam (u.setLine { u.line with state := .idle, breakSeen := false }) = _ :=
    judgeSteam_of_settled (genSettled_congr hg rfl rfl rfl rfl)
  exact (SettlesOnly.of_eq (t := u) rfl rfl rfl).trans (settle_of_fixed hj).2.2.1

/-- The same for an owner that settles what it has done. -/
theorem panelTold_settle (hf : PanelFree s) (hq : s.line.queue = []) (ho : owner (commandHeard s) = settle x)
    (hx : Tells l (commandHeard s) x) :
    PanelTold l s x (takeCommand k owner s) ∧ SettlesOnly (judgeSteam x) (takeCommand k owner s) := by
  have h := panelTold (k := k) hf hq ho hx.settle
  refine ⟨⟨h.closed, h.told, ?_, ?_, fun hx => h.idle (by simpa [programActive] using hx), ?_, h.startup.trans (by simp),
    h.climate.trans (by simp), h.superv.trans (by simp), h.pending.trans (by simp)⟩, ?_⟩
  · have hw := h.wait
    have hw' := waitOnly_settle x
    unfold WaitOnly at *
    rw [hw, hw']
  · rw [h.recipe, settle_recipe]
  · rw [h.wanted, steamWanted_settle]
  · exact (settle_after x).2.2.trans (panelTold_settles hf ho hx.settle (genSettled_settle x))

theorem PanelTold.queued {f : TxFrame} (h : PanelTold l s u t) (hl : l.length ≤ 4) (hf : f ∈ l) : Queued f t := (h.told hl).queued hf

theorem PanelTold.touches (h : PanelTold l s u t) (hp : u.pending = s.pending) (hu : u.startup = s.startup)
    (hv : u.superv = s.superv) : OnlyTouches [.climate, .power, .share, .line, .steam, .descale, .recipe] s t := by
  refine ⟨h.pending.trans hp, fun b hb => ?_⟩
  cases b with
  | startup => exact h.startup.trans hu
  | superv => exact h.superv.trans hv
  | climate | power | share | line | steam | descale | recipe => exact absurd hb (by decide)

theorem PanelTold.touchesLess (h : PanelTold l s u t) (hp : u.pending = s.pending) (hu : u.startup = s.startup)
    (hc : u.climate = s.climate) (hv : u.superv = s.superv) :
    OnlyTouches [.power, .share, .line, .steam, .descale, .recipe] s t :=
  onlyTouches_descaling (h.pending.trans hp) (h.startup.trans hu) (h.climate.trans hc) (h.superv.trans hv)

theorem PanelTold.waitOnly (h : PanelTold l s u t) (hd : u.descale = s.descale) : WaitOnly s t := by
  have hw := h.wait
  unfold WaitOnly at *
  rwa [hd] at hw

theorem PanelTold.stands (h : PanelTold l s u t) (hr : u.recipe = s.recipe) : ProgramStands s t := by
  have hw := h.recipe
  unfold ProgramStands
  rwa [hr] at hw

end Sys2Proof.Machine

/-!
The panel commands ABORT, DESCALE_START and DESCALE_CONFIRM.
-/
namespace Sys2Proof.Machine

variable {s t u x : State}

/-! ### ABORT of a program -/

theorem climateLeft_leaveClimate (s : State) : ClimateLeft s (leaveClimate s) := by
  simp [ClimateLeft, leaveClimate, serviceOrder]

/-- An active program becomes LOADED, and the climate and the notice follow (R134). -/
def abortedProgram (s : State) : State :=
  noticeAt .programAborted s.recipe.cur noDetail (leaveClimate (respond .abort .accepted noDetail
    (s.setRecipe { s.recipe with state := .loaded, cur := 0, stack := [], prompt := 0 })))

theorem abortCommand_of_active (hd : descaleActive s.descale = false) (ha : programActive s.recipe = true) :
    abortCommand s = settle (abortedProgram s) := by
  rcases (programActive_iff _).1 ha with h | h | h <;> simp [abortCommand, hd, h] <;> rfl

theorem abortedProgram_tells (s : State) :
    Tells [.result .abort .accepted 0, .notice .programAborted (noticeTag s.recipe) s.recipe.cur 0] s
      (abortedProgram s) := by
  have h := (((Tells.refl s).same
    (u := s.setRecipe { s.recipe with state := .loaded, cur := 0, stack := [], prompt := 0 })
    rfl rfl rfl).respond (kind := .abort) (code := .accepted) (detail := noDetail)).leaveClimate.noticeAt
      (code := .programAborted) (index := s.recipe.cur) (detail := noDetail)
  simpa [noticeTag, noDetail, abortedProgram] using h

theorem abortedProgram_blocks (s : State) :
    (abortedProgram s).pending = s.pending ∧ (abortedProgram s).startup = s.startup
      ∧ (abortedProgram s).superv = s.superv ∧ (abortedProgram s).steam = s.steam
      ∧ (abortedProgram s).descale = s.descale
      ∧ (abortedProgram s).recipe = { s.recipe with state := .loaded, cur := 0, stack := [], prompt := 0 }
      ∧ ClimateLeft s (abortedProgram s) := by
  refine ⟨?_, ?_, ?_, ?_, ?_, ?_, ?_⟩
  case refine_7 =>
    have h := climateLeft_leaveClimate (respond .abort .accepted noDetail
      (s.setRecipe { s.recipe with state := .loaded, cur := 0, stack := [], prompt := 0 }))
    simpa [ClimateLeft, abortedProgram, noticeAt] using h
  all_goals simp [abortedProgram, noticeAt]

/-- What an answer alone leaves: the RESULT, and the blocks as they were but for the program. -/
theorem panelTold_reply (hf : PanelFree s) (hq : s.line.queue = []) {k : CmdKind} {owner : State → State}
    {kind : CmdKind} {code : ResultCode} {detail : Nat} {r : Recipe}
    (ho : owner (commandHeard s) = respond kind code detail ((commandHeard s).setRecipe r)) :
    PanelTold [.result kind code detail] s (respond kind code detail ((commandHeard s).setRecipe r))
      (takeCommand k owner s) :=
  panelTold hf hq ho ((Tells.refl (commandHeard s)).same (u := (commandHeard s).setRecipe r) rfl rfl rfl).respond

theorem panelTold_refusal (hf : PanelFree s) (hq : s.line.queue = []) {k : CmdKind} {owner : State → State}
    {kind : CmdKind} {code : ResultCode} {detail : Nat}
    (ho : owner (commandHeard s) = respond kind code detail (commandHeard s)) :
    PanelTold [.result kind code detail] s (respond kind code detail (commandHeard s)) (takeCommand k owner s) :=
  panelTold hf hq ho (Tells.refl (commandHeard s)).respond

theorem abort_of_program (s : State) (hf : PanelFree s) (hd : descaleActive s.descale = false)
    (hq : s.line.queue = []) :
    ∃ t, exec .abort s = .next t
      ∧ FrameClosed false s t ∧ WaitOnly s t
      ∧ OnlyTouches [.climate, .power, .share, .line, .steam, .descale, .recipe] s t
      ∧ (programActive s.recipe = true →
          t.recipe = { s.recipe with state := .loaded, cur := 0, stack := [], prompt := 0, withheldMs := 0 }
          ∧ ClimateLeft s t ∧ Queued (.result .abort .accepted 0) t
          ∧ (frozen s = true → steamWanted t = false ∧ GeneratorFollows s.steam.gen s t)
          ∧ Queued (.notice .programAborted (noticeTag s.recipe) s.recipe.cur 0) t)
      ∧ (s.recipe.state = .loading →
          t.recipe.state = .idle ∧ t.recipe.store = [] ∧ t.recipe.tag = 0 ∧ t.recipe.count = 0
          ∧ t.climate = s.climate ∧ Queued (.result .abort .accepted 0) t)
      ∧ (programActive s.recipe = false → s.recipe.state ≠ .loading →
          ProgramStands s t ∧ t.climate = s.climate ∧ Queued (.result .abort .refusedState 0) t) := by
  obtain ⟨hp, hs, hcl, -, hst, hde, hr, hv⟩ := (heardFrom_commandHeard hf.1).blocks
  refine ⟨takeCommand .abort abortCommand s, rfl, ?_⟩
  by_cases ha : programActive s.recipe = true
  · obtain ⟨bp, bu, bv, bst, bd, br, bc⟩ := abortedProgram_blocks (commandHeard s)
    have htells := abortedProgram_tells (commandHeard s)
    rw [hr] at br htells
    obtain ⟨ht, hset⟩ := panelTold_settle (k := .abort) hf hq
      (abortCommand_of_active (by rw [hde]; exact hd) (by rw [hr]; exact ha)) htells
    have hna : programActive (abortedProgram (commandHeard s)).recipe = false := by rw [br]; rfl
    have hw : steamWanted (abortedProgram (commandHeard s)) = false := by simp [steamWanted, hna]
    refine ⟨ht.closed, ht.waitOnly (bd.trans hde), ht.touches (bp.trans hp) (bu.trans hs) (bv.trans hv),
      fun _ => ⟨?_, ?_, ht.queued (by simp) (by simp), fun hfr => ⟨ht.wanted.trans hw, ?_⟩,
        ht.queued (by simp) (by simp)⟩,
      fun h => absurd ha (by simp [programActive, h]), fun h => absurd ha (by simp [h])⟩
    · rw [ht.recipe, br, ht.idle hna]
    · unfold ClimateLeft at *
      rw [ht.climate, bc, hcl]
    · have hrest : (abortedProgram (commandHeard s)).startup.restarting = false := by rw [bu, hs]; exact hf.2.2
      have hgo := judgeSteam_follows (s := abortedProgram (commandHeard s)) hrest
        (by rw [frozen, bu, hs]; exact hfr)
      rw [bst, hst] at hgo
      exact hgo.congr (by rw [bst, hst]) (by rw [bv, hv])
        (by rw [ht.wanted, steamWanted_judgeSteam]) hset
  · by_cases hl : s.recipe.state = .loading
    · have ht := panelTold_reply (k := .abort) (owner := abortCommand) hf hq (kind := .abort) (code := .accepted)
        (detail := noDetail) (r := { s.recipe with
          state := .idle, store := [], count := 0, tag := 0, remaining := 0, cur := 0 })
        (by simp [abortCommand, hde, hd, hr, hl, endSession])
      refine ⟨ht.closed, ht.waitOnly (by simp [hde]), ht.touches (by simp [hp]) (by simp [hs]) (by simp [hv]),
        fun h => absurd h ha, fun _ => ⟨?_, ?_, ?_, ?_, ht.climate.trans (by simp [hcl]), ht.queued (by simp) (by simp [noDetail])⟩,
        fun _ h => absurd hl h⟩
      all_goals rw [ht.recipe]; simp
    · have hno : abortCommand (commandHeard s) = respond .abort .refusedState noDetail (commandHeard s) := by
        unfold abortCommand
        rw [hde, hd, hr]
        cases h : s.recipe.state <;> simp_all [programActive]
      have ht := panelTold_refusal (k := .abort) hf hq hno
      exact ⟨ht.closed, ht.waitOnly (by simp [hde]), ht.touches (by simp [hp]) (by simp [hs]) (by simp [hv]),
        fun h => absurd h ha, fun h => absurd h hl,
        fun _ _ => ⟨ht.stands (by simp [hr]), ht.climate.trans (by simp [hcl]), ht.queued (by simp) (by simp [noDetail])⟩⟩

/-! ### ABORT of a descale -/

/-- R94: what the release of the generator leaves. -/
theorem releaseGenerator_gen (s : State) :
    (releaseGenerator s).steam.gen = (if s.steam.levels.low then .cooling else .empty)
      ∧ (releaseGenerator s).steam.acid = s.steam.acid ∧ (releaseGenerator s).steam.scale = s.steam.scale
      ∧ (releaseGenerator s).steam.sub = s.steam.sub := by
  unfold releaseGenerator genFromLevels
  simp only [clearRequest_steam]
  split <;> simp [enterCooling, enterEmpty]

theorem endPhase_steam (p : Phase) (c : DescaleCause) (s : State) :
    (endPhase p c s).steam = (releaseGenerator s).steam := by
  simp [endPhase]

theorem enterAcidDrain_steam (c : DescaleCause) (s : State) :
    (enterAcidDrain c s).steam =
      { s.steam with
        fill := none, drain := some ⟨0, 0⟩, request := .drain, inletWant := false, drainWant := true } := by
  simp [enterAcidDrain]

protected theorem Tells.enterAcidDrain {l : List TxFrame} {cause : DescaleCause} (h : Tells l s t) :
    Tells (l ++ [.notice .descalePhase (noticeTag t.recipe) t.recipe.cur (descaleCode .acidDrain 0 * 256 + cause.code)]) s
      (enterAcidDrain cause t) :=
  h.enterPhase.giveRequest

/-- The three answers of ABORT to an active descale (R111). -/
theorem abortDescale_cases (s : State) (hoff : s.descale.phase ≠ .off) (hhold : s.descale.phase ≠ .holdAcid)
    (hdone : s.descale.phase ≠ .complete) :
    ((s.descale.phase = .prep ∨ s.descale.phase = .drainOut ∨ (s.descale.phase = .dose ∧ s.steam.acid = false))
        ∧ abortCommand s = settle (endPhase .off .aborted (respond .abort .accepted noDetail s)))
      ∨ (((s.descale.phase = .dose ∧ s.steam.acid = true) ∨ s.descale.phase = .soakHeat ∨ s.descale.phase = .soak)
        ∧ abortCommand s = settle (enterAcidDrain .aborted (respond .abort .accepted noDetail s)))
      ∨ ((s.descale.phase = .acidDrain ∨ s.descale.phase = .rinseFill ∨ s.descale.phase = .rinseHeat
            ∨ s.descale.phase = .rinseDrain)
        ∧ abortCommand s = respond .abort .refusedState 1 s) := by
  have hact : descaleActive s.descale = true := by simp [descaleActive, hoff, hhold]
  simp only [abortCommand, hact, if_true, abortDescale]
  cases hph : s.descale.phase <;> cases ha : s.steam.acid <;> simp_all [rinseRequired]

theorem abort_of_descale (s : State) (hf : PanelFree s) (hg : GenSettled s) (hprog : programActive s.recipe = false)
    (hoff : s.descale.phase ≠ .off) (hhold : s.descale.phase ≠ .holdAcid) (hdone : s.descale.phase ≠ .complete)
    (hq : s.line.queue = []) :
    ∃ t, exec .abort s = .next t
      ∧ ProgramStands s t ∧ OnlyTouches [.power, .share, .line, .steam, .descale, .recipe] s t
      ∧ t.steam.acid = s.steam.acid ∧ t.steam.scale = s.steam.scale
      ∧ (s.descale.phase = .prep ∨ s.descale.phase = .drainOut ∨ (s.descale.phase = .dose ∧ s.steam.acid = false) →
          t.descale.phase = .off ∧ t.steam.request = .none
          ∧ t.steam.gen = (if s.steam.levels.low then .cooling else .empty)
          ∧ Queued (.result .abort .accepted 0) t
          ∧ Queued (.notice .descalePhase (noticeTag s.recipe) s.recipe.cur 2) t)
      ∧ ((s.descale.phase = .dose ∧ s.steam.acid = true) ∨ s.descale.phase = .soakHeat ∨ s.descale.phase = .soak →
          t.descale.phase = .acidDrain ∧ t.steam.request = .drain ∧ t.steam.drain = some ⟨0, 0⟩ ∧ t.steam.fill = none
          ∧ Queued (.result .abort .accepted 0) t
          ∧ Queued (.notice .descalePhase (noticeTag s.recipe) s.recipe.cur 1538) t)
      ∧ (s.descale.phase = .acidDrain ∨ s.descale.phase = .rinseFill ∨ s.descale.phase = .rinseHeat
            ∨ s.descale.phase = .rinseDrain →
          t.descale.phase = s.descale.phase ∧ t.descale.rinse = s.descale.rinse ∧ t.steam.request = s.steam.request
          ∧ Queued (.result .abort .refusedState 1) t) := by
  obtain ⟨hp, hs, hcl, -, hst, hde, hr, hv⟩ := (heardFrom_commandHeard hf.1).blocks
  have hcases := abortDescale_cases (commandHeard s) (by rwa [hde]) (by rwa [hde]) (by rwa [hde])
  rw [hde, hst] at hcases
  refine ⟨takeCommand .abort abortCommand s, rfl, ?_⟩
  have htells := (Tells.refl (commandHeard s)).respond (kind := .abort) (code := .accepted) (detail := noDetail)
  rcases hcases with ⟨hph, ho⟩ | ⟨hph, ho⟩ | ⟨hph, ho⟩
  · obtain ⟨ht, hset⟩ := panelTold_settle (k := .abort) hf hq ho htells.endPhase
    obtain ⟨hreq, hj⟩ := endPhase_settled (s := respond .abort .accepted noDetail (commandHeard s))
      (by simpa [hr] using hprog) .off .aborted
    rw [hj] at hset
    obtain ⟨hgen, -, hscale, -⟩ := releaseGenerator_gen (respond .abort .accepted noDetail (commandHeard s))
    obtain ⟨ho, -, -⟩ := hset
    unfold OutputsOnly at ho
    have hd := ht.wait
    unfold WaitOnly at hd
    refine ⟨ht.stands (by simp [endPhase, hr]), ht.touchesLess (by simp [hp]) (by simp [hs]) (by simp [hcl]) (by simp [hv]),
      ?_, ?_, fun _ => ⟨?_, ?_, ?_, ht.queued (by simp) (by simp [noDetail]), ?_⟩, fun h => ?_, fun h => ?_⟩
    · rw [ho, endPhase_steam]; simp [hst]
    · rw [ho, endPhase_steam]; simp [hscale, hst]
    · rw [hd]; simp [endPhase]
    · rw [ho]; exact hreq
    · rw [ho, endPhase_steam]; simp [hgen, hst]
    · exact ht.queued (by simp) (by simp [hr, descaleCode, DescaleCause.code])
    · rcases hph with h' | h' | ⟨h', ha'⟩ <;> simp_all
    · rcases hph with h' | h' | ⟨h', ha'⟩ <;> simp_all
  · obtain ⟨ht, hset⟩ := panelTold_settle (k := .abort) hf hq ho htells.enterAcidDrain
    have hsteam := enterAcidDrain_steam .aborted (respond .abort .accepted noDetail (commandHeard s))
    have hg' : GenSettled (enterAcidDrain .aborted (respond .abort .accepted noDetail (commandHeard s))) :=
      genSettled_congr hg (by simp [steamWanted, hprog, enterAcidDrain, hr]) (by simp [hsteam, hst])
        (by simp [enterAcidDrain, hs]) (by simp [enterAcidDrain, hs])
    rw [judgeSteam_of_settled hg'] at hset
    obtain ⟨ho, -, -⟩ := hset
    unfold OutputsOnly at ho
    have hd := ht.wait
    unfold WaitOnly at hd
    refine ⟨ht.stands (by simp [enterAcidDrain, hr]), ht.touchesLess (by simp [enterAcidDrain, hp])
      (by simp [enterAcidDrain, hs]) (by simp [enterAcidDrain, hcl]) (by simp [enterAcidDrain, hv]),
      ?_, ?_, fun h => ?_, fun _ => ⟨?_, ?_, ?_, ?_, ht.queued (by simp) (by simp [noDetail]), ?_⟩, fun h => ?_⟩
    · rw [ho, hsteam]; simp [hst]
    · rw [ho, hsteam]; simp [hst]
    · rcases hph with ⟨h', ha'⟩ | h' | h' <;> simp_all
    · rw [hd]; simp [enterAcidDrain]
    · rw [ho, hsteam]
    · rw [ho, hsteam]
    · rw [ho, hsteam]
    · exact ht.queued (by simp) (by simp [hr, descaleCode, DescaleCause.code])
    · rcases hph with ⟨h', ha'⟩ | h' | h' <;> simp_all
  · obtain ⟨hframe, hst', htouch, -, hq'⟩ := panelRefusal (k := .abort) (owner := abortCommand) hf hg ho
    obtain ⟨-, -, hset⟩ := hframe
    obtain ⟨hso, -, hd⟩ := hset
    unfold OutputsOnly at hso
    unfold WaitOnly at hd
    refine ⟨hst', htouch, by rw [hso], by rw [hso], fun h => ?_, fun h => ?_, fun _ => ⟨by rw [hd], by rw [hd], by rw [hso], hq'⟩⟩
    · rcases hph with h' | h' | h' | h' <;> simp_all
    · rcases hph with h' | h' | h' | h' <;> simp_all

/-- Settles O28: ABORT of a program or a session, and of a descale. -/
theorem abortStopsProgramOrDescale : Obligations.AbortStopsProgramOrDescale :=
  ⟨abort_of_program, abort_of_descale⟩

/-! ### DESCALE_START and DESCALE_CONFIRM -/

theorem enterService_steam (s : State) :
    (enterService s).steam =
      { s.steam with
        gen := .service, fill := none, drain := none, request := .none, inletWant := false, drainWant := false
        lock := false, faultKind := none } := by
  simp [enterService]

/-- What DESCALE_START begins: ACID_DRAIN where acid is held, and otherwise PREP with the soak mark clear (R102, R113). -/
def descaleBegun (s : State) : State :=
  let s1 := enterService (respond .descaleStart .accepted noDetail s)
  if s.descale.phase = .holdAcid then enterAcidDrain .none s1
  else enterPhase .prep 0 .none (s1.setDescale { s1.descale with soakMark := false })

theorem descaleStart_accepted (hf : frozen s = true) (hr : s.recipe.state = .idle ∨ s.recipe.state = .loaded)
    (hd : s.descale.phase = .off ∨ s.descale.phase = .holdAcid) (ht : tripRefuses s = false) :
    descaleStart s = settle (descaleBegun s) := by
  have hact : descaleActive s.descale = false := by rcases hd with h | h <;> simp [descaleActive, h]
  rcases hr with h | h <;> rcases hd with h' | h' <;> simp [descaleStart, descaleBegun, hf, hact, h, h', ht]

/-- The refusals of R102, in its order. -/
theorem descaleStart_refused
    (hc : frozen s = false ∨ (s.descale.phase ≠ .off ∧ s.descale.phase ≠ .holdAcid)
      ∨ (s.recipe.state ≠ .idle ∧ s.recipe.state ≠ .loaded)
      ∨ s.superv.trip = true ∨ s.superv.relayClosed = false ∨ s.superv.welded = true) :
    descaleStart s = respond .descaleStart
      (if frozen s = false ∨ (s.descale.phase ≠ .off ∧ s.descale.phase ≠ .holdAcid)
          ∨ (s.recipe.state ≠ .idle ∧ s.recipe.state ≠ .loaded)
        then .refusedState else .refusedTrip) noDetail s := by
  have hact : descaleActive s.descale = true ↔ s.descale.phase ≠ .off ∧ s.descale.phase ≠ .holdAcid := by
    simp [descaleActive]
  have htrip : tripRefuses s = true ↔ s.superv.trip = true ∨ s.superv.relayClosed = false ∨ s.superv.welded = true := by
    simp [tripRefuses, or_assoc]
  unfold descaleStart
  by_cases h1 : frozen s = false ∨ (s.descale.phase ≠ .off ∧ s.descale.phase ≠ .holdAcid)
  · have h1' : (!frozen s || descaleActive s.descale) = true := by simpa [hact] using h1
    rw [if_pos h1', if_pos (by tauto)]
  · have h1' : ¬ (!frozen s || descaleActive s.descale) = true := by simpa [hact] using h1
    rw [if_neg h1']
    by_cases h2 : s.recipe.state ≠ .idle ∧ s.recipe.state ≠ .loaded
    · rw [if_pos h2, if_pos (by tauto)]
    · have hstate : ¬ (frozen s = false ∨ (s.descale.phase ≠ .off ∧ s.descale.phase ≠ .holdAcid)
          ∨ (s.recipe.state ≠ .idle ∧ s.recipe.state ≠ .loaded)) := by
        rw [← or_assoc]
        exact fun h => h.elim h1 h2
      have ht : tripRefuses s = true := by
        rw [← or_assoc, ← or_assoc, or_assoc (a := frozen s = false)] at hc
        exact htrip.2 (hc.resolve_left hstate)
      rw [if_neg h2, if_pos ht, if_neg hstate]

theorem descaleStart_begins (s : State) (hf : PanelFree s) (hfr : frozen s = true)
    (hil : s.recipe.state = .idle ∨ s.recipe.state = .loaded)
    (hd : s.descale.phase = .off ∨ s.descale.phase = .holdAcid) (htrip : tripRefuses s = false)
    (hq : s.line.queue = []) :
    ∃ t, exec .descaleStart s = .next t
      ∧ t.steam.gen = .service ∧ t.steam.fill = none ∧ t.steam.acid = s.steam.acid ∧ t.steam.lock = false
      ∧ Queued (.result .descaleStart .accepted 0) t
      ∧ (s.descale.phase = .off →
          t.descale.phase = .prep ∧ t.descale.soakMark = false ∧ t.descale.prepMs = 0 ∧ t.steam.request = .none
          ∧ Queued (.notice .descalePhase (noticeTag s.recipe) s.recipe.cur 256) t)
      ∧ (s.descale.phase = .holdAcid →
          t.descale.phase = .acidDrain ∧ t.steam.request = .drain ∧ t.steam.drain = some ⟨0, 0⟩
          ∧ Queued (.notice .descalePhase (noticeTag s.recipe) s.recipe.cur 1536) t)
      ∧ ProgramStands s t ∧ FrameClosed false s t
      ∧ OnlyTouches [.power, .share, .line, .steam, .descale, .recipe] s t := by
  obtain ⟨hp, hs, hcl, -, hst, hde, hr, hv⟩ := (heardFrom_commandHeard hf.1).blocks
  have ho : descaleStart (commandHeard s) = settle (descaleBegun (commandHeard s)) :=
    descaleStart_accepted (by rw [frozen, hs]; exact hfr) (by rwa [hr]) (by rwa [hde])
      (by simpa [tripRefuses, hv] using htrip)
  have htells := ((Tells.refl (commandHeard s)).respond (kind := .descaleStart) (code := .accepted)
    (detail := noDetail)).enterService
  refine ⟨takeCommand .descaleStart descaleStart s, rfl, ?_⟩
  rcases hd with hph | hph
  · have hu : descaleBegun (commandHeard s) = enterPhase .prep 0 .none
        ((enterService (respond .descaleStart .accepted noDetail (commandHeard s))).setDescale
          { s.descale with soakMark := false }) := by
      simp [descaleBegun, hde, hph]
    rw [hu] at ho
    obtain ⟨ht, hset⟩ := panelTold_settle (k := .descaleStart) hf hq ho
      (Tells.enterPhase (htells.same (u := State.setDescale _ _) rfl rfl rfl))
    rw [judgeSteam_of_service (by simp [enterService_steam])] at hset
    obtain ⟨hso, -, -⟩ := hset
    unfold OutputsOnly at hso
    have hw := ht.wait
    unfold WaitOnly at hw
    refine ⟨by rw [hso]; simp [enterService_steam], by rw [hso]; simp [enterService_steam], by rw [hso]; simp [enterService_steam, hst],
      by rw [hso]; simp [enterService_steam], ht.queued (by simp) (by simp [noDetail]),
      fun _ => ⟨by rw [hw]; simp, by rw [hw]; simp [enterPhase], by rw [hw]; simp [enterPhase],
        by rw [hso]; simp [enterService_steam], ht.queued (by simp) (by simp [hr, descaleCode, DescaleCause.code])⟩,
      fun h => by simp [hph] at h, ht.stands (by simp [hr]), ht.closed,
      ht.touchesLess (by simp [hp]) (by simp [hs]) (by simp [hcl]) (by simp [hv])⟩
  · have hu : descaleBegun (commandHeard s)
        = enterAcidDrain .none (enterService (respond .descaleStart .accepted noDetail (commandHeard s))) := by
      simp [descaleBegun, hde, hph]
    rw [hu] at ho
    obtain ⟨ht, hset⟩ := panelTold_settle (k := .descaleStart) hf hq ho htells.enterAcidDrain
    rw [judgeSteam_of_service (by simp [enterAcidDrain_steam, enterService_steam])] at hset
    obtain ⟨hso, -, -⟩ := hset
    unfold OutputsOnly at hso
    have hw := ht.wait
    unfold WaitOnly at hw
    rw [enterAcidDrain_steam, enterService_steam] at hso
    refine ⟨by rw [hso], by rw [hso], by rw [hso]; simp [hst], by rw [hso], ht.queued (by simp) (by simp [noDetail]),
      fun h => by simp [hph] at h, fun _ => ⟨by rw [hw]; simp [enterAcidDrain], by rw [hso], by rw [hso], ?_⟩,
      ht.stands (by simp [enterAcidDrain, hr]), ht.closed,
      ht.touchesLess (by simp [enterAcidDrain, hp]) (by simp [enterAcidDrain, hs]) (by simp [enterAcidDrain, hcl])
        (by simp [enterAcidDrain, hv])⟩
    exact ht.queued (by simp) (by simp [hr, descaleCode, DescaleCause.code])

/-- What DESCALE_CONFIRM begins (R103, R104). -/
theorem descaleConfirm_of_prep (h : s.descale.phase = .prep) :
    descaleConfirm s = settle (enterDrainOut (respond .descaleConfirm .accepted noDetail s)) := by
  simp [descaleConfirm, h]

/-- DRAIN_OUT is told, and DOSE and SOAK_HEAT where they follow at once; of the rest nothing reaches the line. -/
theorem enterDrainOut_tells {l : List TxFrame} (h : Tells l s t) :
    ∃ m, Tells (l ++ m) s (enterDrainOut t) ∧ m.length ≤ 3 := by
  cases hlow : t.steam.levels.low with
  | true =>
    rw [enterDrainOut_of_low_wet hlow]
    exact ⟨_, h.enterPhase.giveRequest, by simp⟩
  | false =>
    rw [enterDrainOut_of_low_dry hlow]
    have hd := (h.enterPhase (phase := .drainOut) (rinse := 0) (cause := .none)).enterPhase
      (phase := .dose) (rinse := 0) (cause := .none)
    cases hhigh : t.steam.levels.high with
    | false =>
      rw [enterDose_of_high_dry (by simpa using hhigh)]
      refine ⟨_, by rw [← List.append_assoc]; exact hd.giveRequest, by simp⟩
    | true =>
      rw [enterDose_of_high_wet (by simpa using hhigh)]
      exact ⟨_, by rw [← List.append_assoc, ← List.append_assoc]; exact hd.giveRequest.clearRequest.enterPhase.giveRequest,
        by simp⟩

theorem descaleConfirm_answers (s : State) (hf : PanelFree s) (hg : GenSettled s) (hq : s.line.queue = []) :
    ∃ t, exec .descaleConfirm s = .next t
      ∧ ProgramStands s t ∧ FrameClosed false s t
      ∧ OnlyTouches [.power, .share, .line, .steam, .descale, .recipe] s t
      ∧ (s.descale.phase = .prep → s.steam.gen = .service →
          Queued (.result .descaleConfirm .accepted 0) t ∧ t.steam.gen = .service
          ∧ (s.steam.levels.low = true →
              t.descale.phase = .drainOut ∧ t.steam.request = .drain ∧ t.steam.drain = some ⟨0, 0⟩)
          ∧ (s.steam.levels.low = false → s.steam.levels.high = false →
              t.descale.phase = .dose ∧ t.steam.request = .fill 600 ∧ t.steam.fill = some ⟨.service, 600, 0, false⟩))
      ∧ (s.descale.phase ≠ .prep →
          Queued (.result .descaleConfirm .refusedState 0) t ∧ WaitOnly s t ∧ OutputsOnly s t) := by
  obtain ⟨hp, hs, hcl, -, hst, hde, hr, hv⟩ := (heardFrom_commandHeard hf.1).blocks
  refine ⟨takeCommand .descaleConfirm descaleConfirm s, rfl, ?_⟩
  by_cases hph : s.descale.phase = .prep
  · have htells := (Tells.refl (commandHeard s)).respond (kind := .descaleConfirm) (code := .accepted) (detail := noDetail)
    obtain ⟨m, hm, hlen⟩ := enterDrainOut_tells htells
    have ho := descaleConfirm_of_prep (s := commandHeard s) (by rwa [hde])
    obtain ⟨ht, hset⟩ := panelTold_settle (k := .descaleConfirm) hf hq ho hm
    have hw := ht.wait
    unfold WaitOnly at hw
    refine ⟨ht.stands (by simp [hr]), ht.closed, ht.touchesLess (by simp [hp]) (by simp [hs]) (by simp [hcl])
      (by simp [hv]), fun _ hsv => ?_, fun h => absurd hph h⟩
    rw [judgeSteam_of_service (by simp [hst, hsv])] at hset
    obtain ⟨hso, -, -⟩ := hset
    unfold OutputsOnly at hso
    refine ⟨ht.queued ?_ (by simp [noDetail]), by rw [hso]; simp [hst, hsv], fun hlow => ?_, fun hlow hhigh => ?_⟩
    · simp
      omega
    · rw [hso, hw, enterDrainOut_of_low_wet (by simpa [hst] using hlow)]
      simp
    · obtain ⟨h1, h2, h3, -⟩ := enterDose_request_of_high_dry
        (s := enterPhase .drainOut 0 .none (respond .descaleConfirm .accepted noDetail (commandHeard s)))
        (by simpa [hst] using hhigh)
      rw [hso, hw, enterDrainOut_of_low_dry (by simpa [hst] using hlow)]
      exact ⟨h1, h2, h3⟩
  · obtain ⟨hframe, hst', htouch, -, hq'⟩ := panelRefusal (k := .descaleConfirm) (owner := descaleConfirm) hf hg
      (kind := .descaleConfirm) (code := .refusedState) (detail := noDetail) (by simp [descaleConfirm, hde, hph])
    exact ⟨hst', hframe.1, htouch, fun h => absurd h hph, fun _ => ⟨hq', hframe.2.2.2.2, hframe.2.2.1⟩⟩

/-- Settles O31: DESCALE_START accepted, DESCALE_CONFIRM, and DESCALE_START refused. -/
theorem descaleBeginsOnCommand : Obligations.DescaleBeginsOnCommand := by
  refine ⟨descaleStart_begins, descaleConfirm_answers, fun s hf hg hc => ⟨_, rfl, ?_⟩⟩
  obtain ⟨-, hs, -, -, -, hde, hr, hv⟩ := (heardFrom_commandHeard hf.1).blocks
  have ho := descaleStart_refused (s := commandHeard s) (by simpa [frozen, hs, hde, hr, hv] using hc)
  simp only [frozen, hs, hde, hr] at ho
  obtain ⟨h1, h2, h3, -, h5⟩ := panelRefusal (k := .descaleStart) (owner := descaleStart) hf hg ho
  exact ⟨h1, h2, h3, h5⟩

end Sys2Proof.Machine

/-!
A chain of entries and what it leaves: the stage that begins, the end of the program, or STACK_FAULT, with its notices, and
the generator as it was until R82 is judged.
-/
namespace Sys2Proof.Machine

variable {s t w : State} {h : HeatStage} {r : Rest} {i n last : Nat} {stack : List Nat}

/-! ### The chain in another state -/

/-- What decides a chain: the stages, the probe and the readings. -/
structure SameStages (s w : State) : Prop where
  store    : w.recipe.store = s.recipe.store
  probe    : w.recipe.probePresent = s.recipe.probePresent
  readings : w.superv.readings = s.superv.readings

theorem SameStages.stageAt (hs : SameStages s w) (i : Nat) : stageAt w.recipe i = stageAt s.recipe i := by
  simp [Machine.stageAt, hs.store]

theorem SameStages.skipHolds (hs : SameStages s w) (k : Skip) : skipHolds w k = skipHolds s k := by
  cases k <;> simp [Machine.skipHolds, readingAtLeast, reading, hs.probe, hs.readings]

theorem SameStages.entryRests (hs : SameStages s w) (h : EntryRests s n i stack r) : EntryRests w n i stack r := by
  induction h with
  | past i stack hi => exact .past i stack (by rw [hs.store]; exact hi)
  | skipsHeat n i stack h k r hst hk _ ih => exact .skipsHeat n i stack h k r (by rw [hs.stageAt, hst]) (by rw [hs.skipHolds, hk]) ih
  | skipsCall n i target stack k r hst hk _ ih =>
    exact .skipsCall n i target stack k r (by rw [hs.stageAt, hst]) (by rw [hs.skipHolds, hk]) ih
  | calls n i target stack k r hst hk hl _ ih =>
    exact .calls n i target stack k r (by rw [hs.stageAt, hst]) (fun x hx => by rw [hs.skipHolds, hk x hx]) hl ih
  | overflows i target stack k hst hk hl =>
    exact .overflows i target stack k (by rw [hs.stageAt, hst]) (fun x hx => by rw [hs.skipHolds, hk x hx]) hl
  | returns n i j stack r hst _ ih => exact .returns n i j stack r (by rw [hs.stageAt, hst]) ih
  | returnsToTheEnd i hst => exact .returnsToTheEnd i (by rw [hs.stageAt, hst])
  | begins i stack h k hst hk hh =>
    exact .begins i stack h k (by rw [hs.stageAt, hst]) (fun x hx => by rw [hs.skipHolds, hk x hx])
      ((stageHolds_congr hs.readings hs.probe h).2 hh)

/-! ### The stage that begins -/

/-- A HEAT stage that begins, before R82 is judged (R126). -/
def stageBegun (i : Nat) (h : HeatStage) (s : State) : State :=
  let s1 := handOver h s
  let s2 := s1.setRecipe { s1.recipe with
    state        := if h.endKind = .prompt then .prompting else .running
    lastHeat     := i
    elapsedMs    := 0
    phaseStarted := !h.atTarget || atTarget s h
    withheldMark := false
    withheldMs   := 0
    prompt       := if h.endKind = .prompt then h.prompt else 0 }
  let s3 := notice .stageBegin noDetail s2
  if h.endKind = .prompt then notice .prompt h.prompt s3 else s3

theorem beginStage_eq (i : Nat) (h : HeatStage) (s : State) : beginStage i h s = judgeSteam (stageBegun i h s) := by
  simp [beginStage, stageBegun]

theorem stageBegun_recipe (i : Nat) (h : HeatStage) (s : State) :
    (stageBegun i h s).recipe = { s.recipe with
      state        := if h.endKind = .prompt then .prompting else .running
      lastHeat     := i
      elapsedMs    := 0
      phaseStarted := !h.atTarget || atTarget s h
      withheldMark := false
      withheldMs   := 0
      prompt       := if h.endKind = .prompt then h.prompt else 0 } := by
  unfold stageBegun
  dsimp only
  split <;> simp [notice, noticeAt, *]

@[simp] theorem stageBegun_frame (i : Nat) (h : HeatStage) (s : State) :
    (stageBegun i h s).pending = s.pending ∧ (stageBegun i h s).startup = s.startup
      ∧ (stageBegun i h s).steam = s.steam ∧ (stageBegun i h s).descale = s.descale
      ∧ (stageBegun i h s).superv = s.superv ∧ (stageBegun i h s).share = s.share
      ∧ (stageBegun i h s).climate = (handOver h s).climate := by
  unfold stageBegun
  dsimp only
  split <;> simp [notice, noticeAt]

theorem stageBegun_tells {l : List TxFrame} {s0 : State} (ht : Tells l s0 s) :
    Tells (l ++ beginNotices (noticeTag s.recipe) s.recipe.cur h) s0 (stageBegun i h s) := by
  unfold stageBegun beginNotices
  dsimp only
  have h1 := Tells.noticeOf (code := .stageBegin) (detail := noDetail) (tag := noticeTag s.recipe) (index := s.recipe.cur)
    ((ht.handOver (k := h)).same (u := (handOver h s).setRecipe { (handOver h s).recipe with
      state        := if h.endKind = .prompt then .prompting else .running
      lastHeat     := i
      elapsedMs    := 0
      phaseStarted := !h.atTarget || atTarget s h
      withheldMark := false
      withheldMs   := 0
      prompt       := if h.endKind = .prompt then h.prompt else 0 }) rfl rfl rfl) (by simp [noticeTag]) (by simp)
  split
  · have h2 := Tells.noticeOf (code := .prompt) (detail := h.prompt) (tag := noticeTag s.recipe) (index := s.recipe.cur) h1
      (by simp [notice, noticeAt, noticeTag]) (by simp [notice, noticeAt])
    simpa [*, noDetail] using h2
  · simpa [*, noDetail] using h1

/-! ### Where a chain comes to rest -/

/-- What stands of the program and the climate where a chain has come to rest. -/
def Rest.Stands (last : Nat) (s t : State) : Rest → Prop
  | .begins i h stack => EntersHeat i h s t ∧ t.recipe.stack = stack
  | .finishes =>
    t.recipe.state = .finished ∧ t.recipe.cur = last ∧ t.recipe.stack = [] ∧ t.recipe.store = s.recipe.store
      ∧ ClimateLeft s t
  | .stackFault =>
    t.recipe.state = .faulted ∧ t.recipe.cur = last ∧ t.recipe.stack = [] ∧ t.recipe.store = s.recipe.store
      ∧ ClimateLeft s t

/-- What a chain of entries makes of `w` before R82 is judged: its rest with the notices, and no other block changed. -/
structure ChainEnds (w y : State) (r : Rest) : Prop where
  stands  : r.Stands w.recipe.lastHeat w y
  tells   : Tells (restNotices (noticeTag w.recipe) w.recipe.lastHeat r) w y
  tag     : y.recipe.tag = w.recipe.tag
  count   : y.recipe.count = w.recipe.count
  pending : y.pending = w.pending
  startup : y.startup = w.startup
  steam   : y.steam = w.steam
  descale : y.descale = w.descale
  superv  : y.superv = w.superv

theorem finishProgram_ends (w : State) (j : Nat) (stack : List Nat) :
    ChainEnds w (finishProgram (w.atEntry j stack)) .finishes := by
  have ht := ((Tells.refl w).same (u := w.atEntry j stack) rfl rfl rfl).finishProgram
  refine ⟨⟨?_, ?_, ?_, ?_, ?_⟩, by simpa [noticeTag, restNotices] using ht, ?_, ?_, ?_, ?_, ?_, ?_, ?_⟩
  case refine_5 =>
    have h := climateLeft_leaveClimate ((w.atEntry j stack).setRecipe { (w.atEntry j stack).recipe with
      state := .finished, cur := (w.atEntry j stack).recipe.lastHeat, stack := [], prompt := 0 })
    simpa [ClimateLeft, finishProgram, notice, noticeAt, State.atEntry] using h
  all_goals simp [finishProgram, notice, noticeAt, State.atEntry]

theorem faultProgram_ends (w : State) (ha : programActive w.recipe = true) (j : Nat) (stack : List Nat) :
    ChainEnds w (faultProgram .stackFault (w.atEntry j stack)) .stackFault := by
  have ht := ((Tells.refl w).same (u := w.atEntry j stack) rfl rfl rfl).faultProgram (cause := .stackFault)
  have ha' : programActive (w.atEntry j stack).recipe = true := ha
  rw [faultNotice, if_pos ha'] at ht
  have he : faultProgram .stackFault (w.atEntry j stack) = notice .programFault ProgramFault.stackFault.code
      (leaveClimate ((w.atEntry j stack).setRecipe { (w.atEntry j stack).recipe with
        state := .faulted, cur := (w.atEntry j stack).recipe.lastHeat, stack := [], prompt := 0 })) := if_pos ha'
  refine ⟨⟨?_, ?_, ?_, ?_, ?_⟩, by simpa [noticeTag, restNotices, ProgramFault.code] using ht, ?_, ?_, ?_, ?_, ?_, ?_, ?_⟩
  case refine_5 =>
    have h := climateLeft_leaveClimate ((w.atEntry j stack).setRecipe { (w.atEntry j stack).recipe with
      state := .faulted, cur := (w.atEntry j stack).recipe.lastHeat, stack := [], prompt := 0 })
    rw [he]
    simpa [ClimateLeft, notice, noticeAt, State.atEntry] using h
  all_goals rw [he]; simp [notice, noticeAt, State.atEntry]

theorem stageBegun_ends (w : State) (i : Nat) (h : HeatStage) (stack : List Nat) :
    ChainEnds w (stageBegun i h (w.atEntry i stack)) (.begins i h stack) := by
  have hr := stageBegun_recipe i h (w.atEntry i stack)
  have ht := stageBegun_tells (i := i) (h := h) ((Tells.refl w).same (u := w.atEntry i stack) rfl rfl rfl)
  refine ⟨⟨⟨?_, ?_, ?_, ?_, ?_, ?_, ?_, ?_, ?_⟩, ?_⟩, by simpa [noticeTag, restNotices] using ht, ?_, ?_, ?_, ?_, ?_, ?_, ?_⟩
  case refine_9 =>
    rw [(stageBegun_frame i h (w.atEntry i stack)).2.2.2.2.2.2]
    cases hm : (profile h.mode).humidity <;> simp [handOver, State.atEntry, hm] <;> congr
  case refine_1 | refine_2 | refine_3 | refine_4 | refine_5 | refine_6 | refine_7 | refine_8 | refine_10 => rw [hr] <;> rfl
  case refine_11 | refine_12 => rw [hr] <;> rfl
  all_goals simp [State.atEntry]

/-- The stage that a chain begins is the one at its index, and it holds. -/
theorem EntryRests.begun (h : EntryRests s n i stack r) {j : Nat} {k : HeatStage} {st : List Nat}
    (hr : r = .begins j k st) : heatAt s.recipe j = some k ∧ StageHolds s k := by
  induction h with
  | past | overflows | returnsToTheEnd => cases hr
  | skipsHeat n i stack h x r _ _ _ ih => exact ih hr
  | skipsCall n i target stack x r _ _ _ ih => exact ih hr
  | calls n i target stack x r _ _ _ _ ih => exact ih hr
  | returns n i j stack r _ _ ih => exact ih hr
  | begins i stack h x hst _ hh =>
    cases hr
    exact ⟨by simp [heatAt, hst], hh⟩

/-- A stage that holds is not at its end as it begins. -/
theorem StageHolds.at_start {u : State} (hh : StageHolds s h) (hv : u.superv.readings = s.superv.readings)
    (hp : u.recipe.probePresent = s.recipe.probePresent) (he : u.recipe.elapsedMs = 0) : endConditionMet u h = false := by
  unfold StageHolds at hh
  unfold endConditionMet
  rw [atTarget_congr hv, coreMet_congr hv hp, hp]
  have hd : (∃ d, h.duration = some d ∧ 1 ≤ d) → durationReached u.recipe h = false := by
    rintro ⟨d, hd, hle⟩
    simp [durationReached, hd, he]
    omega
  cases hk : h.endKind <;> simp_all

/-- A stage that holds goes on as it has begun. -/
theorem beginStage_rests (hat : heatAt w.recipe i = some h) (hh : StageHolds w h) (fuel : Nat) (stack : List Nat) :
    (let s2 := beginStage i h (w.atEntry i stack)
      if stageEnds s2 then enterStage fuel (i + 1) s2 else probeRule s2)
      = judgeSteam (stageBegun i h (w.atEntry i stack)) := by
  dsimp only
  rw [beginStage_eq]
  have hr : (judgeSteam (stageBegun i h (w.atEntry i stack))).recipe = _ :=
    ((judgeSteam_frame _).2.2.2.2.1).trans (stageBegun_recipe i h (w.atEntry i stack))
  have hact : programActive (judgeSteam (stageBegun i h (w.atEntry i stack))).recipe = true := by
    rw [hr]
    by_cases hk : h.endKind = .prompt <;> simp [programActive, hk]
  have hcur : currentHeat (judgeSteam (stageBegun i h (w.atEntry i stack))).recipe = some h := by
    rw [currentHeat_of_active hact, hr]
    exact hat
  have hsup : (judgeSteam (stageBegun i h (w.atEntry i stack))).superv.readings = w.superv.readings := by
    simp [State.atEntry]
  have hprobe : (judgeSteam (stageBegun i h (w.atEntry i stack))).recipe.probePresent = w.recipe.probePresent := by
    rw [hr]
    rfl
  have hend := stageEnds_of_current hcur (hh.at_start hsup hprobe (by rw [hr]))
  rw [if_neg (by simp [hend])]
  refine probeRule_of_present fun x hx => ?_
  obtain rfl : h = x := Option.some.inj (hcur.symm.trans hx)
  rw [hprobe]
  exact hh.probe

/-- `settle` judges R82 before anything else. -/
theorem settle_judgeSteam (s : State) : settle (judgeSteam s) = settle s := by
  simp only [settle, judgeSteam_of_settled (genSettled_judgeSteam s)]

/-- The chain from an entry in an active program, with what settles behind it. -/
theorem enter_ends (hr : EntryRests w n i w.recipe.stack r) (hn : n ≤ 17000) (ha : programActive w.recipe = true) :
    ∃ y, ChainEnds w y r ∧ settle (enter i w) = settle y := by
  have hans := enterStage_rests hr (fuel := entryFuel) w.recipe.cur (by unfold entryFuel; omega)
  change r.Answers w (enter i w) at hans
  cases r with
  | begins j h stack =>
    obtain ⟨fuel, hx⟩ := hans
    obtain ⟨hat, hh⟩ := hr.begun rfl
    exact ⟨_, stageBegun_ends w j h stack, by rw [hx, beginStage_rests hat hh, settle_judgeSteam]⟩
  | finishes =>
    obtain ⟨j, stack, hx⟩ := hans
    exact ⟨_, finishProgram_ends w j stack, by rw [hx]⟩
  | stackFault =>
    obtain ⟨j, stack, hx⟩ := hans
    exact ⟨_, faultProgram_ends w ha j stack, by rw [hx]⟩

/-- The rest of a chain as it stands behind what settles and what is queued. -/
theorem ChainEnds.restsAs {y : State} (hy : ChainEnds w y r) (hlast : w.recipe.lastHeat = last)
    (hstore : w.recipe.store = s.recipe.store) (hclimate : w.climate = s.climate)
    (hread : w.superv.readings = s.superv.readings)
    (hrec : t.recipe = { y.recipe with withheldMs := t.recipe.withheldMs }) (hcl : t.climate = y.climate)
    (hq : ∀ f ∈ restNotices (noticeTag s.recipe) last r, Queued f t) : RestsAs last s t r := by
  subst hlast
  have hs := hy.stands
  cases r with
  | begins j k stack =>
    obtain ⟨⟨h1, h2, h3, h4, h5, h6, h7, h8, h9⟩, h10⟩ := hs
    rw [atTarget_congr hread] at h6
    rw [hclimate] at h9
    rw [hstore] at h8
    refine ⟨⟨?_, ?_, ?_, ?_, ?_, ?_, ?_, ?_, hcl.trans h9⟩, ?_, hq _ (by simp [restNotices, beginNotices])⟩
    all_goals rw [hrec]; assumption
  | finishes =>
    obtain ⟨h1, h2, h3, h4, h5⟩ := hs
    rw [ClimateLeft, hclimate] at h5
    rw [hstore] at h4
    refine ⟨?_, ?_, ?_, ?_, hcl.trans h5, hq _ (by simp [restNotices])⟩
    all_goals rw [hrec]; assumption
  | stackFault =>
    obtain ⟨h1, h2, h3, h4, h5⟩ := hs
    rw [ClimateLeft, hclimate] at h5
    rw [hstore] at h4
    refine ⟨?_, ?_, ?_, ?_, hcl.trans h5, hq _ (by simp [restNotices])⟩
    all_goals rw [hrec]; assumption

theorem restNotices_length (tag last : Nat) (r : Rest) : (restNotices tag last r).length ≤ 2 := by
  cases r with
  | begins i h stack => simp [restNotices, beginNotices]; split <;> simp
  | finishes | stackFault => simp [restNotices]

/-- A panel command whose owner answers, and then follows a chain of entries. -/
theorem panel_chain {k : CmdKind} {owner : State → State} {f : TxFrame} (hf : PanelFree s) (hq : s.line.queue = [])
    (ho : owner (commandHeard s) = settle (enter i w)) (hw : Tells [f] (commandHeard s) w)
    (hr : EntryRests w n i w.recipe.stack r) (hn : n ≤ 17000) (ha : programActive w.recipe = true) :
    ∃ y, ChainEnds w y r
      ∧ PanelTold (f :: restNotices (noticeTag w.recipe) w.recipe.lastHeat r) s y (takeCommand k owner s)
      ∧ SettlesOnly (judgeSteam y) (takeCommand k owner s) := by
  obtain ⟨y, hy, he⟩ := enter_ends hr hn ha
  obtain ⟨ht, hset⟩ := panelTold_settle (k := k) hf hq (ho.trans he) (hw.trans hy.tells)
  exact ⟨y, hy, by simpa using ht, hset⟩

theorem PanelTold.rest {f : TxFrame} {tag : Nat} {u : State} (ht : PanelTold (f :: restNotices tag last r) s u t) :
    ReportsAre t (f :: restNotices tag last r) ∧ Queued f t ∧ ∀ g ∈ restNotices tag last r, Queued g t := by
  have hl := restNotices_length tag last r
  have hl' : (f :: restNotices tag last r).length ≤ 4 := by simp; omega
  exact ⟨(ht.told hl').reportsAre, ht.queued hl' (by simp), fun g hg => ht.queued hl' (by simp [hg])⟩

/-! ### ANSWER -/

theorem answerCommand_of_prompting {index reply : Byte} (hst : s.recipe.state = .prompting)
    (hat : heatAt s.recipe s.recipe.cur = some h) (hpr : s.recipe.prompt ≠ 250) (hidx : index.toNat = s.recipe.cur)
    (hrep : reply.toNat ≤ 2) :
    answerCommand index reply s
      = settle (enter (s.recipe.cur + (h.branches[reply.toNat]?).getD 1) (respond .answer .accepted noDetail s)) := by
  have hcur : currentHeat s.recipe = some h := (currentHeat_of_active (by simp [programActive, hst])).trans hat
  have happ : applyAnswer reply.toNat (respond .answer .accepted noDetail s)
      = enter (s.recipe.cur + (h.branches[reply.toNat]?).getD 1) (respond .answer .accepted noDetail s) := by
    have hrec : (respond .answer .accepted noDetail s).recipe = s.recipe := by simp
    rw [applyAnswer, hrec, hcur, Option.bind_some]
    cases h.branches[reply.toNat]? <;> rfl
  unfold answerCommand
  rw [if_neg (by simp [hst]), if_neg (by omega), if_neg (by simp [hidx]), if_neg (show ¬ s.recipe.prompt = probePrompt from hpr), happ]

/-- The chain behind an ANSWER, and what the station makes of it. -/
theorem answer_chain (s : State) (index reply : Byte) (h : HeatStage) (links : Nat) (r : Rest) (hf : PanelFree s)
    (hq : s.line.queue = []) (hst : s.recipe.state = .prompting) (hat : heatAt s.recipe s.recipe.cur = some h)
    (hpr : s.recipe.prompt ≠ 250) (hidx : index.toNat = s.recipe.cur) (hrep : reply.toNat ≤ 2) (hl : links ≤ 17000)
    (hrest : EntryRests s links (s.recipe.cur + (h.branches[reply.toNat]?).getD 1) s.recipe.stack r) :
    ∃ t, exec (.answer index reply) s = .next t
      ∧ RestsAs s.recipe.lastHeat s t r
      ∧ ReportsAre t (.result .answer .accepted 0 :: restNotices (noticeTag s.recipe) s.recipe.lastHeat r)
      ∧ FrameClosed false s t ∧ WaitOnly s t
      ∧ OnlyTouches [.climate, .power, .share, .line, .steam, .descale, .recipe] s t
      ∧ Queued (.result .answer .accepted 0) t
      ∧ ∀ g ∈ restNotices (noticeTag s.recipe) s.recipe.lastHeat r, Queued g t := by
  obtain ⟨hp, hs, hcl, -, -, hde, hr, hv⟩ := (heardFrom_commandHeard hf.1).blocks
  let w := respond .answer .accepted noDetail (commandHeard s)
  have hwr : w.recipe = s.recipe := by simp [w, hr]
  have hwv : w.superv = s.superv := by simp [w, hv]
  have hsame : SameStages s w := ⟨by rw [hwr], by rw [hwr], by rw [hwv]⟩
  obtain ⟨y, hy, ht, -⟩ := panel_chain (k := .answer) (f := .result .answer .accepted 0) (w := w)
    (owner := answerCommand index reply) (i := s.recipe.cur + (h.branches[reply.toNat]?).getD 1) hf hq
    (by
      rw [answerCommand_of_prompting (h := h) (by rwa [hr]) (by rwa [hr]) (by rwa [hr]) (by rwa [hr]) hrep, hr])
    (Tells.refl (commandHeard s)).respond (by rw [hwr]; exact hsame.entryRests hrest) hl
    (by simp [programActive, hwr, hst])
  rw [hwr] at ht
  obtain ⟨hreports, hfirst, hrests⟩ := ht.rest
  exact ⟨_, rfl, hy.restsAs (by rw [hwr]) (by rw [hwr]) (by simp [w, hcl]) (by rw [hwv]) ht.recipe ht.climate hrests,
    hreports, ht.closed, ht.waitOnly (hy.descale.trans (by simp [w, hde])),
    ht.touches (hy.pending.trans (by simp [w, hp])) (hy.startup.trans (by simp [w, hs])) (hy.superv.trans hwv), hfirst, hrests⟩

theorem answer_accepted (s : State) (index reply : Byte) (h h' : HeatStage) (hf : PanelFree s)
    (hq : s.line.queue = []) (hst : s.recipe.state = .prompting) (hat : heatAt s.recipe s.recipe.cur = some h)
    (hpr : s.recipe.prompt ≠ 250) (hidx : index.toNat = s.recipe.cur) (hrep : reply.toNat ≤ 2)
    (hnext : (stageAt s.recipe (s.recipe.cur + (h.branches[reply.toNat]?).getD 1) = some (.heat h' none) ∧ StageHolds s h')
      ∨ stageAt s.recipe (s.recipe.cur + (h.branches[reply.toNat]?).getD 1) = none) :
    ∃ t, exec (.answer index reply) s = .next t
      ∧ FrameClosed false s t ∧ WaitOnly s t ∧ Queued (.result .answer .accepted 0) t
      ∧ OnlyTouches [.climate, .power, .share, .line, .steam, .descale, .recipe] s t
      ∧ (stageAt s.recipe (s.recipe.cur + (h.branches[reply.toNat]?).getD 1) = none →
          t.recipe.state = .finished ∧ t.recipe.cur = s.recipe.lastHeat ∧ t.recipe.stack = []
          ∧ t.recipe.store = s.recipe.store ∧ ClimateLeft s t
          ∧ Queued (.notice .programFinished (noticeTag s.recipe) s.recipe.lastHeat 0) t)
      ∧ (stageAt s.recipe (s.recipe.cur + (h.branches[reply.toNat]?).getD 1) = some (.heat h' none) →
          EntersHeat (s.recipe.cur + (h.branches[reply.toNat]?).getD 1) h' s t
          ∧ t.recipe.stack = s.recipe.stack) := by
  have hcur : s.recipe.cur ≠ 0 := by
    intro h0
    simp [heatAt, stageAt, h0] at hat
  rcases hnext with ⟨hstage, hh⟩ | hnone
  · obtain ⟨t, he, ⟨hent, hstack, -⟩, -, hc, hw, hto, hres, -⟩ := answer_chain s index reply h 0 _ hf hq hst hat hpr hidx hrep
      (by omega) (.begins _ s.recipe.stack h' none hstage (by simp) hh)
    exact ⟨t, he, hc, hw, hres, hto, fun hn => absurd (hstage.symm.trans hn) (by simp), fun _ => ⟨hent, hstack⟩⟩
  · have hpast : s.recipe.store.length < s.recipe.cur + (h.branches[reply.toNat]?).getD 1 := by
      unfold stageAt at hnone
      rw [if_neg (by omega), List.getElem?_eq_none_iff] at hnone
      omega
    obtain ⟨t, he, hrest, -, hc, hw, hto, hres, -⟩ := answer_chain s index reply h 0 _ hf hq hst hat hpr hidx hrep
      (by omega) (.past _ s.recipe.stack hpast)
    exact ⟨t, he, hc, hw, hres, hto, fun _ => hrest, fun hs => absurd (hnone.symm.trans hs) (by simp)⟩

/-- The refusals of R131, in its order. -/
theorem answerCommand_refused {index reply : Byte}
    (hc : s.recipe.state ≠ .prompting ∨ 2 < reply.toNat ∨ index.toNat ≠ s.recipe.cur
      ∨ (s.recipe.prompt = 250 ∧ s.recipe.probePresent = false)) :
    ∃ code detail, answerCommand index reply s = respond .answer code detail s
      ∧ (.result .answer code detail : TxFrame) = (if s.recipe.state ≠ .prompting then .result .answer .refusedState 0
          else if 2 < reply.toNat then .result .answer .refusedField 1
          else if index.toNat ≠ s.recipe.cur then .result .answer .refusedOrder s.recipe.cur
          else .result .answer .refusedState 2) := by
  unfold answerCommand
  by_cases h1 : s.recipe.state ≠ .prompting
  · exact ⟨_, _, if_pos h1, (if_pos h1).symm⟩
  · rw [if_neg h1, if_neg h1]
    by_cases h2 : 2 < reply.toNat
    · exact ⟨_, _, if_pos h2, (if_pos h2).symm⟩
    · rw [if_neg h2, if_neg h2]
      by_cases h3 : index.toNat ≠ s.recipe.cur
      · exact ⟨_, _, if_pos h3, (if_pos h3).symm⟩
      · obtain ⟨hpr, hab⟩ := ((hc.resolve_left h1).resolve_left h2).resolve_left h3
        rw [if_neg h3, if_neg h3, if_pos (show s.recipe.prompt = probePrompt from hpr), if_neg (by simp [hab])]
        exact ⟨_, _, rfl, rfl⟩

/-- The stage goes on from the prompt 250 with the probe present (R130). -/
theorem continueStage_of_present (hat : heatAt s.recipe s.recipe.cur = some h) (hk : h.endKind = .core)
    (hh : StageHolds s h) :
    continueStage s = handOver h (s.setRecipe { s.recipe with state := .running, prompt := 0 }) := by
  have hcur : currentHeat (s.setRecipe { s.recipe with state := .running, prompt := 0 }).recipe = some h :=
    (currentHeat_of_active (by simp [programActive])).trans hat
  have hcore : s.recipe.probePresent = true ∧ coreMet s h = false := by simpa [StageHolds, hk] using hh
  have hend : endConditionMet (handOver h (s.setRecipe { s.recipe with state := .running, prompt := 0 })) h = false := by
    unfold endConditionMet
    rw [hk, coreMet_congr (s := s) (by simp) (by simp)]
    simp [hcore.1, hcore.2]
  rw [continueStage]
  simp only [hcur]
  rw [judgeStage, stageEnds_of_current (by simpa using hcur) hend]
  rfl

theorem answer_at_probePrompt (s : State) (index reply : Byte) (h : HeatStage) (hf : PanelFree s) (hg : GenSettled s)
    (hst : s.recipe.state = .prompting) (hpr : s.recipe.prompt = 250) (hprobe : s.recipe.probePresent = true)
    (hidx : index.toNat = s.recipe.cur) (hrep : reply.toNat ≤ 2) (hat : heatAt s.recipe s.recipe.cur = some h)
    (hk : h.endKind = .core) (hh : StageHolds s h) :
    ∃ t, exec (.answer index reply) s = .next t
      ∧ PanelFrame s t ∧ OnlyTouches [.climate, .power, .share, .line, .steam, .descale, .recipe] s t
      ∧ t.recipe = { s.recipe with state := .running, prompt := 0, withheldMs := t.recipe.withheldMs }
      ∧ t.climate.profile = some h.mode ∧ t.climate.cavityTarget = some h.cavity
      ∧ t.climate.demTop = s.climate.demTop ∧ t.climate.demBottom = s.climate.demBottom
      ∧ t.climate.demRing = s.climate.demRing
      ∧ Queued (.result .answer .accepted 0) t := by
  obtain ⟨hp, hs, hcl, -, -, -, hr, hv⟩ := (heardFrom_commandHeard hf.1).blocks
  let v := respond .answer .accepted noDetail (commandHeard s)
  let w := handOver h (v.setRecipe { s.recipe with state := .running, prompt := 0 })
  have hvr : v.recipe = s.recipe := by simp [v, hr]
  have howner : answerCommand index reply (commandHeard s) = settle w := by
    unfold answerCommand
    rw [hr, if_neg (by simp [hst]), if_neg (by omega), if_neg (by simp [hidx]), if_pos (show s.recipe.prompt = probePrompt from hpr), if_pos hprobe,
      continueStage_of_present (h := h) (s := v) (by rwa [hvr]) hk
        ((stageHolds_congr (by simp [v, hv]) (by rw [hvr]) h).2 hh), hvr]
  have haside : Aside (commandHeard s) w :=
    (((Aside.refl (commandHeard s)).respond (kind := .answer) (code := .accepted) (detail := noDetail)).same
      (u := w) rfl rfl rfl rfl rfl)
  have ht : PanelAnswered s w (takeCommand .answer (answerCommand index reply) s) :=
    panelAside hf hg (.inr howner) haside (by simp [w, v, hs]) (by simp [w, v, hp])
      (by simp [w, programActive, hst]) (by simp [w])
  refine ⟨_, rfl, ht.frame, ht.touches (by simp [w, v, hs]) (by simp [w, v, hv]), ?_, ?_, ?_, ?_, ?_, ?_, ?_⟩
  · rw [ht.recipe]; simp [w]
  · rw [ht.climate]; simp [w, handOver]
  · rw [ht.climate]; simp [w, handOver]
  · rw [ht.climate]; simp [w, v, handOver, hcl]
  · rw [ht.climate]; simp [w, v, handOver, hcl]
  · rw [ht.climate]; simp [w, v, handOver, hcl]
  · exact queued_congr (t := v) (ht.queue.trans (by simp [w]))
      (queued_respond (commandHeard_numbered hf.1) .answer .accepted noDetail)

/-- Settles O29: the branch, the refusals, the prompt 250, and the chain. -/
theorem answerGoesToItsBranchOrIsRefused : Obligations.AnswerGoesToItsBranchOrIsRefused := by
  refine ⟨fun s index reply h h' hf hq hst hat hpr hidx hrep hnext =>
      answer_accepted s index reply h h' hf hq hst hat hpr hidx hrep hnext,
    fun s index reply hf hg hc => ⟨_, rfl, ?_⟩, fun s index reply h hf hg hst hpr hprobe hidx hrep hat hk hh =>
      answer_at_probePrompt s index reply h hf hg hst hpr hprobe hidx hrep hat hk hh,
    fun s index reply h links r hf hq hst hat hpr hidx hrep hl hrest => ?_⟩
  · obtain ⟨-, -, -, -, -, -, hr, -⟩ := (heardFrom_commandHeard hf.1).blocks
    obtain ⟨code, detail, ho, hres⟩ := answerCommand_refused (s := commandHeard s) (by rwa [hr])
    rw [hr] at hres
    obtain ⟨h1, h2, h3, -, h5⟩ := panelRefusal (k := .answer) hf hg ho
    rw [hres] at h5
    exact ⟨h1, h2, h3, h5⟩
  · obtain ⟨t, he, h1, h2, h3, h4, h5, -⟩ := answer_chain s index reply h links r hf hq hst hat hpr hidx hrep hl hrest
    exact ⟨t, he, h1, h2, h3, h4, h5⟩

end Sys2Proof.Machine

/-!
START and RUN_MANUAL.
-/
namespace Sys2Proof.Machine

variable {s t w : State} {h : HeatStage} {r : Rest} {n : Nat}

/-! ### The machine as a program starts -/

/-- What an accepted START makes of the machine before it enters stage 1 (R124, R93). -/
def startedState (s : State) : State :=
  leaveFault ((s.setRecipe { s.recipe with cur := 1, lastHeat := 0, stack := [], state := .running, prompt := 0 }).setSuperv
    { s.superv with strikes := PerChannel.all 0 })

theorem startProgram_eq (s : State) : startProgram s = settle (enter 1 (startedState s)) := rfl

theorem leaveFault_steam (s : State) :
    (leaveFault s).steam.gen = genAtStart s ∧ (leaveFault s).steam.levels = s.steam.levels
      ∧ (s.steam.gen = .fault → (leaveFault s).steam.faultKind = none) := by
  unfold leaveFault genAtStart
  split
  · unfold genFromLevels
    split <;> simp [enterCooling, enterEmpty, *]
  · next hg => exact ⟨rfl, rfl, fun hf => absurd hf hg⟩

@[simp] theorem startedState_frame (s : State) :
    (startedState s).pending = s.pending ∧ (startedState s).startup = s.startup ∧ (startedState s).climate = s.climate
      ∧ (startedState s).descale = s.descale
      ∧ (startedState s).recipe
          = { s.recipe with cur := 1, lastHeat := 0, stack := [], state := .running, prompt := 0 }
      ∧ (startedState s).superv = { s.superv with strikes := PerChannel.all 0 } := by
  simp [startedState]

theorem startedState_steam (s : State) :
    (startedState s).steam.gen = genAtStart s ∧ (startedState s).steam.levels = s.steam.levels
      ∧ (s.steam.gen = .fault → (startedState s).steam.faultKind = none) :=
  leaveFault_steam _

protected theorem Tells.startedState {l : List TxFrame} (ht : Tells l s t) : Tells l s (startedState t) :=
  Tells.leaveFault (ht.same rfl rfl rfl)

/-- R82 gives no generator a kind of fault. -/
theorem judgeSteam_faultKind (hk : s.steam.faultKind = none) : (judgeSteam s).steam.faultKind = none := by
  have hfill : (enterFilling s).steam.faultKind = none := by
    rw [enterFilling_steam]
    split <;> exact hk
  have hend : (endSteam s).steam.faultKind = none := by
    rw [endSteam_steam]
    split <;> rfl
  unfold judgeSteam
  (repeat' split) <;> assumption

/-! ### A start and its chain -/

/-- What a panel command makes of the station that starts the program of `x`, taken from a state `z` with the same stages. -/
theorem start_chain {k : CmdKind} {owner : State → State} {kind : CmdKind} {code : ResultCode} {detail : Nat} {x : Recipe}
    {z : State} (hf : PanelFree s) (hq : s.line.queue = [])
    (ho : owner (commandHeard s) = startProgram (respond kind code detail ((commandHeard s).setRecipe x)))
    (hstore : z.recipe.store = x.store) (htag : z.recipe.tag = x.tag) (hprobe : z.recipe.probePresent = x.probePresent)
    (hclimate : z.climate = s.climate) (hsuperv : z.superv = s.superv) (hn : n ≤ 17000)
    (hrest : EntryRests z n 1 [] r) :
    RestsAs 0 z (takeCommand k owner s) r
      ∧ (takeCommand k owner s).superv = { s.superv with strikes := PerChannel.all 0 }
      ∧ ReportsAre (takeCommand k owner s) (.result kind code detail :: restNotices (noticeTag z.recipe) 0 r)
      ∧ (frozen s = true → GeneratorFollows (genAtStart s) s (takeCommand k owner s))
      ∧ (s.steam.gen = .fault → (takeCommand k owner s).steam.faultKind = none)
      ∧ FrameClosed false s (takeCommand k owner s) ∧ WaitOnly s (takeCommand k owner s)
      ∧ OnlyTouches [.climate, .power, .share, .line, .steam, .descale, .recipe, .superv] s (takeCommand k owner s)
      ∧ (takeCommand k owner s).recipe.tag = x.tag ∧ (takeCommand k owner s).recipe.count = x.count := by
  obtain ⟨hp, hs, hcl, -, hst, hde, -, hv⟩ := (heardFrom_commandHeard hf.1).blocks
  let v := respond kind code detail ((commandHeard s).setRecipe x)
  let w := startedState v
  have hwr : w.recipe = { x with cur := 1, lastHeat := 0, stack := [], state := .running, prompt := 0 } := by
    simp [w, v]
  have hwv : w.superv = { s.superv with strikes := PerChannel.all 0 } := by simp [w, v, hv]
  have hsame : SameStages z w := ⟨by rw [hwr, hstore], by rw [hwr, hprobe], by rw [hwv, hsuperv]⟩
  have hvt : Tells [.result kind code detail] (commandHeard s) v :=
    ((Tells.refl (commandHeard s)).same (u := (commandHeard s).setRecipe x) rfl rfl rfl).respond
  obtain ⟨y, hy, ht, hset⟩ := panel_chain (k := k) (f := .result kind code detail) (w := w) hf hq
    (ho.trans (startProgram_eq v)) hvt.startedState (by rw [hwr]; exact hsame.entryRests hrest) hn
    (by simp [programActive, hwr])
  have hnt : noticeTag w.recipe = noticeTag z.recipe := by simp [noticeTag, hwr, hstore, htag]
  have hlast : w.recipe.lastHeat = 0 := by rw [hwr]
  rw [hnt, hlast] at ht
  obtain ⟨hreports, -, hrests⟩ := ht.rest
  obtain ⟨hgen, hlev, hkind⟩ := startedState_steam v
  have hvs : v.steam = s.steam := by simp [v, hst]
  have hwu : w.startup = s.startup := by simp [w, v, hs]
  refine ⟨hy.restsAs hlast (by rw [hwr, hstore]) (by simp [w, v, hcl, hclimate]) (by rw [hwv, hsuperv])
    ht.recipe ht.climate hrests, ht.superv.trans (hy.superv.trans hwv), hreports, fun hfr => ?_, fun hfault => ?_, ht.closed,
    ht.waitOnly (hy.descale.trans (by simp [w, v, hde])), ?_, ?_, ?_⟩
  · have hgo := judgeSteam_follows (s := y) (by rw [hy.startup, hwu]; exact hf.2.2)
      (by rw [frozen, hy.startup, hwu]; exact hfr)
    have hgs : genAtStart v = genAtStart s := by simp [genAtStart, hvs]
    rw [hy.steam, show w.steam.gen = _ from hgen, hgs] at hgo
    exact hgo.congr (by rw [hy.steam]; exact hlev.trans (by rw [hvs])) (by rw [hy.superv, hwv])
      (by rw [ht.wanted, steamWanted_judgeSteam]) hset
  · have hk : y.steam.faultKind = none := by rw [hy.steam]; exact hkind (by rw [hvs]; exact hfault)
    have := judgeSteam_faultKind hk
    obtain ⟨hso, -, -⟩ := hset
    unfold OutputsOnly at hso
    rw [hso]
    exact this
  · refine ⟨ht.pending.trans (hy.pending.trans (by simp [w, v, hp])), fun b hb => ?_⟩
    cases b with
    | startup => exact ht.startup.trans (hy.startup.trans hwu)
    | climate | power | share | line | steam | descale | recipe | superv => exact absurd hb (by decide)
  · rw [ht.recipe]
    exact hy.tag.trans (by rw [hwr])
  · rw [ht.recipe]
    exact hy.count.trans (by rw [hwr])

/-! ### The answers of START and RUN_MANUAL -/

theorem startRefusal_none (hd : descaleActive s.descale = false) (ha : s.steam.acid = false) (ht : tripRefuses s = false) :
    startRefusal s = none := by
  simp [startRefusal, hd, ha, ht]

theorem startCommand_accepted (hst : s.recipe.state = .loaded) (hno : startRefusal s = none) :
    startCommand s = startProgram (respond .start .accepted noDetail (s.setRecipe s.recipe)) := by
  rw [startCommand, if_neg (by simp [hst]), hno]
  rfl

/-- The refusals of R124, in its order. -/
theorem startCommand_refused
    (hc : s.recipe.state ≠ .loaded ∨ descaleActive s.descale = true ∨ s.steam.acid = true
      ∨ s.superv.trip = true ∨ s.superv.relayClosed = false ∨ s.superv.welded = true) :
    startCommand s = respond .start
      (if s.recipe.state ≠ .loaded ∨ descaleActive s.descale = true then .refusedState
        else if s.steam.acid then .refusedAcid else .refusedTrip) noDetail s := by
  unfold startCommand startRefusal
  by_cases h1 : s.recipe.state ≠ .loaded
  · rw [if_pos h1, if_pos (.inl h1)]
  · rw [if_neg h1]
    cases hd : descaleActive s.descale with
    | true => simp
    | false =>
      cases ha : s.steam.acid with
      | true => simp [h1]
      | false =>
        have ht : tripRefuses s = true := by
          simp only [tripRefuses, Bool.or_eq_true, Bool.not_eq_eq_eq_not, Bool.not_true, or_assoc]
          simpa [h1, hd, ha] using hc
        simp [h1, ht]

theorem runManual_accepted {record : List Byte} {skip : Option Skip} {clamped : Option Nat} (hfr : frozen s = true)
    (hil : s.recipe.state = .idle ∨ s.recipe.state = .loaded) (hrec : judgeRecord 0 record = .taken (.heat h skip) clamped)
    (hb : h.branches = []) (hno : startRefusal s = none) :
    runManual record s = startProgram (respond .runManual (takenCode clamped) (clamped.getD noDetail)
      (s.setRecipe { s.recipe with store := [.heat h skip], count := 1, tag := 0, remaining := 0 })) := by
  have hstate : (!frozen s || (decide (s.recipe.state ≠ .idle) && decide (s.recipe.state ≠ .loaded))) = false := by
    rcases hil with h | h <;> simp [hfr, h]
  rw [runManual, hstate, hrec]
  simp [hb, hno]

theorem runManual_refused {record : List Byte} {code : ResultCode} {detail : Nat}
    (hm : manualRefusal s record = some (code, detail)) :
    runManual record s = respond .runManual code detail s := by
  unfold manualRefusal at hm
  unfold runManual
  by_cases h1 : frozen s = false ∨ (s.recipe.state ≠ .idle ∧ s.recipe.state ≠ .loaded)
  · rw [if_pos h1] at hm
    obtain ⟨rfl, rfl⟩ : ResultCode.refusedState = code ∧ 0 = detail := by simpa using hm
    rw [if_pos (by simpa using h1)]
    rfl
  · rw [if_neg h1] at hm
    rw [if_neg (by simpa using h1)]
    cases hrec : judgeRecord 0 record with
    | refused d =>
      simp only [hrec, Option.some.injEq, Prod.mk.injEq] at hm ⊢
      rw [hm.1, hm.2]
    | taken x clamped =>
      cases x with
      | call target skip | ret =>
        simp only [hrec, Option.some.injEq, Prod.mk.injEq] at hm ⊢
        rw [hm.1, hm.2]
      | heat h skip =>
        simp only [hrec] at hm ⊢
        by_cases hb : h.branches = []
        · simp only [hb, ne_eq, not_true, if_false, List.isEmpty_nil, Bool.not_true, Bool.false_eq_true,
            startRefusal, tripRefuses] at hm ⊢
          split at hm <;> (try split at hm) <;> (try split at hm) <;> simp_all [noDetail]
        · simp only [hb, ne_eq, not_false_eq_true, if_true, Option.some.injEq, Prod.mk.injEq] at hm
          rw [if_pos (by simp [hb]), hm.1, hm.2]

/-! ### The chain of a start -/

theorem start_follows (hf : PanelFree s) (hst : s.recipe.state = .loaded)
    (hd : descaleActive s.descale = false) (ha : s.steam.acid = false) (ht : tripRefuses s = false) :
    startCommand (commandHeard s)
      = startProgram (respond .start .accepted noDetail ((commandHeard s).setRecipe s.recipe)) := by
  obtain ⟨-, -, -, -, hst', hde, hr, hv⟩ := (heardFrom_commandHeard hf.1).blocks
  rw [startCommand_accepted (by rwa [hr]) (startRefusal_none (by rwa [hde]) (by rwa [hst'])
    (by simpa [tripRefuses, hv] using ht)), hr]

theorem manual_follows {record : List Byte} {skip : Option Skip} {clamped : Option Nat} (hf : PanelFree s)
    (hfr : frozen s = true) (hil : s.recipe.state = .idle ∨ s.recipe.state = .loaded)
    (hrec : judgeRecord 0 record = .taken (.heat h skip) clamped) (hb : h.branches = [])
    (hd : descaleActive s.descale = false) (ha : s.steam.acid = false) (ht : tripRefuses s = false) :
    runManual record (commandHeard s) = startProgram (respond .runManual (takenCode clamped) (clamped.getD noDetail)
      ((commandHeard s).setRecipe { s.recipe with store := [.heat h skip], count := 1, tag := 0, remaining := 0 })) := by
  obtain ⟨-, hs, -, -, hst', hde, hr, hv⟩ := (heardFrom_commandHeard hf.1).blocks
  rw [runManual_accepted (by rw [frozen, hs]; exact hfr) (by rwa [hr]) hrec hb (startRefusal_none (by rwa [hde])
    (by rwa [hst']) (by simpa [tripRefuses, hv] using ht)), hr]

/-- A program of one HEAT stage has one entry behind the first at most. -/
theorem EntryRests.of_single {skip : Option Skip} (hs : s.recipe.store = [.heat h skip]) (he : EntryRests s n 1 [] r) :
    n ≤ 1 := by
  have h1 : stageAt s.recipe 1 = some (.heat h skip) := by simp [stageAt, hs]
  have h2 : stageAt s.recipe 2 = none := by simp [stageAt, hs]
  cases he with
  | past | overflows | returnsToTheEnd | begins => omega
  | skipsCall n i target stack k r hst => rw [h1] at hst; cases hst
  | calls n i target stack k r hst => rw [h1] at hst; cases hst
  | skipsHeat n i stack h k r hst hk hrest =>
    cases hrest with
    | past | overflows | returnsToTheEnd | begins => omega
    | skipsCall n i target stack k r hst => rw [h2] at hst; cases hst
    | calls n i target stack k r hst => rw [h2] at hst; cases hst
    | skipsHeat n i stack h k r hst => rw [h2] at hst; cases hst

/-- The first stage of a program, where it is a HEAT stage that holds and is not skipped. -/
theorem entryRests_first {rest : List StageRecord} (hs : s.recipe.store = .heat h none :: rest) (hh : StageHolds s h) :
    EntryRests s 0 1 [] (.begins 1 h []) :=
  .begins 1 [] h none (by simp [stageAt, hs]) (by simp) hh

/-- Settles O26: START and RUN_MANUAL by the chain from stage 1, and their refusals. -/
theorem startEntersTheFirstStage : Obligations.StartEntersTheFirstStage := by
  refine ⟨fun s h rest hf hst hstore hh hd ha ht hq => ?_,
    fun s h record clamped hf hfr hil hlen hrec hb hh hd ha ht hq => ?_, fun s hf hg hc => ⟨_, rfl, ?_⟩,
    fun s links r hf hst hl hrest hd ha ht hq => ?_,
    fun s h skip record clamped links r hf hfr hil hlen hrec hb hd ha ht hq hrest => ?_,
    fun s record code detail hf hg hlen hm => ?_⟩
  · obtain ⟨h1, h2, h3, h4, h5, h6, h7, h8, -⟩ := start_chain (k := .start) (owner := startCommand) (z := s) hf hq
      (start_follows hf hst hd ha ht) rfl rfl rfl rfl rfl (by omega) (entryRests_first hstore hh)
    have htag : noticeTag s.recipe = s.recipe.tag := by simp [noticeTag, hstore]
    rw [htag] at h3
    exact ⟨_, rfl, h1.1, h1.2.1, h2, h3, h4, h5, h6, h7, h8⟩
  · obtain ⟨h1, h2, h3, h4, h5, h6, h7, h8, h9, h10⟩ := start_chain (k := .runManual) (owner := runManual record)
      (z := { s with recipe := { s.recipe with store := [.heat h none], tag := 0 } }) hf hq
      (manual_follows hf hfr hil hrec hb hd ha ht) rfl rfl rfl rfl rfl (by omega) (entryRests_first rfl hh)
    exact ⟨_, exec_runManual hlen s, h1.1, h1.2.1, h9, h10, h2, h3, h6, h7, h4 hfr, h5, h8⟩
  · obtain ⟨-, -, -, -, hst, hde, hr, hv⟩ := (heardFrom_commandHeard hf.1).blocks
    have ho := startCommand_refused (s := commandHeard s) (by rwa [hr, hde, hst, hv])
    simp only [hr, hde, hst] at ho
    obtain ⟨h1, h2, h3, -, h5⟩ := panelRefusal (k := .start) hf hg ho
    exact ⟨h1, h2, h3, h5⟩
  · obtain ⟨h1, h2, h3, h4, -, h6, h7, h8, -⟩ := start_chain (k := .start) (owner := startCommand) (z := s) hf hq
      (start_follows hf hst hd ha ht) rfl rfl rfl rfl rfl hl hrest
    exact ⟨_, rfl, h1, h2, h3, h4, h6, h7, h8⟩
  · have hl := hrest.of_single rfl
    obtain ⟨h1, h2, h3, h4, -, h6, h7, h8, -⟩ := start_chain (k := .runManual) (owner := runManual record)
      (z := { s with recipe := { s.recipe with store := [.heat h skip], tag := 0 } }) hf hq
      (manual_follows hf hfr hil hrec hb hd ha ht) rfl rfl rfl rfl rfl (by omega) hrest
    exact ⟨_, exec_runManual hlen s, h1, h2, h3, h4 hfr, h6, h7, h8⟩
  · obtain ⟨-, hs, -, -, hst, hde, hr, hv⟩ := (heardFrom_commandHeard hf.1).blocks
    have hm' : manualRefusal (commandHeard s) record = some (code, detail) := by
      simpa [manualRefusal, frozen, hs, hr, hde, hst, hv] using hm
    obtain ⟨h1, h2, h3, -, h5⟩ := panelRefusal (k := .runManual) hf hg (runManual_refused hm')
    exact ⟨_, exec_runManual hlen s, h1, h2, h3, h5⟩

end Sys2Proof.Machine

/-!
The bodies of R175 and R179: each value in the bits that the layout gives it.
-/
namespace Sys2Proof.Machine

variable {s t : State}

/-! ### Codes in their order (R174) -/

theorem ProgState.code_eq (x : ProgState) : x.code = progStates.idxOf x ∧ x.code < 8 := by
  cases x <;> exact ⟨rfl, by decide⟩

theorem ScaleLevel.code_eq (x : ScaleLevel) :
    x.code = [ScaleLevel.none, .due, .derate, .block].idxOf x ∧ x.code < 4 := by
  cases x <;> exact ⟨rfl, by decide⟩

theorem LinkState.code_eq (x : LinkState) : x.code = [LinkState.joining, .member, .isolated].idxOf x ∧ x.code < 4 := by
  cases x <;> exact ⟨rfl, by decide⟩

theorem Withheld.code_eq (x : Withheld) : x.code = withheldReasons.idxOf x ∧ x.code < 8 := by
  cases x <;> exact ⟨rfl, by decide⟩

theorem Consequence.code_eq (x : Consequence) :
    x.code = [Consequence.note, .cut, .trip].idxOf x ∧ x.code < 3 := by
  cases x <;> exact ⟨rfl, by decide⟩

theorem CmdKind.code_eq (x : CmdKind) : x.code = cmdKinds.idxOf x ∧ x.code < 256 := by
  cases x <;> exact ⟨rfl, by decide⟩

theorem ResultCode.code_eq (x : ResultCode) : x.code = resultCodes.idxOf x ∧ x.code < 256 := by
  cases x <;> exact ⟨rfl, by decide⟩

theorem NoticeCode.code_eq (x : NoticeCode) : x.code = noticeCodes.idxOf x ∧ x.code < 256 := by
  cases x <;> exact ⟨rfl, by decide⟩

theorem generatorCode_eq (g : Steam) : generatorCode g.gen g.faultKind = generatorPlace g
    ∧ generatorCode g.gen g.faultKind < 16 := by
  unfold generatorPlace
  cases hg : g.gen with
  | fault => rcases hk : g.faultKind with _ | k <;> (try cases k) <;> exact ⟨rfl, by decide⟩
  | empty | filling | heating | ready | cooling | draining | service => exact ⟨rfl, by simp [generatorCode]⟩

theorem descaleCode_eq (d : Descale)
    (hr : d.phase = .rinseFill ∨ d.phase = .rinseHeat ∨ d.phase = .rinseDrain → 1 ≤ d.rinse ∧ d.rinse ≤ 3) :
    descaleCode d.phase d.rinse = descalePlace d ∧ descaleCode d.phase d.rinse < 18 := by
  unfold descalePlace
  have hrinse : (d.phase = .rinseFill ∨ d.phase = .rinseHeat ∨ d.phase = .rinseDrain) →
      d.rinse = 1 ∨ d.rinse = 2 ∨ d.rinse = 3 := fun h => by have := hr h; omega
  cases hp : d.phase with
  | rinseFill | rinseHeat | rinseDrain =>
    rcases hrinse (by simp [hp]) with h | h | h <;> rw [h] <;> exact ⟨rfl, by decide⟩
  | off | prep | drainOut | dose | soakHeat | soak | acidDrain | complete | holdAcid =>
    exact ⟨rfl, by simp [descaleCode]⟩

theorem excursionCode_eq (s : State) (c : Channel) :
    excursionCode s c = excursionPlace s.superv c ∧ excursionCode s c < 8 := by
  have hl := Consequence.code_eq (s.superv.low.get c).cons
  have hh := Consequence.code_eq (s.superv.high.get c).cons
  unfold excursionCode excursionPlace
  dsimp only
  rw [← hl.1, ← hh.1]
  refine ⟨rfl, ?_⟩
  split
  · omega
  · split <;> omega

theorem bitNat_eq (b : Bool) : bitNat b = flagBit b ∧ bitNat b < 2 := by cases b <;> exact ⟨rfl, by decide⟩

theorem mainsFaultHeld_iff (p : Power) : bitNat (mainsFaultHeld p) = 1 ↔ ∃ tenths, p.freq = .mainsFault tenths := by
  unfold mainsFaultHeld
  cases p.freq <;> simp [bitNat]

/-! ### Values shown (R163) -/

theorem presented_eq (s : State) (c : Channel) (offset : Int) (absent : Nat) :
    presented s c offset absent = shownOr s c offset absent := by
  unfold presented shownOr
  cases reading s c <;> rfl

theorem shownOr_lt (hf : ReportFits s) (c : Channel) (offset : Int) (absent : Nat) {b : Nat}
    (hr : (channelRange c).2 + offset < b) (ha : absent < b) : shownOr s c offset absent < b := by
  unfold shownOr
  cases h : reading s c with
  | none => exact ha
  | some v =>
    have := (hf.1 c v h).2
    simp only [Option.map_some, Option.getD_some]
    omega

/-! ### Numbers in a body -/

theorem bodyBits_of_value {b : List Byte} {i j v : Nat} (h : bodyValue b i j = v) (hi lo : Nat) :
    bodyBits b i j hi lo = v / 2 ^ lo % 2 ^ (hi + 1 - lo) := by
  rw [bodyBits, h]

theorem statusBytes_laid (hf : ReportFits s) : StatusLaid s (statusBytes s) := by
  obtain ⟨-, hcur, -, -, hrem, hrinse, -, hpow, hin, hdr, hc, hw, -⟩ := id hf
  obtain ⟨hdc, hdl⟩ := descaleCode_eq s.descale hrinse
  obtain ⟨hpc, hpl⟩ := ProgState.code_eq s.recipe.state
  obtain ⟨hb, hbl⟩ := bitNat_eq (ownBelowFloor s)
  obtain ⟨hk, hkl⟩ := bitNat_eq s.share.leakWet
  obtain ⟨hj, hjl⟩ := bitNat_eq (decide (s.share.link = .joining))
  have hrc : remainingCode s = remainingOr s := rfl
  have v0 : bodyValue (statusBytes s) 0 0 = (s.startup.supply.circuitGroup * 16 + s.startup.supply.waterGroup) % 256 :=
    bytesToNat_byteOf _
  have v1 : bodyValue (statusBytes s) 1 2 = (s.share.holds.inlet * 32768 + s.share.holds.drain * 16384
      + bitNat (ownBelowFloor s) * 8192 + bitNat s.share.leakWet * 4096
      + bitNat (decide (s.share.link = .joining)) * 2048 + s.share.holds.power) % 65536 := bytesToNat_bytes2 _
  have v3 : bodyValue (statusBytes s) 3 3 = (s.recipe.state.code * 32 + s.recipe.cur) % 256 := bytesToNat_byteOf _
  have v4 : bodyValue (statusBytes s) 4 6 = (descaleCode s.descale.phase s.descale.rinse * 524288 + remainingCode s)
      % 16777216 := bytesToNat_bytes3 _
  unfold StatusLaid
  simp only [bodyBits_of_value v0, bodyBits_of_value v1, bodyBits_of_value v3, bodyBits_of_value v4, ← hdc, ← hpc, ← hb,
    ← hk, ← hj, ← hrc]
  rw [← hrc] at hrem
  refine ⟨rfl, ?_, ?_, ?_, ?_, ?_, ?_, ?_, ?_, ?_, ?_, ?_, ?_⟩ <;> omega

/-- The parts of a READING as numbers: the readings, the program, the descale, scale and holds, generator, faults and
excursions. -/
theorem readingBytes_readings (hf : ReportFits s) :
    (bodyBits (readingBytes s) 0 2 23 12 = shownOr s .cav 0 4095
      ∧ bodyBits (readingBytes s) 0 2 11 0 = (if s.recipe.probePresent then shownOr s .core 0 4095 else 4095)
      ∧ bodyBits (readingBytes s) 3 5 23 12 = shownOr s .boil 0 4095
      ∧ bodyBits (readingBytes s) 3 5 11 0 = shownOr s .board 400 4095
      ∧ bodyBits (readingBytes s) 6 7 15 9 = shownOr s .moist 0 127)
      ∧ ∀ v, reading s .mains = some v → bodyBits (readingBytes s) 6 7 8 0 = v.toNat := by
  have hcav := shownOr_lt hf .cav 0 4095 (b := 4096) (by decide) (by decide)
  have hcore := shownOr_lt hf .core 0 4095 (b := 4096) (by decide) (by decide)
  have hboil := shownOr_lt hf .boil 0 4095 (b := 4096) (by decide) (by decide)
  have hboard := shownOr_lt hf .board 400 4095 (b := 4096) (by decide) (by decide)
  have hmoist := shownOr_lt hf .moist 0 127 (b := 128) (by decide) (by decide)
  have hmains := shownOr_lt hf .mains 0 0 (b := 512) (by decide) (by decide)
  let core := if s.recipe.probePresent then shownOr s .core 0 4095 else 4095
  have hc : core < 4096 := by unfold core; split <;> omega
  have v0 : bodyValue (readingBytes s) 0 2 = (shownOr s .cav 0 4095 * 4096 + core) % 16777216 := by
    simp only [core, ← presented_eq]
    exact bytesToNat_bytes3 _
  have v3 : bodyValue (readingBytes s) 3 5 = (shownOr s .boil 0 4095 * 4096 + shownOr s .board 400 4095) % 16777216 := by
    simp only [← presented_eq]
    exact bytesToNat_bytes3 _
  have v6 : bodyValue (readingBytes s) 6 7 = (shownOr s .moist 0 127 * 512 + shownOr s .mains 0 0) % 65536 := by
    simp only [← presented_eq]
    exact bytesToNat_bytes2 _
  simp only [bodyBits_of_value v0, bodyBits_of_value v3, bodyBits_of_value v6]
  refine ⟨⟨?_, ?_, ?_, ?_, ?_⟩, fun v hv => ?_⟩
  · omega
  · change _ = core
    omega
  · omega
  · omega
  · omega
  · have hs : shownOr s .mains 0 0 = v.toNat := by simp [shownOr, hv]
    omega

theorem readingBytes_program (hf : ReportFits s) :
    (bodyBits (readingBytes s) 8 8 7 5 = progStates.idxOf s.recipe.state
      ∧ bodyBits (readingBytes s) 8 8 4 0 = s.recipe.cur
      ∧ bodyValue (readingBytes s) 9 10 = noticeTag s.recipe ∧ bodyValue (readingBytes s) 11 11 = s.recipe.prompt)
      ∧ bodyBits (readingBytes s) 12 14 23 19 = descalePlace s.descale
      ∧ bodyBits (readingBytes s) 12 14 18 17 = [ScaleLevel.none, .due, .derate, .block].idxOf (levelNow s)
      ∧ bodyBits (readingBytes s) 12 14 16 0 = remainingOr s ∧ bodyValue (readingBytes s) 15 16 = s.steam.scale := by
  obtain ⟨-, hcur, htag, hpr, hrem, hrinse, hscale, -⟩ := id hf
  obtain ⟨hdc, hdl⟩ := descaleCode_eq s.descale hrinse
  obtain ⟨hpc, hpl⟩ := ProgState.code_eq s.recipe.state
  obtain ⟨hlc, hll⟩ := ScaleLevel.code_eq (levelNow s)
  have hrc : remainingCode s = remainingOr s := rfl
  have v8 : bodyValue (readingBytes s) 8 8 = (s.recipe.state.code * 32 + s.recipe.cur) % 256 := bytesToNat_byteOf _
  have v9 : bodyValue (readingBytes s) 9 10 = noticeTag s.recipe % 65536 := bytesToNat_bytes2 _
  have v11 : bodyValue (readingBytes s) 11 11 = s.recipe.prompt % 256 := bytesToNat_byteOf _
  have v12 : bodyValue (readingBytes s) 12 14 = (descaleCode s.descale.phase s.descale.rinse * 524288
      + (levelNow s).code * 131072 + remainingCode s) % 16777216 := bytesToNat_bytes3 _
  have v15 : bodyValue (readingBytes s) 15 16 = s.steam.scale % 65536 := bytesToNat_bytes2 _
  rw [← hrc] at hrem
  simp only [bodyBits_of_value v8, bodyBits_of_value v12, v9, v11, v15, ← hdc, ← hpc, ← hlc, ← hrc]
  refine ⟨⟨?_, ?_, ?_, ?_⟩, ?_, ?_, ?_, ?_⟩ <;> omega

theorem readingBytes_holds (hf : ReportFits s) :
    bodyBits (readingBytes s) 17 18 15 15 = s.share.holds.inlet ∧ bodyBits (readingBytes s) 17 18 14 14 = s.share.holds.drain
      ∧ bodyBits (readingBytes s) 17 18 13 12 = [LinkState.joining, .member, .isolated].idxOf s.share.link
      ∧ bodyBits (readingBytes s) 17 18 11 11 = flagBit s.share.leakWet
      ∧ bodyBits (readingBytes s) 17 18 10 0 = s.share.holds.power := by
  obtain ⟨-, -, -, -, -, -, -, hpow, hin, hdr, -⟩ := id hf
  obtain ⟨hlc, hll⟩ := LinkState.code_eq s.share.link
  obtain ⟨hk, hkl⟩ := bitNat_eq s.share.leakWet
  have v17 : bodyValue (readingBytes s) 17 18 = (s.share.holds.inlet * 32768 + s.share.holds.drain * 16384
      + s.share.link.code * 4096 + bitNat s.share.leakWet * 2048 + s.share.holds.power) % 65536 := bytesToNat_bytes2 _
  simp only [bodyBits_of_value v17, ← hlc, ← hk]
  refine ⟨?_, ?_, ?_, ?_, ?_⟩ <;> omega

theorem readingBytes_faults (hf : ReportFits s) :
    (bodyBits (readingBytes s) 19 19 7 4 = generatorPlace s.steam
      ∧ bodyBits (readingBytes s) 19 19 3 1 = withheldReasons.idxOf (withheldReason s)
      ∧ bodyBits (readingBytes s) 19 19 0 0 = flagBit s.steam.acid)
      ∧ bodyBits (readingBytes s) 20 20 7 4 = s.share.tripSet.length
      ∧ bodyBits (readingBytes s) 20 20 3 3 = flagBit s.superv.welded
      ∧ bodyBits (readingBytes s) 20 20 2 2 = flagBit s.superv.configFault
      ∧ bodyBits (readingBytes s) 20 20 1 1 = flagBit s.line.numberClash
      ∧ (bodyBits (readingBytes s) 20 20 0 0 = 1 ↔ ∃ tenths, s.power.freq = .mainsFault tenths) := by
  obtain ⟨-, -, -, -, -, -, -, -, -, -, -, -, htrip⟩ := id hf
  obtain ⟨hgc, hgl⟩ := generatorCode_eq s.steam
  obtain ⟨hwc, hwl⟩ := Withheld.code_eq (withheldReason s)
  obtain ⟨ha, hal⟩ := bitNat_eq s.steam.acid
  obtain ⟨hw, hwl'⟩ := bitNat_eq s.superv.welded
  obtain ⟨hc, hcl⟩ := bitNat_eq s.superv.configFault
  obtain ⟨hn, hnl⟩ := bitNat_eq s.line.numberClash
  obtain ⟨-, hml⟩ := bitNat_eq (mainsFaultHeld s.power)
  have v19 : bodyValue (readingBytes s) 19 19 = (generatorCode s.steam.gen s.steam.faultKind * 16
      + (withheldReason s).code * 2 + bitNat s.steam.acid) % 256 := bytesToNat_byteOf _
  have v20 : bodyValue (readingBytes s) 20 20 = (s.share.tripSet.length * 16 + bitNat s.superv.welded * 8
      + bitNat s.superv.configFault * 4 + bitNat s.line.numberClash * 2 + bitNat (mainsFaultHeld s.power)) % 256 :=
    bytesToNat_byteOf _
  rw [← mainsFaultHeld_iff]
  simp only [bodyBits_of_value v19, bodyBits_of_value v20, ← hgc, ← hwc, ← ha, ← hw, ← hc, ← hn]
  refine ⟨⟨?_, ?_, ?_⟩, ?_, ?_, ?_, ?_, ?_⟩ <;> omega

theorem readingBytes_flags (s : State) :
    bodyBits (readingBytes s) 21 23 23 21 = excursionPlace s.superv .cav
      ∧ bodyBits (readingBytes s) 21 23 20 18 = excursionPlace s.superv .core
      ∧ bodyBits (readingBytes s) 21 23 17 15 = excursionPlace s.superv .boil
      ∧ bodyBits (readingBytes s) 21 23 14 12 = excursionPlace s.superv .moist
      ∧ bodyBits (readingBytes s) 21 23 11 9 = excursionPlace s.superv .mains
      ∧ bodyBits (readingBytes s) 21 23 8 6 = excursionPlace s.superv .board
      ∧ bodyBits (readingBytes s) 21 23 5 5 = flagBit s.superv.fixed.inProgress
      ∧ bodyBits (readingBytes s) 21 23 4 4 = flagBit s.superv.relayClosed
      ∧ bodyBits (readingBytes s) 21 23 3 3 = flagBit s.superv.feedbackClosed
      ∧ bodyBits (readingBytes s) 21 23 2 2 = flagBit s.superv.trip
      ∧ bodyBits (readingBytes s) 21 23 1 1 = flagBit s.climate.doorOpen
      ∧ bodyBits (readingBytes s) 21 23 0 0 = flagBit s.recipe.probePresent := by
  obtain ⟨e1, l1⟩ := excursionCode_eq s .cav
  obtain ⟨e2, l2⟩ := excursionCode_eq s .core
  obtain ⟨e3, l3⟩ := excursionCode_eq s .boil
  obtain ⟨e4, l4⟩ := excursionCode_eq s .moist
  obtain ⟨e5, l5⟩ := excursionCode_eq s .mains
  obtain ⟨e6, l6⟩ := excursionCode_eq s .board
  obtain ⟨b1, m1⟩ := bitNat_eq s.superv.fixed.inProgress
  obtain ⟨b2, m2⟩ := bitNat_eq s.superv.relayClosed
  obtain ⟨b3, m3⟩ := bitNat_eq s.superv.feedbackClosed
  obtain ⟨b4, m4⟩ := bitNat_eq s.superv.trip
  obtain ⟨b5, m5⟩ := bitNat_eq s.climate.doorOpen
  obtain ⟨b6, m6⟩ := bitNat_eq s.recipe.probePresent
  have v21 : bodyValue (readingBytes s) 21 23 = (excursionCode s .cav * 2097152 + excursionCode s .core * 262144
      + excursionCode s .boil * 32768 + excursionCode s .moist * 4096 + excursionCode s .mains * 512
      + excursionCode s .board * 64 + bitNat s.superv.fixed.inProgress * 32 + bitNat s.superv.relayClosed * 16
      + bitNat s.superv.feedbackClosed * 8 + bitNat s.superv.trip * 4 + bitNat s.climate.doorOpen * 2
      + bitNat s.recipe.probePresent) % 16777216 := bytesToNat_bytes3 _
  simp only [bodyBits_of_value v21, ← e1, ← e2, ← e3, ← e4, ← e5, ← e6, ← b1, ← b2, ← b3, ← b4, ← b5, ← b6]
  refine ⟨?_, ?_, ?_, ?_, ?_, ?_, ?_, ?_, ?_, ?_, ?_, ?_⟩ <;> omega

theorem readingBytes_laid (hf : ReportFits s) : ReadingLaid s (readingBytes s) := by
  obtain ⟨⟨r1, r2, r3, r4, r5⟩, r6⟩ := readingBytes_readings hf
  obtain ⟨⟨p1, p2, p3, p4⟩, p5, p6, p7, p8⟩ := readingBytes_program hf
  obtain ⟨h1, h2, h3, h4, h5⟩ := readingBytes_holds hf
  obtain ⟨⟨f1, f2, f3⟩, f4, f5, f6, f7, f8⟩ := readingBytes_faults hf
  exact ⟨rfl, r1, r2, r3, r4, r5, r6, p1, p2, p3, p4, p5, p6, p7, p8, h1, h2, h3, h4, h5, f1, f2, f3, f4, f5, f6, f7, f8,
    readingBytes_flags s⟩

/-- Each body as it is laid out (R175, R179). -/
theorem bodyBytes_laid {f : TxFrame} (hf : FrameFits s f) : FrameLaid s (bodyBytes s f) f := by
  have hone : ∀ {b : List Byte} {i v : Nat}, bodyValue b i i = v % 256 → v ≤ 255 → bodyValue b i i = v := by
    intro b i v h hv
    rw [h]
    omega
  have htwo : ∀ {b : List Byte} {i j v : Nat}, bodyValue b i j = v % 65536 → v ≤ 65535 → bodyValue b i j = v := by
    intro b i j v h hv
    rw [h]
    omega
  cases f with
  | trip origin group | tripClear origin group =>
    obtain ⟨h1, h2⟩ := hf
    exact ⟨rfl, bytesToNat_byteOf 0, hone (bytesToNat_byteOf _) h1, hone (bytesToNat_byteOf _) h2⟩
  | lower p group hold | raise p group hold =>
    obtain ⟨h1, h2⟩ := hf
    exact ⟨rfl, hone (bytesToNat_byteOf _) h1, htwo (bytesToNat_bytes2 _) h2⟩
  | yields group need =>
    obtain ⟨h1, h2⟩ := hf
    exact ⟨rfl, hone (bytesToNat_byteOf _) h1, htwo (bytesToNat_bytes2 _) h2⟩
  | result kind code detail =>
    obtain ⟨hk, hkl⟩ := CmdKind.code_eq kind
    obtain ⟨hc, hcl⟩ := ResultCode.code_eq code
    exact ⟨rfl, hk ▸ hone (bytesToNat_byteOf _) (by omega), hc ▸ hone (bytesToNat_byteOf _) (by omega),
      htwo (bytesToNat_bytes2 _) hf⟩
  | notice code tag index detail =>
    obtain ⟨hc, hcl⟩ := NoticeCode.code_eq code
    obtain ⟨h1, h2, h3⟩ := hf
    exact ⟨rfl, hc ▸ hone (bytesToNat_byteOf _) (by omega), htwo (bytesToNat_bytes2 _) h1,
      hone (bytesToNat_byteOf _) h2, htwo (bytesToNat_bytes2 _) h3⟩
  | reading => exact readingBytes_laid hf
  | status => exact statusBytes_laid hf

end Sys2Proof.Machine

/-!
The start of a frame with its bytes, QUERY and its READING, and the states of the line.
-/
namespace Sys2Proof.Machine

variable {s t : State}

/-! ### The start of a frame -/

/-- What the head of the queue makes of the station as it begins (R66). -/
theorem frameBegin_of_idle {e : QEntry} {rest : List QEntry} (hi : s.line.state = .idle) (hn : unnumbered s = false)
    (hs : sendingFrame s = none) (hq : s.line.queue = e :: rest) :
    frameBegin s = clearFell e.frame (s.setLine { s.line with
      state := .busy, queue := ⟨e.frame, true⟩ :: rest, txBytes := frameBytes s e.frame }) := by
  simp [frameBegin, hq, hi, hn, hs]

theorem clearFell_share (f : TxFrame) (s : State) :
    (clearFell f s).share = { s.share with fell := (clearFell f s).share.fell } := by
  cases f <;> rfl

theorem coveredBytes_length (s : State) (f : TxFrame) : (coveredBytes s f).length = (bodyBytes s f).length + 3 := by
  simp [coveredBytes]

theorem frameBytes_length (s : State) (f : TxFrame) : (frameBytes s f).length = (bodyBytes s f).length + 5 := by
  simp [frameBytes, coveredBytes_length]

/-- Header, destination, length byte and check field of a frame (R63, R64). -/
theorem frameBytes_envelope (s : State) (f : TxFrame) :
    (frameBytes s f).take 3 = [byteOf (f.cls * 16 + s.startup.station),
        byteOf ((if f.cls = 5 then s.startup.partner else 0) * 16 + f.kind), byteOf ((frameBytes s f).length - 5)]
      ∧ (frameBytes s f).drop ((frameBytes s f).length - 2)
          = bytes2 (checkField ((frameBytes s f).take ((frameBytes s f).length - 2))).toNat := by
  have hlen := frameBytes_length s f
  have hcov := coveredBytes_length s f
  have hn : (frameBytes s f).length - 2 = (coveredBytes s f).length := by omega
  refine ⟨?_, ?_⟩
  · rw [hlen, Nat.add_sub_cancel]
    by_cases hc : f.cls = 5 <;> simp [frameBytes, coveredBytes, destination, TxFrame.isReport, hc]
  · rw [hn]
    simp [frameBytes]

/-! ### QUERY -/

/-- Two frames of one class enter behind every frame of their class and of the classes below it (R75). -/
theorem insertFrame_twice {f g : TxFrame} (h : f.cls = g.cls) (q : List QEntry) :
    insertFrame g (insertFrame f q) = q.takeWhile (fun e => decide (e.frame.cls ≤ g.cls))
      ++ [⟨f, false⟩, ⟨g, false⟩] ++ q.dropWhile (fun e => decide (e.frame.cls ≤ g.cls)) := by
  induction q with
  | nil => simp [insertFrame, h]
  | cons e q ih =>
    by_cases he : e.frame.cls ≤ g.cls
    · have he' : e.frame.cls ≤ f.cls := by omega
      simp [insertFrame, he, he', ih]
    · simp [insertFrame, he, h]

theorem enqueueQueue_of_room {f : TxFrame} {q : List QEntry} (hf : f.cls = 5) (hr : q.countP (·.frame.isReport) < 5)
    (hl : q.length < 8) : enqueueQueue f q = insertFrame f q := by
  have hadd : addReport f q = insertFrame f q := by
    rw [addReport, reportLimit, if_neg (by omega), addFrame, queueLimit, if_neg (by omega)]
  cases f <;> first | exact hadd | simp [TxFrame.cls] at hf

theorem length_insertFrame (f : TxFrame) (q : List QEntry) : (insertFrame f q).length = q.length + 1 := by
  induction q with
  | nil => rfl
  | cons e q ih =>
    unfold insertFrame
    split <;> simp [ih]

theorem countP_insertFrame_le (p : QEntry → Bool) (f : TxFrame) (q : List QEntry) :
    (insertFrame f q).countP p ≤ q.countP p + 1 := by
  induction q with
  | nil => simp only [insertFrame, List.countP_cons, List.countP_nil]; split <;> omega
  | cons e q ih =>
    unfold insertFrame
    split <;> simp only [List.countP_cons] <;> (repeat' split) <;> omega

/-- What QUERY queues (R162). -/
theorem queryCommand_queue (hn : unnumbered s = false) :
    Queued .reading (queryCommand s)
      ∧ (s.line.queue.countP (·.frame.isReport) ≤ 3 → s.line.queue.length ≤ 6 →
        (queryCommand s).line.queue = s.line.queue.takeWhile (fun e => decide (e.frame.cls ≤ TxFrame.reading.cls))
          ++ [⟨.result .query .accepted 0, false⟩, ⟨.reading, false⟩]
          ++ s.line.queue.dropWhile (fun e => decide (e.frame.cls ≤ TxFrame.reading.cls))) := by
  have hq : (queryCommand s).line.queue
      = enqueueQueue .reading (enqueueQueue (.result .query .accepted noDetail) s.line.queue) := by
    have hn' : unnumbered (setQueue (enqueueQueue (.result .query .accepted noDetail) s.line.queue) s) = false := hn
    simp only [queryCommand, respond, enqueue, hn]
    simp only [Bool.false_eq_true, if_false, hn']
    simp [setQueue]
  refine ⟨?_, fun hc hl => ?_⟩
  · unfold Queued
    rw [hq]
    exact mem_insertFrame _ _
  · rw [hq, enqueueQueue_of_room (f := .result .query .accepted noDetail) rfl (by omega) (by omega),
      enqueueQueue_of_room rfl
        (by have := countP_insertFrame_le (·.frame.isReport) (.result .query .accepted noDetail) s.line.queue; omega)
        (by rw [length_insertFrame]; omega)]
    exact insertFrame_twice (f := .result .query .accepted noDetail) (g := .reading) rfl _

/-- Settles O23: what the panel's command queues, and what the READING carries as it begins. -/
theorem queryAnswersWithReading : Obligations.QueryAnswersWithReading := by
  refine ⟨fun s hf hg => ?_, fun s rest hi hn hs hq => ?_⟩
  · obtain ⟨hp, hs, hcl, -, -, -, hr, hv⟩ := (heardFrom_commandHeard hf).blocks
    have ha : Aside (commandHeard s) (queryCommand (commandHeard s)) := (Aside.refl _).respond.enqueue
    have hw : SteamAlike (commandHeard s) (queryCommand (commandHeard s)) :=
      steamAlike_of_settles ha.settles (by simp [queryCommand]) (by simp [queryCommand]) (by simp [queryCommand])
    have ht : PanelAnswered s (queryCommand (commandHeard s)) (takeCommand .query queryCommand s) :=
      panelAnswered hf hg (by simp [judgeCommand]) ha hw (by simp [queryCommand, hp])
    obtain ⟨hread, hqueue⟩ := queryCommand_queue (commandHeard_numbered hf)
    refine ⟨_, rfl, queued_congr ht.queue hread, fun hsend hc hl => ?_, ht.frame, ?_,
      ht.touchesLess (by simp [queryCommand, hs]) (by simp [queryCommand, hcl]) (by simp [queryCommand, hv])⟩
    · have hqh := (heardFrom_commandHeard hf).queue hsend
      rw [hqh] at hqueue
      rw [ht.queue, hqueue hc hl]
    · unfold ProgramStands
      rw [ht.recipe]
      simp [queryCommand, hr]
  · have he := frameBegin_of_idle hi hn hs hq
    refine ⟨_, rfl, by rw [he]; rfl, by rw [he]; rfl, fun hfit => ?_⟩
    have hb : (frameBegin s).line.txBytes = frameBytes s .reading := by rw [he]; rfl
    rw [sentBody_of_frameBytes hb]
    exact readingBytes_laid hfit

/-! ### The voiding of the RAISEs that wait -/

theorem isRaise_unique {f : TxFrame} {p q : Pool} (hp : f.isRaise p = true) (hq : f.isRaise q = true) : p = q := by
  cases f <;> simp_all [TxFrame.isRaise]

theorem anyWaiting_raise_removeWaiting {p q : Pool} (h : p ≠ q) (l : List QEntry) :
    anyWaiting (TxFrame.isRaise q) (removeWaiting (TxFrame.isRaise p) l) = anyWaiting (TxFrame.isRaise q) l := by
  rw [Bool.eq_iff_iff]
  simp only [anyWaiting, removeWaiting, List.any_eq_true, List.mem_filter]
  refine ⟨fun ⟨e, ⟨he, _⟩, hr⟩ => ⟨e, he, hr⟩, fun ⟨e, he, hr⟩ => ⟨e, ⟨he, ?_⟩, hr⟩⟩
  simp only [Bool.and_eq_true, Bool.not_eq_true', Bool.or_eq_true] at hr ⊢
  refine .inr (Bool.eq_false_of_not_eq_true fun hp => h (isRaise_unique hp hr.2))

theorem voidRaise_blocks (p : Pool) (s : State) :
    (voidRaise p s).line = { s.line with queue := removeWaiting (TxFrame.isRaise p) s.line.queue }
      ∧ (voidRaise p s).share = { s.share with redecide := (voidRaise p s).share.redecide }
      ∧ ∀ q, (voidRaise p s).share.redecide.get q
          = (s.share.redecide.get q || (decide (q = p) && anyWaiting (TxFrame.isRaise p) s.line.queue)) := by
  unfold voidRaise
  dsimp only
  split
  · next h =>
    refine ⟨rfl, rfl, fun q => ?_⟩
    cases p <;> cases q <;> simp [dropRaise, setQueue, PerPool.set, PerPool.get, h]
  · next h =>
    refine ⟨rfl, rfl, fun q => ?_⟩
    simp [dropRaise, setQueue, h]

/-- R44: no RAISE waits any more, and the pools of those that did are noted. -/
theorem voidRaises_blocks (s : State) :
    (∀ p, anyWaiting (TxFrame.isRaise p) (voidRaises s).line.queue = false)
      ∧ (voidRaises s).line = { s.line with queue := withoutRaises s.line.queue }
      ∧ (voidRaises s).share = { s.share with redecide := (voidRaises s).share.redecide }
      ∧ ∀ p, (voidRaises s).share.redecide.get p
          = (s.share.redecide.get p || anyWaiting (TxFrame.isRaise p) s.line.queue) := by
  obtain ⟨l1, s1, r1⟩ := voidRaise_blocks .power s
  obtain ⟨l2, s2, r2⟩ := voidRaise_blocks .inlet (voidRaise .power s)
  obtain ⟨l3, s3, r3⟩ := voidRaise_blocks .drain (voidRaise .inlet (voidRaise .power s))
  have hline : (voidRaises s).line = { s.line with queue := withoutRaises s.line.queue } := by
    unfold voidRaises
    rw [l3, l2, l1]
    rfl
  refine ⟨fun p => ?_, hline, ?_, fun p => ?_⟩
  · rw [hline]
    simp only [anyWaiting, List.any_eq_false]
    intro e he
    simp only [Bool.and_eq_true, Bool.not_eq_true', not_and, Bool.not_eq_true]
    exact fun hs => (mem_withoutRaises he).2 hs p
  · unfold voidRaises
    rw [s3, s2, s1]
  · unfold voidRaises
    rw [r3, r2, r1, l2, l1]
    simp only [anyWaiting_raise_removeWaiting (p := .power) (q := .inlet) (by decide),
      anyWaiting_raise_removeWaiting (p := .inlet) (q := .drain) (by decide),
      anyWaiting_raise_removeWaiting (p := .power) (q := .drain) (by decide)]
    cases p <;> simp

/-- Settles O48: WAIT and a break that end, the start of a frame, and the opening mark of another station. -/
theorem lineStateChanges : Obligations.LineStateChanges := by
  refine ⟨fun s hw hn => ⟨lineIdle s, rfl, ?_⟩, fun s hb hbr => ⟨lineIdleAfterBreak s, rfl, ?_⟩,
    fun s e rest hi hn hs hq => ⟨_, rfl, ?_⟩, fun s hb hn => ⟨_, rfl, ?_⟩⟩
  · have he : lineIdle s = s.setLine { s.line with state := .idle } := by simp [lineIdle, hw, hn]
    rw [he]
    exact ⟨rfl, rfl, fun b hb => by cases b <;> first | rfl | exact absurd hb (by decide)⟩
  · have he : lineIdleAfterBreak s = s.setLine { s.line with state := .idle, breakSeen := false } := by
      simp [lineIdleAfterBreak, hb, hbr]
    rw [he]
    exact ⟨rfl, rfl, fun b hb => by cases b <;> first | rfl | exact absurd hb (by decide)⟩
  · have he := frameBegin_of_idle hi hn hs hq
    have hb : (frameBegin s).line.txBytes = frameBytes s e.frame := by rw [he]; simp
    obtain ⟨h3, hcheck⟩ := frameBytes_envelope s e.frame
    refine ⟨by rw [he]; simp, by rw [hb, h3], by rw [hb, hcheck], fun hfit => ?_, ?_, ?_⟩
    · rw [sentBody_of_frameBytes hb]
      exact bodyBytes_laid hfit
    · rw [he, clearFell_share]
      simp
    · refine ⟨by rw [he]; simp, fun b hb => ?_⟩
      rw [he]
      cases b with
      | line | share => exact absurd hb (by decide)
      | startup | climate | power | steam | descale | recipe | superv => simp [Block.same]
  · have he : openingMarkSeen s = voidRaises (s.setLine { s.line with state := .busy, breakSeen := false }) := by
      simp [openingMarkSeen, hb, hn]
    obtain ⟨hno, hline, hshare, hred⟩ := voidRaises_blocks (s.setLine { s.line with state := .busy, breakSeen := false })
    rw [he]
    refine ⟨(congrArg Line.state hline :), hno, hred, hshare, by simp, fun b hb => ?_⟩
    cases b with
    | line | share => exact absurd hb (by decide)
    | startup | climate | power | steam | descale | recipe | superv => simp [Block.same]

end Sys2Proof.Machine

/-!
Events that settle behind a change of the climate or of the scheduler: the door and the climate sample.
-/
namespace Sys2Proof.Machine

variable {s t u : State}

/-! ### What settles behind an event -/

/-- A change that settles at most, made in a settled generator, and what settles behind it. -/
theorem settles_event (hg : GenSettled s) (hset : SettlesOnly s u) (hu : u.startup = s.startup)
    (hr : u.recipe = s.recipe) :
    SettlesOnly s (settle u) ∧ ProgramStands s (settle u) ∧ (settle u).line = u.line ∧ (settle u).share = u.share := by
  have hw := steamAlike_of_settles hset hu (by rw [hr]) (fun _ => by rw [hr]; exact ⟨rfl, rfl⟩)
  have hj : judgeSteam u = u :=
    judgeSteam_of_settled (genSettled_congr hg hw.1 hset.steam.1 hw.2.1 hw.2.2)
  obtain ⟨hl, hx, hs, hp⟩ := settle_of_fixed hj
  rw [ProgramStands, hr] at hp
  exact ⟨hset.trans hs, hp, hl, hx⟩

/-- What `settle` does to the scheduler: the outputs, and the mark that takes the BOILER off. -/
theorem settle_power (s : State) : (settle s).power = { s.power with
    base := (settle s).power.base, shed := { s.power.shed with boiler := (settle s).power.shed.boiler } } := by
  have hb : ∀ v : State, (settleBase (settleOutputs v)).power = { v.power with
      base := (settleBase (settleOutputs v)).power.base
      shed := { v.power.shed with boiler := (settleBase (settleOutputs v)).power.shed.boiler } } := by
    intro v
    unfold settleBase settleOutputs
    dsimp only
    split <;> rfl
  have hv := hb (judgeSteam s)
  simpa [settle] using hv

/-- An output stops with its request (R25). -/
theorem settle_base_off (a : Actuator) (h : (baseRequests (settle s)).get a = false) :
    (settle s).power.base.get a = false := by
  have hg := settleBase_get (settleOutputs (judgeSteam s)) a
  have hq : baseRequests (settleOutputs (judgeSteam s)) = baseRequests (settle s) := by
    simp [baseRequests, settle]
  have hp : (settle s).power = (settleBase (settleOutputs (judgeSteam s))).power := by simp [settle]
  rw [hp, hg, hq, h]
  simp

/-- With no steam demand the gate is closed (R87). -/
theorem settle_gate_closed (h : s.climate.steamDemand = 0) : (settle s).steam.gate = false := by
  obtain ⟨hgate, -⟩ := (steamOutputs_iff _).1 (settle_steamOutputs s)
  have hd : servedDemand (settle s) = 0 := by
    unfold servedDemand
    split <;> simp [h]
  rw [hgate]
  simp [gateOpen, hd]

/-- An event of the climate touches no block but those that settle. -/
theorem touches_climate (hp : t.pending = s.pending) (hu : t.startup = s.startup) (hx : t.share = s.share)
    (hl : t.line = s.line) (hv : t.superv = s.superv) :
    OnlyTouches [.climate, .power, .steam, .descale, .recipe] s t := by
  refine ⟨hp, fun b hb => ?_⟩
  cases b with
  | startup => exact hu
  | share => exact hx
  | line => exact hl
  | superv => exact hv
  | climate | power | steam | descale | recipe => exact absurd hb (by decide)

theorem touches_only_climate (c : Climate) (s : State) : OnlyTouches [.climate] s (s.setClimate c) :=
  ⟨rfl, fun b hb => by cases b with
    | climate => exact absurd hb (by decide)
    | startup | power | share | line | steam | descale | recipe | superv => rfl⟩

/-! ### The door -/

/-- The door as it becomes OPEN, before what settles (R16). -/
def doorOpened (s : State) : State :=
  let s1 := zeroDemands (s.setClimate { s.climate with doorOpen := true, doorMs := 0 })
  s1.setClimate { s1.climate with fanReq := false, ventReq := false }

theorem shedCavity_power (s : State) : (shedCavity s).power = { s.power with
    shed := (shedCavity s).power.shed, cavityZeroed := (shedCavity s).power.cavityZeroed } := by
  unfold shedCavity
  split <;> rfl

theorem doorOpened_blocks (s : State) :
    (doorOpened s).climate = { s.climate with
        doorOpen := true, doorMs := 0, demTop := 0, demBottom := 0, demRing := 0, steamDemand := 0
        fanReq := false, ventReq := false }
      ∧ (doorOpened s).power = (shedCavity s).power := by
  refine ⟨by simp [doorOpened, zeroDemands], ?_⟩
  by_cases h : s.power.inFrame = true <;> simp [doorOpened, zeroDemands, shedCavity, h]

/-- Settles O34: the input, OPEN and CLOSED. -/
theorem doorTakesTheHeatAway : Obligations.DoorTakesTheHeatAway := by
  refine ⟨fun s isOpen => ⟨_, rfl, rfl, touches_only_climate _ s⟩, fun s hin hno hg => ⟨_, rfl, ?_⟩,
    fun s hin hop => ⟨_, rfl, ?_⟩⟩
  · have he : doorOpens s = settle (doorOpened s) := by simp [doorOpens, hin, hno, openDoor, doorOpened]
    obtain ⟨hcl, hpo⟩ := doorOpened_blocks s
    have hset : SettlesOnly s (doorOpened s) := by
      refine ⟨by simp [OutputsOnly, doorOpened], ?_, by simp [WaitOnly, doorOpened]⟩
      unfold ActuatorsOnly
      rw [hpo, shedCavity_power]
    obtain ⟨hs, hps, hline, hshare⟩ := settles_event hg hset (by simp [doorOpened]) (by simp [doorOpened])
    have hclimate : (settle (doorOpened s)).climate = (doorOpened s).climate := by simp
    have hpower := settle_power (doorOpened s)
    rw [hpo] at hpower
    rw [he]
    refine ⟨hclimate.trans hcl, fun hfr => ?_, settle_base_off .fan ?_, settle_base_off .vent ?_, settle_gate_closed ?_, hs, hps,
      touches_climate (by simp [doorOpened]) (by simp [doorOpened]) (hshare.trans (by simp [doorOpened]))
        (hline.trans (by simp [doorOpened])) (by simp [doorOpened])⟩
    · rw [hpower]
      simp [shedCavity, hfr]
    · simp [baseRequests, PerActuator.get, hcl]
    · simp [baseRequests, PerActuator.get, hcl]
    · simp [hcl]
  · have he : doorCloses s = s.setClimate { s.climate with doorOpen := false, doorMs := 0 } := by
      simp [doorCloses, hin, hop]
    rw [he]
    exact ⟨rfl, touches_only_climate _ s⟩

end Sys2Proof.Machine

/-!
The climate sample: the split of the heat demand, the loops, and the forced-zero sample.
-/
namespace Sys2Proof.Machine

variable {s t u : State}

/-! ### The split of the heat demand (R10, R11) -/

/-- What a cavity element has of three numbers. -/
def Cavity.of (c : Cavity) : Element → Nat
  | .top => c.top | .bottom => c.bottom | .ring => c.ring | .boiler => 0

def Cavity.sum (c : Cavity) : Nat := c.top + c.bottom + c.ring

/-- `e` is a cavity element that counts, and none that counts is preferred to it. -/
def Preferred (share : Cavity) (ok : Element → Bool) (e : Element) : Prop :=
  e ≠ .boiler ∧ ok e = true
    ∧ ∀ o, o ≠ .boiler → ok o = true → share.of o < share.of e ∨ (share.of o = share.of e ∧ cavityRank e ≤ cavityRank o)

/-- The comparison that `largestShare` makes (R10, R11). -/
def pickBetter (ok : Element → Bool) (best : Option (Element × Nat)) (x : Element × Nat) : Option (Element × Nat) :=
  if ok x.1 then
    match best with
    | none => some x
    | some b => if b.2 < x.2 then some x else some b
  else best

theorem largestShare_eq (share : Cavity) (ok : Element → Bool) :
    largestShare share ok = (pickBetter ok (pickBetter ok (pickBetter ok none (.ring, share.ring)) (.top, share.top))
      (.bottom, share.bottom)).map (·.1) := rfl

/-- The best of those that have been looked at. -/
def BestOf (ok : Element → Bool) (seen : List (Element × Nat)) : Option (Element × Nat) → Prop
  | none => ∀ y ∈ seen, ok y.1 = false
  | some b => b ∈ seen ∧ ok b.1 = true
      ∧ ∀ y ∈ seen, ok y.1 = true → y.2 < b.2 ∨ (y.2 = b.2 ∧ cavityRank b.1 ≤ cavityRank y.1)

theorem BestOf.pick {ok : Element → Bool} {seen : List (Element × Nat)} {best : Option (Element × Nat)}
    {x : Element × Nat} (h : BestOf ok seen best) (hx : ∀ y ∈ seen, cavityRank y.1 ≤ cavityRank x.1) :
    BestOf ok (seen ++ [x]) (pickBetter ok best x) := by
  unfold pickBetter
  cases hok : ok x.1 with
  | false =>
    cases best with
    | none =>
      intro y hy
      rcases List.mem_append.1 hy with hy | hy
      · exact h y hy
      · obtain rfl : y = x := by simpa using hy
        exact hok
    | some b =>
      obtain ⟨hb, hbok, hbest⟩ := h
      refine ⟨by simp [hb], hbok, fun y hy hyok => ?_⟩
      rcases List.mem_append.1 hy with hy | hy
      · exact hbest y hy hyok
      · obtain rfl : y = x := by simpa using hy
        exact absurd hyok (by simp [hok])
  | true =>
    cases best with
    | none =>
      refine ⟨by simp, hok, fun y hy hyok => ?_⟩
      rcases List.mem_append.1 hy with hy | hy
      · exact absurd hyok (by simp [h y hy])
      · obtain rfl : y = x := by simpa using hy
        exact .inr ⟨rfl, le_refl _⟩
    | some b =>
      obtain ⟨hb, hbok, hbest⟩ := h
      by_cases hlt : b.2 < x.2
      · simp only [hlt, if_true]
        refine ⟨by simp, hok, fun y hy hyok => ?_⟩
        rcases List.mem_append.1 hy with hy | hy
        · have := hbest y hy hyok
          omega
        · obtain rfl : y = x := by simpa using hy
          exact .inr ⟨rfl, le_refl _⟩
      · simp only [hlt, if_true, if_false]
        refine ⟨by simp [hb], hbok, fun y hy hyok => ?_⟩
        rcases List.mem_append.1 hy with hy | hy
        · exact hbest y hy hyok
        · obtain rfl : y = x := by simpa using hy
          have := hx b hb
          omega

theorem largestShare_bestOf (share : Cavity) (ok : Element → Bool) :
    BestOf ok [(.ring, share.ring), (.top, share.top), (.bottom, share.bottom)]
      (pickBetter ok (pickBetter ok (pickBetter ok none (.ring, share.ring)) (.top, share.top)) (.bottom, share.bottom)) := by
  have h0 : BestOf ok [] none := fun y hy => absurd hy (by simp)
  have h1 := h0.pick (x := (.ring, share.ring)) (by simp)
  have h2 := h1.pick (x := (.top, share.top)) (by simp [cavityRank])
  exact h2.pick (x := (.bottom, share.bottom)) (by simp [cavityRank])

theorem mem_cavity (share : Cavity) {e : Element} (he : e ≠ .boiler) :
    (e, share.of e) ∈ [(Element.ring, share.ring), (.top, share.top), (.bottom, share.bottom)] := by
  cases e <;> simp [Cavity.of] at *

theorem largestShare_preferred {share : Cavity} {ok : Element → Bool} {e : Element}
    (h : largestShare share ok = some e) : Preferred share ok e := by
  rw [largestShare_eq, Option.map_eq_some_iff] at h
  obtain ⟨⟨e', n⟩, hb, rfl⟩ := h
  have hbest := largestShare_bestOf share ok
  rw [hb] at hbest
  obtain ⟨hm, hok, hall⟩ := hbest
  have hn : e' ≠ .boiler ∧ n = share.of e' := by
    simp only [List.mem_cons, Prod.mk.injEq, List.not_mem_nil, or_false] at hm
    rcases hm with ⟨rfl, rfl⟩ | ⟨rfl, rfl⟩ | ⟨rfl, rfl⟩ <;> exact ⟨by decide, rfl⟩
  refine ⟨hn.1, hok, fun o ho hook => ?_⟩
  have := hall (o, share.of o) (mem_cavity share ho) hook
  rwa [hn.2] at this

theorem largestShare_none {share : Cavity} {ok : Element → Bool} (h : largestShare share ok = none) {e : Element}
    (he : e ≠ .boiler) : ok e = false := by
  rw [largestShare_eq, Option.map_eq_none_iff] at h
  have hbest := largestShare_bestOf share ok
  rw [h] at hbest
  exact hbest (e, share.of e) (mem_cavity share he)

/-- R11: what the moved shares give each element. -/
theorem moveShares_of {ratings : PerElement Nat} {share m : Cavity} (h : moveShares ratings share = some m) :
    ∃ e, Preferred share (elementPresent ratings) e ∧ m.sum = share.sum
      ∧ (∀ o, elementPresent ratings o = false → m.of o = 0)
      ∧ (∀ o, o ≠ e → elementPresent ratings o = true → m.of o = share.of o)
      ∧ share.of e ≤ m.of e := by
  unfold moveShares at h
  dsimp only at h
  cases he : largestShare share (elementPresent ratings) with
  | none => simp [he] at h
  | some e =>
    have hp := largestShare_preferred he
    simp only [he, Option.some.injEq] at h
    subst h
    refine ⟨e, hp, ?_, fun o ho => ?_, fun o hoe ho => ?_, ?_⟩
    · obtain ⟨hne, hok, -⟩ := hp
      cases e with
      | boiler => exact absurd rfl hne
      | top | bottom | ring => simp only [Cavity.add, Cavity.sum]; (repeat' split) <;> omega
    · have hoe : o ≠ e := fun h => absurd hp.2.1 (by simp [← h, ho])
      cases o <;> cases e <;> simp_all [Cavity.add, Cavity.of]
    · cases o <;> cases e <;> simp_all [Cavity.add, Cavity.of]
    · have hok := hp.2.1
      cases e <;> simp_all [Cavity.add, Cavity.of]

theorem Cavity.of_add (c : Cavity) (n : Nat) {e : Element} (he : e ≠ .boiler) (o : Element) :
    (c.add n e).of o = c.of o + (if o = e then n else 0) := by
  cases e <;> cases o <;> simp_all [Cavity.add, Cavity.of]

theorem Cavity.sum_add (c : Cavity) (n : Nat) {e : Element} (he : e ≠ .boiler) : (c.add n e).sum = c.sum + n := by
  cases e <;> simp_all [Cavity.add, Cavity.sum] <;> omega

theorem Cavity.sum_eq (c : Cavity) : c.sum = c.of .top + c.of .bottom + c.of .ring := rfl

theorem cavityRank_injective {e o : Element} (h : cavityRank e = cavityRank o) : e = o := by
  cases e <;> cases o <;> simp_all [cavityRank]

/-- R10: the whole of the demand is split, rounded down, and the largest share takes the rest. -/
theorem splitHeat_spec {ratings : PerElement Nat} {share : Cavity} {d : Nat} (hsum : share.sum = 100)
    (hpresent : ∃ e : Element, e ≠ .boiler ∧ elementPresent ratings e = true) :
    (splitHeat ratings share d).sum = d
      ∧ (∀ o, elementPresent ratings o = false → (splitHeat ratings share d).of o = 0)
      ∧ ∀ o o', o' ≠ .boiler → elementPresent ratings o = true → elementPresent ratings o' = true →
          (share.of o < share.of o' ∨ (share.of o = share.of o' ∧ cavityRank o' < cavityRank o)) →
          (splitHeat ratings share d).of o = d * share.of o / 100 := by
  obtain ⟨x, hx, hxp⟩ := hpresent
  cases hmove : moveShares ratings share with
  | none =>
    unfold moveShares at hmove
    dsimp only at hmove
    cases hl : largestShare share (elementPresent ratings) with
    | none => exact absurd hxp (by simp [largestShare_none hl hx])
    | some e => simp [hl] at hmove
  | some m =>
    obtain ⟨e, ⟨he, hep, hbest⟩, hms, habsent, hkept, hle⟩ := moveShares_of hmove
    cases hl : largestShare m fun _ => true with
    | none => exact absurd (largestShare_none hl (e := .top) (by decide)) (by simp)
    | some g =>
      obtain ⟨hg, -, hgbest⟩ := largestShare_preferred hl
      let base : Cavity := ⟨d * m.top / 100, d * m.bottom / 100, d * m.ring / 100⟩
      have hsplit : splitHeat ratings share d = base.add (d - base.sum) g := by
        simp only [splitHeat, hmove, hl, base, Cavity.sum]
      have hbase : base.sum ≤ d := by
        have h100 : m.sum = 100 := hms.trans hsum
        have hd : d * m.top + d * m.bottom + d * m.ring = d * 100 := by
          rw [← h100, Cavity.sum]
          ring
        simp only [base, Cavity.sum]
        omega
      have hof : ∀ o, base.of o = d * m.of o / 100 := by
        intro o
        cases o <;> simp [base, Cavity.of]
      have hpos : 0 < m.of g := by
        have h100 : m.sum = 100 := hms.trans hsum
        rw [Cavity.sum_eq] at h100
        have h1 := hgbest .top (by decide) rfl
        have h2 := hgbest .bottom (by decide) rfl
        have h3 := hgbest .ring (by decide) rfl
        omega
      refine ⟨?_, fun o ho => ?_, fun o o' ho' hop hop' hout => ?_⟩
      · rw [hsplit, Cavity.sum_add _ _ hg]
        omega
      · have hog : o ≠ g := fun h => by
          have := habsent o ho
          rw [h] at this
          omega
        rw [hsplit, Cavity.of_add _ _ hg, if_neg hog, hof, habsent o ho]
        simp
      · have hoe : o ≠ e := fun h => by
          have := hbest o' ho' hop'
          rw [h] at hout
          omega
        have hog : o ≠ g := fun h => by
          have hm := hkept o hoe hop
          have h1 := hgbest e he rfl
          have h2 := hbest o (by rw [h]; exact hg) hop
          rw [← h] at h1
          exact hoe (cavityRank_injective (by omega))
        rw [hsplit, Cavity.of_add _ _ hg, if_neg hog, hof, hkept o hoe hop]
        simp

/-- R11: with no cavity element present nothing is heated. -/
theorem splitHeat_absent {ratings : PerElement Nat} {share : Cavity} {d : Nat}
    (h : ∀ e : Element, e ≠ .boiler → elementPresent ratings e = false) (o : Element) :
    (splitHeat ratings share d).of o = 0 := by
  have hnone : largestShare share (elementPresent ratings) = none := by
    cases hl : largestShare share (elementPresent ratings) with
    | none => rfl
    | some e =>
      obtain ⟨he, hok, -⟩ := largestShare_preferred hl
      exact absurd hok (by simp [h e he])
  have hm : moveShares ratings share = none := by
    unfold moveShares
    simp [hnone]
  simp only [splitHeat, hm]
  cases o <;> rfl

/-! ### The sample -/

/-- What a sample settles beside the climate. -/
theorem sample_settles (hf : frozen s = true) (hr : s.startup.restarting = false) (hg : GenSettled s) {c : Climate}
    (hc : sampleClimate s = c) :
    (climateSample s).climate = { c with sampleMs := 0 } ∧ SettlesOnly s (climateSample s)
      ∧ ProgramStands s (climateSample s)
      ∧ OnlyTouches [.climate, .power, .steam, .descale, .recipe] s (climateSample s) := by
  have he : climateSample s = settle (s.setClimate { c with sampleMs := 0 }) := by
    simp [climateSample, hf, hr, hc]
  obtain ⟨hs, hp, hl, hx⟩ := settles_event (u := s.setClimate { c with sampleMs := 0 }) hg (.of_eq rfl rfl rfl) rfl rfl
  rw [he]
  exact ⟨by simp, hs, hp, touches_climate (by simp) (by simp) hx hl (by simp)⟩

theorem sampleClimate_of_loops (h : LoopsRun s) {m : Mode} (hm : s.climate.profile = some m) :
    sampleClimate s = loopSample s m := by
  obtain ⟨-, -, hd, hc, hr⟩ := h
  simp [sampleClimate, hm, forcedZero, hd, hc, hr]

theorem profile_sum (m : Mode) : (profile m).shares.sum = 100 := by cases m <;> rfl

theorem cavityShare_eq (p : Profile) : cavityShare p = p.shares.of := by
  funext e
  cases e <;> rfl

theorem elementPresent_iff (r : PerElement Nat) (e : Element) : elementPresent r e = true ↔ r.get e ≠ 0 := by
  simp [elementPresent]

/-- R8: the integrator behind a sample. -/
theorem moveIntegrator_eq (target : Nat) (cav integ : Int) (starved : Bool) :
    moveIntegrator integ (heatError target cav) starved =
      if 5 < (target : Int) - cav then (if starved then max (-20) (min 20 integ) else max (-20) (min 20 (integ + 1)))
      else if (target : Int) - cav < -5 then max (-20) (min 20 (integ - 1))
      else max (-20) (min 20 integ) := by
  unfold moveIntegrator heatError clampInt
  cases starved <;> simp only [Bool.false_eq_true, if_true, if_false] <;> (repeat' split) <;> omega

theorem heatDemand_cast (p integ : Int) : ((heatDemand p integ : Nat) : Int) = max 0 (min 20 (p + integ)) := by
  unfold heatDemand clampInt
  omega

/-- What the loops of a sample give the cavity elements. -/
theorem loopSample_heat {m : Mode} {cav : Int} {target : Nat} (ht : s.climate.cavityTarget = some target)
    (hc : reading s .cav = some cav) :
    (loopSample s m).integ = moveIntegrator s.climate.integ (heatError target cav) s.power.starved
      ∧ ∀ e, cavityDemand (loopSample s m) e = (splitHeat s.startup.supply.ratings (profile m).shares
          (heatDemand (propTerm (profile m).kp (heatError target cav)) (loopSample s m).integ)).of e := by
  simp only [loopSample, temperatureLoop, hc, ht, Option.getD_some]
  exact ⟨trivial, fun e => by cases e <;> rfl⟩

theorem loopSample_steam {m : Mode} {moist : Int} {humidity : Nat} (hr : reading s .moist = some moist)
    (hh : m.humid = true → s.climate.humidityTarget = some humidity) :
    (m.humid = true →
        (humidity : Int) - moist ≤ -3 → (loopSample s m).steamDemand = 0 ∧ (loopSample s m).ventReq = true)
      ∧ (m.humid = true → -3 < (humidity : Int) - moist →
          ((loopSample s m).steamDemand : Int)
              = max 0 (min 20 ((((humidity : Int) - moist) * (profile m).ks).fdiv 10 + (profile m).sb))
            ∧ (loopSample s m).ventReq = false)
      ∧ (m.humid = false → (loopSample s m).steamDemand = 0 ∧ (loopSample s m).ventReq = true) := by
  refine ⟨fun hm hle => ?_, fun hm hlt => ?_, fun hm => ?_⟩
  · simp [loopSample, steamLoop, hm, hr, hh hm, humidityLoop, hle]
  · have hnot : ¬ (humidity : Int) - moist ≤ -3 := by omega
    simp only [loopSample, steamLoop, hm, hr, hh hm, humidityLoop, Option.getD_some, if_true, if_neg hnot, clampInt]
    exact ⟨Int.toNat_of_nonneg (le_max_left _ _), trivial⟩
  · simp [loopSample, steamLoop, hm]

/-- Settles O33: the loops, a missing reading, and the forced-zero sample. -/
theorem climateSamples : Obligations.ClimateSamples := by
  refine ⟨fun s m cav moist target humidity hl hg hm ht hc hmo hh => ⟨_, rfl, ?_⟩, fun s m hl hg hm => ⟨_, rfl, ?_⟩,
    fun s hf hr hg hz => ⟨_, rfl, ?_⟩⟩
  · obtain ⟨hcl, hs, hp, hto⟩ := sample_settles hl.1 hl.2.1 hg (sampleClimate_of_loops hl hm)
    obtain ⟨hint, hdem⟩ := loopSample_heat (m := m) ht hc
    obtain ⟨hs1, hs2, hs3⟩ := loopSample_steam hmo hh
    have hint' : (climateSample s).climate.integ = (loopSample s m).integ := by rw [hcl]
    have hdem' : ∀ e, cavityDemand (climateSample s).climate e = _ := fun e =>
      (show cavityDemand (climateSample s).climate e = cavityDemand (loopSample s m) e by rw [hcl]; cases e <;> rfl).trans
        (hdem e)
    have hsum : ∀ c : Climate, c.demTop + c.demBottom + c.demRing
        = cavityDemand c .top + cavityDemand c .bottom + cavityDemand c .ring := fun _ => rfl
    have hstd : (climateSample s).climate.steamDemand = (loopSample s m).steamDemand := by rw [hcl]
    have hvent : (climateSample s).climate.ventReq = (loopSample s m).ventReq := by rw [hcl]
    rw [hsum, hint', hdem', hdem', hdem', ← Cavity.sum_eq, hstd, hvent]
    refine ⟨hint.trans (moveIntegrator_eq _ _ _ _), fun ⟨e, he, hre⟩ => ?_, fun e he => ?_, fun e he hre hout => ?_,
      hs1, hs2, hs3, by rw [hcl]; rfl, by rw [hcl]; rfl, by rw [hcl], by rw [hcl]; rfl, by rw [hcl]; rfl, by rw [hcl]; rfl,
      hs, hp, hto⟩
    · rw [(splitHeat_spec (profile_sum m) ⟨e, he, (elementPresent_iff _ e).2 hre⟩).1, heatDemand_cast]
      rfl
    · rw [hdem']
      by_cases hex : ∃ x : Element, x ≠ .boiler ∧ elementPresent s.startup.supply.ratings x = true
      · exact (splitHeat_spec (profile_sum m) hex).2.1 e (by simp [elementPresent, he])
      · refine splitHeat_absent (fun x hx => ?_) e
        exact Bool.eq_false_of_not_eq_true fun h => hex ⟨x, hx, h⟩
    · obtain ⟨o, ho, hro, hrank⟩ := hout
      rw [cavityShare_eq] at *
      have hspec := splitHeat_spec (d := heatDemand (propTerm (profile m).kp (heatError target cav)) (loopSample s m).integ)
        (profile_sum m) ⟨e, he, (elementPresent_iff s.startup.supply.ratings e).2 hre⟩
      rw [hdem', hspec.2.2 e o ho ((elementPresent_iff _ e).2 hre) ((elementPresent_iff _ o).2 hro) hrank, hspec.1]
  · obtain ⟨hcl, hs, hp, hto⟩ := sample_settles hl.1 hl.2.1 hg (sampleClimate_of_loops hl hm)
    rw [hcl]
    refine ⟨fun hc => ?_, fun hh hmo => ?_, rfl, rfl, rfl, rfl, rfl, rfl, rfl, hs, hp, hto⟩
    · simp [loopSample, temperatureLoop, hc]
    · simp [loopSample, steamLoop, hh, hmo]
  · have hforced : sampleClimate s = forcedSample s := by
      unfold sampleClimate
      cases hm : s.climate.profile with
      | none => rfl
      | some m =>
        have hz' : forcedZero s = true := by
          rcases hz with h | h | h | h <;> simp_all [forcedZero]
        simp [hz']
    obtain ⟨hcl, hs, hp, hto⟩ := sample_settles hf hr hg hforced
    refine ⟨?_, hs, hp, hto⟩
    rw [hcl]
    cases hm : s.climate.profile <;> simp [forcedSample, hm, serviceOrder]

end Sys2Proof.Machine

/-!
The frame that is laid out (R23 to R30): base load in a frame that meets the freeze.
-/
namespace Sys2Proof.Machine

/-- A frame that carries base load, on a configuration with a B of 0, as the setup window runs out: the SUPPLY section
that freezes has a B of 8, and the relay, commanded CLOSED, has not followed for 200 ms, so that the TRIP takes the POWER
hold to 0 in the same step. -/
def windowEndsInFrame : State := { State.reset with
  startup := { Startup.reset with
    setup := .opened, windowMs := 10000, supply := { Supply.defaults with baseLoad := 0 } }
  power := { Power.reset with inFrame := true, carriesBase := true }
  share := { Share.reset with holds := ⟨100, 0, 0⟩ }
  superv := { Superv.reset with relayClosed := true, mismatchMs := 200 } }

theorem windowEndsInFrame_tick : (tick windowEndsInFrame).power.inFrame = true
    ∧ (tick windowEndsInFrame).power.carriesBase = false := by
  decide +kernel

/-- Refutes O36: a frame that carries base load ceases to, though the hold is not below the B of the state before. The
statement measures the hold by that B in every state, one in a frame before the freeze too, which no run reaches; there
the B of the section that freezes decides. -/
theorem not_crossingLaysOutAFrame : ¬ Obligations.CrossingLaysOutAFrame := by
  rintro ⟨-, -, hcarries, -⟩
  obtain ⟨hin, hno⟩ := windowEndsInFrame_tick
  obtain ⟨-, hkept⟩ := hcarries windowEndsInFrame (tick windowEndsInFrame) (step_of_idle rfl) rfl (by decide) hin
    (by simp [windowEndsInFrame, State.reset])
  have hyes := hkept rfl (Nat.zero_le _)
  rw [hno] at hyes
  exact absurd hyes (by decide)

end Sys2Proof.Machine

/-!
Crossings (R20 to R34): what a crossing does within a frame, at the end of one and outside, and what stands meanwhile.
-/
namespace Sys2Proof.Machine

variable {s t u : State} {A : List Licence}

/-! ### Frames that enter the queue -/

theorem mem_replaceWaiting {p : TxFrame → Bool} {f : TxFrame} {q : List QEntry} (h : anyWaiting p q = true) :
    (⟨f, false⟩ : QEntry) ∈ replaceWaiting p f q := by
  obtain ⟨e, he, hp⟩ := List.any_eq_true.1 h
  exact List.mem_map.2 ⟨e, he, by rw [if_pos hp]⟩

theorem mem_putFrame (p : TxFrame → Bool) (f : TxFrame) (q : List QEntry) : (⟨f, false⟩ : QEntry) ∈ putFrame p f q := by
  unfold putFrame
  split
  next h => exact mem_replaceWaiting h
  · simp [addFrame, mem_insertFrame]

/-- A frame that is no RAISE waits in the queue that it has entered (R76). -/
theorem queued_enqueueQueue {f : TxFrame} (hf : ∀ p, f.isRaise p = false) (q : List QEntry) :
    (⟨f, false⟩ : QEntry) ∈ enqueueQueue f q := by
  cases f with
  | trip | tripClear | lower | yields | status => exact mem_putFrame _ _ _
  | raise p _ _ => exact absurd (hf p) (by simp [TxFrame.isRaise])
  | result | notice | reading => simp [enqueueQueue, addReport, addFrame, mem_insertFrame]

theorem queued_enqueue {f : TxFrame} (hf : ∀ p, f.isRaise p = false) (hn : unnumbered s = false) :
    Queued f (enqueue f s) := by
  rw [enqueue, if_neg (by simp [hn])]
  exact queued_enqueueQueue hf s.line.queue

theorem queued_notice (hn : unnumbered s = false) (code : NoticeCode) (detail : Nat) :
    Queued (.notice code (noticeTag s.recipe) s.recipe.cur detail) (notice code detail s) :=
  queued_enqueue (fun _ => rfl) hn

/-! ### The frame that stands -/

@[simp] theorem lowerHold_frameKept (p : Pool) (v : Nat) (s : State) :
    (lowerHold p v s).power.inFrame = s.power.inFrame ∧ (lowerHold p v s).power.corrected = s.power.corrected := by
  cases p with
  | power => unfold lowerHold; split <;> simp [powerFalls]
  | inlet | drain => simp

/-- R24: without a frame start a frame in progress is the one that was, with its corrected ratings. -/
theorem Does.frame_stands (h : Does A s t) (hA : .frame ∉ A) (hi : t.power.inFrame = true) :
    s.power.inFrame = true ∧ t.power.corrected = s.power.corrected := by
  induction h with
  | refl => exact ⟨hi, rfl⟩
  | power _ _ h2 ih =>
    obtain ⟨h3, h4⟩ := h2.resolve_left hA hi
    obtain ⟨h5, h6⟩ := ih h3
    exact ⟨h5, h4.trans h6⟩
  | lowers _ _ ih =>
    rw [(lowerHold_frameKept _ _ _).1] at hi
    rw [(lowerHold_frameKept _ _ _).2]
    exact ih hi
  | @entry t n e _ _ _ _ _ _ ih =>
    exact (entryRecorded_induct (P := fun u => u.power.inFrame = true →
      s.power.inFrame = true ∧ u.power.corrected = s.power.corrected)
      (fun p v u hu => by simpa using hu) (by simpa using ih)) hi
  | raises _ _ _ _ _ ih => simp at hi ⊢; exact ih hi
  | ownRaise _ _ _ ih => simp at hi ⊢; exact ih hi
  | freezes _ _ _ ih => exact ih hi
  | close _ _ _ _ ih => simp at hi ⊢; exact ih hi
  | restore _ _ _ _ ih => simp at hi ⊢; exact ih hi
  | reinit => simp [blocksRestarted, powerRestarted, Power.reset] at hi
  | _ => rename_i ih; exact ih hi

/-! ### Crossings, by where they fall -/

/-- The state as a crossing is counted, with the frequency decided (R20, R22). -/
def crossed (s : State) : State := s.setPower { s.power with sinceCrossUs := 0, misses := 0 }

/-- The table of R21 gives the frequency and the half-period. -/
theorem decideFrequency_power (total : Nat) (s : State) : (decideFrequency total s).power = { s.power with
    freq := (decideFrequency total s).power.freq, halfPeriodUs := (decideFrequency total s).power.halfPeriodUs } := by
  unfold decideFrequency decideMainsFault
  dsimp only
  (repeat' split) <;> simp

theorem timeCrossing_of_decided (h : s.power.freq ≠ .undecided) (interval : Nat) : timeCrossing interval s = s := by
  simp [timeCrossing, h]

theorem zeroCrossing_within (h : s.power.freq ≠ .undecided) (hi : s.power.inFrame = true)
    (hs : s.power.slot + 1 < frameSlots) (interval volts : Nat) :
    zeroCrossing interval volts s = driveSlot (s.power.slot + 1) (applyChanges (s.power.slot + 1) (crossed s)) := by
  simp [zeroCrossing, timeCrossing_of_decided h, hi, hs, crossed]

theorem zeroCrossing_last (h : s.power.freq ≠ .undecided) (hi : s.power.inFrame = true) (hs : s.power.slot = 19)
    (interval volts : Nat) :
    zeroCrossing interval volts s = frameStart (some volts) (completeFrame volts (crossed s)) := by
  simp [zeroCrossing, timeCrossing_of_decided h, hi, hs, crossed, frameSlots]

theorem zeroCrossing_first (h : s.power.freq ≠ .undecided) (hi : s.power.inFrame = false) (hf : frozen s = true)
    (hr : s.startup.restarting = false) (interval volts : Nat) :
    zeroCrossing interval volts s = frameStart none (crossed s) := by
  simp [zeroCrossing, timeCrossing_of_decided h, hi, crossed, framesRun, hf, hr, h]

/-- R20, R23: a crossing that may start a frame, the first or the one that ends slot 19: the state from which the frame is
laid out, and the voltage it is laid out on. -/
theorem zeroCrossing_starts (hw : s.power.inFrame = false ∨ (s.power.inFrame = true ∧ s.power.slot = 19))
    (hf : frozen s = true) (hr : s.startup.restarting = false) (h : s.power.freq ≠ .undecided) (interval volts : Nat) :
    ∃ v u, exec (.zeroCrossing interval volts) s = .next (frameStart v u)
      ∧ (s.power.inFrame = false → v = none ∧ u = crossed s)
      ∧ (s.power.inFrame = true → v = some volts ∧ u = completeFrame volts (crossed s)) := by
  obtain hi | ⟨hi, hs⟩ := hw
  · exact ⟨none, crossed s, congrArg Host.Outcome.next (zeroCrossing_first h hi hf hr interval volts),
      fun _ => ⟨rfl, rfl⟩, fun hi' => absurd (hi.symm.trans hi') (by decide)⟩
  · exact ⟨some volts, completeFrame volts (crossed s),
      congrArg Host.Outcome.next (zeroCrossing_last h hi hs interval volts),
      fun hi' => absurd (hi.symm.trans hi') (by decide), fun _ => ⟨rfl, rfl⟩⟩

/-! ### The start of a frame -/

/-- R31, R25: what a fall of the hold changes in the scheduler. -/
theorem lowerHold_power (v : Nat) (s : State) : (lowerHold .power v s).power = { s.power with
    holdFall := (lowerHold .power v s).power.holdFall, carriesBase := (lowerHold .power v s).power.carriesBase
    base := (lowerHold .power v s).power.base } := by
  unfold lowerHold
  split
  · simp [powerFalls]
  · rfl

/-- The decisions at a frame start leave the frame but for a fall of the hold. -/
theorem frameStartDecisions_power (s : State) : (frameStartDecisions s).power = { s.power with
    holdFall := (frameStartDecisions s).power.holdFall, carriesBase := (frameStartDecisions s).power.carriesBase
    base := (frameStartDecisions s).power.base } := by
  have hr : (decideRaise s).power = s.power := by unfold decideRaise; split <;> simp
  have hy : ∀ u, (decideYield u).power = u.power := by intro u; unfold decideYield; (repeat' split) <;> simp
  have hl : ∀ u, (decideLower u).power = { u.power with
      holdFall := (decideLower u).power.holdFall, carriesBase := (decideLower u).power.carriesBase
      base := (decideLower u).power.base } := by
    intro u
    unfold decideLower
    split
    · split
      · exact lowerHold_power _ _
      · rfl
    · rfl
  have hd := hl (decideYield (decideRaise s))
  rw [hy, hr] at hd
  exact hd

/-- R23 to R30: the frame as it has begun, with slot 0 driven. -/
theorem frameStart_power (volts : Option Nat) (s : State) : (frameStart volts s).power =
    { (layOut volts s).power with
      gates := (layOut volts s).power.layout[0]?.getD (PerElement.all false)
      onCount := (frameStart volts s).power.onCount, holdFall := (frameStart volts s).power.holdFall
      carriesBase := (frameStart volts s).power.carriesBase, base := (frameStart volts s).power.base
      shed := (frameStart volts s).power.shed } := by
  have h1 := settle_power (frameStartDecisions (driveSlot 0 (layOut volts s)))
  rw [frameStartDecisions_power] at h1
  unfold frameStart
  rw [h1]
  simp [driveSlot, layOut]

/-! ### Corrected ratings (R24) -/

theorem le_divUp_mul {a b : Nat} (hb : 0 < b) : a ≤ divUp a b * b := by
  have h := Nat.div_add_mod a b
  have hm := Nat.mod_lt a hb
  unfold divUp
  split <;> nlinarith

theorem divUp_mul_lt {a b : Nat} (hb : 0 < b) : divUp a b * b < a + b := by
  have h := Nat.div_add_mod a b
  unfold divUp
  split
  · nlinarith
  · have : 0 < a % b := Nat.pos_of_ne_zero ‹_›
    nlinarith

theorem correctRatings_get (v : Supply) (vc : Nat) (e : Element) :
    (correctRatings v vc).get e = correctRating v.vNom vc (v.ratings.get e) := by cases e <;> rfl

/-- A crossing within a frame, timed or not, changes no corrected rating. -/
theorem zeroCrossing_corrected (hi : s.power.inFrame = true) (hs : s.power.slot + 1 < frameSlots)
    (interval volts : Nat) : (zeroCrossing interval volts s).power.corrected = s.power.corrected := by
  have hp : (timeCrossing interval s).power.inFrame = s.power.inFrame
      ∧ (timeCrossing interval s).power.slot = s.power.slot
      ∧ (timeCrossing interval s).power.corrected = s.power.corrected := by
    unfold timeCrossing
    split
    · dsimp only
      by_cases h2 : s.power.crossings = 100
      · rw [if_pos h2, decideFrequency_power]
        exact ⟨rfl, rfl, rfl⟩
      · rw [if_neg h2]
        exact ⟨rfl, rfl, rfl⟩
    · exact ⟨rfl, rfl, rfl⟩
  obtain ⟨h1, h2, h3⟩ := hp
  simp only [zeroCrossing, State.setPower_power, h1, h2, hi, hs, if_true, driveSlot, (applyChanges_power _ _).2.1, h3]

theorem frame_licence {c : Instr} (h : .frame ∈ licences s c) : ∃ interval volts, c = .zeroCrossing interval volts := by
  unfold licences at h
  (repeat' split at h) <;> simp at h ⊢

/-- Settles O37: the rounding at the frame start, and the chain of changes that a step is, in which a frame start alone
corrects ratings. -/
theorem correctedRatingsRoundUp : Obligations.CorrectedRatingsRoundUp := by
  refine ⟨fun s interval volts e hw hf hr hq hv => ?_, fun c s t hc hi hs ht hz => ?_, fun s t hp hc hi hs ht => ?_⟩
  · obtain ⟨v, u, hx, h1, h2⟩ := zeroCrossing_starts hw.symm hf hr hq interval volts
    have hu : u.startup = s.startup := by
      cases hi : s.power.inFrame with
      | false => rw [(h1 hi).2]; rfl
      | true => rw [(h2 hi).2]; simp [crossed]
    have hcor : (frameStart v u).power.corrected.get e
        = divUp (s.startup.supply.ratings.get e * (frameStart v u).power.vc * (frameStart v u).power.vc)
          (s.startup.supply.vNom * s.startup.supply.vNom) := by
      rw [frameStart_power, ← hu]
      exact correctRatings_get _ _ _
    have hpos := Nat.mul_pos hv hv
    refine ⟨_, hx, ?_, ?_, fun hz => ?_⟩ <;> rw [hcor]
    · exact le_divUp_mul hpos
    · exact divUp_mul_lt hpos
    · simp [hz, divUp]
  · by_cases hzc : ∃ interval volts, c = .zeroCrossing interval volts
    · obtain ⟨interval, volts, rfl⟩ := hzc
      have hne := hz interval volts rfl
      obtain rfl := Host.Outcome.next.inj hc
      exact zeroCrossing_corrected hi (by simp only [frameSlots]; omega) interval volts
    · obtain ⟨a, b, -, rfl⟩ | ⟨-, hd⟩ := exec_cases hc
      · simp [powerOn, Power.reset] at ht
      · refine (hd.frame_stands (fun hm => ?_) ht).2
        simp only [List.mem_cons, reduceCtorEq, false_or] at hm
        exact hzc (frame_licence hm)
  · rw [step_of_idle hp] at hc
    obtain rfl := Host.Outcome.next.inj hc
    refine ((does_tick s).frame_stands ?_ ht).2
    simp only [idleLicences]
    (repeat' split) <;> simp

end Sys2Proof.Machine

/-!
A completed frame (R28, R34), and a crossing within one (R20, R31, R32).
-/
namespace Sys2Proof.Machine

variable {s t u : State}

/-! ### Completion -/

theorem completeFrame_power (volts : Nat) (s : State) : (completeFrame volts s).power = { s.power with
    grants := s.power.onCount, starved := frameStarved s.power
    starveMs := if frameStarved s.power then some (s.power.starveMs.getD 0) else none } := by
  simp [completeFrame, frameForDescale]

theorem presentMains_superv (v : Nat) (s : State) :
    (presentMains v s).superv = { s.superv with
      readings := { s.superv.readings with mains := readableAs .mains v }
      low := (presentMains v s).superv.low, high := (presentMains v s).superv.high } :=
  (judgeChannelSides_superv _ _).1

theorem reading_presentMains (v : Nat) (s : State) : reading (presentMains v s) .mains = some ((min 300 v : Nat) : Int) := by
  unfold reading
  rw [presentMains_superv]
  simp only [PerChannel.get, readableAs, channelClamp, channelRange, clampInt, Option.some.injEq]
  omega

theorem completeFrame_mains (volts : Nat) (s : State) :
    reading (completeFrame volts s) .mains = some ((min 300 volts : Nat) : Int)
      ∧ (completeFrame volts s).superv.mainsArmed = true := by
  refine ⟨reading_presentMains _ _, ?_⟩
  unfold completeFrame
  rw [presentMains_superv]
  rfl

/-- Settles O38: the completion and the start of the next frame, of which the one leaves what the other hands it. -/
theorem crossingCompletesTheFrame : Obligations.CrossingCompletesTheFrame := by
  intro s interval volts hi hs hq
  refine ⟨_, congrArg Host.Outcome.next (zeroCrossing_last hq hi hs interval volts), ?_⟩
  have hp := frameStart_power (some volts) (completeFrame volts (crossed s))
  have hc := completeFrame_power volts (crossed s)
  obtain ⟨hm, ha⟩ := completeFrame_mains volts (crossed s)
  have hst : (frameStart (some volts) (completeFrame volts (crossed s))).power.starved = frameStarved s.power := by
    rw [hp]
    exact congrArg Power.starved hc
  have hsm : (frameStart (some volts) (completeFrame volts (crossed s))).power.starveMs
      = if frameStarved s.power then some (s.power.starveMs.getD 0) else none := by
    rw [hp]
    exact congrArg Power.starveMs hc
  refine ⟨?_, hst, fun h => ?_, fun h => ?_, ?_, ?_, ?_, ?_, ?_, by simp [crossed], by simp [crossed], by simp [crossed]⟩
  · rw [hp]
    exact congrArg Power.grants hc
  · rw [hst] at h
    simp [hsm, h]
  · rw [hst] at h
    simp [hsm, h]
  · rw [reading, (frameStart_frame _ _).2.2.2]
    exact hm
  · simpa using ha
  · rw [hp]
    rfl
  · rw [hp]
    rfl
  · rw [hp]
    simp [layOut, clampVoltage, clampNat, crossed]

/-! ### A crossing within a frame -/

theorem shedSlot_eq_minus (c : PerElement Nat) (a : Nat) (l : List Element) (x : PerElement Bool) :
    ∃ j ≤ l.length, shedSlot c a l x = x.minus (l.take j) ∧ ∀ i < j, a < slotLoad c (x.minus (l.take i)) := by
  induction l generalizing x with
  | nil => exact ⟨0, le_rfl, rfl, fun i hi => absurd hi (by omega)⟩
  | cons e l ih =>
    by_cases h : slotLoad c x ≤ a
    · exact ⟨0, Nat.zero_le _, by simp [shedSlot, h, PerElement.minus], fun i hi => absurd hi (by omega)⟩
    · obtain ⟨j, hj, he, hlt⟩ := ih (x.set false e)
      refine ⟨j + 1, by simpa using hj, by simp [shedSlot, h, he, PerElement.minus], fun i hi => ?_⟩
      cases i with
      | zero => simpa [PerElement.minus] using h
      | succ i => exact hlt i (by omega)

theorem getElem?_mapFrom (k i : Nat) (f : PerElement Bool → PerElement Bool) (l : List (PerElement Bool)) :
    (mapFrom k f l)[i]? = if i < k then l[i]? else (l[i]?).map f := by
  unfold mapFrom
  by_cases hl : k ≤ l.length
  · by_cases hi : i < k
    · rw [List.getElem?_append_left (by simpa using ⟨hi, by omega⟩), if_pos hi]
      simp [hi]
    · rw [List.getElem?_append_right (by simp; omega), if_neg hi]
      simp only [List.length_take, Nat.min_eq_left hl, List.getElem?_map, List.getElem?_drop]
      rw [Nat.add_sub_cancel' (by omega)]
  · rw [List.drop_of_length_le (by omega), List.map_nil, List.append_nil, List.take_of_length_le (by omega)]
    by_cases hi : i < k
    · rw [if_pos hi]
    · rw [if_neg hi, List.getElem?_eq_none (by omega)]
      rfl

theorem removeElements_get_eq (y x : PerElement Bool) (e : Element) :
    (removeElements y x).get e = (x.get e && !y.get e) := by cases e <;> rfl

theorem removeElements_none (x : PerElement Bool) : removeElements (PerElement.all false) x = x := by
  simp [removeElements, PerElement.all]

/-- What a slot to come becomes at a crossing (R31, R32). -/
def slotLeft (p : Power) (baseLoad : Nat) (x : PerElement Bool) : PerElement Bool :=
  let y := removeElements p.shed x
  match p.holdFall with
  | none => y
  | some h => shedSlot p.corrected (fallenCapacity baseLoad p.carriesBase h) p.frameOrder.reverse y

theorem applyChanges_getElem? (k i : Nat) (s : State) : (applyChanges k s).power.layout[i]?
    = if i < k then s.power.layout[i]? else (s.power.layout[i]?).map (slotLeft s.power s.startup.supply.baseLoad) := by
  unfold applyChanges slotLeft
  cases hf : s.power.holdFall with
  | none => exact getElem?_mapFrom _ _ _ _
  | some h =>
    simp only [State.setPower_power, getElem?_mapFrom]
    split
    · rfl
    · simp [Function.comp_def]

theorem slotLeft_get {p : Power} {b : Nat} {x : PerElement Bool} {e : Element} (h : (slotLeft p b x).get e = true) :
    x.get e = true ∧ p.shed.get e = false := by
  have hr : (removeElements p.shed x).get e = true := by
    unfold slotLeft at h
    cases hf : p.holdFall with
    | none => simpa [hf] using h
    | some v =>
      simp only [hf] at h
      exact shedSlot_get h
  simpa [removeElements_get_eq] using hr

theorem applyChanges_others (k : Nat) (s : State) : (applyChanges k s).power = { s.power with
    layout := (applyChanges k s).power.layout, avail := (applyChanges k s).power.avail
    shed := PerElement.all false, holdFall := none } := by
  unfold applyChanges
  split
  next hf => simp [hf]
  · rfl

/-- What of the slots a crossing begins: the slots that have ended stand, and the others are what is left of them. -/
theorem nextLayout_getElem? (s : State) (k : Nat) :
    (applyChanges (s.power.slot + 1) (crossed s)).power.layout[k]?
      = if k ≤ s.power.slot then s.power.layout[k]?
        else (s.power.layout[k]?).map (slotLeft s.power s.startup.supply.baseLoad) := by
  rw [applyChanges_getElem?]
  exact if_congr Nat.lt_succ_iff rfl rfl

theorem nextLayout_after {k : Nat} {x y : PerElement Bool} (hk : s.power.slot < k)
    (hx : x ∈ (applyChanges (s.power.slot + 1) (crossed s)).power.layout[k]?) (hy : y ∈ s.power.layout[k]?) :
    x = slotLeft s.power s.startup.supply.baseLoad y := by
  rw [nextLayout_getElem?, if_neg (by omega), Option.mem_def.1 hy] at hx
  exact (Option.some.inj hx).symm

theorem touches_only_power (t : State) (hp : t.pending = s.pending) (hu : t.startup = s.startup)
    (hc : t.climate = s.climate) (hx : t.share = s.share) (hl : t.line = s.line) (hm : t.steam = s.steam)
    (hd : t.descale = s.descale) (hr : t.recipe = s.recipe) (hv : t.superv = s.superv) : OnlyTouches [.power] s t := by
  refine ⟨hp, fun b hb => ?_⟩
  cases b with
  | power => exact absurd hb (by decide)
  | startup => exact hu
  | climate => exact hc
  | share => exact hx
  | line => exact hl
  | steam => exact hm
  | descale => exact hd
  | recipe => exact hr
  | superv => exact hv

/-- Settles O35: what a crossing makes of each slot to come. -/
theorem crossingBeginsTheNextSlot : Obligations.CrossingBeginsTheNextSlot := by
  intro s interval volts hi hs hq hlen hord
  have hk : s.power.slot + 1 < frameSlots := by simp only [frameSlots]; omega
  have ho := applyChanges_others (s.power.slot + 1) (crossed s)
  have hget := nextLayout_getElem? s
  have hafter := @nextLayout_after s
  have hfall := fun v => @applyChanges_fallen (s.power.slot + 1) v (crossed s)
  have hfr := applyChanges_frame (s.power.slot + 1) (crossed s)
  have hl : (applyChanges (s.power.slot + 1) (crossed s)).power.layout.length = 20 := by
    unfold applyChanges
    split <;> simp [crossed, hlen]
  refine ⟨_, congrArg Host.Outcome.next (zeroCrossing_within hq hi hk interval volts), ?_⟩
  generalize applyChanges (s.power.slot + 1) (crossed s) = v at ho hget hafter hfall hfr hl
  have hsome : v.power.layout[s.power.slot + 1]? = some v.power.layout[s.power.slot + 1] :=
    List.getElem?_eq_getElem (by omega)
  have hgates : (driveSlot (s.power.slot + 1) v).power.gates = v.power.layout[s.power.slot + 1] := by
    simp [driveSlot, hsome]
  have hlo : (driveSlot (s.power.slot + 1) v).power.layout = v.power.layout := rfl
  have hcount : v.power.onCount = s.power.onCount := by rw [ho]; rfl
  have hdrop : ∀ x ∈ v.power.layout.drop (s.power.slot + 1),
      ∃ y, x = slotLeft s.power s.startup.supply.baseLoad y := by
    intro x hx
    obtain ⟨j, hj⟩ := List.mem_iff_getElem?.1 hx
    rw [List.getElem?_drop, hget, if_neg (by omega)] at hj
    obtain ⟨y, -, hy⟩ := Option.map_eq_some_iff.1 hj
    exact ⟨y, hy.symm⟩
  refine ⟨rfl, ?_, ?_, ?_, ?_, fun e => ?_, fun k hk20 hks => ?_, fun k hk20 x hx y hy e he => ?_, fun x hx e he => ?_,
    fun h hh x hx => ?_, fun hsh hno => ?_, fun hno k hk20 hks x hx y hy e => ?_, fun h hh hsh k hk20 hks x hx y hy => ?_,
    ?_, ?_⟩
  · exact (congrArg Power.inFrame ho).trans hi
  · exact congrArg Power.misses ho
  · exact congrArg Power.sinceCrossUs ho
  · rw [hgates]
    exact hsome
  · have hb : ∀ b, bitNat b = if b = true then 1 else 0 := fun b => by cases b <;> rfl
    cases e <;> simp [driveSlot, PerElement.get, hcount, hb]
  · rw [hlo, hget, if_pos hks]
  · rw [hlo] at hx
    by_cases hks : k ≤ s.power.slot
    · rw [hget, if_pos hks] at hx
      rw [← Option.some.inj (hx.symm.trans hy)]
      exact he
    · rw [hafter (by omega) hx hy] at he
      exact (slotLeft_get he).1
  · obtain ⟨y, rfl⟩ := hdrop x hx
    by_contra hne
    have := (slotLeft_get (by simpa using hne)).2
    rw [he] at this
    exact absurd this (by decide)
  · exact hfall h hh (by show _ ≤ s.power.layout.length; omega) hord hx
  · refine List.ext_getElem? fun k => ?_
    rw [hlo, hget]
    split
    · rfl
    · have : slotLeft s.power s.startup.supply.baseLoad = id := by
        funext x
        simp [slotLeft, hno, hsh, removeElements_none]
      rw [this, Option.map_id]
      rfl
  · rw [hafter hks hx hy]
    simp [slotLeft, hno, removeElements_get_eq]
  · rw [hafter hks hx hy]
    obtain ⟨j, hj, he, hlt⟩ := shedSlot_eq_minus s.power.corrected
      (fallenCapacity s.startup.supply.baseLoad s.power.carriesBase h) s.power.frameOrder.reverse y
    refine ⟨j, by simpa using hj, ?_, hlt⟩
    rw [← he]
    simp [slotLeft, Option.mem_def.1 hh, hsh, removeElements_none]
  · simp only [driveSlot, State.setPower_power]
    rw [ho]
    simp [crossed]
  · obtain ⟨h1, h2, h3, h4, h5, h6, h7, h8, h9⟩ := hfr
    exact touches_only_power _ h1 h2 h3 h4 h5 h6 h7 h8 h9

end Sys2Proof.Machine

/-!
The mains frequency, missed crossings and starvation (R21, R22, R34).
-/
namespace Sys2Proof.Machine

variable {s t u : State}

/-! ### Touched blocks -/

theorem touches_power_line (hp : t.pending = s.pending) (hu : t.startup = s.startup) (hc : t.climate = s.climate)
    (hx : t.share = s.share) (hm : t.steam = s.steam) (hd : t.descale = s.descale) (hr : t.recipe = s.recipe)
    (hv : t.superv = s.superv) : OnlyTouches [.power, .line] s t := by
  refine ⟨hp, fun b hb => ?_⟩
  cases b with
  | power | line => exact absurd hb (by decide)
  | startup => exact hu
  | climate => exact hc
  | share => exact hx
  | steam => exact hm
  | descale => exact hd
  | recipe => exact hr
  | superv => exact hv

/-- A generator that was settled stays so where generator, straps and program stand. -/
theorem judgeSteam_of_same (hg : GenSettled s) (hm : u.steam = s.steam) (hu : u.startup = s.startup)
    (hr : u.recipe = s.recipe) : judgeSteam u = u :=
  judgeSteam_of_settled (genSettled_congr hg
    (steamWanted_congr (by rw [hr]) (fun _ => by rw [hr]; exact ⟨rfl, rfl⟩) (by rw [hm]) (by rw [hm]) (by rw [hu]))
    (by rw [hm]) (by rw [hu]) (by rw [hu]))

/-! ### The mains frequency -/

/-- The state in which the 101st crossing decides the frequency. -/
def hundredTimed (interval : Nat) (s : State) : State :=
  s.setPower { s.power with crossings := 101, intervalUs := s.power.intervalUs + interval }

theorem zeroCrossing_decides (hi : s.power.inFrame = false) (hq : s.power.freq = .undecided)
    (hc : s.power.crossings = 100) (interval volts : Nat) :
    zeroCrossing interval volts s = crossed (decideFrequency (s.power.intervalUs + interval) (hundredTimed interval s)) := by
  have ht : timeCrossing interval s = decideFrequency (s.power.intervalUs + interval) (hundredTimed interval s) := by
    simp [timeCrossing, hq, hc, hundredTimed]
  have hf : (decideFrequency (s.power.intervalUs + interval) (hundredTimed interval s)).power.inFrame = false := by
    rw [decideFrequency_power]
    exact hi
  simp [zeroCrossing, ht, hf, framesRun, hq, crossed]

theorem queued_decideMainsFault (hn : unnumbered s = false) (tenths : Nat) (half : Option Nat) :
    Queued (.notice .channelExcursion (noticeTag s.recipe) s.recipe.cur (32768 + min tenths 32767))
      (decideMainsFault tenths half s) :=
  queued_notice (s := s.setPower { s.power with freq := .mainsFault tenths, halfPeriodUs := half }) hn _ _

/-- The table of R21. -/
theorem decideFrequency_cases (hn : unnumbered s = false) (total : Nat) :
    (450 ≤ 500000000 / total → 500000000 / total < 550 →
        (decideFrequency total s).power.freq = .hz50 ∧ (decideFrequency total s).power.halfPeriodUs = some 10000
          ∧ (decideFrequency total s).line = s.line)
      ∧ (550 ≤ 500000000 / total → 500000000 / total ≤ 650 →
          (decideFrequency total s).power.freq = .hz60 ∧ (decideFrequency total s).power.halfPeriodUs = some 8333
            ∧ (decideFrequency total s).line = s.line)
      ∧ (500000000 / total < 450 ∨ 650 < 500000000 / total →
          (decideFrequency total s).power.freq = .mainsFault (500000000 / total)
            ∧ (decideFrequency total s).power.halfPeriodUs = some (total / 200)
            ∧ Queued (.notice .channelExcursion (noticeTag s.recipe) s.recipe.cur
                (32768 + min (500000000 / total) 32767)) (decideFrequency total s)) := by
  generalize hd : 500000000 / total = d
  refine ⟨fun h1 h2 => ?_, fun h1 h2 => ?_, fun h => ?_⟩
  · have he : decideFrequency total s = s.setPower { s.power with freq := .hz50, halfPeriodUs := some 10000 } := by
      simp [decideFrequency, hd, h1, h2]
    rw [he]
    exact ⟨rfl, rfl, rfl⟩
  · have he : decideFrequency total s = s.setPower { s.power with freq := .hz60, halfPeriodUs := some 8333 } := by
      simp [decideFrequency, hd, h1, h2, Nat.not_lt.2 h1]
    rw [he]
    exact ⟨rfl, rfl, rfl⟩
  · have he : decideFrequency total s = decideMainsFault d (some (total / 200)) s := by
      simp only [decideFrequency, hd]
      rw [if_neg (by omega), if_neg (by omega)]
    rw [he]
    exact ⟨by simp [decideMainsFault], by simp [decideMainsFault], queued_decideMainsFault hn _ _⟩

theorem frequency_decided (hi : s.power.inFrame = false) (hq : s.power.freq = .undecided)
    (hc : s.power.crossings = 100) (interval volts : Nat) :
    ∃ v, zeroCrossing interval volts s = crossed v ∧ v = decideFrequency (s.power.intervalUs + interval) (hundredTimed interval s)
      ∧ v.power.inFrame = false ∧ OnlyTouches [.power, .line] s (crossed v) := by
  refine ⟨_, zeroCrossing_decides hi hq hc interval volts, rfl, ?_, ?_⟩
  · rw [decideFrequency_power]
    exact hi
  · obtain ⟨h1, h2, h3, h4, h5, h6, h7, h8⟩ :=
      decideFrequency_frame (s.power.intervalUs + interval) (hundredTimed interval s)
    exact touches_power_line h1 h2 h3 h4 h5 h6 h7 h8

/-! ### Missed crossings -/

/-- A missed crossing is counted, and the first releases the gates (R22). -/
def missCounted (s : State) : State :=
  let s1 := s.setPower { s.power with misses := s.power.misses + 1 }
  if s.power.misses = 0 then releaseGates s1 else s1

theorem releaseGates_onCount (s : State) (e : Element) :
    (releaseGates s).power.onCount.get e ≤ s.power.onCount.get e := by
  have h : ∀ (b : Bool) (n : Nat), (if b && !Config.missedHalfCycleCounts s.power.freeCount then n - 1 else n) ≤ n := by
    intro b n
    split <;> omega
  cases e <;> exact h _ _

theorem missCounted_power (s : State) : (missCounted s).power = { s.power with
    misses := s.power.misses + 1, gates := (missCounted s).power.gates, freeCount := (missCounted s).power.freeCount
    onCount := (missCounted s).power.onCount } := by
  unfold missCounted releaseGates
  dsimp only
  split <;> rfl

theorem missCounted_eq (s : State) : missCounted s = s.setPower (missCounted s).power := by
  unfold missCounted releaseGates
  dsimp only
  split <;> rfl

/-- What the third missed crossing settles behind. -/
def gapLeft (s : State) : State := presentMains 0 (abandonFrame (missCounted s))

theorem missedCrossing_eq (s : State) : missedCrossing s =
    if s.power.inFrame then
      if gapMisses ≤ (missCounted s).power.misses then settle (gapLeft s) else missCounted s
    else s := rfl

theorem missCounted_misses (s : State) : (missCounted s).power.misses = s.power.misses + 1 := by
  rw [missCounted_power]

theorem missedCrossing_goes_on (hi : s.power.inFrame = true) (hm : s.power.misses < 2) :
    missedCrossing s = missCounted s := by
  rw [missedCrossing_eq, if_pos hi, if_neg (by rw [missCounted_misses]; simp only [gapMisses]; omega)]

theorem missedCrossing_gap (hi : s.power.inFrame = true) (hm : 2 ≤ s.power.misses) :
    missedCrossing s = settle (gapLeft s) := by
  rw [missedCrossing_eq, if_pos hi, if_pos (by rw [missCounted_misses]; simp only [gapMisses]; omega)]

theorem gapLeft_power (s : State) : (gapLeft s).power = { (missCounted s).power with
    inFrame := false, slot := 0, layout := [], gates := PerElement.all false
    placed := PerElement.all 0, onCount := PerElement.all 0, carriesBase := false
    holdFall := none, shed := PerElement.all false, cavityZeroed := false, heatBarred := false
    starveMs := none } := by
  simp [gapLeft, abandonFrame]

theorem gap_settled (hg : GenSettled s) : judgeSteam (gapLeft s) = gapLeft s := by
  refine judgeSteam_of_same hg ?_ ?_ ?_ <;> simp only [gapLeft] <;> rw [missCounted_eq] <;> simp

/-- Settles O40: the deciding crossing, the timeout, the missed crossing by its count, and the starvation row. -/
theorem mainsFrequencyGapsAndStarvation : Obligations.MainsFrequencyGapsAndStarvation := by
  refine ⟨fun s interval volts hi hn hq hc _ => ?_, fun s hn hq => ?_, fun s hi hg => ?_, fun s hn hst => ?_⟩
  · obtain ⟨v, hx, hv, hin, ht⟩ := frequency_decided hi hq hc interval volts
    obtain ⟨h1, h2, h3⟩ := decideFrequency_cases (s := hundredTimed interval s) hn (s.power.intervalUs + interval)
    rw [← hv] at h1 h2 h3
    exact ⟨_, congrArg Host.Outcome.next hx, h1, h2, h3, hin, ht⟩
  · have he : frequencyTimeout s = decideMainsFault 0 none s := by simp [frequencyTimeout, hq]
    refine ⟨_, congrArg Host.Outcome.next he, by simp [decideMainsFault], queued_decideMainsFault hn _ _, ?_⟩
    exact touches_power_line (by simp [decideMainsFault]) (by simp [decideMainsFault]) (by simp [decideMainsFault])
      (by simp [decideMainsFault]) (by simp [decideMainsFault]) (by simp [decideMainsFault])
      (by simp [decideMainsFault]) (by simp [decideMainsFault])
  · by_cases hm : s.power.misses < 2
    · have hp := missCounted_power s
      have he := missCounted_eq s
      have hgates : s.power.misses = 0 → (missCounted s).power.gates = PerElement.all false := by
        intro h0
        simp [missCounted, h0, releaseGates]
      have hlater : 0 < s.power.misses → (missCounted s).power.onCount = s.power.onCount := by
        intro h0
        simp [missCounted, h0.ne']
      have hless : ∀ e, (missCounted s).power.onCount.get e ≤ s.power.onCount.get e := by
        intro e
        unfold missCounted
        split
        · exact releaseGates_onCount _ e
        · exact le_rfl
      refine ⟨_, congrArg Host.Outcome.next (missedCrossing_goes_on hi hm), hgates, fun _ => ⟨?_, missCounted_misses s, ?_, ?_,
        hlater, hless, ?_⟩, fun h2 => absurd hm (by omega), ?_, ?_, ?_, ?_, ?_, ?_⟩
      · rw [hp]
        exact hi
      · rw [hp]
      · rw [hp]
      · rw [he]
        exact touches_only_power _ rfl rfl rfl rfl rfl rfl rfl rfl rfl
      · rw [hp]
      · rw [hp]
      · rw [hp]
      · rw [hp]
      · rw [he]; rfl
      · rw [he]; rfl
    · have hm : 2 ≤ s.power.misses := Nat.le_of_not_lt hm
      have he : (missCounted s).pending = s.pending ∧ (missCounted s).startup = s.startup
          ∧ (missCounted s).climate = s.climate ∧ (missCounted s).share = s.share ∧ (missCounted s).line = s.line := by
        rw [missCounted_eq]
        exact ⟨rfl, rfl, rfl, rfl, rfl⟩
      obtain ⟨hl, hx, -, -⟩ := settle_of_fixed (gap_settled hg)
      have hp : (settle (gapLeft s)).power = { s.power with
          misses := s.power.misses + 1, freeCount := (missCounted s).power.freeCount, inFrame := false, slot := 0
          layout := [], gates := PerElement.all false, placed := PerElement.all 0, onCount := PerElement.all 0
          carriesBase := false, holdFall := none, cavityZeroed := false, heatBarred := false, starveMs := none
          base := (settle (gapLeft s)).power.base, shed := (settle (gapLeft s)).power.shed } := by
        have h1 := settle_power (gapLeft s)
        rw [gapLeft_power, missCounted_power] at h1
        rw [h1]
      refine ⟨_, congrArg Host.Outcome.next (missedCrossing_gap hi hm), fun _ => ?_, fun h2 => absurd hm (by omega),
        fun _ => ⟨?_, ?_, ?_, ?_, ?_, ?_⟩, ?_, ?_, ?_, ?_, ?_, ?_⟩
      · rw [hp]
      · rw [hp]
      · rw [hp]
      · rw [hp]
      · rw [hp]
      · rw [reading, show (settle (gapLeft s)).superv = (gapLeft s).superv by simp]
        exact reading_presentMains 0 _
      · refine ⟨by simp [gapLeft, he], fun b hb => ?_⟩
        cases b with
        | power | steam | descale | recipe | superv => exact absurd hb (by decide)
        | startup => simp [Block.same, gapLeft, he]
        | climate => simp [Block.same, gapLeft, he]
        | share => exact hx.trans (by simp [gapLeft, he])
        | line => exact hl.trans (by simp [gapLeft, he])
      · rw [hp]
      · rw [hp]
      · rw [hp]
      · rw [hp]
      · exact hx.trans (by simp [gapLeft, he])
      · exact hl.trans (by simp [gapLeft, he])
  · have he : supplyStarved s
        = notice .supplyStarved s.share.holds.power (s.setPower { s.power with starveMs := some 0 }) := by
      simp [supplyStarved, hst]
    exact ⟨_, congrArg Host.Outcome.next he, by simp, queued_notice (s := s.setPower { s.power with starveMs := some 0 }) hn _ _,
      touches_power_line (by simp) (by simp) (by simp) (by simp) (by simp) (by simp) (by simp) (by simp)⟩

end Sys2Proof.Machine

/-!
The decisions of the Share Unit at a frame start (R39 to R42).
-/
namespace Sys2Proof.Machine

variable {s t u : State}

/-- R39: a raise is allowed and worth making. -/
def raiseMakes (s : State) : Bool := raisesAllowed s && s.share.backoffMs.isNone && raiseWorth s

/-- One frame waits, or none. -/
def oneFrame (b : Bool) (f : TxFrame) : List QEntry := if b then [⟨f, false⟩] else []

theorem mem_oneFrame {b : Bool} {f : TxFrame} {e : QEntry} : e ∈ oneFrame b f ↔ b = true ∧ e = ⟨f, false⟩ := by
  cases b <;> simp [oneFrame]

theorem enqueueQueue_nil (f : TxFrame) : enqueueQueue f [] = [⟨f, false⟩] := by
  cases f <;> simp [enqueueQueue, putFrame, anyWaiting, removeWaiting, addFrame, addReport, insertFrame, queueLimit,
    reportLimit]

theorem enqueueShare_empty {f : TxFrame} (hf : frozen s = true) (hn : unnumbered s = false) (hq : s.line.queue = []) :
    enqueueShare f s = setQueue [⟨f, false⟩] s := by
  rw [enqueueShare, if_pos hf, enqueue, if_neg (by simp [hn]), hq, enqueueQueue_nil]

theorem setQueue_self (hq : s.line.queue = []) : setQueue [] s = s := by
  rw [← hq]
  rfl

theorem decideRaise_empty (hf : frozen s = true) (hn : unnumbered s = false) (hq : s.line.queue = []) :
    decideRaise s = setQueue
      (oneFrame (raiseMakes s) (.raise .power s.startup.supply.circuitGroup (raiseTarget s).toNat)) s := by
  have hs : raiseSending .power s = false := by simp [raiseSending, hq]
  cases h : raiseMakes s with
  | true =>
    have h' : (raisesAllowed s && s.share.backoffMs.isNone && !raiseSending .power s && raiseWorth s) = true := by
      simpa [hs, raiseMakes] using h
    rw [decideRaise, if_pos h', enqueueShare_empty hf hn hq]
    rfl
  | false =>
    have h' : (raisesAllowed s && s.share.backoffMs.isNone && !raiseSending .power s && raiseWorth s) = false := by
      simpa [hs, raiseMakes] using h
    rw [decideRaise, if_neg (by simp [h']), dropRaise, hq]
    rfl

/-- R40: what a YIELD that is queued changes of the shares. -/
def yieldMade (b : Bool) (x : Share) : Share := if b then { x with vetoMark := false, sinceYieldMs := some 0 } else x

theorem decideYield_empty (hf : frozen s = true) (hn : unnumbered s = false) (hq : s.line.queue = []) :
    decideYield s = (setQueue (oneFrame (yieldDue s) (.yields s.startup.supply.circuitGroup (yieldNeed s))) s).setShare
      (yieldMade (yieldDue s) s.share) := by
  have hw : anyWaiting (TxFrame.isRaise .power) s.line.queue = false := by simp [anyWaiting, hq]
  rw [decideYield, if_neg (by simp [hw])]
  cases hd : yieldDue s with
  | true =>
    rw [if_pos rfl, enqueueShare_empty hf hn hq]
    rfl
  | false =>
    rw [if_neg (by decide)]
    simp only [oneFrame, yieldMade, Bool.false_eq_true, if_false, setQueue_self hq]
    rfl

/-- R39, R40: a raise that is made stands in the queue, and otherwise a YIELD that is due. -/
theorem raise_and_yield (hf : frozen s = true) (hn : unnumbered s = false) (hq : s.line.queue = []) :
    decideYield (decideRaise s) =
      (setQueue (if raiseMakes s then [⟨.raise .power s.startup.supply.circuitGroup (raiseTarget s).toNat, false⟩]
        else oneFrame (yieldDue s) (.yields s.startup.supply.circuitGroup (yieldNeed s))) s).setShare
      (yieldMade (!raiseMakes s && yieldDue s) s.share) := by
  rw [decideRaise_empty hf hn hq]
  cases hw : raiseMakes s with
  | true =>
    rw [decideYield, if_pos (by simp [anyWaiting, oneFrame, setQueue, TxFrame.isRaise])]
    rfl
  | false =>
    have he : setQueue (oneFrame false (.raise .power s.startup.supply.circuitGroup (raiseTarget s).toNat)) s = s :=
      setQueue_self hq
    rw [he, decideYield_empty hf hn hq]
    simp

/-- R41: a frame start that counts toward the lower run makes no raise and no yield. -/
theorem counts_excludes (hc : lowerRunCounts s = true) : raiseMakes s = false ∧ yieldDue s = false := by
  have ht : raiseTarget s ≤ s.power.want := by
    unfold raiseTarget
    split
    · exact (min_le_left _ _).trans (min_le_left _ _)
    · exact min_le_left _ _
  simp only [lowerRunCounts, Bool.or_eq_true, Bool.and_eq_true, decide_eq_true_eq] at hc
  constructor
  · have : raiseWorth s = false := by
      by_contra h
      simp only [raiseWorth, Bool.not_eq_false, Bool.or_eq_true, Bool.and_eq_true, decide_eq_true_eq] at h
      omega
    simp [raiseMakes, this]
  · have : ¬ s.share.holds.power < s.power.want := by omega
    simp [yieldDue, this]

/-- R41 with an empty queue: the hold falls to the want, or the run goes on or ends. -/
theorem decideLower_third (hf : frozen s = true) (hn : unnumbered s = false) (hq : s.line.queue = [])
    (hc : lowerRunCounts s = true) (hr : 2 ≤ s.share.lowerRun) :
    (decideLower s).share = { s.share with lowerRun := 0, holds := { s.share.holds with power := s.power.want } }
      ∧ (decideLower s).line = { s.line with
          queue := [⟨.lower .power s.startup.supply.circuitGroup s.power.want, false⟩] } := by
  have hlt : s.power.want < s.share.holds.power := by
    simp only [lowerRunCounts, Bool.or_eq_true, Bool.and_eq_true, decide_eq_true_eq] at hc
    omega
  have hs : ∀ x, raiseSending .power (s.setShare x) = false := fun x => by simp [raiseSending, hq]
  rw [decideLower, if_pos hc, if_pos hr, lowerHold, if_pos (by exact hlt)]
  simp only [hs]
  rw [enqueueShare_empty (by exact hf) (by exact hn) (by exact hq)]
  exact ⟨rfl, rfl⟩

/-- The decisions at a frame start that finds no frame queued. -/
theorem frameStartDecisions_empty (hf : frozen s = true) (hn : unnumbered s = false) (hq : s.line.queue = []) :
    (frameStartDecisions s).share = { yieldMade (!raiseMakes s && yieldDue s) s.share with
        lowerRun := if lowerRunCounts s = true ∧ s.share.lowerRun < 2 then s.share.lowerRun + 1 else 0
        holds := if lowerRunCounts s = true ∧ 2 ≤ s.share.lowerRun
          then { s.share.holds with power := s.power.want } else s.share.holds }
      ∧ (frameStartDecisions s).line.queue =
        (if lowerRunCounts s then oneFrame (decide (2 ≤ s.share.lowerRun))
            (.lower .power s.startup.supply.circuitGroup s.power.want)
          else if raiseMakes s then [⟨.raise .power s.startup.supply.circuitGroup (raiseTarget s).toNat, false⟩]
          else oneFrame (yieldDue s) (.yields s.startup.supply.circuitGroup (yieldNeed s))) := by
  have hd : frameStartDecisions s = decideLower (decideYield (decideRaise s)) := rfl
  rw [hd, raise_and_yield hf hn hq]
  cases hc : lowerRunCounts s with
  | true =>
    obtain ⟨hw, hy⟩ := counts_excludes hc
    have he : (setQueue (oneFrame false (.yields s.startup.supply.circuitGroup (yieldNeed s))) s).setShare s.share = s := by
      show (setQueue [] s).setShare s.share = s
      rw [setQueue_self hq]
      rfl
    simp only [hw, hy, yieldMade, Bool.false_eq_true, if_false, Bool.not_false, Bool.true_and, he, if_true, true_and]
    by_cases hr : 2 ≤ s.share.lowerRun
    · obtain ⟨h1, h2⟩ := decideLower_third hf hn hq hc hr
      rw [h1, h2]
      simp [hr, Nat.not_lt.2 hr, oneFrame]
    · simp [decideLower, hc, hr, oneFrame, hq, Nat.lt_of_not_le hr]
  | false =>
    have hc' : ∀ q x, x.holds = s.share.holds → lowerRunCounts ((setQueue q s).setShare x) = false := by
      intro q x hx
      simpa [lowerRunCounts, hx] using hc
    rw [decideLower, if_neg (by rw [hc' _ _ (by unfold yieldMade; split <;> rfl)]; decide)]
    refine ⟨?_, rfl⟩
    have hh : ∀ b, (yieldMade b s.share).holds = s.share.holds := by intro b; unfold yieldMade; split <;> rfl
    simp only [State.setShare_share, Bool.false_eq_true, false_and, if_false, ← hh (!raiseMakes s && yieldDue s)]

/-! ### The decisions in terms of the state before -/

/-- R39, R43: when a raise may be made, in a part that is frozen and no restart. -/
theorem raiseMakes_iff (hf : frozen s = true) (hr : s.startup.restarting = false) : raiseMakes s = true ↔
    s.share.link = .member ∧ s.line.malformed < 8 ∧ s.superv.configFault = false ∧ s.share.backoffMs = none
      ∧ ((s.share.holds.power : Int) + 10 ≤ raiseTarget s
        ∨ (s.share.holds.power < s.startup.supply.baseLoad ∧ (s.startup.supply.baseLoad : Int) ≤ raiseTarget s)) := by
  simp [raiseMakes, raisesAllowed, raiseWorth, suspended, hf, hr, Option.isNone_iff_eq_none, and_assoc]

theorem yieldDue_iff (hf : frozen s = true) (hr : s.startup.restarting = false) : yieldDue s = true ↔
    s.share.link = .member ∧ s.share.holds.power < s.share.floor ∧ s.share.holds.power < s.power.want
      ∧ (powerHeadroom s < yieldNeed s ∨ s.share.vetoMark = true) ∧ ∀ ms ∈ s.share.sinceYieldMs, 2000 ≤ ms := by
  simp only [yieldDue, hf, hr, Bool.and_eq_true, Bool.or_eq_true, decide_eq_true_eq, Bool.not_false, and_true,
    and_assoc]
  cases s.share.sinceYieldMs <;> simp

theorem lowerRunCounts_iff (s : State) : lowerRunCounts s = true ↔
    s.power.want + 10 ≤ s.share.holds.power ∨ (s.power.want = 0 ∧ s.share.holds.power ≠ 0) := by
  simp [lowerRunCounts]

theorem neighbourShort_iff (s : State) : neighbourShort s = true ↔
    ∃ e ∈ s.share.table, e.expired = false ∧ e.belowFloor = true
      ∧ e.circuit = some s.startup.supply.circuitGroup := by
  simp [neighbourShort, and_assoc]

/-- What a frame start leaves for the decisions: the state before, with the frame laid out. -/
structure FrameLeft (s y : State) : Prop where
  startup : y.startup = s.startup
  share   : y.share = s.share
  line    : y.line = s.line
  steam   : y.steam = s.steam
  recipe  : y.recipe = s.recipe
  climate : y.climate = s.climate
  pending : y.pending = s.pending
  fault   : y.superv.configFault = s.superv.configFault

theorem FrameLeft.raiseTarget {y : State} (h : FrameLeft s y) {headroom : Int} (hh : powerHeadroom y = headroom)
    [Decidable (∃ e ∈ s.share.table, e.expired = false ∧ e.belowFloor = true
      ∧ e.circuit = some s.startup.supply.circuitGroup)] :
    raiseTarget y = if (∃ e ∈ s.share.table, e.expired = false ∧ e.belowFloor = true
          ∧ e.circuit = some s.startup.supply.circuitGroup)
        then min (min (y.power.want : Int) (s.share.holds.power + headroom)) (max s.share.holds.power s.share.floor : Nat)
        else min (y.power.want : Int) (s.share.holds.power + headroom) := by
  have hs := neighbourShort_iff y
  rw [h.share, h.startup] at hs
  unfold Machine.raiseTarget
  rw [hh, h.share]
  exact if_congr hs rfl rfl

theorem frameLeft_starts (v : Option Nat) (volts : Nat) (hu : u = crossed s ∨ u = completeFrame volts (crossed s)) :
    FrameLeft s (driveSlot 0 (layOut v u)) := by
  obtain rfl | rfl := hu
  · exact ⟨rfl, rfl, rfl, rfl, rfl, rfl, rfl, rfl⟩
  · constructor <;> simp [crossed]

/-- Settles O39: a frame start that finds no frame queued makes a raise, a YIELD or a fall, one of them at most. -/
theorem frameStartDecidesThePowerHold : Obligations.FrameStartDecidesThePowerHold := by
  intro s interval volts hw hf hr hq hn hg hqu
  obtain ⟨v, u, hx, h1, h2⟩ := zeroCrossing_starts hw hf hr hq interval volts
  have hleft : FrameLeft s (driveSlot 0 (layOut v u)) := by
    refine frameLeft_starts v volts ?_
    cases hi : s.power.inFrame with
    | false => exact .inl (h1 hi).2
    | true => exact .inr (h2 hi).2
  have hwant : (frameStart v u).power.want = (driveSlot 0 (layOut v u)).power.want := by
    rw [frameStart_power]
    rfl
  have ht : frameStart v u = settle (frameStartDecisions (driveSlot 0 (layOut v u))) := rfl
  refine ⟨_, hx, ?_⟩
  rw [ht] at hwant ⊢
  generalize driveSlot 0 (layOut v u) = y at hleft hwant ⊢
  obtain ⟨hys, hyx, hyl, hym, hyr, hyc, hyp, hyf⟩ := id hleft
  have hfy : frozen y = true := by simpa [frozen, hys] using hf
  have hry : y.startup.restarting = false := by rw [hys]; exact hr
  obtain ⟨hshare, hqueue⟩ := frameStartDecisions_empty hfy (by simpa [unnumbered, hys] using hn) (by rw [hyl, hqu])
  obtain ⟨hl, hx, -, -⟩ := settle_of_fixed (judgeSteam_of_same hg (u := frameStartDecisions y) (by simp [hym])
    (by simp [hys]) (by simp [hyr]))
  have hhead : powerHeadroom y
      = (s.startup.supply.capacity : Int) - (s.share.table.map (charge s .power)).sum - s.share.holds.power := by
    rw [powerHeadroom, othersCharges_congr (t := s) (by rw [hyx]) (by rw [hys]) (by rw [hyx]), hys, hyx]
    rfl
  have hworth := raiseMakes_iff hfy hry
  have hdue := yieldDue_iff hfy hry
  have hcnt := lowerRunCounts_iff y
  have hneed : yieldNeed y = min y.power.want s.share.floor - s.share.holds.power := by rw [yieldNeed, hyx]
  have hexcl := counts_excludes (s := y)
  rw [hyx] at hworth hdue hcnt
  rw [hys, hyl, hyf] at hworth
  rw [hyx] at hshare hqueue
  rw [hhead] at hdue
  rw [hys] at hqueue
  refine ⟨_, raiseTarget y, yieldNeed y, raiseMakes y, !raiseMakes y && yieldDue y, lowerRunCounts y, rfl, ?_⟩
  rw [hwant, hx, hshare]
  simp only [Queued, raiseQueued, hl, hqueue]
  refine ⟨hleft.raiseTarget hhead, hworth, hneed, ?_, hcnt, fun h => ?_, fun h => ?_, fun h => ?_, fun h => ?_, ?_, ?_,
    fun h1 h2 => ?_, ?_, ?_, ?_, ?_, ?_, ?_⟩
  · simpa using fun _ => hdue
  · have hc : lowerRunCounts y = false := by
      by_contra hc
      exact absurd ((hexcl (by simpa using hc)).1.symm.trans h) (by decide)
    simp [hc, h]
  · cases hc : lowerRunCounts y <;> cases hd : yieldDue y <;>
      by_cases hrun : 2 ≤ s.share.lowerRun <;> simp [h, oneFrame, TxFrame.isRaise, hrun]
  · obtain ⟨hw', hd⟩ : raiseMakes y = false ∧ yieldDue y = true := by simpa using h
    have hc : lowerRunCounts y = false := by
      by_contra hc
      exact absurd ((hexcl (by simpa using hc)).2.symm.trans hd) (by decide)
    simp [hc, hw', hd, oneFrame, yieldMade]
  · rw [h]
    refine ⟨fun e he => ?_, rfl, rfl⟩
    split at he
    · obtain ⟨-, rfl⟩ := mem_oneFrame.1 he
      rfl
    split at he
    · obtain rfl := List.mem_singleton.1 he
      rfl
    next hw' =>
      obtain ⟨hd, rfl⟩ := mem_oneFrame.1 he
      simp [hw', hd] at h
  · trivial
  · trivial
  · simp [h1, h2, oneFrame]
  · unfold yieldMade
    split <;> rfl
  · unfold yieldMade
    split <;> rfl
  · unfold yieldMade
    split <;> rfl
  · simp [hys]
  · simp [hyc]
  · simp [hyp]

end Sys2Proof.Machine

/-!
What the operations of the Share Unit leave unchanged, said once: they touch shares, transmit queue and, at a fall of the
POWER hold, the frame in progress (R25, R31, R42).
-/
namespace Sys2Proof.Machine

variable {s t u h : State}

/-- Of a state the claims have changed: holds, entries and sets of the shares, the queue, and what a fall of the POWER
hold does to the frame. -/
structure Claims (s t : State) : Prop where
  stands   : OnlyTouches [.power, .share, .line] s t
  still    : t.line.still = s.line.still
  redecide : t.share.redecide = s.share.redecide
  power    : t.power = { s.power with
    holdFall := t.power.holdFall, carriesBase := t.power.carriesBase, base := t.power.base }

theorem OnlyTouches.trans {l : List Block} (h1 : OnlyTouches l s t) (h2 : OnlyTouches l t u) : OnlyTouches l s u := by
  refine ⟨h2.1.trans h1.1, fun b hb => ?_⟩
  have e1 := h1.2 b hb
  have e2 := h2.2 b hb
  cases b <;> exact Eq.trans e2 e1

theorem OnlyTouches.mono {l l' : List Block} (h1 : OnlyTouches l s t) (hl : ∀ b ∈ l, b ∈ l') : OnlyTouches l' s t :=
  ⟨h1.1, fun b hb => h1.2 b fun hb' => hb (hl b hb')⟩

theorem Claims.refl (s : State) : Claims s s := ⟨⟨rfl, fun b _ => by cases b <;> rfl⟩, rfl, rfl, rfl⟩

theorem Claims.trans (h1 : Claims s t) (h2 : Claims t u) : Claims s u where
  stands := h1.stands.trans h2.stands
  still := h2.still.trans h1.still
  redecide := h2.redecide.trans h1.redecide
  power := by rw [h2.power, h1.power]

theorem Claims.blocks (hc : Claims s t) :
    t.pending = s.pending ∧ t.startup = s.startup ∧ t.climate = s.climate ∧ t.steam = s.steam
      ∧ t.descale = s.descale ∧ t.recipe = s.recipe ∧ t.superv = s.superv :=
  ⟨hc.stands.1, hc.stands.2 .startup (by decide), hc.stands.2 .climate (by decide), hc.stands.2 .steam (by decide),
    hc.stands.2 .descale (by decide), hc.stands.2 .recipe (by decide), hc.stands.2 .superv (by decide)⟩

/-! ### The operations -/

/-- What claims change, put together. -/
theorem Claims.of (hp : t.pending = s.pending) (hu : t.startup = s.startup) (hc : t.climate = s.climate)
    (hm : t.steam = s.steam) (hd : t.descale = s.descale) (hr : t.recipe = s.recipe) (hv : t.superv = s.superv)
    (hl : t.line.still = s.line.still) (hx : t.share.redecide = s.share.redecide)
    (hw : t.power = { s.power with
      holdFall := t.power.holdFall, carriesBase := t.power.carriesBase, base := t.power.base }) : Claims s t where
  stands := by
    refine ⟨hp, fun b hb => ?_⟩
    cases b with
    | power | share | line => exact absurd hb (by decide)
    | startup => exact hu
    | climate => exact hc
    | steam => exact hm
    | descale => exact hd
    | recipe => exact hr
    | superv => exact hv
  still := hl
  redecide := hx
  power := hw

theorem Claims.setShare (hc : Claims s t) {x : Share} (hx : x.redecide = t.share.redecide) : Claims s (t.setShare x) :=
  hc.trans (.of rfl rfl rfl rfl rfl rfl rfl rfl hx rfl)

theorem Claims.setQueue (hc : Claims s t) (q : List QEntry) : Claims s (setQueue q t) :=
  hc.trans (.of rfl rfl rfl rfl rfl rfl rfl rfl rfl rfl)

theorem Claims.choice {c : Prop} [Decidable c] (h1 : Claims s t) (h2 : Claims s u) : Claims s (if c then t else u) := by
  split
  · exact h1
  · exact h2

theorem Claims.enqueue (hc : Claims s t) (f : TxFrame) : Claims s (enqueue f t) := .choice hc (hc.setQueue _)

theorem Claims.enqueueShare (hc : Claims s t) (f : TxFrame) : Claims s (enqueueShare f t) := .choice (hc.enqueue f) hc

theorem Claims.notice (hc : Claims s t) (code : NoticeCode) (detail : Nat) : Claims s (notice code detail t) :=
  hc.enqueue _

theorem Claims.dropRaise (hc : Claims s t) (p : Pool) : Claims s (dropRaise p t) := hc.setQueue _

theorem Claims.powerFalls (hc : Claims s t) (v : Nat) : Claims s (powerFalls v t) :=
  hc.trans (.of rfl rfl rfl rfl rfl rfl rfl rfl rfl rfl)

theorem Claims.lowerHold (hc : Claims s t) (p : Pool) (v : Nat) : Claims s (lowerHold p v t) := by
  unfold Machine.lowerHold
  split
  · have h1 : Claims s (t.setShare { t.share with
        holds := t.share.holds.set v p
        fell := if raiseSending p t then t.share.fell.set true p else t.share.fell }) := hc.setShare rfl
    cases p with
    | power => exact (h1.powerFalls v).enqueueShare _
    | inlet => exact h1.enqueueShare _
    | drain => exact h1.enqueueShare _
  · exact hc

theorem Claims.evalWater (hc : Claims s t) (p : Pool) : Claims s (evalWater p t) := .choice (hc.enqueueShare _) hc

theorem Claims.queueStatus (hc : Claims s t) : Claims s (queueStatus t) := (hc.enqueueShare _).setShare (by simp)

theorem Claims.addOrigin (hc : Claims s t) (n : Nat) : Claims s (addOrigin n t) := by
  have h1 : Claims s (t.setShare { t.share with tripSet := insertOrigin n t.share.tripSet }) := hc.setShare rfl
  exact .choice ((h1.lowerHold _ _).dropRaise _) h1

theorem Claims.learnOrigin (hc : Claims s t) (n : Nat) : Claims s (learnOrigin n t) :=
  .choice hc ((hc.addOrigin n).notice _ _)

theorem Claims.removeOrigin (hc : Claims s t) (n : Nat) : Claims s (removeOrigin n t) := by
  have h1 : Claims s (t.setShare { t.share with tripSet := t.share.tripSet.filter (· ≠ n) }) := hc.setShare rfl
  exact .choice (h1.evalWater _) h1

theorem Claims.correctIfRisen (hc : Claims s t) (before : State) (p : Pool) : Claims s (correctIfRisen before p t) :=
  .choice (hc.lowerHold _ _) hc

theorem Claims.evalIfChanged (hc : Claims s t) (before : State) (p : Pool) : Claims s (evalIfChanged before p t) :=
  .choice hc (hc.evalWater _)

theorem Claims.afterRecording (hc : Claims s t) (before : State) : Claims s (afterRecording before t) :=
  ((((hc.correctIfRisen _ _).correctIfRisen _ _).correctIfRisen _ _).evalIfChanged _ _).evalIfChanged _ _

theorem Claims.record (hc : Claims s t) (n : Nat) (f : Entry → Entry) : Claims s (record n f t) := by
  have h1 : Claims s (t.setShare { t.share with
      table := insertEntry (f ((findEntry t.share.table n).getD (newEntry n))) t.share.table }) := hc.setShare rfl
  exact .choice hc (h1.afterRecording _)

theorem Claims.leakFlag (hc : Claims s t) (n : Nat) (b : StatusBody) : Claims s (leakFlag n b t) :=
  .choice (.choice (hc.learnOrigin n) (hc.removeOrigin n)) hc

theorem Claims.recordStatus (hc : Claims s t) (n : Nat) (b : StatusBody) : Claims s (recordStatus n b t) := by
  have h1 : Claims s (Machine.record n (fun _ => statusEntry n b) t) := hc.record _ _
  have h2 : Claims s (if statusCallsForAnswer n b t then Machine.queueStatus (Machine.record n (fun _ => statusEntry n b) t)
      else Machine.record n (fun _ => statusEntry n b) t) := .choice h1.queueStatus h1
  exact h2.leakFlag n b

theorem Claims.takeYield (hc : Claims s t) (group : Byte) (need : Word16) : Claims s (takeYield group need t) := by
  have h1 : Claims s (t.setShare { t.share with backoffMs := some 0 }) := hc.setShare rfl
  exact .choice (h1.lowerHold _ _) hc

theorem Claims.takeWaterTrip (hc : Claims s t) (type origin group : Byte) : Claims s (takeWaterTrip type origin group t) :=
  .choice (hc.learnOrigin _) hc

theorem Claims.takeTripClear (hc : Claims s t) (n : Nat) (type origin group : Byte) :
    Claims s (takeTripClear n type origin group t) :=
  .choice hc (.choice (.choice (hc.removeOrigin _) hc) (.choice (hc.removeOrigin _) hc))

theorem Claims.tellLeak (hc : Claims s t) : Claims s (tellLeak t) := .choice (hc.enqueueShare _) (hc.enqueueShare _)

theorem Claims.leakChanged (hc : Claims s t) : Claims s (leakChanged t) := .choice hc.tellLeak (hc.setShare rfl)

theorem Claims.isolate (hc : Claims s t) : Claims s (isolate t) :=
  (((((((hc.setShare (x := { t.share with link := .isolated, joinMs := none, isolatedMs := 0, lost := false })
    rfl).lowerHold _ _).lowerHold _ _).lowerHold _ _).dropRaise _).dropRaise _).dropRaise _).notice _ _

theorem Claims.openJoinWindow (hc : Claims s t) : Claims s (openJoinWindow t) :=
  (hc.setShare (x := { t.share with
    link := .joining, joinMs := some 0, sinceOwnMs := some 0, isolatedMs := 0, lost := false }) rfl).queueStatus

/-! ### What settles behind them -/

theorem programStands_of (hs : ProgramStands s t) (hr : s.recipe = h.recipe) : ProgramStands h t := by
  unfold ProgramStands at *
  rw [← hr]
  exact hs

/-- Behind a change of claims in a settled generator settle outputs, actuators and counts alone. -/
theorem Claims.settled (hc : Claims s t) (hg : GenSettled s) :
    (settle t).share = t.share ∧ (settle t).line = t.line ∧ SettlesOnly t (settle t) ∧ ProgramStands s (settle t)
      ∧ OnlyTouches [.power, .share, .line, .steam, .descale, .recipe] s (settle t) := by
  obtain ⟨hp, hu, hcl, hm, hd, hr, hv⟩ := hc.blocks
  obtain ⟨hl, hx, hs, hps⟩ := settle_of_fixed (judgeSteam_of_same hg hm hu hr)
  refine ⟨hx, hl, hs, programStands_of hps hr, by simpa using hp, fun b hb => ?_⟩
  cases b with
  | startup => simpa [Block.same] using hu
  | climate => simpa [Block.same] using hcl
  | superv => simpa [Block.same] using hv
  | power | share | line | steam | descale | recipe => exact absurd hb (by decide)

theorem Claims.settlesOnly (hc : Claims s t) (hg : GenSettled s) (hp : t.power = s.power) : SettlesOnly s (settle t) := by
  obtain ⟨-, -, -, hm, hd, -, -⟩ := hc.blocks
  exact (SettlesOnly.of_eq hm hp hd).trans (hc.settled hg).2.2.1

/-- A frame whose effect is on the claims, received on a free line: what its closing mark leaves. -/
theorem HeardFrom.claims {n : Nat} {driven : Bool} (hf : LineFree s) (hg : GenSettled s) (hh : HeardFrom n driven s h)
    (hc : Claims h u) : FrameClosed driven s (settle (markClosed u)) ∧ (settle (markClosed u)).share = u.share
      ∧ (settle (markClosed u)).line.queue = u.line.queue ∧ ProgramStands s (settle (markClosed u))
      ∧ OnlyTouches [.power, .share, .line, .steam, .descale, .recipe] s (settle (markClosed u))
      ∧ (u.power = h.power → SettlesOnly s (settle (markClosed u))) := by
  obtain ⟨hp, hu, hcl, hpo, hm, hd, hr, hv⟩ := hh.blocks
  have hmc : markClosed u = u.setLine { u.line with state := .idle, breakSeen := false } :=
    markClosed_of_none (by rw [hc.redecide, hh.redecide hf])
  have hsh : OnlyTouches [.power, .share, .line, .steam, .descale, .recipe] s h := hh.stands.mono (by simp)
  have hgh : GenSettled h := genSettled_congr hg
    (steamWanted_congr (by rw [hr]) (fun _ => by rw [hr]; exact ⟨rfl, rfl⟩) (by rw [hm]) (by rw [hm]) (by rw [hu]))
    (by rw [hm]) (by rw [hu]) (by rw [hu])
  obtain ⟨hp', hu', hcl', hm', hd', hr', hv'⟩ := hc.blocks
  obtain ⟨hline, hshare, hset, hps⟩ := settle_of_fixed (judgeSteam_of_same hgh
    (u := markClosed u) (by rw [hmc]; exact hm') (by rw [hmc]; exact hu') (by rw [hmc]; exact hr'))
  refine ⟨?_, by rw [hshare, hmc]; rfl, by rw [hline, hmc]; rfl,
    programStands_of hps (by rw [hmc]; exact hr'.trans hr), ?_, fun hpw => ?_⟩
  · have hl := (Line.still_eq_iff.1 hc.still).trans (by rw [hh.line])
    unfold FrameClosed
    rw [hline, hmc]
    simp only [State.setLine_line]
    rw [hl]
  · refine hsh.trans ⟨by simpa [hmc] using hp', fun b hb => ?_⟩
    cases b with
    | startup => simpa [Block.same, hmc] using hu'
    | climate => simpa [Block.same, hmc] using hcl'
    | superv => simpa [Block.same, hmc] using hv'
    | power | share | line | steam | descale | recipe => exact absurd hb (by decide)
  · refine SettlesOnly.trans (SettlesOnly.of_eq ?_ ?_ ?_) hset
    · rw [hmc]; exact hm'.trans hm
    · rw [hmc]; exact hpw.trans hpo
    · rw [hmc]; exact hd'.trans hd

/-- A received frame from another station on a free line, closed behind its effect. -/
theorem receiveFrame_of_free {n : Nat} (hf : LineFree s) (hn0 : n ≠ 0) (content : FrameContent) (otherVeto : Bool) :
    receiveFrame n content otherVeto s
      = settle (markClosed (contentEffect n (contentVeto (beginReceive s) n content || otherVeto) content
          (takeFrame n (contentVeto (beginReceive s) n content) (beginReceive s)))) := by
  simp [receiveFrame, hf.1, hn0, closeFrame]

end Sys2Proof.Machine

/-!
YIELDs and water trips of other stations (R51, R58, R59).
-/
namespace Sys2Proof.Machine

variable {s t u h : State}

/-! ### A fall of an own hold -/

theorem enqueueShare_of_frozen (hf : frozen s = true) (f : TxFrame) : enqueueShare f s = enqueue f s := by
  rw [enqueueShare, if_pos hf]

/-- R42: a fall of a hold is told. -/
theorem queued_lowerHold {p : Pool} {v : Nat} (hf : frozen s = true) (hn : unnumbered s = false)
    (hv : v < s.share.holds.get p) : Queued (.lower p (ownGroup s.startup.supply p) v) (lowerHold p v s) := by
  have hq : ∀ u : State, frozen u = true → unnumbered u = false →
      Queued (.lower p (ownGroup s.startup.supply p) v) (enqueueShare (.lower p (ownGroup s.startup.supply p) v) u) :=
    fun u h1 h2 => by
      rw [enqueueShare_of_frozen h1]
      exact queued_enqueue (fun q => by cases p <;> rfl) h2
  rw [lowerHold, if_pos hv]
  cases p with
  | power => exact hq _ hf hn
  | inlet => exact hq _ hf hn
  | drain => exact hq _ hf hn

/-- R42: what a fall of a hold changes of the shares. -/
theorem lowerHold_share (p : Pool) (v : Nat) (s : State) : (lowerHold p v s).share = { s.share with
    holds := (lowerHold p v s).share.holds, fell := (lowerHold p v s).share.fell } := by
  unfold lowerHold
  split
  · cases p <;> simp
  · rfl

/-! ### YIELD -/

theorem nibble_toNat_ne {n : Nibble} (h : n ≠ 0) : n.toNat ≠ 0 := fun h0 => h (BitVec.eq_of_toNat_eq h0)

/-- R51: the state gives way to a YIELD for the group. -/
def GivesWay (s : State) (group : Byte) : Prop :=
  group.toNat = s.startup.supply.circuitGroup ∧ s.share.link = .member ∧ s.share.floor < s.share.holds.power

theorem takeYield_acts {group : Byte} (need : Word16) (h : GivesWay s group) : takeYield group need s
    = lowerHold .power (s.share.holds.power - min (s.share.holds.power - s.share.floor) (min 1100 need.toNat))
      (s.setShare { s.share with backoffMs := some 0 }) := by
  obtain ⟨h1, h2, h3⟩ := h
  simp [takeYield, h1, h2, h3, holdTaken]

/-- What giving way leaves of the shares, and what is told. -/
theorem takeYield_lowers {group : Byte} {need : Word16} (h : GivesWay s group) {v : Nat}
    (hv : v = s.share.holds.power - min (s.share.holds.power - s.share.floor) (min 1100 need.toNat)) :
    (takeYield group need s).share.holds.power = v
      ∧ (takeYield group need s).share.holds.inlet = s.share.holds.inlet
      ∧ (takeYield group need s).share.holds.drain = s.share.holds.drain
      ∧ s.share.floor ≤ v ∧ (takeYield group need s).share.backoffMs = some 0
      ∧ (frozen s = true → unnumbered s = false → need.toNat ≠ 0 →
          Queued (.lower .power s.startup.supply.circuitGroup v) (takeYield group need s)) := by
  obtain ⟨-, -, hlt⟩ := id h
  rw [takeYield_acts need h, ← hv]
  have hget := fun q => lowerHold_holds .power q v (s.setShare { s.share with backoffMs := some 0 })
  have hp := hget .power
  have hi := hget .inlet
  have hd := hget .drain
  rw [if_pos rfl] at hp
  rw [if_neg (by decide)] at hi hd
  simp only [State.setShare_share, PerPool.get] at hp hi hd
  refine ⟨by rw [hp]; omega, hi, hd, by omega, ?_, fun hf hn h0 => ?_⟩
  · rw [lowerHold_share, State.setShare_share]
  · exact queued_lowerHold (s := s.setShare { s.share with backoffMs := some 0 }) (p := .power) hf hn
      (by show v < s.share.holds.power; omega)

theorem takeYield_rests {group : Byte} (need : Word16) (h : ¬ GivesWay s group) : takeYield group need s = s := by
  unfold takeYield
  rw [if_neg]
  simpa [GivesWay, and_assoc] using h

/-- R59, R83, R25: with an origin in the set neither request nor output opens the valve. -/
theorem settle_fill_off (h : (settle s).share.tripSet ≠ []) :
    (settle s).steam.fillReq = false ∧ (settle s).power.base.fill = false := by
  have hf : (settle s).steam.fillReq = false := by
    obtain ⟨-, -, hv, -⟩ := (steamOutputs_iff _).1 (settle_steamOutputs s)
    rw [hv, valveRequest]
    cases hz : (settle s).share.tripSet with
    | nil => exact absurd hz h
    | cons => simp
  exact ⟨hf, settle_base_off .fill (by simpa [baseRequests, PerActuator.get] using hf)⟩

/-- A frame of station `n` has been received on a free line: its effect, on the claims alone, was made of `h`, and `t` is
what its closing mark leaves. -/
structure Taken (n : Nat) (driven : Bool) (effect : State → State) (s h t : State) : Prop where
  found    : h.share = { s.share with table := updateEntry n (refreshEntry s.share.floor) s.share.table }
  startup  : h.startup = s.startup
  numbered : unnumbered h = false
  recipe   : h.recipe = s.recipe
  power    : h.power = s.power
  waits    : h.line.queue = stopQueue s.line.queue
  closed   : FrameClosed driven s t
  share    : t.share = (effect h).share
  queue    : t.line.queue = (effect h).line.queue
  program  : ProgramStands s t
  touches  : OnlyTouches [.power, .share, .line, .steam, .descale, .recipe] s t
  settles  : (effect h).power = h.power → SettlesOnly s t
  valve    : t.share.tripSet ≠ [] → t.steam.fillReq = false ∧ t.power.base.fill = false

theorem taken {n : Nat} {driven : Bool} (hf : LineFree s) (hg : GenSettled s) (hn : n ≠ s.startup.station)
    (effect : State → State) (hc : ∀ h, Claims h (effect h)) :
    ∃ h, Taken n driven effect s h (settle (markClosed (effect (takeFrame n driven (beginReceive s))))) := by
  have hh := heardFrom_takeFrame (driven := driven) hf hn
  obtain ⟨hclosed, hshare, hqueue, hprog, htouch, hset⟩ := hh.claims hf hg (hc _)
  obtain ⟨-, hu, -, hp, -, -, hr, -⟩ := hh.blocks
  have hnum := hf.1
  refine ⟨_, ?_, hu, by simpa [unnumbered, hu] using hnum, hr, hp, by rw [hh.line], hclosed, hshare, hqueue, hprog, htouch,
    hset, settle_fill_off⟩
  rw [← hh.share.2]
  exact hh.share.1

/-- Settles O43: the two branches of `takeYield`. -/
theorem yieldGivesWay : Obligations.YieldGivesWay := by
  intro s n group need hf hg hfz hn hne
  have hx : exec (.yieldReceived n group need) s
      = .next (settle (markClosed (takeYield group need (takeFrame n.toNat false (beginReceive s))))) :=
    congrArg Host.Outcome.next (receiveFrame_of_free hf (nibble_toNat_ne hn) (.yields group need) false)
  obtain ⟨h, ht⟩ := taken (driven := false) hf hg hne (takeYield group need) fun _ => (Claims.refl _).takeYield group need
  have hhx := ht.found
  have hhu := ht.startup
  have hgw : GivesWay h group ↔ GivesWay s group := by simp [GivesWay, hhx, hhu]
  have htable : (takeYield group need h).share.table = h.share.table := by
    by_cases hw : GivesWay h group
    · simp [takeYield_acts need hw]
    · rw [takeYield_rests need hw]
  refine ⟨_, hx, ht.closed, fun hgr hl hfl => ?_, fun hno => ?_, by rw [ht.share, htable, hhx], ht.program, ht.touches⟩
  · have hw : GivesWay h group := hgw.2 ⟨hgr, hl, hfl⟩
    obtain ⟨h1, h2, h3, h4, h5, h6⟩ := takeYield_lowers (need := need) hw rfl
    simp only [hhx, hhu] at h1 h2 h3 h4 h6
    rw [ht.share, h1]
    refine ⟨rfl, h2, h3, h4, h5, fun h0 => ?_⟩
    unfold Queued
    rw [ht.queue]
    exact h6 (by simpa [frozen, hhu] using hfz) ht.numbered h0
  · have hw : ¬ GivesWay h group := by
      rw [hgw]
      rintro ⟨h1, h2, h3⟩
      exact hno.elim (· h1) fun h => h.elim (· h2) (Nat.not_le.2 h3)
    have hshare := ht.share
    have hset := ht.settles
    rw [takeYield_rests need hw] at hset hshare
    exact ⟨⟨by rw [hshare, hhx], by rw [hshare, hhx]⟩, hset rfl⟩

/-! ### The water trip set -/

theorem mem_insertOrigin_iff {n k : Nat} {l : List Nat} : k ∈ insertOrigin n l ↔ k = n ∨ k ∈ l := by
  refine ⟨mem_insertOrigin, fun h => ?_⟩
  induction l with
  | nil => simpa [insertOrigin] using h
  | cons x l ih =>
    unfold insertOrigin
    split
    · simpa using h
    split
    next hx =>
      subst hx
      simpa using h
    · simp only [List.mem_cons] at h ⊢
      tauto

/-- What an origin that is added changes of the shares (R58, R59). -/
theorem addOrigin_share (n : Nat) (s : State) :
    (addOrigin n s).share.tripSet = insertOrigin n s.share.tripSet
      ∧ (addOrigin n s).share.holds.power = s.share.holds.power
      ∧ (addOrigin n s).share.holds.drain = s.share.holds.drain
      ∧ (s.share.tripSet = [] → (addOrigin n s).share.holds.inlet = 0) := by
  have hget := fun q => lowerHold_holds .inlet q 0
    (s.setShare { s.share with tripSet := insertOrigin n s.share.tripSet })
  unfold addOrigin dropInlet
  cases hz : s.share.tripSet with
  | nil =>
    rw [hz] at hget
    simp only [List.isEmpty_nil, if_true, dropRaise_frame, lowerHold_fields, State.setShare_share, true_and]
    exact ⟨(hget .power).trans (if_neg (by decide)), (hget .drain).trans (if_neg (by decide)),
      fun _ => (hget .inlet).trans ((if_pos rfl).trans (Nat.zero_min _))⟩
  | cons x l => simp

theorem learnOrigin_share (n : Nat) (s : State) :
    (∀ m, m ∈ (learnOrigin n s).share.tripSet ↔ m = n ∨ m ∈ s.share.tripSet)
      ∧ (learnOrigin n s).share.holds.power = s.share.holds.power
      ∧ (learnOrigin n s).share.holds.drain = s.share.holds.drain
      ∧ (s.share.tripSet = [] → (learnOrigin n s).share.holds.inlet = 0) := by
  obtain ⟨h1, h2, h3, h4⟩ := addOrigin_share n s
  unfold learnOrigin
  split
  next hm =>
    refine ⟨fun m => ⟨.inr, ?_⟩, rfl, rfl, fun hz => ?_⟩
    · rintro (rfl | h)
      exacts [hm, h]
    · rw [hz] at hm
      exact absurd hm (by simp)
  · simp only [notice_frame]
    exact ⟨fun m => by rw [h1, mem_insertOrigin_iff], h2, h3, h4⟩

/-- R58: a new origin is told. -/
theorem queued_learnOrigin {n : Nat} (hn : unnumbered s = false) (hm : n ∉ s.share.tripSet) :
    Queued (.notice .waterTrip (noticeTag s.recipe) s.recipe.cur n) (learnOrigin n s) := by
  rw [learnOrigin, if_neg hm]
  have h := queued_notice (s := addOrigin n s) (by simpa [unnumbered] using hn) .waterTrip n
  simpa using h

theorem removeOrigin_share (n : Nat) (s : State) :
    (removeOrigin n s).share = { s.share with tripSet := s.share.tripSet.filter (· ≠ n) } := by
  unfold removeOrigin
  dsimp only
  split <;> simp

/-! ### TRIP and TRIP_CLEAR -/

/-- R176: a type and origin that act, in the bytes. -/
theorem tripActs_iff {type origin : Byte} :
    tripActs type origin = true ↔ type = 0 ∧ 1 ≤ origin.toNat ∧ origin.toNat ≤ 15 := by
  have h : type.toNat = 0 ↔ type = 0 := ⟨fun h => BitVec.eq_of_toNat_eq h, fun h => by rw [h]; rfl⟩
  simp [tripActs, h, and_assoc]

theorem not_tripActs_iff {type origin : Byte} :
    tripActs type origin = false ↔ type ≠ 0 ∨ origin.toNat = 0 ∨ 15 < origin.toNat := by
  rw [← Bool.not_eq_true, tripActs_iff]
  by_cases h : type = 0
  · simp only [h, true_and, ne_eq, not_true_eq_false, false_or]
    omega
  · exact ⟨fun _ => .inl h, fun _ ha => h ha.1⟩

/-- R58: what a TRIP_CLEAR that acts takes out of the set. -/
theorem takeTripClear_cases {n : Nat} {type origin group : Byte} (s : State) (ha : tripActs type origin = true) :
    (origin.toNat = s.startup.station → takeTripClear n type origin group s = s)
      ∧ (origin.toNat ≠ s.startup.station → origin.toNat = n → group.toNat = s.startup.supply.waterGroup →
          takeTripClear n type origin group s = removeOrigin origin.toNat s)
      ∧ (origin.toNat = n → group.toNat ≠ s.startup.supply.waterGroup → takeTripClear n type origin group s = s)
      ∧ (origin.toNat ≠ n → origin.toNat ≠ s.startup.station → takeTripClear n type origin group s
          = if panelMayClear s origin.toNat then removeOrigin origin.toNat s else s)
      ∧ (takeTripClear n type origin group s = s ∨ takeTripClear n type origin group s = removeOrigin origin.toNat s) := by
  have hrem : ∀ {a b : Bool}, a = true → (!a || b) = b := fun h => by simp [h]
  unfold takeTripClear
  rw [hrem ha]
  by_cases h1 : origin.toNat = s.startup.station
  · rw [if_pos (by simpa using h1)]
    exact ⟨fun _ => rfl, fun h => absurd h1 h, fun _ _ => rfl, fun _ h => absurd h1 h, .inl rfl⟩
  rw [if_neg (by simpa using h1)]
  by_cases h2 : origin.toNat = n
  · rw [if_pos h2]
    by_cases h3 : group.toNat = s.startup.supply.waterGroup
    · rw [if_pos h3, h2]
      exact ⟨fun h => absurd (h2.trans h) h1, fun _ _ _ => rfl, fun _ h => absurd h3 h, fun h => absurd rfl h, .inr rfl⟩
    · rw [if_neg h3]
      exact ⟨fun _ => rfl, fun _ _ h => absurd h h3, fun _ _ => rfl, fun h => absurd h2 h, .inl rfl⟩
  · rw [if_neg h2]
    refine ⟨fun h => absurd h h1, fun _ h => absurd h h2, fun h => absurd h h2, fun _ _ => rfl, ?_⟩
    split
    · exact .inr rfl
    · exact .inl rfl

/-- Settles O44: `learnOrigin` and `removeOrigin` by the conditions of R58. -/
theorem waterTripsAreLearned : Obligations.WaterTripsAreLearned := by
  refine ⟨fun s n type origin group hf hg hn hne => ?_, fun s n origin group hf hg hn hne ho1 ho2 => ?_⟩
  · have hx : exec (.tripReceived n type origin group) s
        = .next (settle (markClosed (takeWaterTrip type origin group (takeFrame n.toNat false (beginReceive s))))) :=
      congrArg Host.Outcome.next (receiveFrame_of_free hf (nibble_toNat_ne hn) (.trip type origin group) false)
    obtain ⟨h, ht⟩ := taken (driven := false) hf hg hne (takeWaterTrip type origin group)
      fun _ => (Claims.refl _).takeWaterTrip type origin group
    obtain ⟨hmem, hpw, hdr, hin⟩ := learnOrigin_share origin.toNat h
    have hacts : tripActs type origin = true → group.toNat = s.startup.supply.waterGroup →
        takeWaterTrip type origin group h = learnOrigin origin.toNat h := fun h1 h2 => by
      simp [takeWaterTrip, h1, h2, ht.startup]
    have hrests : ¬ (tripActs type origin = true ∧ group.toNat = s.startup.supply.waterGroup) →
        takeWaterTrip type origin group h = h := fun hno => by
      rw [takeWaterTrip, if_neg (by simpa [ht.startup] using hno)]
    simp only [ht.found] at hmem hpw hdr hin
    have hset : ∀ m : Nat, m ≠ origin.toNat →
        (m ∈ (takeWaterTrip type origin group h).share.tripSet ↔ m ∈ s.share.tripSet) := fun m hm => by
      by_cases hw : tripActs type origin = true ∧ group.toNat = s.startup.supply.waterGroup
      · rw [hacts hw.1 hw.2, hmem]
        simp [hm]
      · rw [hrests hw, ht.found]
    have hheld : (takeWaterTrip type origin group h).share.holds.power = s.share.holds.power
        ∧ (takeWaterTrip type origin group h).share.holds.drain = s.share.holds.drain := by
      by_cases hw : tripActs type origin = true ∧ group.toNat = s.startup.supply.waterGroup
      · rw [hacts hw.1 hw.2]
        exact ⟨hpw, hdr⟩
      · rw [hrests hw, ht.found]
        exact ⟨rfl, rfl⟩
    refine ⟨_, hx, ht.closed, fun hty h1 h15 hgr => ?_, fun hno => ?_, fun m _ hmo => by rw [ht.share]; exact hset m hmo,
      by rw [ht.share]; exact hheld.1, by rw [ht.share]; exact hheld.2, ht.program, ht.touches⟩
    · have ha := hacts (tripActs_iff.2 ⟨hty, h1, h15⟩) hgr
      have hshare := ht.share
      rw [ha] at hshare
      have hnew : origin.toNat ∈ (learnOrigin origin.toNat h).share.tripSet := (hmem _).2 (.inl rfl)
      have hvalve := ht.valve (by rw [hshare]; exact List.ne_nil_of_mem hnew)
      refine ⟨by rw [hshare]; exact hnew, fun hz => by rw [hshare]; exact hin hz, hvalve.1, hvalve.2, fun hno => ?_⟩
      have hq := queued_learnOrigin (s := h) ht.numbered (n := origin.toNat) (by rw [ht.found]; exact hno)
      unfold Queued at *
      rw [ht.queue, ha, ← ht.recipe]
      exact hq
    · have hr := hrests fun ⟨h1, h2⟩ => by
        rcases hno with h | h | h | h
        · exact absurd h1 (by rw [not_tripActs_iff.2 (.inl h)]; decide)
        · exact absurd h1 (by rw [not_tripActs_iff.2 (.inr (.inl h))]; decide)
        · exact absurd h1 (by rw [not_tripActs_iff.2 (.inr (.inr h))]; decide)
        · exact h h2
      have hshare := ht.share
      rw [hr, ht.found] at hshare
      exact ⟨by rw [hshare], by rw [hshare]⟩
  · have hx : exec (.tripClearReceived n 0 origin group) s
        = .next (settle (markClosed (takeTripClear n.toNat 0 origin group (takeFrame n.toNat false (beginReceive s))))) :=
      congrArg Host.Outcome.next (receiveFrame_of_free hf (nibble_toNat_ne hn) (.tripClear 0 origin group) false)
    obtain ⟨h, ht⟩ := taken (driven := false) hf hg hne (takeTripClear n.toNat 0 origin group)
      fun _ => (Claims.refl _).takeTripClear n.toNat 0 origin group
    obtain ⟨hown, hself, hforeign, hpanel, hcases⟩ :=
      takeTripClear_cases (n := n.toNat) (group := group) h (tripActs_iff.2 ⟨rfl, ho1, ho2⟩)
    rw [ht.startup] at hown hself hforeign hpanel
    have hout : origin.toNat ∉ (removeOrigin origin.toNat h).share.tripSet := by simp [removeOrigin_share]
    have hbase : h.share.tripSet = s.share.tripSet := by rw [ht.found]
    have hmay : panelMayClear h origin.toNat
        = (findEntry (updateEntry n.toNat (refreshEntry s.share.floor) s.share.table) origin.toNat).all
            fun e => e.expired || !e.leak := by rw [panelMayClear, ht.found]
    refine ⟨_, hx, ht.closed, fun h1 => ?_, fun h1 h2 => ?_, fun h1 h2 => ?_, fun h1 h2 => ?_, fun m _ hm => ?_, ?_,
      ht.settles ?_, ht.program, ht.touches⟩
    · rw [ht.share, hown h1, hbase]
    · rw [ht.share, hself (fun h => hne (h1.symm.trans h)) h1 h2]
      exact hout
    · rw [ht.share, hforeign h1 h2, hbase]
    · rw [ht.share, hpanel h1 h2, hmay]
      split
      · exact hout
      · exact hbase
    · rw [ht.share]
      rcases hcases with hc | hc <;> rw [hc]
      · rw [hbase]
      · rw [removeOrigin_share, hbase]
        simp [hm]
    · rw [ht.share]
      rcases hcases with hc | hc <;> rw [hc]
      · rw [ht.found]
      · rw [removeOrigin_share, ht.found]
    · rcases hcases with hc | hc <;> rw [hc]
      simp

end Sys2Proof.Machine

/-!
RAISE, LOWER and STATUS of other stations: the veto, the entry that is recorded, and the corrections behind it (R38, R45 to
R50, R69).
-/
namespace Sys2Proof.Machine

variable {s t u h : State}

/-! ### Entries -/

theorem findEntry_insertEntry (e : Entry) (l : List Entry) : findEntry (insertEntry e l) e.station = some e := by
  induction l with
  | nil => simp [insertEntry, findEntry]
  | cons x l ih =>
    unfold insertEntry
    split
    · simp [findEntry]
    split
    · simp [findEntry]
    next hne =>
      unfold findEntry at *
      rw [List.find?_cons_of_neg (by simpa using Ne.symm hne)]
      exact ih

theorem findEntry_insertEntry_ne {e : Entry} {m : Nat} (hm : m ≠ e.station) (l : List Entry) :
    findEntry (insertEntry e l) m = findEntry l m := by
  induction l with
  | nil => simp [insertEntry, findEntry, hm.symm]
  | cons x l ih =>
    unfold insertEntry
    split
    · unfold findEntry
      rw [List.find?_cons_of_neg (by simpa using hm.symm)]
    split
    next hx =>
      unfold findEntry
      rw [List.find?_cons_of_neg (by simpa using hm.symm), List.find?_cons_of_neg (by simpa [← hx] using hm.symm)]
    · unfold findEntry at *
      by_cases hx : x.station = m
      · rw [List.find?_cons_of_pos (by simpa using hx), List.find?_cons_of_pos (by simpa using hx)]
      · rw [List.find?_cons_of_neg (by simpa using hx), List.find?_cons_of_neg (by simpa using hx)]
        exact ih

theorem findEntry_updateEntry {f : Entry → Entry} (hf : ∀ e, (f e).station = e.station) (n m : Nat) (l : List Entry) :
    findEntry (updateEntry n f l) m = if m = n then (findEntry l m).map f else findEntry l m := by
  induction l with
  | nil => simp [updateEntry, findEntry]
  | cons x l ih =>
    have hcons : updateEntry n f (x :: l) = (if x.station = n then f x else x) :: updateEntry n f l := rfl
    have hst : (if x.station = n then f x else x).station = x.station := by split <;> simp [hf]
    rw [hcons]
    unfold findEntry at *
    by_cases hx : x.station = m
    · rw [List.find?_cons_of_pos (by simpa [hst] using hx), List.find?_cons_of_pos (by simpa using hx)]
      by_cases hm : m = n <;> simp [hx, hm]
    · rw [List.find?_cons_of_neg (by simpa [hst] using hx), List.find?_cons_of_neg (by simpa using hx)]
      exact ih

theorem refreshEntry_station (floor : Nat) (e : Entry) : (refreshEntry floor e).station = e.station := by
  unfold refreshEntry
  split <;> rfl

theorem refreshEntry_fresh (floor : Nat) (e : Entry) :
    (refreshEntry floor e).expired = false ∧ (refreshEntry floor e).heardMs = 0
      ∧ (refreshEntry floor e).joining = e.joining := by
  unfold refreshEntry
  split
  · exact ⟨rfl, rfl, rfl⟩
  next h => exact ⟨by simpa using h, rfl, rfl⟩

theorem findEntry_station {l : List Entry} {n : Nat} {e : Entry} (h : findEntry l n = some e) : e.station = n := by
  simpa using List.find?_some h

/-! ### What a refreshed table charges -/

/-- R38: what a frame tells of its sender leaves every charge. -/
theorem othersCharges_refresh (hu : h.startup = s.startup) {n : Nat}
    (hx : h.share = { s.share with table := updateEntry n (refreshEntry s.share.floor) s.share.table }) (p : Pool) :
    othersCharges h p = othersCharges s p := by
  have hc : ∀ e, charge h p e = charge s p e := charge_congr (by rw [hu]) (by rw [hx]) p
  simp only [othersCharges, hx, updateEntry, List.map_map]
  refine congrArg List.sum (List.map_congr_left fun e _ => ?_)
  simp only [Function.comp_apply, hc]
  split
  · exact charge_refreshEntry p e
  · rfl

/-! ### A recording -/

theorem correctIfRisen_holds (before : State) (p q : Pool) (s : State) :
    (correctIfRisen before p s).share.holds.get q
      = if q = p ∧ othersCharges before p < othersCharges s p
        then min (s.share.holds.get p) (poolCapacity s.startup.supply p - othersCharges s p)
        else s.share.holds.get q := by
  unfold correctIfRisen correct
  by_cases hr : othersCharges before p < othersCharges s p
  · rw [if_pos hr, lowerHold_holds]
    by_cases hq : q = p
    · rw [if_pos hq, if_pos ⟨hq, hr⟩]
      omega
    · rw [if_neg hq, if_neg fun h => hq h.1]
  · rw [if_neg hr, if_neg fun h => hr h.2]

theorem correctIfRisen_startup (before : State) (p : Pool) (s : State) :
    (correctIfRisen before p s).startup = s.startup := by
  unfold correctIfRisen correct
  split <;> simp

/-- R50: behind a recording each pool whose others' charges have risen is corrected, and no other. -/
theorem afterRecording_holds (before : State) (q : Pool) (s : State) :
    (afterRecording before s).share.holds.get q
      = if othersCharges before q < othersCharges s q
        then min (s.share.holds.get q) (poolCapacity s.startup.supply q - othersCharges s q)
        else s.share.holds.get q := by
  have heval : ∀ p (u : State), (evalIfChanged before p u).share = u.share := fun p u => by
    unfold evalIfChanged
    split <;> simp
  unfold afterRecording
  simp only [heval, correctIfRisen_holds, correctIfRisen_others, correctIfRisen_startup]
  cases q <;> simp

theorem record_of_other {n : Nat} (hn : n ≠ s.startup.station) (f : Entry → Entry) : record n f s
    = afterRecording s (s.setShare { s.share with
        table := insertEntry (f ((findEntry s.share.table n).getD (newEntry n))) s.share.table }) := by
  simp [record, hn]

/-- A recording under the sender's own station: the entry as it is recorded, every other as it was, and the holds as R50
leaves them. -/
theorem record_effect {n : Nat} (hn : n ≠ s.startup.station) {f : Entry → Entry}
    (hst : ∀ e, e.station = n → (f e).station = n) :
    findEntry (record n f s).share.table n = some (f ((findEntry s.share.table n).getD (newEntry n)))
      ∧ (∀ m, m ≠ n → findEntry (record n f s).share.table m = findEntry s.share.table m)
      ∧ (∀ q, (record n f s).share.holds.get q = if othersCharges s q < othersCharges (record n f s) q
          then min (s.share.holds.get q) (poolCapacity s.startup.supply q - othersCharges (record n f s) q)
          else s.share.holds.get q) := by
  have he : (f ((findEntry s.share.table n).getD (newEntry n))).station = n := by
    refine hst _ ?_
    cases hf : findEntry s.share.table n with
    | none => rfl
    | some e => exact findEntry_station hf
  rw [record_of_other hn]
  generalize f ((findEntry s.share.table n).getD (newEntry n)) = e at he
  subst he
  have hc : ∀ q, othersCharges (afterRecording s (s.setShare { s.share with table := insertEntry e s.share.table })) q
      = othersCharges (s.setShare { s.share with table := insertEntry e s.share.table }) q := fun q =>
    othersCharges_congr (by simp) (by simp [afterRecording_frame]) (by simp) q
  refine ⟨?_, fun m hm => ?_, fun q => ?_⟩
  · rw [(afterRecording_fields _ _).2.2.2.1]
    exact findEntry_insertEntry e s.share.table
  · rw [(afterRecording_fields _ _).2.2.2.1]
    exact findEntry_insertEntry_ne hm s.share.table
  · rw [afterRecording_holds, hc]
    rfl

/-! ### RAISE and LOWER -/

theorem recordHold_station (p : Pool) (group hold : Nat) (e : Entry) :
    (Entry.recordHold p group hold e).station = e.station := by cases p <;> rfl

theorem recordHold_recorded (p : Pool) (group hold : Nat) (e : Entry) :
    (Entry.recordHold p group hold e).holds.get p = hold ∧ (Entry.recordHold p group hold e).group p = some group
      ∧ (Entry.recordHold p group hold e).expired = e.expired
      ∧ (Entry.recordHold p group hold e).heardMs = e.heardMs := by
  cases p <;> exact ⟨rfl, rfl, rfl, rfl⟩

/-- The entries of the table behind what a frame tells of its sender. -/
theorem Taken.entries {n : Nat} {driven : Bool} {effect : State → State} (ht : Taken n driven effect s h t) (m : Nat) :
    findEntry h.share.table m
      = if m = n then (findEntry s.share.table m).map (refreshEntry s.share.floor) else findEntry s.share.table m := by
  rw [ht.found]
  exact findEntry_updateEntry (refreshEntry_station _) n m _

/-- Every other station's entry as it was, and the holds as R50 leaves them. -/
def RecordedBeside (n : Nat) (s t : State) : Prop :=
  (∀ m : Nat, m ≠ n → findEntry t.share.table m = findEntry s.share.table m)
    ∧ ∀ q, t.share.holds.get q = if othersCharges s q < othersCharges t q
        then min (s.share.holds.get q) (poolCapacity s.startup.supply q - othersCharges t q) else s.share.holds.get q

/-- R69: a vetoed frame is recorded by no one. -/
theorem Taken.vetoed {n : Nat} {driven : Bool} {effect : State → State} (ht : Taken n driven effect s h t)
    (hu : t.startup = s.startup) (he : effect h = h) : SenderHeard n s t ∧ SettlesOnly s t ∧ RecordedBeside n s t := by
  have hx := ht.share
  have hset := ht.settles
  rw [he] at hx hset
  have hc : ∀ q, othersCharges t q = othersCharges s q := fun q =>
    (othersCharges_congr (by rw [hx]) (by rw [hu, ht.startup]) (by rw [hx]) q).trans (othersCharges_refresh ht.startup ht.found q)
  refine ⟨⟨by rw [hx, ht.found], by rw [hx, ht.found]⟩, hset rfl, fun m hm => ?_, fun q => ?_⟩
  · rw [hx, ht.entries, if_neg hm]
  · rw [hc, if_neg (lt_irrefl _), hx, ht.found]

theorem Taken.recorded {n : Nat} {driven : Bool} {effect : State → State} (ht : Taken n driven effect s h t)
    (hu : t.startup = s.startup) (hn : n ≠ s.startup.station) {f : Entry → Entry}
    (hst : ∀ e, e.station = n → (f e).station = n) (he : effect h = record n f h) :
    findEntry t.share.table n
        = some (f (((findEntry s.share.table n).map (refreshEntry s.share.floor)).getD (newEntry n)))
      ∧ RecordedBeside n s t := by
  have hx := ht.share
  rw [he] at hx
  obtain ⟨h1, h2, h3⟩ := record_effect (s := h) (by rw [ht.startup]; exact hn) hst
  have hc : ∀ q, othersCharges (record n f h) q = othersCharges t q := fun q =>
    othersCharges_congr (by rw [hx]) (by rw [hu, ← ht.startup]; simp) (by rw [hx]) q
  have hb : ∀ q, othersCharges h q = othersCharges s q := othersCharges_refresh ht.startup ht.found
  rw [← hx, ht.entries, if_pos rfl] at h1
  refine ⟨h1, fun m hm => ?_, fun q => ?_⟩
  · rw [hx, h2 m hm, ht.entries, if_neg hm]
  · have hq := h3 q
    rw [← hx, hc, hb, ht.startup, ht.found] at hq
    exact hq

/-- A RAISE or LOWER of another station, as it is recorded or vetoed (R46, R47, R69). -/
theorem Taken.holdFrame {n : Nat} {driven vetoed : Bool} {p : Pool} {group : Byte} {hold : Word16}
    (ht : Taken n driven (fun v => if vetoed then v else recordShare n p group hold v) s h t)
    (hu : t.startup = s.startup) (hn : n ≠ s.startup.station) :
    (vetoed = true → SenderHeard n s t ∧ SettlesOnly s t)
      ∧ (vetoed = false → ((findEntry t.share.table n).any fun e =>
          e.holds.get p = holdTaken p hold ∧ e.group p = some group.toNat ∧ e.expired = false ∧ e.heardMs = 0) = true)
      ∧ RecordedBeside n s t := by
  cases hv : vetoed with
  | true =>
    obtain ⟨h1, h2, h3⟩ := ht.vetoed hu (by simp [hv])
    exact ⟨fun _ => ⟨h1, h2⟩, by simp, h3⟩
  | false =>
    obtain ⟨h1, h2⟩ := ht.recorded hu hn (f := Entry.recordHold p group.toNat (holdTaken p hold))
      (fun e he => (recordHold_station _ _ _ e).trans he) (by simp [hv, recordShare])
    refine ⟨by simp, fun _ => ?_, h2⟩
    obtain ⟨e1, e2, e3, e4⟩ := recordHold_recorded p group.toNat (holdTaken p hold)
      (((findEntry s.share.table n).map (refreshEntry s.share.floor)).getD (newEntry n))
    have hfresh : ((((findEntry s.share.table n).map (refreshEntry s.share.floor)).getD (newEntry n)).expired = false)
        ∧ (((findEntry s.share.table n).map (refreshEntry s.share.floor)).getD (newEntry n)).heardMs = 0 := by
      cases findEntry s.share.table n with
      | none => exact ⟨rfl, rfl⟩
      | some e => exact ⟨(refreshEntry_fresh _ e).1, (refreshEntry_fresh _ e).2.1⟩
    rw [h1]
    simp [e1, e2, e3, e4, hfresh]

/-- R45: what the station does in the verdict slot of a RAISE, in the state before its opening mark. -/
theorem raiseVeto_before (hf : LineFree s) (n : Nat) (p : Pool) (group : Byte) (hold : Word16) :
    contentVeto (beginReceive s) n (.raise p group hold) = raiseVeto s n p group hold := by
  obtain ⟨-, hraise, -, hrest⟩ := hf
  rw [beginReceive_of_free hraise hrest]
  rfl

/-- Settles O41: the recording behind the verdict slot. -/
theorem raiseAndLowerAreRecorded : Obligations.RaiseAndLowerAreRecorded := by
  refine ⟨fun s n p group hold otherVeto hf hg hn hne => ?_, fun s n p group hold otherVeto hf hg hn hne => ?_⟩
  · have hx : exec (.raiseReceived n p group hold otherVeto) s = .next (settle (markClosed _)) :=
      congrArg Host.Outcome.next (receiveFrame_of_free hf (nibble_toNat_ne hn) (.raise p group hold) otherVeto)
    obtain ⟨h, ht⟩ := taken (driven := contentVeto (beginReceive s) n.toNat (.raise p group hold)) hf hg hne
      (contentEffect n.toNat (contentVeto (beginReceive s) n.toNat (.raise p group hold) || otherVeto) (.raise p group hold))
      fun _ => .choice (.refl _) ((Claims.refl _).record _ _)
    have hu := ht.touches.2 .startup (by decide)
    have hd : (settle (markClosed (contentEffect n.toNat
        (contentVeto (beginReceive s) n.toNat (.raise p group hold) || otherVeto) (.raise p group hold)
        (takeFrame n.toNat (contentVeto (beginReceive s) n.toNat (.raise p group hold)) (beginReceive s))))).line.verdictDriven
        = contentVeto (beginReceive s) n.toNat (.raise p group hold) := by
      have := ht.closed
      unfold FrameClosed at this
      rw [this]
    obtain ⟨h1, h2, h3, h4⟩ := ht.holdFrame hu hne
    refine ⟨_, hx, ?_, by rw [hd]; exact ht.closed, fun hv => h1 ?_, fun hv1 hv2 => h2 ?_, fun m _ hm => h3 m hm, h4,
      ht.program, ht.touches⟩
    · rw [hd, raiseVeto_before hf]
      rw [Bool.eq_iff_iff]
      simp [raiseVeto, capacityVeto, tripVeto, chargesWithout, and_assoc]
    · rw [hd] at hv
      rcases hv with hv | hv <;> simp [hv]
    · rw [hd] at hv2
      simp [hv1, hv2]
  · have hx : exec (.lowerReceived n p group hold otherVeto) s = .next (settle (markClosed _)) :=
      congrArg Host.Outcome.next (receiveFrame_of_free hf (nibble_toNat_ne hn) (.lower p group hold) otherVeto)
    obtain ⟨h, ht⟩ := taken (driven := false) hf hg hne (contentEffect n.toNat (false || otherVeto) (.lower p group hold))
      fun _ => .choice (.refl _) ((Claims.refl _).record _ _)
    obtain ⟨h1, h2, h3, h4⟩ := ht.holdFrame (ht.touches.2 .startup (by decide)) hne
    exact ⟨_, hx, ht.closed, fun hv => h1 (by simp [hv]), fun hv => h2 (by simp [hv]), fun m _ hm => h3 m hm, h4,
      ht.program, ht.touches⟩

end Sys2Proof.Machine

/-!
STATUS of other stations (R49, R58, R69).
-/
namespace Sys2Proof.Machine

variable {s t u h : State}

/-! ### A frame that stays in the queue -/

theorem mem_insertFrame_of_mem {f : TxFrame} {q : List QEntry} {e : QEntry} (he : e ∈ q) : e ∈ insertFrame f q :=
  (insertFrame_perm f q).mem_iff.2 (List.mem_cons_of_mem _ he)

theorem mem_dropOldestReport {q : List QEntry} {e : QEntry} (he : e ∈ q) (hr : e.sending = true ∨ e.frame.isReport = false) :
    e ∈ dropOldestReport q := by
  induction q with
  | nil => simp at he
  | cons x q ih =>
    unfold dropOldestReport
    rcases List.mem_cons.1 he with rfl | he
    · rw [if_neg (by rcases hr with h | h <;> simp [h])]
      simp
    · split
      · exact he
      · exact List.mem_cons_of_mem _ (ih he)

theorem mem_addFrame_of_mem {f : TxFrame} {q : List QEntry} {e : QEntry} (he : e ∈ q)
    (hr : e.sending = true ∨ e.frame.isReport = false) : e ∈ addFrame f q := by
  unfold addFrame
  refine mem_insertFrame_of_mem ?_
  split
  · exact mem_dropOldestReport he hr
  · exact he

theorem mem_putFrame_of_mem {p : TxFrame → Bool} {f : TxFrame} {q : List QEntry} {e : QEntry} (he : e ∈ q)
    (hr : e.sending = true ∨ e.frame.isReport = false) (hp : e.sending = true ∨ p e.frame = false) : e ∈ putFrame p f q := by
  unfold putFrame
  split
  · exact List.mem_map.2 ⟨e, he, by rw [if_neg (by rcases hp with h | h <;> simp [h])]⟩
  · exact mem_addFrame_of_mem he hr

/-- R76: a frame that is no REPORT stays where another enters that is of another sort and does not remove it. -/
theorem mem_enqueueQueue_of_mem {f : TxFrame} {q : List QEntry} {e : QEntry} (he : e ∈ q)
    (hr : e.sending = true ∨ e.frame.isReport = false)
    (hs : e.sending = true ∨ (f.sameSort e.frame = false ∧ f.removes e.frame = false)) : e ∈ enqueueQueue f q := by
  have hput : ∀ p : TxFrame → Bool, (p e.frame = true → f.sameSort e.frame = true) → ∀ q', e ∈ q' → e ∈ putFrame p f q' :=
    fun p hp q' hq => mem_putFrame_of_mem hq hr (hs.imp id fun h => by
      by_contra hc
      exact absurd ((hp (by simpa using hc)).symm.trans h.1) (by decide))
  have hrep : e ∈ addReport f q := by
    unfold addReport
    refine mem_addFrame_of_mem ?_ hr
    split
    · exact mem_dropOldestReport he hr
    · exact he
  cases f with
  | trip | tripClear => exact hput _ (fun h => by simp only [TxFrame.sameSort, h]; rfl) _ he
  | yields => exact hput _ (fun h => by simp only [TxFrame.sameSort, h]; rfl) _ he
  | status => exact hput _ (fun h => by simp only [TxFrame.sameSort, h]; rfl) _ he
  | lower p _ _ =>
    refine hput _ (fun h => by cases p <;> simp only [TxFrame.sameSort, h] <;> rfl) _ (List.mem_filter.2 ⟨he, ?_⟩)
    rcases hs with h | h
    · simp [h]
    · have := h.2
      cases p <;> simp_all [TxFrame.removes, TxFrame.isLower]
  | raise p _ _ =>
    show e ∈ (if _ then q else _)
    split
    · exact he
    · exact hput _ (fun h => by cases p <;> simp only [TxFrame.sameSort, h] <;> rfl) _ he
  | result | notice | reading => exact hrep

theorem Queued.enqueue {f g : TxFrame} (hq : Queued f s) (hr : f.isReport = false)
    (hs : g.sameSort f = false ∧ g.removes f = false) : Queued f (enqueue g s) := by
  unfold Machine.enqueue
  split
  · exact hq
  · exact mem_enqueueQueue_of_mem (e := ⟨f, false⟩) hq (.inr hr) (.inr hs)

theorem Queued.enqueueShare {f g : TxFrame} (hq : Queued f s) (hr : f.isReport = false)
    (hs : g.sameSort f = false ∧ g.removes f = false) : Queued f (enqueueShare g s) := by
  unfold Machine.enqueueShare
  split
  · exact hq.enqueue hr hs
  · exact hq

/-- A STATUS that waits is not touched by the claims of the pools. -/
theorem Queued.status_lowerHold (hq : Queued .status s) (p : Pool) (v : Nat) : Queued .status (lowerHold p v s) := by
  have h : ∀ u : State, Queued .status u → Queued .status (Machine.enqueueShare (.lower p (ownGroup s.startup.supply p) v) u) :=
    fun u hu => hu.enqueueShare rfl ⟨by cases p <;> rfl, by cases p <;> rfl⟩
  unfold lowerHold
  split
  · cases p with
    | power => exact h _ hq
    | inlet => exact h _ hq
    | drain => exact h _ hq
  · exact hq

theorem Queued.status_evalWater (hq : Queued .status s) (p : Pool) : Queued .status (evalWater p s) := by
  unfold evalWater
  split
  · exact hq.enqueueShare rfl ⟨by cases p <;> rfl, by cases p <;> rfl⟩
  · exact hq

theorem Queued.status_dropRaise (hq : Queued .status s) (p : Pool) : Queued .status (dropRaise p s) :=
  List.mem_filter.2 ⟨hq, rfl⟩

theorem Queued.status_leakFlag (hq : Queued .status s) (n : Nat) (b : StatusBody) : Queued .status (leakFlag n b s) := by
  have hset : ∀ x, Queued .status (s.setShare x) := fun _ => hq
  have hadd : Queued .status (addOrigin n s) := by
    unfold addOrigin dropInlet
    dsimp only
    split
    · exact ((hset _).status_lowerHold _ _).status_dropRaise _
    · exact hq
  have hrem : Queued .status (removeOrigin n s) := by
    unfold removeOrigin
    dsimp only
    split
    · exact (hset _).status_evalWater _
    · exact hq
  unfold leakFlag learnOrigin
  split
  · split
    · split
      · exact hq
      · exact hadd.enqueue rfl ⟨rfl, rfl⟩
    · exact hrem
  · exact hq

theorem queued_queueStatus (hf : frozen s = true) (hn : unnumbered s = false) : Queued .status (queueStatus s) := by
  have h := queued_enqueue (s := s) (f := .status) (fun _ => rfl) hn
  unfold queueStatus
  rw [enqueueShare_of_frozen hf]
  exact h

/-! ### The leak flag and the record -/

theorem learnOrigin_holds_le (n : Nat) (s : State) (q : Pool) :
    (learnOrigin n s).share.holds.get q ≤ s.share.holds.get q := by
  have hadd : (addOrigin n s).share.holds.get q ≤ s.share.holds.get q := by
    unfold addOrigin dropInlet
    dsimp only
    split
    · simpa using lowerHold_le .inlet q 0 (s.setShare { s.share with tripSet := insertOrigin n s.share.tripSet })
    · exact le_rfl
  unfold learnOrigin
  split
  · exact le_rfl
  · simpa using hadd

/-- R58: what the leak flag of a STATUS does to holds and set. -/
theorem leakFlag_share (n : Nat) (b : StatusBody) (s : State) :
    (∀ q, (leakFlag n b s).share.holds.get q ≤ s.share.holds.get q)
      ∧ (∀ m, m ≠ n → (m ∈ (leakFlag n b s).share.tripSet ↔ m ∈ s.share.tripSet))
      ∧ (b.waterGroup.toNat = s.startup.supply.waterGroup → b.leak = true →
          leakFlag n b s = learnOrigin n s)
      ∧ (b.waterGroup.toNat = s.startup.supply.waterGroup → b.leak = false → n ∉ (leakFlag n b s).share.tripSet) := by
  obtain ⟨hmem, -⟩ := learnOrigin_share n s
  have hr := removeOrigin_share n s
  unfold leakFlag
  by_cases hw : b.waterGroup.toNat = s.startup.supply.waterGroup
  · rw [if_pos hw]
    cases hl : b.leak with
    | true =>
      rw [if_pos rfl]
      exact ⟨learnOrigin_holds_le n s, fun m hm => by rw [hmem]; simp [hm], fun _ _ => rfl, fun _ h => by simp at h⟩
    | false =>
      rw [if_neg (by decide), hr]
      exact ⟨fun q => le_rfl, fun m hm => by simp [hm], fun _ h => by simp at h, fun _ _ => by simp⟩
  · rw [if_neg hw]
    exact ⟨fun q => le_rfl, fun m _ => Iff.rfl, fun h => absurd h hw, fun h => absurd h hw⟩

/-- The state that the leak flag of a STATUS finds. -/
def statusRecorded (n : Nat) (b : StatusBody) (s : State) : State :=
  if statusCallsForAnswer n b s then queueStatus (record n (fun _ => statusEntry n b) s)
  else record n (fun _ => statusEntry n b) s

theorem recordStatus_eq (n : Nat) (b : StatusBody) (s : State) :
    recordStatus n b s = leakFlag n b (statusRecorded n b s) := rfl

theorem statusRecorded_share (n : Nat) (b : StatusBody) (s : State) :
    (statusRecorded n b s).share.holds = (record n (fun _ => statusEntry n b) s).share.holds
      ∧ (statusRecorded n b s).share.table = (record n (fun _ => statusEntry n b) s).share.table
      ∧ (statusRecorded n b s).share.tripSet = s.share.tripSet
      ∧ (statusRecorded n b s).startup = s.startup ∧ (statusRecorded n b s).recipe = s.recipe := by
  unfold statusRecorded
  split <;> simp

/-! ### STATUS -/

/-- A STATUS that is not vetoed, from its sender's entry to its leak flag (R49, R58). -/
theorem statusTaken {n : Nat} {driven : Bool} {b : StatusBody}
    (ht : Taken n driven (fun v => recordStatus n b v) s h t) (hn : n ≠ s.startup.station) (hf : frozen s = true) :
    findEntry t.share.table n = some (statusEntry n b)
      ∧ ((findEntry s.share.table n).all (fun e => b.joining && !e.joining) = true → Queued .status t)
      ∧ (b.waterGroup.toNat = s.startup.supply.waterGroup → b.leak = true →
          n ∈ t.share.tripSet ∧ (s.share.tripSet = [] → t.share.holds.inlet = 0))
      ∧ (b.waterGroup.toNat = s.startup.supply.waterGroup → b.leak = true → n ∉ s.share.tripSet →
          Queued (.notice .waterTrip (noticeTag s.recipe) s.recipe.cur n) t)
      ∧ (b.waterGroup.toNat = s.startup.supply.waterGroup → b.leak = false → n ∉ t.share.tripSet)
      ∧ (∀ m : Nat, m ≠ n →
          findEntry t.share.table m = findEntry s.share.table m ∧ (m ∈ t.share.tripSet ↔ m ∈ s.share.tripSet))
      ∧ ∀ q, t.share.holds.get q ≤ s.share.holds.get q := by
  have hx := ht.share
  have hqueue := ht.queue
  have hnh : n ≠ h.startup.station := by rw [ht.startup]; exact hn
  obtain ⟨r1, r2, r3⟩ := record_effect hnh (f := fun _ => statusEntry n b) fun _ _ => rfl
  obtain ⟨w1, w2, w3, w4, w5⟩ := statusRecorded_share n b h
  obtain ⟨l1, l2, l3, l4⟩ := leakFlag_share n b (statusRecorded n b h)
  obtain ⟨g1, -, -, g4⟩ := learnOrigin_share n (statusRecorded n b h)
  have hset : h.share.tripSet = s.share.tripSet := by rw [ht.found]
  have htab : (recordStatus n b h).share.table = (record n (fun _ => statusEntry n b) h).share.table := by
    rw [recordStatus_eq, (leakFlag_fields _ _ _).2.2.1, w2]
  have hnum : unnumbered (statusRecorded n b h) = false := by
    have := ht.numbered
    simpa [unnumbered, w4] using this
  rw [w4, ht.startup] at l3 l4
  rw [w3, hset] at l2 g1 g4
  rw [recordStatus_eq] at hx hqueue
  refine ⟨?_, fun hall => ?_, fun hw hl => ?_, fun hw hl hno => ?_, fun hw hl => ?_, fun m hm => ⟨?_, ?_⟩, fun q => ?_⟩
  · rw [hx, ← recordStatus_eq, htab, r1]
  · have hcalls : statusCallsForAnswer n b h = true := by
      rw [statusCallsForAnswer, if_neg hnh, ht.entries, if_pos rfl]
      cases he : findEntry s.share.table n with
      | none => rfl
      | some e =>
        rw [he] at hall
        simpa [answersStatus, (refreshEntry_fresh s.share.floor e).2.2] using hall
    have hstat : Queued .status (statusRecorded n b h) := by
      rw [statusRecorded, if_pos hcalls]
      have hrn : (record n (fun _ => statusEntry n b) h).startup = h.startup := by simp
      exact queued_queueStatus (by simpa [frozen, hrn, ht.startup] using hf)
        (by have := ht.numbered; simpa [unnumbered, hrn] using this)
    unfold Queued
    rw [hqueue]
    exact hstat.status_leakFlag n b
  · rw [hx, l3 hw hl]
    exact ⟨(g1 n).2 (.inl rfl), g4⟩
  · unfold Queued
    rw [hqueue, l3 hw hl, ← ht.recipe, ← w5]
    exact queued_learnOrigin hnum (by rw [w3, hset]; exact hno)
  · rw [hx]
    exact l4 hw hl
  · rw [hx, ← recordStatus_eq, htab, r2 m hm, ht.entries, if_neg hm]
  · rw [hx]
    exact l2 m hm
  · have hle : (record n (fun _ => statusEntry n b) h).share.holds.get q ≤ h.share.holds.get q := by
      rw [r3]
      split <;> omega
    have hh : h.share.holds = s.share.holds := by rw [ht.found]
    rw [hx, ← hh]
    exact (l1 q).trans (by rw [w1]; exact hle)

/-- Settles O42: the vetoed STATUS, and `statusTaken`. -/
theorem statusIsRecorded : Obligations.StatusIsRecorded := by
  intro s n b otherVeto hf hg hfz hn hne hqu
  have hx : exec (.statusReceived n b otherVeto) s = .next (settle (markClosed (contentEffect n.toNat (false || otherVeto)
      (.status b) (takeFrame n.toNat false (beginReceive s))))) :=
    congrArg Host.Outcome.next (receiveFrame_of_free hf (nibble_toNat_ne hn) (.status b) otherVeto)
  obtain ⟨h, ht⟩ := taken (driven := false) hf hg hne (contentEffect n.toNat (false || otherVeto) (.status b))
    fun _ => .choice (.refl _) ((Claims.refl _).recordStatus _ _)
  have hu := ht.touches.2 .startup (by decide)
  cases hv : otherVeto with
  | true =>
    subst hv
    obtain ⟨h1, h2, h3, h4⟩ := ht.vetoed hu rfl
    have hsh := ht.share
    rw [show contentEffect n.toNat (false || true) (.status b) h = h from rfl, ht.found] at hsh
    refine ⟨_, hx, ht.closed, fun _ => h1, fun h => by simp at h, fun m _ hm => ⟨h3 m hm, by rw [hsh]⟩,
      fun q => by rw [hsh], by rw [hsh], by rw [hsh], ht.program, ht.touches⟩
  | false =>
    subst hv
    obtain ⟨h1, h2, h3, h4, h5, h6, h7⟩ := statusTaken (b := b) ht hne hfz
    have hsh := ht.share
    refine ⟨_, hx, ht.closed, fun h => by simp at h, fun _ => ⟨?_, h2, h3, h4, h5⟩, fun m _ hm => h6 m hm, h7, ?_, ?_,
      ht.program, ht.touches⟩
    · cases hi : b.inlet <;> cases hd : b.drain <;> rw [h1, statusEntry, hi, hd] <;> rfl
    · rw [hsh]
      exact ((recordStatus_fields n.toNat b h).2.1).trans (by rw [ht.found])
    · rw [hsh]
      exact ((recordStatus_fields n.toNat b h).1).trans (by rw [ht.found])

end Sys2Proof.Machine

/-!
The own leak (R57, R59).
-/
namespace Sys2Proof.Machine

variable {s t u h : State}

/-! ### Shares and queue behind an origin that is added or removed -/

theorem addOrigin_others (n : Nat) (s : State) : (addOrigin n s).share = { s.share with
    tripSet := (addOrigin n s).share.tripSet, holds := (addOrigin n s).share.holds
    fell := (addOrigin n s).share.fell } := by
  unfold addOrigin dropInlet
  dsimp only
  split
  · rw [(dropRaise_frame _ _).2.2.2.2.1, lowerHold_share]
    rfl
  · rfl

/-- No SAFETY frame is new in the queue. -/
def NoNewSafety (s t : State) : Prop := ∀ e ∈ t.line.queue, e.frame.isSafety = true → e ∈ s.line.queue

theorem NoNewSafety.trans (h1 : NoNewSafety s t) (h2 : NoNewSafety t u) : NoNewSafety s u :=
  fun e he hs => h1 e (h2 e he hs) hs

theorem NoNewSafety.same (hl : t.line = s.line) : NoNewSafety s t := fun e he _ => by rw [hl] at he; exact he

theorem noNewSafety_enqueue {f : TxFrame} (hf : f.isSafety = false) (s : State) : NoNewSafety s (enqueue f s) := by
  intro e he hs
  unfold enqueue at he
  split at he
  · exact he
  · obtain rfl | he := mem_enqueueQueue he
    · exact absurd (hf.symm.trans hs) (by decide)
    · exact he

theorem noNewSafety_enqueueShare {f : TxFrame} (hf : f.isSafety = false) (s : State) :
    NoNewSafety s (enqueueShare f s) := by
  unfold enqueueShare
  split
  · exact noNewSafety_enqueue hf s
  · exact .same rfl

theorem noNewSafety_lowerHold (p : Pool) (v : Nat) (s : State) : NoNewSafety s (lowerHold p v s) := by
  have h : ∀ x : State, x.line = s.line → NoNewSafety s (enqueueShare (.lower p (ownGroup s.startup.supply p) v) x) :=
    fun x hx => (NoNewSafety.same hx).trans (noNewSafety_enqueueShare rfl x)
  unfold lowerHold
  split
  · cases p with
    | power => exact h _ rfl
    | inlet => exact h _ rfl
    | drain => exact h _ rfl
  · exact .same rfl

theorem noNewSafety_dropRaise (p : Pool) (s : State) : NoNewSafety s (dropRaise p s) :=
  fun _ he _ => (List.mem_filter.1 he).1

theorem noNewSafety_addOrigin (n : Nat) (s : State) : NoNewSafety s (addOrigin n s) := by
  have h1 : NoNewSafety s (s.setShare { s.share with tripSet := insertOrigin n s.share.tripSet }) := .same rfl
  unfold addOrigin dropInlet
  dsimp only
  split
  · exact (h1.trans (noNewSafety_lowerHold _ _ _)).trans (noNewSafety_dropRaise _ _)
  · exact h1

theorem noNewSafety_removeOrigin (n : Nat) (s : State) : NoNewSafety s (removeOrigin n s) := by
  have h1 : NoNewSafety s (s.setShare { s.share with tripSet := s.share.tripSet.filter (· ≠ n) }) := .same rfl
  unfold removeOrigin evalWater
  dsimp only
  split
  · split
    · exact h1.trans (noNewSafety_enqueueShare rfl _)
    · exact h1
  · exact h1

/-! ### The leak becomes WET -/

/-- What a leak that is taken settles behind, the WATER_TRIP notice apart. -/
def leakTaken (s : State) : State :=
  leakChanged (addOrigin s.startup.station (s.setShare { s.share with leakWet := true, leakMs := 0 }))

theorem leakWet_eq (hi : s.share.leakInputWet = true) (hw : s.share.leakWet = false) (hn : unnumbered s = false) :
    leakWet s = settle (notice .waterTrip s.startup.station (leakTaken s)) := by
  simp [leakWet, hi, hw, hn, leakTaken]

theorem leakChanged_of_frozen (hf : frozen s = true) : leakChanged s = tellLeak s := by rw [leakChanged, if_pos hf]

theorem leakChanged_before (hf : frozen s = false) : leakChanged s = s.setShare { s.share with safetyOwed := true } := by
  rw [leakChanged, if_neg (by simp [hf])]

theorem leakTaken_claims (s : State) : Claims s (leakTaken s) := by
  have h1 : Claims s (s.setShare { s.share with leakWet := true, leakMs := 0 }) := (Claims.refl s).setShare rfl
  exact (h1.addOrigin _).leakChanged

theorem leakChanged_share (s : State) :
    (leakChanged s).share = { s.share with safetyOwed := (leakChanged s).share.safetyOwed } := by
  unfold leakChanged tellLeak
  (repeat' split) <;> simp

theorem addOrigin_leakWet (n : Nat) (s : State) : (addOrigin n s).share.leakWet = s.share.leakWet := by
  rw [addOrigin_others]

/-- The shares as a leak that is taken leaves them. -/
theorem leakTaken_share (s : State) :
    (leakTaken s).share.leakWet = true ∧ s.startup.station ∈ (leakTaken s).share.tripSet
      ∧ (s.share.tripSet = [] → (leakTaken s).share.holds.inlet = 0)
      ∧ (leakTaken s).share.holds.power = s.share.holds.power ∧ (leakTaken s).share.holds.drain = s.share.holds.drain
      ∧ (leakTaken s).share.table = s.share.table := by
  obtain ⟨h1, h2, h3, h4⟩ :=
    addOrigin_share s.startup.station (s.setShare { s.share with leakWet := true, leakMs := 0 })
  have hw := addOrigin_leakWet s.startup.station (s.setShare { s.share with leakWet := true, leakMs := 0 })
  have ht := (addOrigin_fields s.startup.station (s.setShare { s.share with leakWet := true, leakMs := 0 })).2.2.1
  unfold leakTaken
  rw [leakChanged_share]
  refine ⟨hw, ?_, h4, h2, h3, ht⟩
  rw [h1]
  exact mem_insertOrigin_iff.2 (.inl rfl)

/-- R57: a leak that is taken is told. -/
theorem queued_leakTaken (hf : frozen s = true) (hn : unnumbered s = false) :
    Queued (.trip s.startup.station s.startup.supply.waterGroup) (leakTaken s) := by
  have hw := addOrigin_leakWet s.startup.station (s.setShare { s.share with leakWet := true, leakMs := 0 })
  have hs : (addOrigin s.startup.station (s.setShare { s.share with leakWet := true, leakMs := 0 })).startup = s.startup := by
    simp
  unfold leakTaken
  generalize addOrigin s.startup.station (s.setShare { s.share with leakWet := true, leakMs := 0 }) = v at hw hs ⊢
  have hfv : frozen v = true := by simpa [frozen, hs] using hf
  rw [leakChanged_of_frozen hfv, tellLeak, if_pos (by exact hw), enqueueShare_of_frozen hfv, hs]
  exact queued_enqueue (fun _ => rfl) (by simpa [unnumbered, hs] using hn)

/-! ### The leak becomes DRY -/

def leakEnded (s : State) : State :=
  leakChanged (removeOrigin s.startup.station (s.setShare { s.share with leakWet := false, leakMs := 0 }))

theorem leakDry_eq (hi : s.share.leakInputWet = false) (hw : s.share.leakWet = true) (hn : unnumbered s = false) :
    leakDry s = settle (leakEnded s) := by
  simp [leakDry, hi, hw, hn, leakEnded]

theorem leakEnded_claims (s : State) : Claims s (leakEnded s) := by
  have h1 : Claims s (s.setShare { s.share with leakWet := false, leakMs := 0 }) := (Claims.refl s).setShare rfl
  exact (h1.removeOrigin _).leakChanged

theorem leakEnded_share (s : State) : (leakEnded s).share = { s.share with
    leakWet := false, leakMs := 0, tripSet := s.share.tripSet.filter (· ≠ s.startup.station)
    safetyOwed := (leakEnded s).share.safetyOwed } ∧ (leakEnded s).power = s.power := by
  have hp : ∀ v : State, (leakChanged v).power = v.power := by
    intro v
    unfold leakChanged tellLeak
    (repeat' split) <;> simp
  unfold leakEnded
  refine ⟨?_, (hp _).trans (by simp)⟩
  rw [leakChanged_share, removeOrigin_share]
  rfl

theorem queued_leakEnded (hf : frozen s = true) (hn : unnumbered s = false) :
    Queued (.tripClear s.startup.station s.startup.supply.waterGroup) (leakEnded s) := by
  have h5 := removeOrigin_share s.startup.station (s.setShare { s.share with leakWet := false, leakMs := 0 })
  have hs : (removeOrigin s.startup.station (s.setShare { s.share with leakWet := false, leakMs := 0 })).startup
      = s.startup := by simp
  unfold leakEnded
  generalize removeOrigin s.startup.station (s.setShare { s.share with leakWet := false, leakMs := 0 }) = v at h5 hs ⊢
  have hw : v.share.leakWet = false := congrArg Share.leakWet h5
  have hfv : frozen v = true := by simpa [frozen, hs] using hf
  rw [leakChanged_of_frozen hfv, tellLeak, if_neg (by simp [hw]), enqueueShare_of_frozen hfv, hs]
  exact queued_enqueue (fun _ => rfl) (by simpa [unnumbered, hs] using hn)

/-- Before the freeze the frame is owed (log entry 6). -/
theorem leak_owed (hf : frozen s = false) : (leakTaken s).share.safetyOwed = true ∧ (leakEnded s).share.safetyOwed = true
    ∧ NoNewSafety s (leakTaken s) ∧ NoNewSafety s (leakEnded s) := by
  have h1 : ∀ v : State, v.startup = s.startup → (leakChanged v).share.safetyOwed = true ∧ (leakChanged v).line = v.line := by
    intro v hv
    rw [leakChanged_before (by simpa [frozen, hv] using hf)]
    exact ⟨rfl, rfl⟩
  obtain ⟨a1, a2⟩ := h1 (addOrigin s.startup.station (s.setShare { s.share with leakWet := true, leakMs := 0 })) (by simp)
  obtain ⟨b1, b2⟩ := h1 (removeOrigin s.startup.station (s.setShare { s.share with leakWet := false, leakMs := 0 })) (by simp)
  have hset : ∀ x, NoNewSafety s (s.setShare x) := fun _ => .same rfl
  exact ⟨a1, b1, ((hset _).trans (noNewSafety_addOrigin _ _)).trans (.same a2),
    ((hset _).trans (noNewSafety_removeOrigin _ _)).trans (.same b2)⟩

/-- Settles O45: the leak taken and ended, in a frozen part and before the freeze. -/
theorem leakTripsTheWater : Obligations.LeakTripsTheWater := by
  refine ⟨fun s wet => ⟨_, rfl, rfl, rfl, fun b hb => ?_⟩, fun s hn hf hg hi hw => ?_, fun s hn hf hg hi hw => ?_,
    fun s c hn hf hc => ?_⟩
  · cases b with
    | share => exact absurd hb (by decide)
    | startup | climate | power | line | steam | descale | recipe | superv => rfl
  · have hc := (leakTaken_claims s).notice .waterTrip s.startup.station
    obtain ⟨hx, hl, -, hps, ht⟩ := hc.settled hg
    obtain ⟨h1, h2, h3, h4, h5, h6⟩ := leakTaken_share s
    obtain ⟨-, hu, -, -, -, hr, -⟩ := (leakTaken_claims s).blocks
    have hq := queued_leakTaken hf hn
    have hq1 := hq.enqueue (g := .notice .waterTrip (noticeTag (leakTaken s).recipe) (leakTaken s).recipe.cur s.startup.station)
      rfl ⟨rfl, rfl⟩
    have hq2 := queued_notice (s := leakTaken s) (by simpa [unnumbered, hu] using hn) .waterTrip s.startup.station
    rw [hr] at hq2
    have hv := settle_fill_off (s := notice .waterTrip s.startup.station (leakTaken s))
      (by rw [hx, (notice_frame _ _ _).2.2.2.2.1]; exact List.ne_nil_of_mem h2)
    rw [← (notice_frame .waterTrip s.startup.station (leakTaken s)).2.2.2.2.1, ← hx] at h1 h2 h3 h4 h5 h6
    refine ⟨_, congrArg Host.Outcome.next (leakWet_eq hi hw hn), h1, h2, h3, hv.1, hv.2, ?_, ?_, h4, h5, h6, hps, ht⟩
    · unfold Queued
      rw [hl]
      exact hq1
    · unfold Queued
      rw [hl]
      exact hq2
  · obtain ⟨hx, hl, -, hps, ht⟩ := (leakEnded_claims s).settled hg
    obtain ⟨h1, h2⟩ := leakEnded_share s
    refine ⟨_, congrArg Host.Outcome.next (leakDry_eq hi hw hn), ?_, ?_, ?_, ?_, ?_, (leakEnded_claims s).settlesOnly hg h2,
      hps, ht⟩
    · rw [hx, h1]
    · rw [hx, h1]
      simp
    · unfold Queued
      rw [hl]
      exact queued_leakEnded hf hn
    · rw [hx, h1]
    · rw [hx, h1]
  · obtain ⟨o1, o2, o3, o4⟩ := leak_owed hf
    have hg : GenSettled s := .inr (.inl hf)
    rcases hc with ⟨rfl, hi, hw⟩ | ⟨rfl, hi, hw⟩
    · have hc := (leakTaken_claims s).notice .waterTrip s.startup.station
      obtain ⟨hx, hl, -, hps, ht⟩ := hc.settled hg
      obtain ⟨h1, h2, -, -, -, h6⟩ := leakTaken_share s
      obtain ⟨-, hu, -, -, -, hr, -⟩ := (leakTaken_claims s).blocks
      have hq := queued_notice (s := leakTaken s) (by simpa [unnumbered, hu] using hn) .waterTrip s.startup.station
      rw [hr] at hq
      have hnew : NoNewSafety s (notice .waterTrip s.startup.station (leakTaken s)) := o3.trans (noNewSafety_enqueue rfl _)
      rw [← (notice_frame .waterTrip s.startup.station (leakTaken s)).2.2.2.2.1, ← hx] at h1 h2 h6 o1
      refine ⟨_, congrArg Host.Outcome.next (leakWet_eq hi hw hn), h1, o1, ⟨fun _ => rfl, fun _ => h2⟩, ?_, fun _ => ?_, h6, hps, ht⟩
      · rw [hl]
        exact hnew
      · unfold Queued
        rw [hl]
        exact hq
    · obtain ⟨hx, hl, -, hps, ht⟩ := (leakEnded_claims s).settled hg
      obtain ⟨h1, -⟩ := leakEnded_share s
      refine ⟨_, congrArg Host.Outcome.next (leakDry_eq hi hw hn), ?_, ?_, ⟨fun h => ?_, fun h => ?_⟩, ?_, fun h => ?_, ?_, hps, ht⟩
      · rw [hx, h1]
        rfl
      · rw [hx]
        exact o2
      · rw [hx, h1] at h
        simp at h
      · exact absurd h (by decide)
      · rw [hl]
        exact o4
      · exact absurd h (by decide)
      · rw [hx, h1]

end Sys2Proof.Machine

/-!
Link states, silent neighbours and what recurs (R43, R48, R51 to R56).
-/
namespace Sys2Proof.Machine

variable {s t u : State}

/-! ### The shares beside the holds -/

/-- The shares but for the holds and the falls that bind a RAISE being sent. -/
def Share.beside (x : Share) : Share := { x with holds := PerPool.all 0, fell := PerPool.all false }

@[simp] theorem lowerHold_beside (p : Pool) (v : Nat) (s : State) : (lowerHold p v s).share.beside = s.share.beside := by
  rw [lowerHold_share]
  rfl

@[simp] theorem releaseWater_beside (p : Pool) (s : State) : (releaseWater p s).share.beside = s.share.beside := by
  unfold releaseWater
  split <;> simp

@[simp] theorem unwantInlet_beside (s : State) : (unwantInlet s).share.beside = s.share.beside := by
  unfold unwantInlet
  split <;> simp

@[simp] theorem unwantDrain_beside (s : State) : (unwantDrain s).share.beside = s.share.beside := by
  unfold unwantDrain
  split <;> simp

@[simp] theorem clearFill_beside (s : State) : (clearFill s).share.beside = s.share.beside := by
  simp [clearFill]

@[simp] theorem clearDrain_beside (s : State) : (clearDrain s).share.beside = s.share.beside := by
  simp [clearDrain]

@[simp] theorem endCookingFill_beside (s : State) : (endCookingFill s).share.beside = s.share.beside := by
  simp [endCookingFill, enterHeating]

@[simp] theorem enterFilling_beside (s : State) : (enterFilling s).share.beside = s.share.beside := by
  unfold enterFilling
  dsimp only
  split <;> simp

@[simp] theorem drainIfCool_beside (s : State) : (drainIfCool s).share.beside = s.share.beside := by
  unfold drainIfCool
  split <;> simp

@[simp] theorem endSteam_beside (s : State) : (endSteam s).share.beside = s.share.beside := by
  simp [endSteam]

/-- What the generator does at a change of the steam wanted moves holds alone. -/
@[simp] theorem judgeSteam_beside (s : State) : (judgeSteam s).share.beside = s.share.beside := by
  unfold judgeSteam
  (repeat' split) <;> simp

@[simp] theorem settle_beside (s : State) : (settle s).share.beside = s.share.beside := by
  simp [settle]

/-- Equal beside the holds: the fields one by one. -/
theorem Share.beside_fields {x y : Share} (h : x.beside = y.beside) :
    x.link = y.link ∧ x.lost = y.lost ∧ x.table = y.table ∧ x.tripSet = y.tripSet := by
  cases x
  cases y
  simp_all [Share.beside]

/-! ### Isolation and the lost line -/

/-- No RAISE of the pool waits. -/
def NoneAsked (p : Pool) (s : State) : Prop := ∀ e ∈ s.line.queue, e.sending = false → e.frame.isRaise p = false

theorem noneAsked_iff {p : Pool} : NoneAsked p s ↔ anyWaiting (TxFrame.isRaise p) s.line.queue = false := by
  simp [NoneAsked, anyWaiting]

theorem noneAsked_dropRaise (p : Pool) (s : State) : NoneAsked p (dropRaise p s) := fun e he hs => by
  have := (List.mem_filter.1 he).2
  simpa [hs] using this

theorem NoneAsked.dropRaise {p : Pool} (h : NoneAsked p s) (q : Pool) : NoneAsked p (dropRaise q s) :=
  fun e he hs => h e (List.mem_filter.1 he).1 hs

theorem NoneAsked.enqueue {p : Pool} {f : TxFrame} (h : NoneAsked p s) (hf : f.isRaise p = false) : NoneAsked p (enqueue f s) := by
  unfold Machine.enqueue
  split
  · exact h
  · intro e he hs
    rcases mem_enqueueQueue he with rfl | he
    · exact hf
    · exact h e he hs

theorem noneAsked_isolate (p : Pool) (s : State) : NoneAsked p (isolate s) := by
  refine NoneAsked.enqueue ?_ rfl
  cases p with
  | power => exact ((noneAsked_dropRaise .power _).dropRaise .inlet).dropRaise .drain
  | inlet => exact (noneAsked_dropRaise .inlet _).dropRaise .drain
  | drain => exact noneAsked_dropRaise .drain _

theorem perPool_ext {x y : PerPool Nat} (h : ∀ q, x.get q = y.get q) : x = y := by
  cases x
  cases y
  obtain ⟨h1, h2, h3⟩ := And.intro (h .power) (And.intro (h .inlet) (h .drain))
  simp_all [PerPool.get]

/-- R53: the shares of a station that becomes ISOLATED. -/
theorem isolate_share (s : State) : (isolate s).share = { s.share with
    link := .isolated, joinMs := none, isolatedMs := 0, lost := false
    holds := ⟨min s.share.holds.power s.share.floor, 0, 0⟩, fell := (isolate s).share.fell } := by
  have hx : (isolate s).share.beside
      = { s.share with link := .isolated, joinMs := none, isolatedMs := 0, lost := false }.beside := by
    simp [isolate]
  have hh : (isolate s).share.holds = ⟨min s.share.holds.power s.share.floor, 0, 0⟩ := by
    have hget : ∀ q, (isolate s).share.holds.get q
        = (PerPool.mk (min s.share.holds.power s.share.floor) 0 0).get q := fun q => by
      simp only [isolate, notice_frame, dropRaise_frame, lowerHold_holds]
      cases q <;> simp [PerPool.get]
    exact perPool_ext hget
  generalize (isolate s).share = x at hx hh ⊢
  cases x
  simp_all [Share.beside]

theorem queued_isolate (hn : unnumbered s = false) :
    Queued (.notice .lineIsolated (noticeTag s.recipe) s.recipe.cur 0) (isolate s) := by
  refine Eq.mp (congrArg (fun r : Recipe => Queued (.notice .lineIsolated (noticeTag r) r.cur 0) (isolate s)) ?_)
    (queued_notice (s := dropRaise _ _) ?_ .lineIsolated noDetail)
  · simp
  · simpa [unnumbered] using hn

theorem lineIsolated_eq (hl : s.share.link ≠ .isolated) (ho : s.share.sinceOwnMs.isSome = true) :
    lineIsolated s = settle (isolate s) := if_pos ⟨hl, ho⟩

/-- R54: what stands before a lost line settles, the fault of the program apart. -/
def lineGone (s : State) : State :=
  notice .lineLost noDetail (lowerHold .power 0 (s.setShare { s.share with
    lost := true, isolatedMs := max 60000 s.share.isolatedMs }))

theorem lineLost_eq (hl : s.share.link = .isolated) (ho : s.share.lost = false) :
    lineLost s = settle (faultProgram .lineLost (lineGone s)) := if_pos ⟨hl, ho⟩

theorem lineGone_claims (s : State) : Claims s (lineGone s) := by
  have h1 : Claims s (s.setShare { s.share with lost := true, isolatedMs := max 60000 s.share.isolatedMs }) :=
    (Claims.refl s).setShare rfl
  exact (h1.lowerHold _ _).notice _ _

theorem lineGone_tells (s : State) :
    Tells [.notice .lineLost (noticeTag s.recipe) s.recipe.cur 0] s (lineGone s) := by
  have h1 : Tells [] s (s.setShare { s.share with lost := true, isolatedMs := max 60000 s.share.isolatedMs }) :=
    (Tells.refl s).same rfl rfl rfl
  exact (h1.lowerHold).noticeOf (by simp) (by simp)

/-! ### The water raises -/

/-- R43: the raise conditions of a water pool hold. -/
def AsksWater (p : Pool) (s : State) : Prop :=
  waterWant s p = true ∧ s.share.holds.get p = 0 ∧ raisesAllowed s = true
    ∧ othersCharges s p < poolCapacity s.startup.supply p ∧ (p = .inlet → s.share.tripSet = [])
    ∧ anyWaiting (TxFrame.isLower p) s.line.queue = false ∧ raiseQueued p s = false

/-- R76: a RAISE enters where no LOWER of its pool waits. -/
theorem queued_raise {p : Pool} {group v : Nat} (hf : frozen s = true) (hn : unnumbered s = false)
    (hl : anyWaiting (TxFrame.isLower p) s.line.queue = false) :
    Queued (.raise p group v) (enqueueShare (.raise p group v) s) := by
  rw [enqueueShare_of_frozen hf, enqueue, if_neg (by simp [hn])]
  show (⟨.raise p group v, false⟩ : QEntry) ∈ (if anyWaiting (TxFrame.isLower p) s.line.queue = true then _ else _)
  rw [if_neg (by simp [hl])]
  exact mem_putFrame _ _ _

/-- R43: the pool that asks is asked for. -/
theorem AsksWater.queued {p : Pool} (h : AsksWater p s) (hf : frozen s = true) (hn : unnumbered s = false) :
    Queued (.raise p s.startup.supply.waterGroup 1) (evalWater p s) := by
  obtain ⟨h1, h2, h3, h4, h5, h6, h7⟩ := h
  have htrip : (decide (p ≠ .inlet) || s.share.tripSet.isEmpty) = true := by
    by_cases hp : p = .inlet
    · simp [h5 hp]
    · simp [hp]
  rw [evalWater, if_pos (by simp only [h1, h2, h3, h7, htrip, Bool.and_true, Bool.not_false, Bool.true_and,
    decide_true, decide_eq_true_eq]; omega)]
  exact queued_raise hf hn h6

theorem evalWater_queue {p : Pool} {e : QEntry} (he : e ∈ (evalWater p s).line.queue) :
    e = ⟨.raise p s.startup.supply.waterGroup 1, false⟩ ∨ e ∈ s.line.queue := by
  have hq : ∀ f, e ∈ (enqueueShare f s).line.queue → e = ⟨f, false⟩ ∨ e ∈ s.line.queue := fun f h => by
    unfold enqueueShare enqueue at h
    (repeat' split at h)
    · exact .inr h
    · exact mem_enqueueQueue h
    · exact .inr h
  unfold evalWater at he
  split at he
  · exact hq _ he
  · exact .inr he

/-- What is asked for INLET leaves the conditions of DRAIN. -/
theorem AsksWater.beside (h : AsksWater .drain s) : AsksWater .drain (evalWater .inlet s) := by
  obtain ⟨h1, h2, h3, h4, h5, h6, h7⟩ := h
  have hcharge : othersCharges (evalWater .inlet s) .drain = othersCharges s .drain :=
    othersCharges_congr (by simp) (by simp) (by simp) _
  refine ⟨by simpa [waterWant] using h1, by simpa using h2, ?_, by rw [hcharge]; simpa using h4, fun hp => absurd hp (by decide),
    ?_, ?_⟩
  · have hm : (evalWater .inlet s).line.malformed = s.line.malformed :=
      (congrArg Line.malformed ((Claims.refl s).evalWater .inlet).still :)
    simpa [raisesAllowed, suspended, hm, frozen] using h3
  · simp only [anyWaiting, List.any_eq_false] at h6 ⊢
    intro e he
    rcases evalWater_queue he with rfl | he
    · simp [TxFrame.isLower]
    · exact h6 e he
  · simp only [raiseQueued, List.any_eq_false] at h7 ⊢
    intro e he
    rcases evalWater_queue he with rfl | he
    · simp [TxFrame.isRaise]
    · exact h7 e he

theorem Queued.inlet_evalDrain {group : Nat} (hq : Queued (.raise .inlet group 1) s) :
    Queued (.raise .inlet group 1) (evalWater .drain s) := by
  unfold evalWater
  split
  · exact hq.enqueueShare rfl ⟨rfl, rfl⟩
  · exact hq

/-! ### The rows -/

theorem touches_share_line (hp : t.pending = s.pending) (hu : t.startup = s.startup) (hc : t.climate = s.climate)
    (hw : t.power = s.power) (hm : t.steam = s.steam) (hd : t.descale = s.descale) (hr : t.recipe = s.recipe)
    (hv : t.superv = s.superv) : OnlyTouches [.share, .line] s t := by
  refine ⟨hp, fun b hb => ?_⟩
  cases b with
  | share | line => exact absurd hb (by decide)
  | startup => exact hu
  | climate => exact hc
  | power => exact hw
  | steam => exact hm
  | descale => exact hd
  | recipe => exact hr
  | superv => exact hv

theorem entryExpired_eq {n : Nat} {e : Entry} (he : findEntry s.share.table n = some e) (hx : e.expired = false) :
    entryExpired n s = evalFor e (s.setShare { s.share with
      table := updateEntry n (fun e => { e with expired := true, heardMs := max 3500 e.heardMs }) s.share.table }) := by
  simp [entryExpired, he, hx]

theorem entryRemoved_eq {n : Nat} {e : Entry} (he : findEntry s.share.table n = some e) :
    entryRemoved n s = evalFor e (s.setShare { s.share with
      table := s.share.table.filter fun x => decide (x.station ≠ n) }) := by
  simp [entryRemoved, he]

theorem findEntry_filter_ne (n m : Nat) (l : List Entry) :
    findEntry (l.filter fun x => decide (x.station ≠ n)) m = if m = n then none else findEntry l m := by
  unfold findEntry
  rw [List.find?_filter]
  split
  next h => simp [h]
  next h =>
    refine congrArg (fun p => List.find? p l) (funext fun x => ?_)
    by_cases hx : x.station = m
    · simp [hx, h]
    · simp [hx]

/-- R54: the isolation that has lasted. -/
theorem lineLost_faults (hn : unnumbered s = false) (hq : s.line.queue = []) (hl : s.share.link = .isolated)
    (ho : s.share.lost = false) (t : State) (ht : t = lineLost s) :
    t.share.link = .isolated ∧ t.share.lost = true ∧ t.share.holds.power = 0
      ∧ Queued (.notice .lineLost (noticeTag s.recipe) s.recipe.cur 0) t
      ∧ (programActive s.recipe = true →
          t.recipe.state = .faulted ∧ t.recipe.cur = s.recipe.lastHeat ∧ t.recipe.stack = []
          ∧ t.recipe.store = s.recipe.store ∧ ClimateLeft s t
          ∧ Queued (.notice .programFault (noticeTag s.recipe) s.recipe.lastHeat 2) t)
      ∧ (programActive s.recipe = false → t.recipe.state = s.recipe.state ∧ t.climate = s.climate)
      ∧ OnlyTouches [.climate, .power, .share, .line, .steam, .descale, .recipe] s t := by
  rw [lineLost_eq hl ho] at ht
  obtain ⟨hp, hu, hcl, -, -, hr, hv⟩ := (lineGone_claims s).blocks
  have htell := ((lineGone_tells s).faultProgram (cause := .lineLost)).settle
  rw [← ht] at htell
  have hbeside : t.share.beside
      = { s.share with lost := true, isolatedMs := max 60000 s.share.isolatedMs }.beside := by
    simp [ht, lineGone]
  obtain ⟨x1, x2, -, -⟩ := Share.beside_fields hbeside
  have hzero : t.share.holds.power = 0 := by
    have hle := (Does.settle (Does.refl (A := []) (s := faultProgram .lineLost (lineGone s)))).holds_le (by simp) .power
    have h0 : (lineGone s).share.holds.get .power = 0 := by simp [lineGone, lowerHold_holds]
    rw [← ht, (faultProgram_frame _ _).2.2.1] at hle
    exact Nat.le_zero.1 (hle.trans_eq h0)
  have htold := htell.told hn hq (by unfold faultNotice; split <;> simp)
  have hrec := settle_recipe (faultProgram .lineLost (lineGone s))
  rw [← ht] at hrec
  have hclim : t.climate = (faultProgram .lineLost (lineGone s)).climate := by simp [ht]
  refine ⟨x1.trans hl, x2, hzero, htold.queued (by simp), fun ha => ?_, fun ha => ?_, ?_⟩
  · have ha' : programActive (lineGone s).recipe = true := by rw [hr]; exact ha
    have hleft : ClimateLeft s t := by
      have := climateLeft_leaveClimate ((lineGone s).setRecipe { (lineGone s).recipe with
        state := .faulted, cur := (lineGone s).recipe.lastHeat, stack := [], prompt := 0 })
      unfold ClimateLeft at *
      rw [hclim, faultProgram, if_pos ha']
      simpa [hcl] using this
    refine ⟨?_, ?_, ?_, ?_, hleft, htold.queued ?_⟩
    · rw [hrec, faultProgram, if_pos ha']; simp
    · rw [hrec, faultProgram, if_pos ha']; simp [hr]
    · rw [hrec, faultProgram, if_pos ha']; simp
    · rw [hrec, faultProgram, if_pos ha']; simp [hr]
    · simp [faultNotice, hr, ProgramFault.code, ha]
  · have ha' : ¬ programActive (lineGone s).recipe = true := by rw [hr]; simp [ha]
    rw [hrec, hclim, faultProgram, if_neg ha', hr, hcl]
    exact ⟨rfl, rfl⟩
  · refine ⟨by rw [ht, ← lineLost_eq hl ho]; simp, fun b hb => ?_⟩
    cases b with
    | startup => rw [ht, ← lineLost_eq hl ho]; exact (lineLost_frame s).2.1
    | superv => rw [ht, ← lineLost_eq hl ho]; exact (lineLost_frame s).2.2
    | climate | power | share | line | steam | descale | recipe => exact absurd hb (by decide)

/-- Settles O46: isolation, the lost line, the windows, silent neighbours, and what recurs. -/
theorem linkStateSilenceAndPeriods : Obligations.LinkStateSilenceAndPeriods := by
  refine ⟨fun s hn hg hl ho => ?_, fun s hn hq hl ho => ?_, fun s hl hj => ?_, fun s => ⟨_, rfl, rfl, rfl, fun b hb => ?_⟩,
    fun s n e he hx => ?_, fun s n e he => ?_, fun s p hn hf hl hm hc hre hp hw h0 hch htr hlow hra => ?_, fun s hn hf => ?_⟩
  · obtain ⟨hx, hline, -, hps, htouch⟩ := (Claims.refl s).isolate.settled hg
    have hs := isolate_share s
    rw [← hx] at hs
    refine ⟨_, congrArg Host.Outcome.next (lineIsolated_eq hl ho), ?_, ?_, ?_, ?_, ?_, fun p => ?_, ?_, ?_, ?_, hps, htouch⟩
    · rw [hs]
    · rw [hs]
    · rw [hs]
    · rw [hs]
    · rw [hs]
    · rw [hline]
      exact noneAsked_iff.1 (noneAsked_isolate p s)
    · unfold Queued
      rw [hline]
      exact queued_isolate hn
    · rw [hs]
    · rw [hs]
  · exact ⟨_, rfl, lineLost_faults hn hq hl ho _ rfl⟩
  · have heq : joinWindowEnd s = evalWater .drain (evalWater .inlet
        (s.setShare { s.share with link := .member, joinMs := none })) := if_pos ⟨hl, hj⟩
    refine ⟨_, congrArg Host.Outcome.next heq, by simp, touches_share_line ?_ ?_ ?_ ?_ ?_ ?_ ?_ ?_⟩ <;> simp
  · cases b with
    | share => exact absurd hb (by decide)
    | startup | climate | power | line | steam | descale | recipe | superv => rfl
  · have hfind := fun m => findEntry_updateEntry (f := fun e => { e with expired := true, heardMs := max 3500 e.heardMs })
      (fun _ => rfl) n.toNat m s.share.table
    refine ⟨_, congrArg Host.Outcome.next (entryExpired_eq he hx), ?_, fun m _ hmn => ?_, ?_, touches_share_line ?_ ?_ ?_ ?_ ?_ ?_ ?_ ?_⟩
    · simp [hfind, he]
    · simp [hfind, hmn]
    all_goals simp
  · refine ⟨_, congrArg Host.Outcome.next (entryRemoved_eq he), ?_, fun m _ hmn => ?_, ?_,
      touches_share_line ?_ ?_ ?_ ?_ ?_ ?_ ?_ ?_⟩
    · simp only [evalFor_frame, State.setShare_share, findEntry_filter_ne, if_pos]
    · simp only [evalFor_frame, State.setShare_share, findEntry_filter_ne, if_neg hmn]
    all_goals simp
  · have hasks : AsksWater p (s.setShare { s.share with retryMs := 0 }) :=
      ⟨by cases p <;> exact hw, h0,
        by simpa [raisesAllowed, hl, suspended, hc, hre, frozen] using And.intro hm (of_decide_eq_true hf),
        (othersCharges_congr (t := s) rfl rfl rfl p).trans_lt hch, htr, hlow, hra⟩
    refine ⟨_, congrArg Host.Outcome.next rfl, ?_, by simp [waterRaiseRetry], touches_share_line ?_ ?_ ?_ ?_ ?_ ?_ ?_ ?_⟩
    · cases p with
      | power => exact absurd rfl hp
      | inlet => exact (hasks.queued hf hn).inlet_evalDrain
      | drain =>
        have := hasks.beside.queued (by simpa [frozen] using hf) (by simpa [unnumbered] using hn)
        simpa [waterRaiseRetry] using this
    all_goals simp [waterRaiseRetry]
  · have heq : statusPeriod s = queueStatus s := if_pos hf
    refine ⟨_, congrArg Host.Outcome.next heq, queued_queueStatus hf hn, by simp [queueStatus],
      touches_share_line ?_ ?_ ?_ ?_ ?_ ?_ ?_ ?_⟩ <;> simp

end Sys2Proof.Machine

/-!
Levels that start and end fills (R79, R83, R85 to R87, R89, R90).
-/
namespace Sys2Proof.Machine

variable {s t u : State}

/-! ### What no fill, drain or state of the generator changes -/

/-- The level readings, the scale count and the service record. -/
def Steam.stock (x : Steam) : PerElectrode Bool × Nat × Nat × Bool × ServiceRecord × Option ServiceRecord × Bool :=
  (x.levels, x.scale, x.sub, x.acid, x.record, x.writing, x.writeAgain)

@[simp] theorem clearFill_stock (s : State) : (clearFill s).steam.stock = s.steam.stock := by simp [clearFill, Steam.stock]

@[simp] theorem clearRequest_stock (s : State) : (clearRequest s).steam.stock = s.steam.stock := by simp [Steam.stock]

@[simp] theorem beginFill_stock (kind : FillKind) (budget : Nat) (s : State) :
    (beginFill kind budget s).steam.stock = s.steam.stock := by simp [beginFill, Steam.stock]

@[simp] theorem giveRequest_stock (r : ServiceRequest) (s : State) :
    (giveRequest r s).steam.stock = s.steam.stock := by
  cases r <;> simp [giveRequest, beginFill, beginDrain, Steam.stock]

@[simp] theorem enterSoakHeat_stock (s : State) : (enterSoakHeat s).steam.stock = s.steam.stock := by
  simp [enterSoakHeat, enterPhase, Steam.stock]

@[simp] theorem enterRinseHeat_stock (k : Nat) (s : State) : (enterRinseHeat k s).steam.stock = s.steam.stock := by
  simp [enterRinseHeat, enterPhase, Steam.stock]

@[simp] theorem fillDone_stock (s : State) : (fillDone s).steam.stock = s.steam.stock := by
  unfold fillDone
  dsimp only
  split <;> simp <;> rfl

@[simp] theorem endCookingFill_stock (s : State) : (endCookingFill s).steam.stock = s.steam.stock := by
  simp [endCookingFill, enterHeating, clearFill, Steam.stock]

@[simp] theorem endFillWell_stock (s : State) : (endFillWell s).steam.stock = s.steam.stock := by
  unfold endFillWell
  (repeat' split) <;> simp

@[simp] theorem topUpIfNone_stock (s : State) : (topUpIfNone s).steam.stock = s.steam.stock := by
  unfold topUpIfNone beginTopUp
  dsimp only
  (repeat' split) <;> simp

@[simp] theorem enterFilling_stock (s : State) : (enterFilling s).steam.stock = s.steam.stock := by
  rw [enterFilling_steam]
  split <;> rfl

@[simp] theorem endSteam_stock (s : State) : (endSteam s).steam.stock = s.steam.stock := by
  rw [endSteam_steam]
  split <;> rfl

@[simp] theorem judgeSteam_stock (s : State) : (judgeSteam s).steam.stock = s.steam.stock := by
  unfold judgeSteam
  (repeat' split) <;> simp [enterHeating]
  rfl

@[simp] theorem settle_stock (s : State) : (settle s).steam.stock = s.steam.stock := by
  obtain ⟨-, -, ho, -, -⟩ := settle_after s
  unfold OutputsOnly at ho
  rw [ho]
  exact judgeSteam_stock s

theorem Steam.stock_fields {x y : Steam} (h : x.stock = y.stock) :
    x.levels = y.levels ∧ x.scale = y.scale ∧ x.sub = y.sub ∧ x.acid = y.acid := by
  simp_all [Steam.stock]

/-! ### The hold of the INLET unit -/

/-- R43: a want withdrawn gives the INLET hold up, and no other. -/
theorem clearFill_holds (p : Pool) (s : State) : (clearFill s).share.holds.get p
    = if p = .inlet ∧ s.steam.inletWant = true then 0 else s.share.holds.get p := by
  unfold clearFill unwantInlet releaseWater
  by_cases hw : s.steam.inletWant = true
  · rw [if_pos (by exact hw)]
    split
    · rw [lowerHold_holds]
      by_cases hp : p = .inlet <;> simp [hp, hw]
    next h0 =>
      by_cases hp : p = .inlet
      · subst hp
        simpa [hw] using h0
      · simp [hp]
  · rw [if_neg (by exact hw)]
    simp [hw]

/-! ### A generator that makes steam, or is about to -/

/-- FILLING, HEATING and READY. -/
def MakesSteam (s : State) : Prop := s.steam.gen = .filling ∨ s.steam.gen = .heating ∨ s.steam.gen = .ready

theorem GenSettled.wanted (hg : GenSettled s) (hf : frozen s = true) (hr : s.startup.restarting = false)
    (hm : MakesSteam s) : steamWanted s = true := by
  unfold MakesSteam at hm
  rcases hg with h | h | ⟨h, -⟩ | ⟨-, h⟩ | ⟨h, -⟩ | h | h | h
  · simp [hr] at h
  · simp [hf] at h
  · simp [h] at hm
  · exact h
  all_goals simp [h] at hm

/-- A state that differs from `s` in shares, line, generator, descale and scheduler alone. -/
def SteamAside (s u : State) : Prop :=
  u.pending = s.pending ∧ u.startup = s.startup ∧ u.climate = s.climate ∧ u.recipe = s.recipe ∧ u.superv = s.superv

/-- A generator that still makes steam is not moved by R82. -/
theorem judgeSteam_of_wanted (hw : steamWanted s = true) (ha : SteamAside s u) (hst : u.steam.scale = s.steam.scale)
    (hac : u.steam.acid = s.steam.acid) (hm : MakesSteam u) : judgeSteam u = u := by
  obtain ⟨-, hu, -, hr, -⟩ := ha
  refine judgeSteam_of_settled (.inr (.inr (.inr (.inl ⟨hm, ?_⟩))))
  rw [← hw]
  exact steamWanted_congr (by rw [hr]) (fun _ => by rw [hr]; exact ⟨rfl, rfl⟩) hst hac (by rw [hu])

/-- What settles behind it. -/
theorem makesSteam_settles (hj : judgeSteam u = u) (ha : SteamAside s u) :
    (settle u).share = u.share ∧ OutputsOnly u (settle u) ∧ ProgramStands s (settle u)
      ∧ OnlyTouches [.power, .share, .line, .steam, .descale, .recipe] s (settle u) := by
  obtain ⟨hp, hu, hc, hr, hv⟩ := ha
  obtain ⟨-, hx, hs, hps⟩ := settle_of_fixed hj
  refine ⟨hx, hs.1, programStands_of hps hr, by simpa using hp, fun b hb => ?_⟩
  cases b with
  | startup => simpa [Block.same] using hu
  | climate => simpa [Block.same] using hc
  | superv => simpa [Block.same] using hv
  | power | share | line | steam | descale | recipe => exact absurd hb (by decide)

/-- A fill that has ended requests no valve, and its output is off (R83, R25). -/
theorem settle_no_fill (h : (settle s).steam.fill = none) :
    (settle s).steam.fillReq = false ∧ (settle s).power.base.fill = false := by
  have hreq : (settle s).steam.fillReq = false := by
    rw [((steamOutputs_iff _).1 (settle_steamOutputs s)).2.2.1]
    simp [valveRequest, h]
  exact ⟨hreq, settle_base_off .fill (by simp [baseRequests, PerActuator.get, hreq])⟩

/-! ### A reading that changes -/

/-- The state with the reading that the electrode shows (R79). -/
def levelShown (e : Electrode) (s : State) : State := s.setSteam { s.steam with
  levels := s.steam.levels.set (s.steam.levelInputs.get e) e, levelMs := s.steam.levelMs.set 0 e }

theorem levelReadingChange_eq {e : Electrode} (h : s.steam.levelInputs.get e ≠ s.steam.levels.get e) :
    levelReadingChange e s = settle (actOnLevel e (s.steam.levelInputs.get e) (levelShown e s)) := by
  rw [levelReadingChange, if_neg h]
  rfl

theorem actOnLevel_stock (e : Electrode) (wet : Bool) (s : State) : (actOnLevel e wet s).steam.stock = s.steam.stock := by
  have hlock : ∀ b, (s.setSteam { s.steam with lock := b }).steam.stock = s.steam.stock := fun _ => rfl
  cases e <;> cases wet
  case low.false =>
    show (lockLowWater s).steam.stock = _
    unfold lockLowWater
    split
    · rw [topUpIfNone_stock, hlock]
    · rfl
  case low.true => rfl
  case work.false => exact topUpIfNone_stock s
  case work.true => exact (endFillWell_stock _).trans (hlock _)
  case high.false => rfl
  case high.true =>
    show (highWet s).steam.stock = _
    unfold highWet
    split <;> simp

/-- R79: levels, scale and record behind a reading that changes. -/
theorem levelReadingChange_stock (e : Electrode) (s : State) :
    (levelReadingChange e s).steam.stock = (levelShown e s).steam.stock := by
  by_cases h : s.steam.levelInputs.get e = s.steam.levels.get e
  · have hset : s.steam.levels.set (s.steam.levels.get e) e = s.steam.levels := by
      cases e <;> rfl
    rw [levelReadingChange, if_pos h]
    simp [levelShown, Steam.stock, h, hset]
  · rw [levelReadingChange_eq h, settle_stock, actOnLevel_stock]

/-- What a reading that changes leaves, where the generator makes steam before and behind it. -/
structure LevelActed (u t : State) (s : State) : Prop where
  share   : t.share = u.share
  outputs : OutputsOnly u t
  formed  : SteamOutputs t
  closed  : t.steam.fill = none → t.steam.fillReq = false ∧ t.power.base.fill = false
  alike   : t.steam.scale = s.steam.scale ∧ t.steam.acid = s.steam.acid
  wanted  : steamWanted s = true
  program : ProgramStands s t
  touches : OnlyTouches [.power, .share, .line, .steam, .descale, .recipe] s t

theorem levelActed {e : Electrode} {wet : Bool} (hg : GenSettled s) (hf : frozen s = true)
    (hr : s.startup.restarting = false) (hm : MakesSteam s) (hwet : s.steam.levelInputs.get e = wet)
    (hne : s.steam.levels.get e ≠ wet) (hu : u = actOnLevel e wet (levelShown e s)) (hmu : MakesSteam u) :
    LevelActed u (levelReadingChange e s) s := by
  subst hwet
  have heq := levelReadingChange_eq (Ne.symm hne)
  rw [← hu] at heq
  have ha : SteamAside s u := by subst hu; simp [SteamAside, levelShown]
  obtain ⟨-, hsc, -, hac⟩ := Steam.stock_fields (x := u.steam) (y := (levelShown e s).steam) (by rw [hu, actOnLevel_stock])
  have hj := judgeSteam_of_wanted (hg.wanted hf hr hm) ha hsc hac hmu
  obtain ⟨h1, h2, h3, h4⟩ := makesSteam_settles hj ha
  rw [← heq] at h1 h2 h3 h4
  have ho := h2
  unfold OutputsOnly at ho
  exact ⟨h1, h2, by rw [heq]; exact settle_steamOutputs u, by rw [heq]; exact settle_no_fill,
    ⟨(congrArg Steam.scale ho :).trans hsc, (congrArg Steam.acid ho :).trans hac⟩, hg.wanted hf hr hm, h3, h4⟩

/-- The generator's own fields behind it. -/
theorem LevelActed.fields (h : LevelActed u t s) :
    t.steam.gen = u.steam.gen ∧ t.steam.lock = u.steam.lock ∧ t.steam.fill = u.steam.fill
      ∧ t.steam.inletWant = u.steam.inletWant ∧ t.startup = s.startup ∧ t.climate = s.climate ∧ t.superv = s.superv := by
  have ho := h.outputs
  unfold OutputsOnly at ho
  exact ⟨(congrArg Steam.gen ho :), (congrArg Steam.lock ho :), (congrArg Steam.fill ho :),
    (congrArg Steam.inletWant ho :), h.touches.2 .startup (by decide), h.touches.2 .climate (by decide), h.touches.2 .superv (by decide)⟩

/-- R89: the top-up that begins, and the one in progress. -/
theorem topUpIfNone_cases (hs : steaming s = true) :
    (∀ f ∈ s.steam.fill, topUpIfNone s = s)
      ∧ (s.steam.fill = none → workOrHigh s = false →
          (topUpIfNone s).steam = { s.steam with fill := some ⟨.topUp, 750, 0, false⟩, inletWant := true }
          ∧ (topUpIfNone s).share = s.share)
      ∧ (s.steam.fill = none → workOrHigh s = true →
          (topUpIfNone s).steam = { s.steam with fill := none, inletWant := false })
      ∧ (∀ p, p ≠ .inlet → (topUpIfNone s).share.holds.get p = s.share.holds.get p) := by
  have hw : workOrHigh (beginFill .topUp cookingBudget s) = workOrHigh s := by simp [workOrHigh, beginFill]
  have heq : s.steam.fill = none → topUpIfNone s = if workOrHigh s then clearFill (beginFill .topUp cookingBudget s)
      else beginFill .topUp cookingBudget s := fun h0 => by
    simp only [topUpIfNone, beginTopUp, hs, h0, hw, Option.isNone_none, Bool.and_self, if_true]
  refine ⟨fun f hf => ?_, fun h0 hwh => ?_, fun h0 hwh => ?_, fun p hp => ?_⟩
  · have hf' : s.steam.fill = some f := hf
    simp [topUpIfNone, hf']
  · rw [heq h0, if_neg (by simp [hwh])]
    simp [beginFill, cookingBudget]
  · rw [heq h0, if_pos hwh]
    simp [beginFill, clearFill]
  · unfold topUpIfNone beginTopUp
    dsimp only
    (repeat' split)
    · rw [clearFill_holds, if_neg (fun h => hp h.1), (beginFill_frame _ _ _).2.2.2.2.1]
    · rw [(beginFill_frame _ _ _).2.2.2.2.1]
    · rfl

/-- The top-up leaves the generator's state and lock. -/
theorem topUpIfNone_gen (s : State) :
    (topUpIfNone s).steam.gen = s.steam.gen ∧ (topUpIfNone s).steam.lock = s.steam.lock := by
  unfold topUpIfNone beginTopUp
  dsimp only
  (repeat' split) <;> simp [beginFill, clearFill]

/-! ### The fill that ends well -/

/-- R85, R89: a cooking fill that ends well leads to HEATING; a top-up leaves state and lock. Either gives the INLET unit
back. -/
theorem endFillWell_cases {f : Fill} (hf : s.steam.fill = some f) (hk : f.kind ≠ .service) :
    (endFillWell s).steam = { s.steam with
        fill := none, inletWant := false
        gen := if f.kind = .cooking then .heating else s.steam.gen
        lock := if f.kind = .cooking then false else s.steam.lock }
      ∧ (∀ p, (endFillWell s).share.holds.get p
          = if p = .inlet ∧ s.steam.inletWant = true then 0 else s.share.holds.get p) := by
  cases hkind : f.kind with
  | cooking =>
    have he : endFillWell s = endCookingFill s := by simp [endFillWell, hf, hkind]
    refine ⟨by simp [he, endCookingFill, enterHeating, clearFill], fun p => ?_⟩
    rw [he]
    exact clearFill_holds p s
  | topUp =>
    have he : endFillWell s = clearFill s := by simp [endFillWell, hf, hkind]
    exact ⟨by simp [he, clearFill], fun p => by rw [he]; exact clearFill_holds p s⟩
  | service => exact absurd hkind hk

/-- The state in which WORK reads WET and the low-water lock has ended (R90). -/
def workWet (s : State) : State := (levelShown .work s).setSteam { (levelShown .work s).steam with lock := false }

/-- R85, R90: WORK becomes WET while the generator heats or is ready, with no fill or a top-up in progress. -/
theorem work_wets (hg : GenSettled s) (hf : frozen s = true) (hr : s.startup.restarting = false)
    (hm : s.steam.gen = .heating ∨ s.steam.gen = .ready) (hwork : s.steam.levels.work = false)
    (hin : s.steam.levelInputs.work = true) (htop : ∀ f ∈ s.steam.fill, f.kind = .topUp) (t : State)
    (heq : t = levelReadingChange .work s) :
    t.steam.gen = s.steam.gen ∧ t.steam.lock = false ∧ t.steam.fill = none ∧ t.steam.fillReq = false
      ∧ (s.steam.fill = none → t.share = s.share)
      ∧ (s.steam.fill.isSome = true → t.steam.inletWant = false
          ∧ (s.steam.inletWant = true → t.share.holds.inlet = 0))
      ∧ (s.steam.gen = .heating → reading s .boil ≠ none →
          t.steam.boilerDemand = (if levelNow s = .derate then 15 else 20))
      ∧ t.steam.gate = decide (s.steam.gen = .ready ∧ 0 < s.climate.steamDemand)
      ∧ t.share.holds.power = s.share.holds.power ∧ t.share.holds.drain = s.share.holds.drain
      ∧ ProgramStands s t ∧ OnlyTouches [.power, .share, .line, .steam, .descale, .recipe] s t := by
  have hends : (endFillWell (workWet s)).steam.gen = s.steam.gen ∧ (endFillWell (workWet s)).steam.lock = false
      ∧ (endFillWell (workWet s)).steam.fill = none ∧ (s.steam.fill = none → (endFillWell (workWet s)).share = s.share)
      ∧ (s.steam.fill.isSome = true → (endFillWell (workWet s)).steam.inletWant = false
          ∧ (s.steam.inletWant = true → (endFillWell (workWet s)).share.holds.inlet = 0))
      ∧ (endFillWell (workWet s)).share.holds.power = s.share.holds.power
      ∧ (endFillWell (workWet s)).share.holds.drain = s.share.holds.drain := by
    cases hfill : s.steam.fill with
    | none =>
      have he : endFillWell (workWet s) = workWet s := by simp [endFillWell, workWet, levelShown, hfill]
      rw [he]
      exact ⟨rfl, rfl, hfill, fun _ => rfl, fun h => absurd h (by simp), rfl, rfl⟩
    | some f =>
      have hk := htop f hfill
      obtain ⟨hst, hh⟩ := endFillWell_cases (s := workWet s) (f := f) hfill (by simp [hk])
      rw [hst, if_neg (by simp [hk]), if_neg (by simp [hk])]
      exact ⟨rfl, rfl, rfl, fun h => absurd h (by simp), fun _ => ⟨rfl, fun hw => (hh .inlet).trans (if_pos ⟨rfl, hw⟩)⟩,
        hh .power, hh .drain⟩
  obtain ⟨e1, e2, e3, e4, e5, e6, e7⟩ := hends
  have ht := levelActed (e := .work) (wet := true) (u := endFillWell (workWet s)) hg hf hr (.inr hm) hin
    (by simp [show s.steam.levels.get .work = false from hwork]) rfl (by rw [MakesSteam, e1]; exact .inr hm)
  rw [← heq] at ht
  obtain ⟨f1, f2, f3, f4, hu, hcl, hsv⟩ := ht.fields
  obtain ⟨hsc, hac⟩ := ht.alike
  have hlevel : levelNow t = levelNow s := by simp [levelNow, hsc, hu]
  have hblock : levelNow s ≠ .block := by
    have := ht.wanted
    simp only [steamWanted, Bool.and_eq_true, decide_eq_true_eq] at this
    exact this.1.2
  have hacid : t.steam.acid = false := by
    have := ht.wanted
    simp only [steamWanted, Bool.and_eq_true, Bool.not_eq_true'] at this
    exact hac.trans this.2
  have hgen := f1.trans e1
  have hlock := f2.trans e2
  have hfrozen : frozen t = true := by simpa [frozen, hu] using hf
  obtain ⟨o1, o2, -⟩ := (steamOutputs_iff _).1 ht.formed
  refine ⟨hgen, hlock, f3.trans e3, (ht.closed (f3.trans e3)).1, fun h => ht.share.trans (e4 h),
    fun h => ⟨f4.trans (e5 h).1, fun hw => ?_⟩, fun hh hb => ?_, ?_, ?_, ?_, ht.program, ht.touches⟩
  · rw [ht.share]
    exact (e5 h).2 hw
  · have hraw : boilerRaw t = 20 := by simp [boilerRaw, hgen, hh]
    have hread : (reading t .boil).isNone = false := by
      simpa [reading, hsv, Option.isSome_iff_ne_none] using hb
    rw [o2, boilerTarget, hu, hr, hfrozen, hlock, hread, hlevel, hraw]
    simp [hblock]
  · have hnone : withheldReason t = .none := by
      rcases hm with h | h <;> simp [withheldReason, hacid, hgen, h, hlevel, hblock, hlock]
    rw [o1, gateOpen, servedDemand, if_pos hnone, hgen, hcl, hu, hr]
    simp
  · rw [ht.share]
    exact e6
  · rw [ht.share]
    exact e7

/-- Settles O52: the effect of each electrode, and what settles behind it. -/
theorem levelsStartAndEndFills : Obligations.LevelsStartAndEndFills := by
  refine ⟨fun s e wet => ⟨_, rfl, rfl, rfl, fun b hb => ?_⟩, fun s e => ⟨_, rfl, ?_⟩, fun s hg hf hr hm hlow hin => ⟨_, rfl, ?_⟩,
    fun s f hg hf hr hm hfill hk hwork hin => ⟨_, rfl, ?_⟩, fun s hg hf hr hm hwork hin => ⟨_, rfl, ?_⟩,
    fun s hg hf hr hm hwork hin htop => ⟨_, rfl, ?_⟩, fun s f hg hf hr hfill hhigh hin hm => ⟨_, rfl, ?_⟩⟩
  · cases b with
    | steam => exact absurd hb (by decide)
    | startup | climate | power | share | line | descale | recipe | superv => rfl
  · obtain ⟨h1, h2, h3, h4⟩ := Steam.stock_fields (levelReadingChange_stock e s)
    obtain ⟨p1, p2, p3, p4⟩ := levelReadingChange_frame e s
    exact ⟨h1, fun h => if_pos h, h2, h3, h4, p2, p3, p4, p1⟩
  · have hst : steaming ((levelShown .low s).setSteam { (levelShown .low s).steam with lock := true }) = true := by
      rcases hm with h | h <;> simp [steaming, levelShown, h, hr]
    have hst' : steaming (levelShown .low s) = true := hst
    have hu : actOnLevel .low false (levelShown .low s)
        = topUpIfNone ((levelShown .low s).setSteam { (levelShown .low s).steam with lock := true }) := if_pos hst'
    obtain ⟨hkeep, hbegin, -, hholds⟩ := topUpIfNone_cases hst
    obtain ⟨hgen, hlock⟩ := topUpIfNone_gen ((levelShown .low s).setSteam { (levelShown .low s).steam with lock := true })
    have ht := levelActed (e := .low) (wet := false) (u := topUpIfNone ((levelShown .low s).setSteam { (levelShown .low s).steam with lock := true }))
      hg hf hr (.inr hm) hin (by rw [show s.steam.levels.get .low = true from hlow]; simp) hu.symm (by
        unfold MakesSteam
        rw [hgen]
        exact .inr hm)
    obtain ⟨f1, f2, f3, f4, -⟩ := ht.fields
    have hl : (levelReadingChange .low s).steam.lock = true := f2.trans hlock
    refine ⟨hl, ?_, f1.trans hgen, fun h0 hw hh => ?_, fun f hf => ?_, ?_, ?_, ht.program, ht.touches⟩
    · rw [((steamOutputs_iff _).1 ht.formed).2.1]
      simp [boilerTarget, hl]
    · obtain ⟨b1, b2⟩ := hbegin h0 (by simp [workOrHigh, levelShown, PerElectrode.set, hw, hh])
      rw [f3, f4, ht.share, b1, b2]
      exact ⟨rfl, rfl, rfl⟩
    · rw [f3, ht.share, hkeep f hf]
      exact ⟨hf, rfl⟩
    · rw [ht.share]
      exact hholds .power (by simp)
    · rw [ht.share]
      exact hholds .drain (by simp)
  · obtain ⟨hst, hh⟩ := endFillWell_cases (s := workWet s) (f := f) hfill (by simp [hk])
    have ht := levelActed (e := .work) (wet := true) (u := endFillWell (workWet s)) hg hf hr (.inl hm) hin
      (by rw [show s.steam.levels.get .work = false from hwork]; simp) rfl
      (by rw [MakesSteam, hst]; exact .inr (.inl (if_pos hk)))
    obtain ⟨f1, f2, f3, f4, -⟩ := ht.fields
    rw [hst] at f1 f2 f3 f4
    obtain ⟨g1, g2⟩ := ht.closed f3
    refine ⟨f1.trans (if_pos hk), f3, f2.trans (if_pos hk), g1, g2, f4, fun hw => ?_, ?_, ?_, ht.program, ht.touches⟩
    · rw [ht.share]
      exact (hh .inlet).trans (if_pos ⟨rfl, hw⟩)
    · rw [ht.share]
      exact hh .power
    · rw [ht.share]
      exact hh .drain
  · have hst : steaming (levelShown .work s) = true := by
      rcases hm with h | h <;> simp [steaming, levelShown, h, hr]
    obtain ⟨hkeep, hbegin, hfull, hholds⟩ := topUpIfNone_cases hst
    obtain ⟨hgen, hlock⟩ := topUpIfNone_gen (levelShown .work s)
    have hwork' : s.steam.levels.get .work = true := hwork
    have hin' : s.steam.levelInputs.work = false := hin
    have ht := levelActed (e := .work) (wet := false) (u := topUpIfNone (levelShown .work s))
      hg hf hr (.inr hm) hin (by simp [hwork']) rfl (by
        unfold MakesSteam
        rw [hgen]
        exact .inr hm)
    obtain ⟨f1, f2, f3, f4, -⟩ := ht.fields
    have hwet : workOrHigh (levelShown .work s) = s.steam.levels.high := by
      simp [workOrHigh, levelShown, PerElectrode.set, PerElectrode.get, hin']
    refine ⟨f1.trans hgen, f2.trans hlock, fun h0 hh => ?_, fun h0 hh => ?_, fun f hf => ?_, ?_, ?_, ht.program, ht.touches⟩
    · obtain ⟨b1, b2⟩ := hbegin h0 (hwet.trans hh)
      rw [f3, f4, ht.share, b1, b2]
      exact ⟨rfl, rfl, rfl⟩
    · rw [f3, f4, hfull h0 (hwet.trans hh)]
      exact ⟨rfl, rfl⟩
    · rw [f3, ht.share, hkeep f hf]
      exact ⟨hf, rfl⟩
    · rw [ht.share]
      exact hholds .power (by simp)
    · rw [ht.share]
      exact hholds .drain (by simp)
  · exact work_wets hg hf hr hm hwork hin htop _ rfl
  · have hk : f.kind ≠ .service := by rcases hm with ⟨-, h⟩ | ⟨-, h⟩ <;> simp [h]
    have hu : actOnLevel .high true (levelShown .high s) = endFillWell (levelShown .high s) := by
      show highWet _ = _
      rw [highWet, if_neg (by simp [levelShown, hfill, hk])]
    obtain ⟨hst, hh⟩ := endFillWell_cases (s := levelShown .high s) (f := f) hfill hk
    have hms : MakesSteam s := by rcases hm with ⟨h, -⟩ | ⟨h, -⟩ <;> simp [MakesSteam, h]
    have hkind : f.kind = .cooking ↔ s.steam.gen = .filling := by
      rcases hm with ⟨h, h'⟩ | ⟨h | h, h'⟩ <;> simp [h, h']
    have ht := levelActed (e := .high) (wet := true) (u := endFillWell (levelShown .high s)) hg hf hr hms hin
      (by simp [show s.steam.levels.get .high = false from hhigh]) hu.symm (by
        rw [MakesSteam, hst]
        rcases hm with ⟨-, h'⟩ | ⟨h, h'⟩
        · exact .inr (.inl (if_pos h'))
        · exact .inr (by simpa [h', levelShown] using h))
    obtain ⟨f1, f2, f3, f4, -⟩ := ht.fields
    rw [hst] at f1 f2 f3 f4
    obtain ⟨g1, g2⟩ := ht.closed f3
    simp only [hkind] at f1 f2
    refine ⟨f1, f2, f3, g1, g2, f4, fun hw => ?_, ?_, ?_, ht.program, ht.touches⟩
    · rw [ht.share]
      exact (hh .inlet).trans (if_pos ⟨rfl, hw⟩)
    · rw [ht.share]
      exact hh .power
    · rw [ht.share]
      exact hh .drain

end Sys2Proof.Machine

/-!
Limits of fills, drains and cooling (R85, R89, R91 to R95, R112).
-/
namespace Sys2Proof.Machine

variable {s t u : State}

/-! ### The generator in FAULT -/

@[simp] theorem enterFault_steam (kind : FaultKind) (s : State) : (enterFault kind s).steam = { s.steam with
    fill := none, drain := none, inletWant := false, drainWant := false, gen := .fault, faultKind := some kind
    lock := false } := by
  simp [enterFault, clearFill, clearDrain]

/-- A drain that has ended requests no pump, and its output is off (R92, R25). -/
theorem settle_no_drain (h : (settle s).steam.drain = none) :
    (settle s).steam.pumpReq = false ∧ (settle s).power.base.pump = false := by
  have hreq : (settle s).steam.pumpReq = false := by
    rw [((steamOutputs_iff _).1 (settle_steamOutputs s)).2.2.2]
    simp [pumpRequest, h]
  exact ⟨hreq, settle_base_off .pump (by simp [baseRequests, PerActuator.get, hreq])⟩

/-- R93: what a generator that enters FAULT leaves, and what settles behind it. -/
theorem settle_enterFault (kind : FaultKind) (s : State) (hn : unnumbered s = false) (t : State)
    (ht : t = settle (enterFault kind s)) :
    t.steam.gen = .fault ∧ t.steam.faultKind = some kind ∧ t.steam.fill = none ∧ t.steam.drain = none
      ∧ t.steam.boilerDemand = 0 ∧ t.steam.gate = false ∧ t.power.base.fill = false ∧ t.power.base.pump = false
      ∧ t.steam.scale = s.steam.scale ∧ t.steam.sub = s.steam.sub
      ∧ Queued (.notice .steamWithheld (noticeTag s.recipe) s.recipe.cur (512 + faultKindCode (some kind))) t
      ∧ ProgramStands s t ∧ OnlyTouches [.power, .share, .line, .steam, .descale, .recipe] s t := by
  have hj : judgeSteam (enterFault kind s) = enterFault kind s := by simp [judgeSteam]
  obtain ⟨-, ho, hps, htouch⟩ := makesSteam_settles (s := s) hj (by simp [SteamAside])
  have hq : Queued (.notice .steamWithheld (noticeTag s.recipe) s.recipe.cur (512 + faultKindCode (some kind))) t := by
    have hnotice := queued_notice (s := (clearDrain (clearFill s)).setSteam { (clearDrain (clearFill s)).steam with
      gen := .fault, faultKind := some kind, lock := false }) (by simpa [unnumbered] using hn) .steamWithheld
      (Withheld.code .fault * 256 + faultKindCode (some kind))
    have hline : t.line = (enterFault kind s).line := by rw [ht]; exact (settle_of_fixed hj).1
    unfold Queued at *
    rw [hline]
    simpa [enterFault, Withheld.code] using hnotice
  obtain ⟨o1, o2, -⟩ := (steamOutputs_iff _).1 (settle_steamOutputs (enterFault kind s))
  rw [← ht] at ho hps htouch o1 o2
  have hs := ho
  unfold OutputsOnly at hs
  rw [enterFault_steam] at hs
  have hfill : t.steam.fill = none := (congrArg Steam.fill hs :)
  have hdrain : t.steam.drain = none := (congrArg Steam.drain hs :)
  have hgen : t.steam.gen = .fault := (congrArg Steam.gen hs :)
  rw [ht] at hfill hdrain
  refine ⟨hgen, (congrArg Steam.faultKind hs :), by rw [ht]; exact hfill, by rw [ht]; exact hdrain, ?_, ?_,
    by rw [ht]; exact (settle_no_fill hfill).2, by rw [ht]; exact (settle_no_drain hdrain).2, (congrArg Steam.scale hs :),
    (congrArg Steam.sub hs :), hq, hps, htouch⟩
  · rw [o2, boilerTarget]
    simp [boilerRaw, hgen]
  · rw [o1, gateOpen]
    simp [hgen]

/-! ### A descale that ends with no program active -/

theorem endPhase_descale (p : Phase) (c : DescaleCause) (s : State) : (endPhase p c s).descale = { s.descale with
    phase := p, rinse := 0, prepMs := 0, soakMs := 0, lowMs := 0, heatClock := 0, powerWait := false, waitMs := 0
    waitNoted := false } := by
  simp [endPhase, enterPhase]

/-- R94: the generator that is released. -/
theorem releaseGenerator_steam (s : State) :
    (releaseGenerator s).steam.request = .none ∧ (releaseGenerator s).steam.fill = none
      ∧ (releaseGenerator s).steam.drain = none ∧ (releaseGenerator s).steam.inletWant = false
      ∧ (releaseGenerator s).steam.drainWant = false ∧ (releaseGenerator s).steam.stock = s.steam.stock := by
  unfold releaseGenerator genFromLevels
  split <;> simp [enterCooling, enterEmpty, Steam.stock]

/-- R94, R101, R114: what the end of a descale in `u` leaves, to which `s` has come by telling `l`. -/
structure DescaleEnded (l : List TxFrame) (p : Phase) (c : DescaleCause) (s u t : State) : Prop where
  phase   : t.descale.phase = p ∧ t.descale.rinse = 0
  mark    : t.descale.soakMark = u.descale.soakMark
  request : t.steam.request = .none
  fill    : t.steam.fill = none ∧ t.steam.inletWant = false ∧ t.steam.fillReq = false ∧ t.power.base.fill = false
  drain   : t.steam.drain = none ∧ t.power.base.pump = false
  gen     : t.steam.gen = if s.steam.levels.low then .cooling else .empty
  stock   : t.steam.stock = u.steam.stock
  told    : Told t.line.queue
    (l ++ [.notice .descalePhase (noticeTag s.recipe) s.recipe.cur (descaleCode p 0 * 256 + c.code)])
  program : ProgramStands s t
  touches : OnlyTouches [.power, .share, .line, .steam, .descale, .recipe] s t

/-- With no program active no steam is wanted, and a generator that is released keeps its state. -/
theorem judgeSteam_of_released (hr : programActive s.recipe = false) (hg : s.steam.gen = .cooling ∨ s.steam.gen = .empty) :
    judgeSteam s = s := by
  have hw : steamWanted s = false := by simp [steamWanted, hr]
  rcases hg with h | h <;> simp [judgeSteam, h, hw]

theorem descaleEnded {l : List TxFrame} {u : State} (p : Phase) (c : DescaleCause) (hu : Tells l s u) (ha : SteamAside s u)
    (hlev : u.steam.levels = s.steam.levels) (hn : unnumbered s = false) (hq : s.line.queue = []) (hl : l.length ≤ 3)
    (hprog : programActive s.recipe = false) (t : State) (ht : t = settle (endPhase p c u)) :
    DescaleEnded l p c s u t := by
  obtain ⟨-, -, -, hr, -⟩ := id ha
  have hgen := (releaseGenerator_gen u).1
  obtain ⟨r1, r2, r3, r4, r5, r6⟩ := releaseGenerator_steam u
  rw [← endPhase_steam p c] at hgen r1 r2 r3 r4 r5 r6
  have hj : judgeSteam (endPhase p c u) = endPhase p c u :=
    judgeSteam_of_released (by simpa [hr] using hprog) (by rw [hgen]; split <;> simp)
  have ha' : SteamAside s (endPhase p c u) := by simpa [SteamAside] using ha
  obtain ⟨-, ho, hps, htouch⟩ := makesSteam_settles hj ha'
  have htell := (hu.endPhase (phase := p) (cause := c)).settle
  have hwait := waitOnly_settle (endPhase p c u)
  have hstock := settle_stock (endPhase p c u)
  rw [← ht] at ho hps htouch htell hwait hstock
  unfold OutputsOnly at ho
  unfold WaitOnly at hwait
  have hfill : t.steam.fill = none := (congrArg Steam.fill ho :).trans r2
  have hdrain : t.steam.drain = none := (congrArg Steam.drain ho :).trans r3
  obtain ⟨f1, f2⟩ := settle_no_fill (s := endPhase p c u) (by rw [← ht]; exact hfill)
  obtain ⟨-, d2⟩ := settle_no_drain (s := endPhase p c u) (by rw [← ht]; exact hdrain)
  rw [← ht] at f1 f2 d2
  rw [endPhase_descale] at hwait
  refine ⟨⟨(congrArg Descale.phase hwait :), (congrArg Descale.rinse hwait :)⟩,
    (congrArg Descale.soakMark hwait :), (congrArg Steam.request ho :).trans r1,
    ⟨hfill, (congrArg Steam.inletWant ho :).trans r4, f1, f2⟩, ⟨hdrain, d2⟩, ?_, hstock.trans r6, ?_, hps, htouch⟩
  · rw [(congrArg Steam.gen ho :)]
    simp only [hgen, hlev]
  · have htold := htell.told hn hq (by simp; omega)
    rwa [hr] at htold

/-- The notice of the end. -/
theorem DescaleEnded.queued {l : List TxFrame} {p : Phase} {c : DescaleCause} (h : DescaleEnded l p c s u t) :
    Queued (.notice .descalePhase (noticeTag s.recipe) s.recipe.cur (descaleCode p 0 * 256 + c.code)) t :=
  h.told.queued (by simp)

/-- R112: the same for a descale that faults. -/
theorem descaleFault_of_active {c : DescaleCause} (h : descaleActive s.descale = true) :
    descaleFault c s = endPhase (if s.steam.acid then .holdAcid else .off) c s := if_pos h

theorem descaleCode_ended (b : Bool) : descaleCode (if b then .holdAcid else .off) 0 = if b then 17 else 0 := by
  cases b <;> rfl

/-! ### The end of a drain -/

/-- R43: a want withdrawn gives the DRAIN hold up, and no other. -/
theorem clearDrain_holds (p : Pool) (s : State) : (clearDrain s).share.holds.get p
    = if p = .drain ∧ s.steam.drainWant = true then 0 else s.share.holds.get p := by
  unfold clearDrain unwantDrain releaseWater
  by_cases hw : s.steam.drainWant = true
  · rw [if_pos (by exact hw)]
    split
    · rw [lowerHold_holds]
      by_cases hp : p = .drain <;> simp [hp, hw]
    next h0 =>
      by_cases hp : p = .drain
      · subst hp
        simpa [hw] using h0
      · simp [hp]
  · rw [if_neg (by exact hw)]
    simp [hw]

theorem clearDrain_steam (s : State) : (clearDrain s).steam = { s.steam with drain := none, drainWant := false } := by
  simp [clearDrain]

theorem steamWanted_clearDrain (s : State) : steamWanted (clearDrain s) = steamWanted s :=
  steamWanted_congr (by simp) (fun _ => by simp) (by simp [clearDrain_steam]) (by simp [clearDrain_steam]) (by simp)

/-- R92: with the ending levels DRY the drain gives way to a fill or to EMPTY; the claims stand but for the DRAIN unit. -/
theorem endDrainWell_dry (hw : s.steam.levels.work = false) (hh : s.steam.levels.high = false) :
    (endDrainWell s).steam = (if steamWanted s then { s.steam with
        drain := none, drainWant := false, gen := .filling, fill := some ⟨.cooking, 750, 0, false⟩, inletWant := true }
      else { s.steam with drain := none, drainWant := false, gen := .empty, lock := false, faultKind := none })
      ∧ (endDrainWell s).share = (clearDrain s).share := by
  have hlev : ((clearDrain s).steam.levels.work || (clearDrain s).steam.levels.high) = false := by
    simp [clearDrain_steam, hw, hh]
  unfold endDrainWell
  dsimp only
  rw [steamWanted_clearDrain]
  split
  · rw [enterFilling_steam, if_neg (by simp [hlev]), clearDrain_steam]
    refine ⟨rfl, ?_⟩
    have hno : ¬ workOrHigh (beginFill .cooking cookingBudget
        ((clearDrain s).setSteam { (clearDrain s).steam with gen := .filling })) = true := by
      simpa [workOrHigh, beginFill] using hlev
    rw [enterFilling]
    dsimp only
    rw [if_neg hno, (beginFill_frame _ _ _).2.2.2.2.1]
    rfl
  · simp [enterEmpty, clearDrain_steam]

/-- Settles O54: FAULT by either limit, the descale that faults, and what the cooling timer and the dry time bring. -/
theorem limitsEndFillsAndDrains : Obligations.LimitsEndFillsAndDrains := by
  refine ⟨fun s f hn hf hk hb hw hh => ?_, fun s f hn hq hf hk hb hp hd => ?_, fun s d hn hd hb hg => ?_,
    fun s d hn hq hp hg hph hd hb => ?_, fun s hg hr => ?_, fun s d hf hr hg hd hb hl hw hh => ?_⟩
  · have heq : valveTimeLimit s = settle (enterFault .fillFault s) := by
      cases hkind : f.kind with
      | service => exact absurd hkind hk
      | cooking | topUp => simp [valveTimeLimit, hf, hb, hkind, workOrHigh, hw, hh]
    obtain ⟨h1, h2, h3, -, h5, -, h7, -, h9, -, h11, h12, h13⟩ := settle_enterFault .fillFault s hn _ rfl
    exact ⟨_, congrArg Host.Outcome.next heq, h1, h2, h3, h5, h7, h11, h9, h12, h13⟩
  · have hd' : descaleActive (clearRequest s).descale = true := by simpa using hd
    have heq : valveTimeLimit s = settle (endPhase (if (clearRequest s).steam.acid then .holdAcid else .off) .fillFault
        (clearRequest s)) := by
      simp only [valveTimeLimit, hf, hb, hk, descaleFault_of_active hd']
      simp
    have he := descaleEnded (l := []) _ .fillFault (Tells.refl s).clearRequest (by simp [SteamAside]) (by simp) hn hq
      (by simp) hp _ heq
    have hac : (clearRequest s).steam.acid = s.steam.acid := by simp
    obtain ⟨-, hsc, -, hac'⟩ := Steam.stock_fields he.stock
    have hcode := he.queued
    rw [hac] at he hcode
    rw [descaleCode_ended] at hcode
    exact ⟨_, rfl, he.phase.1, he.request, he.fill.1, he.fill.2.1, he.fill.2.2.1, he.fill.2.2.2, he.gen,
      hac'.trans (by simp), hsc.trans (by simp), he.mark.trans (by simp), hcode, he.program, he.touches⟩
  · have heq : pumpTimeLimit s = settle (enterFault .drainFault s) := by simp [pumpTimeLimit, hd, hb, hg]
    obtain ⟨h1, h2, -, h4, -, -, -, h8, -, -, h11, h12, h13⟩ := settle_enterFault .drainFault s hn _ rfl
    exact ⟨_, congrArg Host.Outcome.next heq, h1, h2, h4, h8, h11, h12, h13⟩
  · have hd' : descaleActive (clearRequest s).descale = true := by
      rcases hph with h | h <;> simp [descaleActive, h]
    have heq : pumpTimeLimit s = settle (endPhase (if (clearRequest s).steam.acid then .holdAcid else .off) .drainFault
        (clearRequest s)) := by
      simp only [pumpTimeLimit, hd, hb, hg, descaleFault_of_active hd']
      simp
    have he := descaleEnded (l := []) _ .drainFault (Tells.refl s).clearRequest (by simp [SteamAside]) (by simp) hn hq
      (by simp) hp _ heq
    have hac : (clearRequest s).steam.acid = s.steam.acid := by simp
    obtain ⟨-, hsc, -, hac'⟩ := Steam.stock_fields he.stock
    have hcode := he.queued
    rw [hac] at he hcode
    rw [descaleCode_ended] at hcode
    exact ⟨_, rfl, he.phase.1, he.request, he.drain.1, he.drain.2, he.gen,
      hac'.trans (by simp), hsc.trans (by simp), he.mark.trans (by simp), hcode, he.program, he.touches⟩
  · have heq : coolingTimerExpiry s = settle (enterDraining s) := if_pos ⟨hg, hr⟩
    have hst : (enterDraining s).steam = { s.steam with gen := .draining, drain := some ⟨0, 0⟩, drainWant := true } := by
      simp [enterDraining, beginDrain]
    obtain ⟨hx, ho, hps, htouch⟩ := makesSteam_settles (s := s) (u := enterDraining s) (by simp [judgeSteam, hst])
      (by simp [SteamAside])
    unfold OutputsOnly at ho
    rw [hst] at ho
    have hx' := hx.trans ((enterDraining_frame s).2.2.2.2.1)
    refine ⟨_, congrArg Host.Outcome.next heq, (congrArg Steam.gen ho :), (congrArg Steam.drain ho :),
      (congrArg Steam.drainWant ho :), hx', hps, htouch.1, fun b hb => ?_⟩
    cases b with
    | share => exact hx'
    | startup => exact htouch.2 .startup (by decide)
    | climate => exact htouch.2 .climate (by decide)
    | superv => exact htouch.2 .superv (by decide)
    | power | line | steam | descale | recipe => exact absurd hb (by decide)
  · have heq : drainDryTimeEnd s = settle (endDrainWell s) := by simp [drainDryTimeEnd, hd, hb, hl, hg]
    obtain ⟨hst, hx⟩ := endDrainWell_dry hw hh
    have hgen : (endDrainWell s).steam.gen = if steamWanted s then .filling else .empty := by rw [hst]; split <;> rfl
    have ha : SteamAside s (endDrainWell s) := by simp [SteamAside]
    have hwant : steamWanted (endDrainWell s) = steamWanted s :=
      steamWanted_congr (by simp) (fun _ => by simp) (by rw [hst]; split <;> rfl) (by rw [hst]; split <;> rfl) (by simp)
    have hj : judgeSteam (endDrainWell s) = endDrainWell s := by
      cases hs : steamWanted s <;> simp [judgeSteam, hgen, hwant, hs]
    obtain ⟨hsh, ho, hps, htouch⟩ := makesSteam_settles hj ha
    unfold OutputsOnly at ho
    have hdrain : (settle (endDrainWell s)).steam.drain = none := by
      rw [ho, hst]
      split <;> rfl
    refine ⟨_, congrArg Host.Outcome.next heq, (congrArg Steam.gen ho :).trans hgen, hdrain, fun hs => ?_,
      (settle_no_drain hdrain).2, fun hs => ?_, ?_, hps, htouch⟩
    · rw [ho, hst, if_pos hs]
      exact ⟨rfl, rfl⟩
    · rw [hsh, hx]
      exact (clearDrain_holds .drain s).trans (if_pos ⟨rfl, hs⟩)
    · rw [hsh, hx]
      exact clearDrain_holds .power s

end Sys2Proof.Machine

/-!
Timers and limits of the descale (R103, R106, R107, R110, R112).
-/
namespace Sys2Proof.Machine

variable {s t u : State}

/-- The two limits that fault the descale in its timed phases. -/
theorem descaleLimit_eq {c : Instr} (hr : s.startup.restarting = false)
    (hc : (c = .heatLimit ∧ heatingPhase s.descale = true ∧ (s.power.freq = .hz50 ∨ s.power.freq = .hz60))
      ∨ (c = .descaleLowWater ∧ s.steam.levels.low = false
          ∧ (heatingPhase s.descale = true ∨ s.descale.phase = .soak))) :
    exec c s = .next (settle (endPhase (if s.steam.acid then .holdAcid else .off)
      (if c = .heatLimit then .heatLimit else .lowWater) s)) := by
  have hactive : ∀ d : Descale, heatingPhase d = true ∨ d.phase = .soak → descaleActive d = true := by
    intro d hd
    simp only [heatingPhase, Bool.or_eq_true, decide_eq_true_eq] at hd
    rcases hd with (h | h) | h <;> simp [descaleActive, h]
  rcases hc with ⟨rfl, hph, hfreq⟩ | ⟨rfl, hl, hph⟩
  · have hclock : (heatLimitClock s.power).isSome = true := by
      rcases hfreq with h | h <;> simp [heatLimitClock, h]
    refine congrArg Host.Outcome.next ?_
    show heatLimit s = _
    rw [heatLimit, if_pos (by simp [hph, hclock, hr]), descaleFault_of_active (hactive _ (.inl hph))]
    rfl
  · have hlow : lowWaterPhase s.descale = true := by
      rcases hph with h | h <;> simp [lowWaterPhase, h]
    refine congrArg Host.Outcome.next ?_
    show descaleLowWater s = _
    rw [descaleLowWater, if_pos (by simp [hlow, hl, hr]), descaleFault_of_active (hactive _ hph)]
    rfl

/-- Settles O58: PREP, the two limits, the soak timer and the notice of a wait. -/
theorem descaleTimersEndTheirPhases : Obligations.DescaleTimersEndTheirPhases := by
  refine ⟨fun s hn hr hph hp hq => ?_, fun s c hn hr hp hq hc => ?_, fun s v hn hr hph hg hb hv => ?_,
    fun s p hn hw ho => ?_⟩
  · have heq : prepTimeout s = settle (endPhase .off .prepTimeout s) := if_pos ⟨hph, hr⟩
    have he := descaleEnded (l := []) .off .prepTimeout (Tells.refl s) (by simp [SteamAside]) rfl hn hq (by simp) hp _ heq
    obtain ⟨-, hsc, -, hac⟩ := Steam.stock_fields he.stock
    exact ⟨_, rfl, he.phase.1, he.request, he.gen, he.queued, hac, hsc, he.program, he.touches⟩
  · have he := descaleEnded (l := []) (if s.steam.acid then .holdAcid else .off)
      (if c = .heatLimit then .heatLimit else .lowWater) (Tells.refl s) (by simp [SteamAside]) rfl hn hq (by simp) hp _ rfl
    obtain ⟨-, hsc, -, hac⟩ := Steam.stock_fields he.stock
    have hcode := he.queued
    rw [descaleCode_ended] at hcode
    refine ⟨_, descaleLimit_eq hr hc, he.phase.1, he.request, he.gen, ?_, hac, hsc, he.mark, he.program, he.touches⟩
    rcases hc with ⟨rfl, -⟩ | ⟨rfl, -⟩ <;> exact hcode
  · have hadv : soakAdvances s = true := by simp [soakAdvances, readingAtLeast, hb, hv]
    have heq : soakTimerEnd s = settle (enterAcidDrain .none (s.setDescale { s.descale with soakMark := true })) :=
      if_pos ⟨hph, hadv, hr⟩
    have hst := enterAcidDrain_steam .none (s.setDescale { s.descale with soakMark := true })
    have hj : judgeSteam (enterAcidDrain .none (s.setDescale { s.descale with soakMark := true })) = _ :=
      judgeSteam_of_service (by rw [hst]; exact hg)
    obtain ⟨-, ho, hps, htouch⟩ := makesSteam_settles (s := s) hj (by simp [SteamAside])
    have hwait := waitOnly_settle (enterAcidDrain .none (s.setDescale { s.descale with soakMark := true }))
    unfold OutputsOnly at ho
    unfold WaitOnly at hwait
    rw [hst] at ho
    have hd : (enterAcidDrain .none (s.setDescale { s.descale with soakMark := true })).descale.phase = .acidDrain
        ∧ (enterAcidDrain .none (s.setDescale { s.descale with soakMark := true })).descale.soakMark = true := by
      simp [enterAcidDrain, enterPhase]
    exact ⟨_, congrArg Host.Outcome.next heq, (congrArg Descale.phase hwait :).trans hd.1,
      (congrArg Descale.soakMark hwait :).trans hd.2, (congrArg Steam.request ho :), (congrArg Steam.drain ho :),
      (congrArg Steam.gen ho :).trans hg, (congrArg Steam.acid ho :), hps, htouch⟩
  · have heq : waitNotice s = notice .waitingForPool (poolCode p * 256 + descaleCode s.descale.phase s.descale.rinse)
        (s.setDescale { s.descale with waitNoted := true }) := by simp [waitNotice, hw, ho]
    refine ⟨_, congrArg Host.Outcome.next heq, by simp,
      queued_notice (s := s.setDescale { s.descale with waitNoted := true }) hn .waitingForPool _, by simp, fun b hb => ?_⟩
    cases b with
    | line | descale => exact absurd hb (by decide)
    | startup | climate | power | share | steam | recipe | superv => simp [Block.same]

end Sys2Proof.Machine

/-!
Flow pulses, scale and the service record (R83, R85, R97 to R100, R105).
-/
namespace Sys2Proof.Machine

variable {s t u : State}

/-! ### What settles behind a change of the generator alone -/

/-- A state that differs in its generator alone, or also in what settles. -/
theorem settles_quietly (hj : judgeSteam u = u) (ha : SteamAside s u) (hl : u.line = s.line) (hx : u.share = s.share) :
    OnlyTouches [.power, .steam, .descale, .recipe] s (settle u) := by
  obtain ⟨h1, h2, -⟩ := settle_of_fixed hj
  obtain ⟨-, -, -, ht⟩ := makesSteam_settles hj ha
  refine ⟨ht.1, fun b hb => ?_⟩
  cases b with
  | line => exact h1.trans hl
  | share => exact h2.trans hx
  | startup => exact ht.2 .startup (by decide)
  | climate => exact ht.2 .climate (by decide)
  | superv => exact ht.2 .superv (by decide)
  | power | steam | descale | recipe => exact absurd hb (by decide)

theorem settles_but_line (hj : judgeSteam u = u) (ha : SteamAside s u) (hx : u.share = s.share) :
    OnlyTouches [.power, .line, .steam, .descale, .recipe] s (settle u) := by
  obtain ⟨-, h2, -⟩ := settle_of_fixed hj
  obtain ⟨-, -, -, ht⟩ := makesSteam_settles hj ha
  refine ⟨ht.1, fun b hb => ?_⟩
  cases b with
  | share => exact h2.trans hx
  | startup => exact ht.2 .startup (by decide)
  | climate => exact ht.2 .climate (by decide)
  | superv => exact ht.2 .superv (by decide)
  | power | line | steam | descale | recipe => exact absurd hb (by decide)

/-! ### A pulse of a cooking fill or a top-up -/

/-- A pulse counted toward scale below the 50th (R97). -/
def pulseCounted (f : Fill) (s : State) : State := s.setSteam { s.steam with
  sub := s.steam.sub + 1, fill := some { f with budget := f.budget - 1, counted := true } }

theorem countPulse_spent (f : Fill) (h : s.steam.sub < 49) : countPulse (spendPulse f s) = pulseCounted f s := by
  rw [countPulse, if_neg (by simp [spendPulse]; omega)]
  rfl

theorem flowPulse_cooking {f : Fill} (hf : s.steam.fill = some f) (hk : f.kind ≠ .service) :
    flowPulse s = settle (cookingPulse (spendPulse f s)) := by
  cases hkind : f.kind with
  | service => exact absurd hkind hk
  | cooking | topUp => simp [flowPulse, hf, hkind]

theorem judgeSteam_alike (hg : GenSettled s) (hu : u.startup = s.startup) (hr : u.recipe = s.recipe)
    (hgen : u.steam.gen = s.steam.gen) (hac : u.steam.acid = s.steam.acid) (hsc : u.steam.scale = s.steam.scale) :
    judgeSteam u = u :=
  judgeSteam_of_settled (genSettled_congr hg
    (steamWanted_congr (by rw [hr]) (fun _ => by rw [hr]; exact ⟨rfl, rfl⟩) hsc hac (by rw [hu])) hgen (by rw [hu])
    (by rw [hu]))

/-- A pulse that leaves something of the budget goes no further. -/
theorem cookingPulse_of_left (hj : judgeSteam (countPulse s) = countPulse s) (hb : budgetSpent (countPulse s) = false) :
    cookingPulse s = countPulse s := by
  simp [cookingPulse, hj, hb]

/-! ### The scale step -/

theorem askWrite_steam (s : State) : (askWrite s).steam = { s.steam with
    writing := (askWrite s).steam.writing, writeAgain := (askWrite s).steam.writeAgain } := by
  unfold askWrite
  split <;> rfl

/-- R100: a write that is asked for is made, or follows the one in progress. -/
theorem askWrite_writing (s : State) : (askWrite s).steam.writing.isSome = true := by
  unfold askWrite
  split
  · rfl
  next h => simp [h]

/-- A generator with the scale count risen, and the write that may follow (R97). -/
def ScaleRisen (s v : State) : Prop := v.steam = { s.steam with
  sub := 0, scale := min 65535 (s.steam.scale + s.startup.supply.hardness)
  writing := v.steam.writing, writeAgain := v.steam.writeAgain }

theorem scaleStep_steam (s : State) : ScaleRisen s (scaleStep s) := by
  have hset : ScaleRisen s (s.setSteam { s.steam with
      sub := 0, scale := min 65535 (s.steam.scale + s.startup.supply.hardness) }) := rfl
  have hask : ∀ v, ScaleRisen s v → ScaleRisen s (askWrite v) := fun v hv => by
    have h := askWrite_steam v
    unfold ScaleRisen at *
    rw [hv] at h
    exact h
  have hnotice : ∀ v, ScaleRisen s v → ScaleRisen s (noticeScale v) := fun v hv => by
    unfold ScaleRisen at *
    simpa [noticeScale] using hv
  have hwrite : ∀ (c : Prop) [Decidable c] v, ScaleRisen s v → ScaleRisen s (if c then askWrite v else v) :=
    fun c _ v hv => by
      split
      · exact hask v hv
      · exact hv
  unfold scaleStep
  dsimp only
  split
  · exact hnotice _ (hwrite _ _ hset)
  · exact hwrite _ _ hset

/-- R100: the write of a scale count that has risen by 16. -/
theorem scaleStep_writing (h : (lastWritten s.steam).scale + 16 ≤ min 65535 (s.steam.scale + s.startup.supply.hardness)) :
    (scaleStep s).steam.writing.isSome = true := by
  have hask := askWrite_writing
    (s.setSteam { s.steam with sub := 0, scale := min 65535 (s.steam.scale + s.startup.supply.hardness) })
  unfold scaleStep
  dsimp only
  split
  · rw [noticeScale, (notice_frame _ _ _).2.2.2.2.2.1, if_pos (by exact h)]
    exact hask
  · rw [if_pos (by exact h)]
    exact hask

theorem levelNow_scaleStep (s : State) : levelNow (scaleStep s)
    = scaleLevel (min 65535 (s.steam.scale + s.startup.supply.hardness)) s.startup.supply.tDue := by
  have hst := scaleStep_steam s
  have hu : (scaleStep s).startup = s.startup := by simp
  unfold levelNow
  rw [(congrArg Steam.scale hst :), hu]

/-- R98: a level that rises is told. -/
theorem scaleStep_told (hn : unnumbered s = false) (h : (levelNow s).code < (levelNow (scaleStep s)).code) :
    Queued (.notice .descaleDue (noticeTag s.recipe) s.recipe.cur (levelNow (scaleStep s)).code) (scaleStep s) := by
  rw [levelNow_scaleStep] at h ⊢
  have hrise : (levelNow s).code < (levelNow (s.setSteam { s.steam with
      sub := 0, scale := min 65535 (s.steam.scale + s.startup.supply.hardness) })).code := h
  have hq : ∀ v : State, v.startup = s.startup → v.recipe = s.recipe →
      v.steam.scale = min 65535 (s.steam.scale + s.startup.supply.hardness) →
      Queued (.notice .descaleDue (noticeTag s.recipe) s.recipe.cur
        (scaleLevel (min 65535 (s.steam.scale + s.startup.supply.hardness)) s.startup.supply.tDue).code) (noticeScale v) := by
    intro v hu hr hsc
    have := queued_notice (s := v) (by simpa [unnumbered, hu] using hn) .descaleDue (levelNow v).code
    rw [hr, levelNow, hu, hsc] at this
    rw [noticeScale, levelNow, hu, hsc]
    exact this
  unfold scaleStep
  dsimp only
  rw [if_pos hrise]
  split
  · exact hq _ (by simp) (by simp) (by rw [askWrite_steam]; rfl)
  · exact hq _ rfl rfl rfl

/-- R98: the level does not fall as the count rises. -/
theorem scaleLevel_block_mono {a b t : Nat} (hab : a ≤ b) (h : scaleLevel b t ≠ .block) : scaleLevel a t ≠ .block := by
  unfold scaleLevel at *
  split_ifs at * <;> first | omega | simp_all

/-! ### The first pulse of a dose -/

theorem reportFirstPulse_steam (s : State) :
    (reportFirstPulse s).steam = { s.steam with
        acid := s.steam.acid || decide (s.descale.phase = .dose)
        writing := (reportFirstPulse s).steam.writing, writeAgain := (reportFirstPulse s).steam.writeAgain }
      ∧ (s.steam.acid = false → (reportFirstPulse s).steam.acid = true →
          (reportFirstPulse s).steam.writing.isSome = true) := by
  by_cases h : s.descale.phase = .dose ∧ s.steam.acid = false
  · have he : reportFirstPulse s = askWrite (s.setSteam { s.steam with acid := true }) := if_pos h
    rw [he]
    refine ⟨?_, fun _ _ => askWrite_writing _⟩
    have hask := askWrite_steam (s.setSteam { s.steam with acid := true })
    simpa [h.1, h.2] using hask
  · have he : reportFirstPulse s = s := if_neg h
    rw [he]
    refine ⟨?_, fun h1 h2 => absurd (h1.symm.trans h2) (by decide)⟩
    have hor : (s.steam.acid || decide (s.descale.phase = .dose)) = s.steam.acid := by
      cases hac : s.steam.acid with
      | true => rfl
      | false => simpa using fun hp => h ⟨hp, hac⟩
    rw [hor]

/-- Settles O53: pulses outside a fill, in a fill for cooking and in a dose, and a completed write. -/
theorem pulsesCountWaterAndScale : Obligations.PulsesCountWaterAndScale := by
  refine ⟨fun s hf => ⟨_, rfl, by simp [flowPulse, hf]⟩, fun s f hg hf hk hb hs => ?_,
    fun s f hg hf hk hb hs hmax hn hlev => ?_, fun s f hg hn hf hk hb hs hw hh => ?_, fun s f hg hf hk hb => ?_,
    fun s r hw => ⟨_, rfl, by simp [serviceRecordWritten, hw, recordNow], ?_⟩⟩
  · have hc := countPulse_spent f hs
    have hj : judgeSteam (pulseCounted f s) = pulseCounted f s := judgeSteam_alike hg rfl rfl rfl rfl rfl
    have heq : flowPulse s = settle (pulseCounted f s) := by
      rw [flowPulse_cooking hf hk, cookingPulse_of_left (by rw [hc]; exact hj)
        (by rw [hc]; simp [budgetSpent, pulseCounted]; omega), hc]
    have ha : SteamAside s (pulseCounted f s) := by simp [SteamAside, pulseCounted]
    obtain ⟨-, ho, hps, -⟩ := makesSteam_settles hj ha
    exact ⟨_, congrArg Host.Outcome.next heq, ho, hps, settles_quietly hj ha rfl rfl⟩
  · have hc : countPulse (spendPulse f s) = scaleStep (spendPulse f s) := if_pos (by simp [spendPulse, hs])
    have hst := scaleStep_steam (spendPulse f s)
    have hsc : (scaleStep (spendPulse f s)).steam.scale = min 65535 (s.steam.scale + s.startup.supply.hardness) :=
      (congrArg Steam.scale hst :)
    have hfill : (scaleStep (spendPulse f s)).steam.fill = some { f with budget := f.budget - 1, counted := true } :=
      (congrArg Steam.fill hst :)
    have hblocks := scaleStep_frame (spendPulse f s)
    have ha : SteamAside s (scaleStep (spendPulse f s)) := by simp [SteamAside, spendPulse]
    have hlevel := levelNow_scaleStep (spendPulse f s)
    have hold : levelNow s ≠ .block := scaleLevel_block_mono (le_min hmax (Nat.le_add_right _ _)) hlev
    have hwant : steamWanted (scaleStep (spendPulse f s)) = steamWanted s := by
      have hacid : (scaleStep (spendPulse f s)).steam.acid = s.steam.acid := (congrArg Steam.acid hst :)
      unfold steamWanted
      rw [hlevel, hacid, ha.2.2.2.1]
      simp only [spendPulse, State.setSteam_steam, State.setSteam_startup]
      simp [hold, hlev]
    have hj : judgeSteam (scaleStep (spendPulse f s)) = scaleStep (spendPulse f s) :=
      judgeSteam_of_settled (genSettled_congr hg hwant (congrArg Steam.gen hst :) (by rw [ha.2.1]) (by rw [ha.2.1]))
    have heq : flowPulse s = settle (scaleStep (spendPulse f s)) := by
      rw [flowPulse_cooking hf hk, cookingPulse_of_left (by rw [hc]; exact hj)
        (by rw [hc]; simp [budgetSpent, hfill]; omega), hc]
    obtain ⟨hl, hx, -, -⟩ := settle_of_fixed hj
    obtain ⟨-, ho, hps, -⟩ := makesSteam_settles hj ha
    unfold OutputsOnly at ho
    have hlt : levelNow (settle (scaleStep (spendPulse f s))) = levelNow (scaleStep (spendPulse f s)) := by
      have hu : (settle (scaleStep (spendPulse f s))).startup = (scaleStep (spendPulse f s)).startup := by simp
      unfold levelNow
      rw [hu, (congrArg Steam.scale ho :)]
    refine ⟨_, congrArg Host.Outcome.next heq, (congrArg Steam.sub ho :).trans (congrArg Steam.sub hst :),
      (congrArg Steam.scale ho :).trans hsc, (congrArg Steam.fill ho :).trans hfill, fun h => ?_, fun h => ?_,
      (congrArg Steam.acid ho :).trans (congrArg Steam.acid hst :), hx.trans (by simp [spendPulse]), hps,
      settles_but_line hj ha (by simp [spendPulse])⟩
    · rw [hlt] at h ⊢
      have htold := scaleStep_told (s := spendPulse f s) hn h
      unfold Queued at *
      rw [hl]
      exact htold
    · rw [(congrArg Steam.scale ho :), hsc] at h
      rw [(congrArg Steam.writing ho :)]
      exact scaleStep_writing (s := spendPulse f s) h
  · have hc := countPulse_spent f hs
    have hj : judgeSteam (pulseCounted f s) = pulseCounted f s := judgeSteam_alike hg rfl rfl rfl rfl rfl
    have heq : flowPulse s = settle (enterFault .fillFault (pulseCounted f s)) := by
      have h0 : f.budget - 1 = 0 := by omega
      rw [flowPulse_cooking hf hk, cookingPulse, hc, hj]
      simp [budgetSpent, pulseCounted, workOrHigh, hw, hh, h0]
    obtain ⟨h1, h2, h3, h4, h5, h6, -, -, -, h10, h11, h12, h13⟩ := settle_enterFault .fillFault (pulseCounted f s) hn _ rfl
    have ht : OnlyTouches [.power, .share, .line, .steam, .descale, .recipe] s (pulseCounted f s) :=
      ⟨rfl, fun b hb => by
        cases b with
        | steam => exact absurd hb (by decide)
        | startup | climate | power | share | line | descale | recipe | superv => rfl⟩
    exact ⟨_, congrArg Host.Outcome.next heq, h1, h2, h3, h4, h5, h6, h10, h11, h12, ht.trans h13⟩
  · have hservice : flowPulse s = settle (servicePulse f (spendPulse f s)) := by simp [flowPulse, hf, hk]
    obtain ⟨hst, hwr⟩ := reportFirstPulse_steam (spendPulse f s)
    obtain ⟨u, hu⟩ : ∃ u, u = (if f.counted then spendPulse f s else reportFirstPulse (spendPulse f s)) := ⟨_, rfl⟩
    have husteam : u.steam = { s.steam with
        fill := some { f with budget := f.budget - 1, counted := true }
        acid := s.steam.acid || (!f.counted && decide (s.descale.phase = .dose))
        writing := u.steam.writing, writeAgain := u.steam.writeAgain } := by
      rw [hu]
      cases hcount : f.counted with
      | true => simp [spendPulse]
      | false => exact hst
    have hublocks : SteamAside s u ∧ u.line = s.line ∧ u.share = s.share ∧ u.descale = s.descale := by
      rw [hu]
      split
      · simp [SteamAside, spendPulse]
      · unfold reportFirstPulse setAcid
        split <;> simp [SteamAside, spendPulse]
    have hspent : budgetSpent u = false := by
      rw [budgetSpent, (congrArg Steam.fill husteam :)]
      simp
      omega
    have heq : flowPulse s = settle u := by
      rw [hservice, servicePulse, ← hu, hspent]
      rfl
    obtain ⟨ha, hl, hx, hd⟩ := hublocks
    have hj : judgeSteam u = u := judgeSteam_of_service ((congrArg Steam.gen husteam :).trans hg)
    obtain ⟨-, ho, hps, -⟩ := makesSteam_settles hj ha
    have hwait := waitOnly_settle u
    unfold OutputsOnly at ho
    unfold WaitOnly at hwait
    rw [hd] at hwait
    refine ⟨_, congrArg Host.Outcome.next heq, (congrArg Steam.fill ho :).trans (congrArg Steam.fill husteam :),
      (congrArg Steam.scale ho :).trans (congrArg Steam.scale husteam :),
      (congrArg Steam.sub ho :).trans (congrArg Steam.sub husteam :),
      (congrArg Steam.acid ho :).trans (congrArg Steam.acid husteam :), fun h0 h1 => ?_, hwait, hps,
      settles_quietly hj ha hl hx⟩
    have h1' : u.steam.acid = true := (congrArg Steam.acid ho :).symm.trans h1
    rw [(congrArg Steam.writing ho :)]
    cases hcount : f.counted with
    | true =>
      rw [(congrArg Steam.acid husteam :), hcount, h0] at h1'
      simp at h1'
    | false =>
      rw [hu, hcount] at h1' ⊢
      exact hwr h0 h1'
  · refine ⟨by simp [serviceRecordWritten, hw], fun b hb => ?_⟩
    cases b with
    | steam => exact absurd hb (by decide)
    | startup | climate | power | share | line | descale | recipe | superv => simp [Block.same, serviceRecordWritten, hw]

end Sys2Proof.Machine

/-!
TRIP, the relay and the configuration check (R148, R150, R151, R153).
-/
namespace Sys2Proof.Machine

variable {s t u : State} {l : List TxFrame}

/-! ### The scheduler and the POWER hold behind the generator -/

@[simp] theorem clearDrain_power (s : State) : (clearDrain s).power = s.power := by
  unfold clearDrain unwantDrain releaseWater
  (repeat' split) <;> simp

@[simp] theorem clearRequest_power (s : State) : (clearRequest s).power = s.power := by simp [clearRequest]

@[simp] theorem endPhase_power (p : Phase) (c : DescaleCause) (s : State) : (endPhase p c s).power = s.power := by
  simp [endPhase, releaseGenerator]

@[simp] theorem descaleFault_power (c : DescaleCause) (s : State) : (descaleFault c s).power = s.power := by
  unfold descaleFault
  split <;> simp

/-- The POWER hold is no matter of fills, drains or the generator's state. -/
@[simp] theorem clearFill_holdPower (s : State) : (clearFill s).share.holds.power = s.share.holds.power :=
  (clearFill_holds .power s).trans (if_neg (by simp))

@[simp] theorem clearDrain_holdPower (s : State) : (clearDrain s).share.holds.power = s.share.holds.power :=
  (clearDrain_holds .power s).trans (if_neg (by simp))

@[simp] theorem enterFilling_holdPower (s : State) : (enterFilling s).share.holds.power = s.share.holds.power := by
  unfold enterFilling
  dsimp only
  split <;> simp [endCookingFill, enterHeating]

@[simp] theorem endSteam_holdPower (s : State) : (endSteam s).share.holds.power = s.share.holds.power := by
  simp [endSteam, enterCooling]

@[simp] theorem settle_holdPower (s : State) : (settle s).share.holds.power = s.share.holds.power := by
  rw [(settle_after s).2.1]
  unfold judgeSteam
  (repeat' split) <;> simp [enterHeating]

@[simp] theorem endPhase_holdPower (p : Phase) (c : DescaleCause) (s : State) :
    (endPhase p c s).share.holds.power = s.share.holds.power := by
  simp [endPhase, releaseGenerator, clearRequest]

@[simp] theorem descaleFault_holdPower (c : DescaleCause) (s : State) :
    (descaleFault c s).share.holds.power = s.share.holds.power := by
  unfold descaleFault
  split <;> simp

/-! ### Elements taken off -/

/-- Every element is taken off at the next crossing, if a frame is in progress. -/
def AllShed (s : State) : Prop := s.power.inFrame = true → s.power.shed = PerElement.all true

theorem allShed_barHeat (s : State) : AllShed (barHeat s) := by
  intro h
  unfold barHeat at h ⊢
  split
  · rfl
  next hf =>
    rw [if_neg hf] at h
    exact absurd h hf

theorem AllShed.congr (h : AllShed s) (hi : t.power.inFrame = s.power.inFrame) (hs : t.power.shed = s.power.shed) :
    AllShed t := fun hf => hs.trans (h (hi.symm.trans hf))

theorem AllShed.lowerHold (h : AllShed s) (p : Pool) (v : Nat) : AllShed (lowerHold p v s) := by
  have hp := ((Claims.refl s).lowerHold p v).power
  exact h.congr (congrArg Power.inFrame hp :) (congrArg Power.shed hp :)

theorem AllShed.leaveClimate (h : AllShed s) : AllShed (leaveClimate s) := by
  intro hf
  unfold Machine.leaveClimate Machine.shedCavity at hf ⊢
  split
  next hi =>
    have hall : s.power.shed = PerElement.all true := h hi
    simp [hall, PerElement.all]
  next hi =>
    rw [if_neg hi] at hf
    exact absurd hf hi

theorem AllShed.faultProgram (h : AllShed s) (cause : ProgramFault) : AllShed (faultProgram cause s) := by
  unfold Machine.faultProgram
  split
  · have h1 : AllShed (s.setRecipe { s.recipe with
        state := .faulted, cur := s.recipe.lastHeat, stack := [], prompt := 0 }) := h
    exact h1.leaveClimate.congr (by simp) (by simp)
  · exact h

theorem AllShed.settle (h : AllShed s) : AllShed (settle s) := by
  intro hf
  have hp := settle_power s
  have hs := h ((congrArg Power.inFrame hp :).symm.trans hf)
  have hb : (Machine.settle s).power.shed.boiler = true := by
    have hset : (Machine.settle s).power.shed = (settleOutputs (judgeSteam s)).power.shed := by
      simp [Machine.settle, settleBase]
    rw [hset]
    unfold settleOutputs
    dsimp only
    split
    · rfl
    · simp [hs, PerElement.all]
  rw [(congrArg Power.shed hp :), hs, hb]
  rfl

/-! ### A TRIP -/

/-- The latch set, the relay commanded OPEN, and the heat gone (R148, R17, R32). -/
def tripCut (s : State) : State :=
  barHeat (forceZero (commandRelay false (s.setSuperv { s.superv with trip := true })))

/-- With the POWER hold given up as the latch becomes set (R42). -/
def tripHeld (s : State) : State := if s.superv.trip then tripCut s else lowerHold .power 0 (tripCut s)

theorem takeTrip_eq (cause : ProgramFault) (s : State) :
    takeTrip cause s = settle (descaleFault .trip (faultProgram cause (tripHeld s))) := rfl

/-- The demands are 0. -/
def NoDemand (c : Climate) : Prop := c.demTop = 0 ∧ c.demBottom = 0 ∧ c.demRing = 0 ∧ c.steamDemand = 0

theorem noDemand_forceZero (s : State) : NoDemand (forceZero s).climate := by simp [NoDemand, forceZero, zeroDemands]

theorem noDemand_faultProgram (cause : ProgramFault) (h : NoDemand s.climate) : NoDemand (faultProgram cause s).climate := by
  unfold faultProgram
  split
  · simp [NoDemand, leaveClimate]
  · exact h

theorem tripHeld_blocks (s : State) :
    (tripHeld s).pending = s.pending ∧ (tripHeld s).startup = s.startup ∧ (tripHeld s).steam = s.steam
      ∧ (tripHeld s).descale = s.descale ∧ (tripHeld s).recipe = s.recipe
      ∧ (tripHeld s).climate = (forceZero (commandRelay false (s.setSuperv { s.superv with trip := true }))).climate
      ∧ (tripHeld s).superv = { s.superv with
          relayClosed := false, trip := true
          mismatchMs := if s.superv.relayClosed = false then s.superv.mismatchMs else 0 } := by
  unfold tripHeld tripCut
  split <;> simp [commandRelay] <;> rfl

theorem tripHeld_tells (h : Tells l s t) : Tells l s (tripHeld t) := by
  have h1 : Tells l s (t.setSuperv { t.superv with trip := true }) := h.same rfl rfl rfl
  have h2 : Tells l s (commandRelay false (t.setSuperv { t.superv with trip := true })) :=
    h1.same rfl rfl rfl
  have h3 : Tells l s (tripCut t) := h2.forceZero.barHeat
  unfold tripHeld
  split
  · exact h3
  · exact h3.lowerHold

theorem forceZero_inFrame (s : State) : (forceZero s).power.inFrame = s.power.inFrame := by
  unfold forceZero zeroDemands shedCavity
  dsimp only
  split <;> rfl

theorem barHeat_inFrame (s : State) : (barHeat s).power.inFrame = s.power.inFrame := by
  unfold barHeat
  split <;> rfl

theorem faultProgram_inFrame (cause : ProgramFault) (s : State) :
    (faultProgram cause s).power.inFrame = s.power.inFrame := by
  have hs : ∀ v : State, (shedCavity v).power.inFrame = v.power.inFrame := fun v =>
    (congrArg Power.inFrame (shedCavity_power v) :)
  unfold faultProgram leaveClimate
  split <;> simp [hs]

theorem settle_inFrame (s : State) : (settle s).power.inFrame = s.power.inFrame :=
  (congrArg Power.inFrame (settle_power s) :)

theorem tripHeld_power (s : State) : (tripHeld s).power.inFrame = s.power.inFrame ∧ AllShed (tripHeld s) := by
  have hcut : (tripCut s).power.inFrame = s.power.inFrame := by
    unfold tripCut
    rw [barHeat_inFrame, forceZero_inFrame]
    simp
  have hlow := ((Claims.refl (tripCut s)).lowerHold .power 0).power
  unfold tripHeld
  split
  · exact ⟨hcut, allShed_barHeat _⟩
  · exact ⟨(congrArg Power.inFrame hlow :).trans hcut, (allShed_barHeat _).lowerHold _ _⟩

/-- R42: the POWER hold is given up as the latch becomes set. -/
theorem tripHeld_hold (h : s.superv.trip = false) : (tripHeld s).share.holds.power = 0 := by
  have h0 := lowerHold_holds .power .power 0 (tripCut s)
  rw [tripHeld, if_neg (by simp [h])]
  simpa [PerPool.get] using h0

/-- R148: what a TRIP leaves. -/
structure TripTaken (s t : State) : Prop where
  superv  : t.superv = { s.superv with
    relayClosed := false, trip := true, mismatchMs := if s.superv.relayClosed = false then s.superv.mismatchMs else 0 }
  hold    : s.superv.trip = false → t.share.holds.power = 0
  cold    : NoDemand t.climate
  shed    : s.power.inFrame = true → t.power.shed = PerElement.all true
  program : programActive s.recipe = true →
    t.recipe.state = .faulted ∧ t.recipe.store = s.recipe.store ∧ t.climate.profile = none
  descale : descaleActive s.descale = true → t.descale.phase = if s.steam.acid then .holdAcid else .off
  startup : t.startup = s.startup
  pending : t.pending = s.pending
  settled : GenSettled t

theorem tripTaken (cause : ProgramFault) (s : State) : TripTaken s (takeTrip cause s) := by
  obtain ⟨hp, hu, hm, hd, hr, hc, hv⟩ := tripHeld_blocks s
  obtain ⟨hi, hshed⟩ := tripHeld_power s
  have hhold := tripHeld_hold (s := s)
  rw [takeTrip_eq]
  generalize tripHeld s = v at *
  have hall : AllShed (settle (descaleFault .trip (faultProgram cause v))) :=
    ((hshed.faultProgram cause).congr (by simp) (by simp)).settle
  have hclimate : (settle (descaleFault .trip (faultProgram cause v))).climate = (faultProgram cause v).climate := by simp
  have hwait := waitOnly_settle (descaleFault .trip (faultProgram cause v))
  have hrec := settle_recipe (descaleFault .trip (faultProgram cause v))
  unfold WaitOnly at hwait
  refine ⟨by simp [hv], fun h => ?_, ?_, fun h => hall ?_, fun h => ?_, fun h => ?_, by simp [hu], by simp [hp],
    genSettled_settle _⟩
  · simpa using hhold h
  · rw [hclimate]
    exact noDemand_faultProgram cause (hc ▸ noDemand_forceZero _)
  · rw [settle_inFrame, descaleFault_power, faultProgram_inFrame, hi, h]
  · have ha : programActive v.recipe = true := by rw [hr]; exact h
    rw [hclimate, hrec, (descaleFault_frame _ _).2.2.2.1, faultProgram, if_pos ha]
    simp [leaveClimate, hr]
  · rw [(congrArg Descale.phase hwait :), descaleFault_of_active (by simpa [hd] using h), endPhase_descale]
    simp [hm]

/-- What a TRIP tells. -/
theorem takeTrip_tells (cause : ProgramFault) (h : Tells l s t) :
    Tells (l ++ faultNotice cause t ++ descaleNotice .trip (faultProgram cause (tripHeld t))) s (takeTrip cause t) := by
  obtain ⟨-, -, -, -, hr, -, -⟩ := tripHeld_blocks t
  have h1 := ((tripHeld_tells h).faultProgram (cause := cause)).descaleFault (cause := .trip)
  have hsame : faultNotice cause (tripHeld t) = faultNotice cause t := by simp [faultNotice, hr]
  rw [hsame] at h1
  exact h1.settle

theorem faultNotice_length (cause : ProgramFault) (s : State) : (faultNotice cause s).length ≤ 1 := by
  unfold faultNotice
  split <;> simp

theorem descaleNotice_length (cause : DescaleCause) (s : State) : (descaleNotice cause s).length ≤ 1 := by
  unfold descaleNotice
  split <;> simp

/-- Behind one notice a TRIP tells at most two more. -/
theorem takeTrip_told {f : TxFrame} (cause : ProgramFault) (h : Tells [f] s t) (hn : unnumbered s = false)
    (hq : s.line.queue = []) :
    Told (takeTrip cause t).line.queue
      ([f] ++ faultNotice cause t ++ descaleNotice .trip (faultProgram cause (tripHeld t))) := by
  have h1 := faultNotice_length cause t
  have h2 := descaleNotice_length .trip (faultProgram cause (tripHeld t))
  exact (takeTrip_tells cause h).told hn hq (by simp only [List.length_append, List.length_singleton]; omega)

end Sys2Proof.Machine

/-!
The relay that does not follow its command, and the configuration check (R150, R151, R153).
-/
namespace Sys2Proof.Machine

variable {s t u : State}

theorem touches_only_superv (x : Superv) (s : State) : OnlyTouches [.superv] s (s.setSuperv x) :=
  ⟨rfl, fun b hb => by cases b with
    | superv => exact absurd hb (by decide)
    | startup | climate | power | share | line | steam | descale | recipe => rfl⟩

/-! ### The weld -/

/-- R151: what stands before a weld settles. -/
def weldShown (s : State) : State :=
  barHeat ((notice .relayFault 2 s).setSuperv { (notice .relayFault 2 s).superv with welded := true })

theorem relayWelded_eq (hc : s.superv.relayClosed = false) (hf : s.superv.feedbackClosed = true)
    (hw : s.superv.welded = false) : relayWelded s = settle (descaleFault .relayWelded (weldShown s)) := by
  rw [relayWelded, if_pos (by simp [hc, hf, hw])]
  rfl

theorem weldShown_blocks (s : State) :
    (weldShown s).pending = s.pending ∧ (weldShown s).startup = s.startup ∧ (weldShown s).climate = s.climate
      ∧ (weldShown s).share = s.share ∧ (weldShown s).steam = s.steam ∧ (weldShown s).descale = s.descale
      ∧ (weldShown s).recipe = s.recipe ∧ (weldShown s).superv = { s.superv with welded := true }
      ∧ (weldShown s).power.inFrame = s.power.inFrame := by
  unfold weldShown
  rw [barHeat_inFrame]
  simp

theorem weldShown_tells (s : State) :
    Tells [.notice .relayFault (noticeTag s.recipe) s.recipe.cur 2] s (weldShown s) := by
  have h1 : Tells [.notice .relayFault (noticeTag s.recipe) s.recipe.cur 2] s
      ((notice .relayFault 2 s).setSuperv { (notice .relayFault 2 s).superv with welded := true }) :=
    ((Tells.refl s).notice (code := .relayFault) (detail := 2)).same rfl rfl rfl
  exact h1.barHeat

/-- R151: what a weld leaves. -/
theorem weld_taken (hn : unnumbered s = false) (hq : s.line.queue = []) (t : State)
    (ht : t = settle (descaleFault .relayWelded (weldShown s))) :
    t.superv = { s.superv with welded := true }
      ∧ Queued (.notice .relayFault (noticeTag s.recipe) s.recipe.cur 2) t
      ∧ (s.power.inFrame = true → t.power.shed = PerElement.all true)
      ∧ (descaleActive s.descale = true → t.descale.phase = (if s.steam.acid then .holdAcid else .off))
      ∧ t.climate = s.climate ∧ t.startup = s.startup ∧ t.share.holds.power = s.share.holds.power
      ∧ ProgramStands s t ∧ t.pending = s.pending := by
  obtain ⟨hp, hu, hc, hx, hm, hd, hr, hv, hi⟩ := weldShown_blocks s
  have htell := ((weldShown_tells s).descaleFault (cause := .relayWelded)).settle
  rw [← ht] at htell
  have hlen := descaleNotice_length .relayWelded (weldShown s)
  have hbar : AllShed (weldShown s) := allShed_barHeat _
  have hshed : AllShed (settle (descaleFault .relayWelded (weldShown s))) :=
    AllShed.settle (hbar.congr (by simp) (by simp))
  have hwait := waitOnly_settle (descaleFault .relayWelded (weldShown s))
  have hrec := settle_recipe (descaleFault .relayWelded (weldShown s))
  unfold WaitOnly at hwait
  rw [← ht] at hshed hwait hrec
  refine ⟨by simp [ht, hv], (htell.told hn hq (by simp only [List.length_append, List.length_singleton]; omega)).queued
    (by simp), fun h => hshed ?_, fun h => ?_, by simp [ht, hc], by simp [ht, hu], by simp [ht, hx], ?_, by simp [ht, hp]⟩
  · rw [ht, settle_inFrame, descaleFault_power, hi, h]
  · rw [(congrArg Descale.phase hwait :), descaleFault_of_active (by simpa [hd] using h), endPhase_descale]
    simp [hm]
  · rw [(descaleFault_frame _ _).2.2.2.1, hr] at hrec
    exact hrec

/-! ### The configuration fault -/

/-- R153: what is told and noted before the TRIP. -/
def configFaultShown (s : State) : State :=
  (notice .relayFault 3 s).setSuperv { (notice .relayFault 3 s).superv with configFault := true }

/-- R153, R42: every hold given up, and no RAISE left waiting. -/
def claimsDropped (s : State) : State :=
  dropRaise .drain (dropRaise .inlet (dropRaise .power (lowerHold .drain 0 (lowerHold .inlet 0 (lowerHold .power 0 s)))))

theorem takeConfigFault_eq (s : State) :
    takeConfigFault s = settle (claimsDropped (takeTrip .configFault (configFaultShown s))) := rfl

theorem claimsDropped_claims (s : State) : Claims s (claimsDropped s) :=
  ((((((Claims.refl s).lowerHold _ _).lowerHold _ _).lowerHold _ _).dropRaise _).dropRaise _).dropRaise _

theorem claimsDropped_tells {l : List TxFrame} (h : Tells l s t) : Tells l s (claimsDropped t) :=
  h.lowerHold.lowerHold.lowerHold.dropRaise.dropRaise.dropRaise

theorem claimsDropped_holds (s : State) : (claimsDropped s).share.holds = PerPool.all 0 := by
  refine perPool_ext fun q => ?_
  simp only [claimsDropped, dropRaise_frame, lowerHold_holds]
  cases q <;> simp [PerPool.get, PerPool.all]

theorem claimsDropped_noneAsked (p : Pool) (s : State) : NoneAsked p (claimsDropped s) := by
  cases p with
  | power => exact ((noneAsked_dropRaise .power _).dropRaise .inlet).dropRaise .drain
  | inlet => exact (noneAsked_dropRaise .inlet _).dropRaise .drain
  | drain => exact noneAsked_dropRaise .drain _

/-- Where nothing is being sent, no RAISE waits means that none is queued. -/
theorem Told.no_raise {l : List TxFrame} (h : Told t.line.queue l) {p : Pool} (hp : NoneAsked p t) :
    raiseQueued p t = false := by
  simp only [raiseQueued, List.any_eq_false]
  intro e he
  simpa using hp e he (h.waits e he)

/-- R153: what a configuration fault leaves. -/
theorem configFault_taken (hn : unnumbered s = false) (hq : s.line.queue = []) (t : State) (ht : t = takeConfigFault s) :
    t.superv.configFault = true ∧ t.superv.trip = true ∧ t.superv.relayClosed = false
      ∧ t.share.holds = PerPool.all 0 ∧ (∀ p, raiseQueued p t = false)
      ∧ Queued (.notice .relayFault (noticeTag s.recipe) s.recipe.cur 3) t
      ∧ (programActive s.recipe = true → t.recipe.state = .faulted
          ∧ Queued (.notice .programFault (noticeTag s.recipe) s.recipe.lastHeat 4) t)
      ∧ (descaleActive s.descale = true → t.descale.phase = (if s.steam.acid then .holdAcid else .off))
      ∧ t.climate.demTop = 0 ∧ t.climate.demBottom = 0 ∧ t.climate.demRing = 0
      ∧ t.startup = s.startup ∧ t.pending = s.pending := by
  have h0 : Tells [.notice .relayFault (noticeTag s.recipe) s.recipe.cur 3] s (configFaultShown s) :=
    ((Tells.refl s).notice (code := .relayFault) (detail := 3)).same rfl rfl rfl
  have htrip := tripTaken .configFault (configFaultShown s)
  have hc := claimsDropped_claims (takeTrip .configFault (configFaultShown s))
  obtain ⟨-, hu, hcl, -, hd, -, hv⟩ := hc.blocks
  obtain ⟨hx, hl, ⟨-, -, hw⟩, hps, htouch⟩ := hc.settled htrip.settled
  have hlen1 := faultNotice_length .configFault (configFaultShown s)
  have hlen2 := descaleNotice_length .trip (faultProgram .configFault (tripHeld (configFaultShown s)))
  have htold := (claimsDropped_tells (takeTrip_tells .configFault h0)).told hn hq
    (by simp only [List.length_append, List.length_singleton]; omega)
  have hqueue : ∀ f, Queued f (claimsDropped (takeTrip .configFault (configFaultShown s))) → Queued f t := fun f hf => by
    unfold Queued at *
    rw [ht, takeConfigFault_eq, hl]
    exact hf
  have hsup := htrip.superv
  rw [takeConfigFault_eq] at ht
  have htsup : t.superv = (takeTrip .configFault (configFaultShown s)).superv := by rw [ht, (settle_frame _).2.2.2, hv]
  have htcl : t.climate = (takeTrip .configFault (configFaultShown s)).climate := by rw [ht, (settle_frame _).2.2.1, hcl]
  rw [← ht] at hx hl hw hps htouch
  unfold WaitOnly at hw
  unfold ProgramStands at hps
  obtain ⟨c1, c2, c3, -⟩ := htrip.cold
  refine ⟨?_, ?_, ?_, ?_, fun p => ?_, hqueue _ (htold.queued (by simp)), fun h => ⟨?_, hqueue _ (htold.queued ?_)⟩, fun h => ?_,
    ?_, ?_, ?_, ?_, ?_⟩
  · rw [htsup, hsup]
    rfl
  · rw [htsup, hsup]
  · rw [htsup, hsup]
  · rw [hx]
    exact claimsDropped_holds _
  · have hno := htold.no_raise (claimsDropped_noneAsked p _)
    rwa [raiseQueued, ← hl] at hno
  · rw [(congrArg Recipe.state hps :)]
    exact (htrip.program (by simpa [configFaultShown] using h)).1
  · have ha : programActive (configFaultShown s).recipe = true := by simpa [configFaultShown] using h
    have hr : (configFaultShown s).recipe = s.recipe := by simp [configFaultShown]
    rw [faultNotice, if_pos ha, hr]
    simp [ProgramFault.code]
  · rw [(congrArg Descale.phase hw :), hd]
    simpa [configFaultShown] using htrip.descale (by simpa [configFaultShown] using h)
  · rw [htcl]
    exact c1
  · rw [htcl]
    exact c2
  · rw [htcl]
    exact c3
  · exact (htouch.2 .startup (by decide)).trans (htrip.startup.trans (by simp [configFaultShown]))
  · exact htouch.1.trans (htrip.pending.trans (by simp [configFaultShown]))

/-- Settles O57: the feedback, the open fault, the weld, and the check in agreement, in difference and while held. -/
theorem relayAndConfigurationFaultsAreTaken : Obligations.RelayAndConfigurationFaultsAreTaken := by
  refine ⟨fun s closed => ⟨_, rfl, rfl, touches_only_superv _ s⟩, fun s hn hq hc hf => ?_, fun s hn hq hc hf hw => ?_,
    fun s hf hc heq => ?_, fun s hf hn hc hq hne => ?_, fun s hc => ⟨_, rfl, ?_⟩⟩
  · have hx : relayOpenFault s = takeTrip .trip (notice .relayFault 1 s) := if_pos (by simp [hc, hf])
    have ht := tripTaken .trip (notice .relayFault 1 s)
    have htold := takeTrip_told .trip ((Tells.refl s).notice (code := .relayFault) (detail := 1)) hn hq
    obtain ⟨c1, c2, c3, c4⟩ := ht.cold
    have hsup := ht.superv
    simp only [notice_frame] at hsup
    refine ⟨_, congrArg Host.Outcome.next hx, ?_, fun h => ht.hold (by simpa using h), htold.queued (by simp), c1, c2, c3, c4,
      fun h => ht.shed (by simpa using h), fun h => ?_, fun h => ?_, ht.startup.trans (by simp), ht.pending.trans (by simp)⟩
    · rw [hsup, if_neg (by simp [hc])]
    · obtain ⟨p1, -, p3⟩ := ht.program (by simpa using h)
      exact ⟨p1, p3⟩
    · simpa using ht.descale (by simpa using h)
  · exact ⟨_, congrArg Host.Outcome.next (relayWelded_eq hc hf hw), weld_taken hn hq _ rfl⟩
  · have hx : configCheck s = s.setSuperv { s.superv with checkMs := 0 } := by
      simp only [configCheck, hf, hc, configCheckValue]
      simp [heq]
    exact ⟨_, congrArg Host.Outcome.next hx, rfl, touches_only_superv _ s⟩
  · have hx : configCheck s = takeConfigFault (s.setSuperv { s.superv with checkMs := 0 }) := by
      simp only [configCheck, hf, hc, configCheckValue]
      simp [hne]
    exact ⟨_, congrArg Host.Outcome.next hx,
      configFault_taken (s := s.setSuperv { s.superv with checkMs := 0 }) hn hq _ rfl⟩
  · simp [configCheck, hc]

end Sys2Proof.Machine

/-!
Excursions that start and end (R142, R144, R146 to R149).
-/
namespace Sys2Proof.Machine

variable {s t u : State}

/-! ### Side records -/

theorem sideRec_setSideRec (v : Superv) (c : Channel) (r : SideRec) (d : Side) : sideRec (setSideRec v c r d) c d = r := by
  cases d <;> cases c <;> rfl

theorem sideRec_setSideRec_other {d o : Side} (h : o ≠ d) (v : Superv) (c : Channel) (r : SideRec) :
    sideRec (setSideRec v c r d) c o = sideRec v c o := by
  cases d <;> cases o <;> first | rfl | exact absurd rfl h

theorem setSideRec_rest (v : Superv) (c : Channel) (r : SideRec) (d : Side) :
    (setSideRec v c r d).relayClosed = v.relayClosed ∧ (setSideRec v c r d).trip = v.trip
      ∧ (setSideRec v c r d).strikes = v.strikes ∧ (setSideRec v c r d).readings = v.readings := by
  cases d <;> exact ⟨rfl, rfl, rfl, rfl⟩

/-! ### The start of an excursion -/

/-- R146: the side ACTIVE with its consequence, the strike counted, and the notice raised. -/
def excursionShown (c : Channel) (d : Side) (s : State) : State :=
  notice .channelExcursion (excursionDetail c d (fixedConsequence s c d) true)
    (s.setSuperv { setSideRec s.superv c ⟨.active, 0, fixedConsequence s c d⟩ d with
      strikes := (setSideRec s.superv c ⟨.active, 0, fixedConsequence s c d⟩ d).strikes.set (strikesAfter s c d) c })

theorem startExcursion_eq (c : Channel) (d : Side) (s : State) : startExcursion c d s =
    match fixedConsequence s c d with
    | .note => excursionShown c d s
    | .cut => if cutInForce s.superv then excursionShown c d s else beginCut (excursionShown c d s)
    | .trip => takeTrip .trip (excursionShown c d s) := rfl

theorem excursionStart_eq {c : Channel} {d : Side} (he : d ≠ .fixed ∨ c = .cav)
    (hp : (sideRec s.superv c d).state = .pending) (ho : otherInExcursion s.superv c d = false) :
    excursionStart c d s = startExcursion c d s := by
  have hex : sideExists c d = true := by
    rcases he with h | h <;> simp [sideExists, h]
  rw [excursionStart, if_pos (by simp [hex, hp]), debounced, if_neg (by simp [ho])]

theorem excursionShown_blocks (c : Channel) (d : Side) (s : State) :
    (excursionShown c d s).pending = s.pending ∧ (excursionShown c d s).startup = s.startup
      ∧ (excursionShown c d s).climate = s.climate ∧ (excursionShown c d s).power = s.power
      ∧ (excursionShown c d s).share = s.share ∧ (excursionShown c d s).steam = s.steam
      ∧ (excursionShown c d s).descale = s.descale ∧ (excursionShown c d s).recipe = s.recipe := by
  simp [excursionShown]

theorem sideRec_strikes (v : Superv) (k : PerChannel Nat) (c : Channel) (d : Side) :
    sideRec { v with strikes := k } c d = sideRec v c d := by cases d <;> rfl

/-- R146: the side, its strikes, latch and relay behind it. -/
theorem excursionShown_superv (c : Channel) (d : Side) (s : State) :
    sideRec (excursionShown c d s).superv c d = ⟨.active, 0, fixedConsequence s c d⟩
      ∧ (excursionShown c d s).superv.strikes.get c = strikesAfter s c d
      ∧ (excursionShown c d s).superv.trip = s.superv.trip
      ∧ (excursionShown c d s).superv.relayClosed = s.superv.relayClosed := by
  obtain ⟨h1, h2, -, -⟩ := setSideRec_rest s.superv c ⟨.active, 0, fixedConsequence s c d⟩ d
  unfold excursionShown
  rw [(notice_frame _ _ _).2.2.2.2.2.2.2.2]
  refine ⟨?_, ?_, h2, h1⟩
  · rw [State.setSuperv_superv, sideRec_strikes, sideRec_setSideRec]
  · cases c <;> rfl

/-- R142, R146: the consequence as the statement gives it. -/
theorem fixedConsequence_eq (s : State) (c : Channel) (d : Side) : fixedConsequence s c d =
    (if d = .fixed then .trip
      else if (s.startup.channels.get c).strikeLimit ≠ 0
          ∧ (s.startup.channels.get c).strikeLimit ≤ min 15 (s.superv.strikes.get c + 1) then .trip
      else if d = .low then (s.startup.channels.get c).lowMap else (s.startup.channels.get c).highMap) := by
  cases d <;> rfl

theorem strikesAfter_eq (s : State) (c : Channel) (d : Side) : strikesAfter s c d
    = (if d = .fixed then s.superv.strikes.get c else min 15 (s.superv.strikes.get c + 1)) := by
  cases d <;> rfl

theorem excursionShown_tells (c : Channel) (d : Side) (s : State) :
    Tells [.notice .channelExcursion (noticeTag s.recipe) s.recipe.cur
      (excursionDetail c d (fixedConsequence s c d) true)] s (excursionShown c d s) := by
  have h : Tells [] s (s.setSuperv { setSideRec s.superv c ⟨.active, 0, fixedConsequence s c d⟩ d with
      strikes := (setSideRec s.superv c ⟨.active, 0, fixedConsequence s c d⟩ d).strikes.set (strikesAfter s c d) c }) :=
    (Tells.refl s).same rfl rfl rfl
  exact h.notice

theorem queued_excursionShown (c : Channel) (d : Side) (hn : unnumbered s = false) :
    Queued (.notice .channelExcursion (noticeTag s.recipe) s.recipe.cur
      (excursionDetail c d (fixedConsequence s c d) true)) (excursionShown c d s) :=
  queued_notice (s := s.setSuperv { setSideRec s.superv c ⟨.active, 0, fixedConsequence s c d⟩ d with
    strikes := (setSideRec s.superv c ⟨.active, 0, fixedConsequence s c d⟩ d).strikes.set (strikesAfter s c d) c })
    hn .channelExcursion _

/-! ### CUT -/

/-- R147, R17, R32: what a CUT leaves that comes into force with a settled generator. -/
theorem beginCut_effect (hg : GenSettled u) (t : State) (ht : t = beginCut u) :
    t.superv = u.superv ∧ t.share = u.share ∧ t.line = u.line ∧ NoDemand t.climate ∧ t.climate.integ = u.climate.integ
      ∧ (u.power.inFrame = true → t.power.shed = PerElement.all true) ∧ ProgramStands u t
      ∧ t.startup = u.startup ∧ t.pending = u.pending := by
  have hj : judgeSteam (barHeat (forceZero u)) = barHeat (forceZero u) :=
    judgeSteam_of_same hg (by simp) (by simp) (by simp)
  obtain ⟨hl, hx, -, hps⟩ := settle_of_fixed hj
  have hbar : AllShed (barHeat (forceZero u)) := allShed_barHeat _
  have hshed := hbar.settle
  have hclimate : t.climate = (forceZero u).climate := by simp [ht, beginCut]
  have hframe : t.power.inFrame = u.power.inFrame := by
    rw [ht, beginCut, settle_inFrame, barHeat_inFrame, forceZero_inFrame]
  rw [beginCut] at ht
  rw [← ht] at hl hx hps hshed
  refine ⟨by simp [ht], by simpa using hx, by simpa using hl, ?_, ?_, fun h => hshed (hframe.trans h), ?_, by simp [ht],
    by simp [ht]⟩
  · rw [hclimate]
    exact noDemand_forceZero u
  · rw [hclimate]
    simp [forceZero, zeroDemands]
  · exact programStands_of hps (by simp)

/-! ### The end of an excursion -/

/-- R146: the side CLEAR and the notice raised. -/
def excursionEnded (c : Channel) (d : Side) (s : State) : State :=
  notice .channelExcursion (excursionDetail c d (sideRec s.superv c d).cons false)
    (s.setSuperv (setSideRec s.superv c SideRec.cleared d))

theorem excursionEnd_eq {c : Channel} {d : Side} (he : d ≠ .fixed ∨ c = .cav)
    (hr : (sideRec s.superv c d).state = .recovering) (ha : (s.superv.readings.get c).cond.showsAbsent = false)
    (ho : ∀ o ∈ otherSide d, (sideRec s.superv c o).state ≠ .pending) :
    excursionEnd c d s = settle (excursionEnded c d s) := by
  have hex : sideExists c d = true := by
    rcases he with h | h <;> simp [sideExists, h]
  have hwait : startWaiting c d (excursionEnded c d s) = excursionEnded c d s := by
    unfold startWaiting
    split
    · rfl
    next o hod =>
      have hne : o ≠ d := by
        cases d <;> cases o <;> simp_all [otherSide]
      have hside : sideRec (excursionEnded c d s).superv c o = sideRec s.superv c o := by
        rw [excursionEnded, (notice_frame _ _ _).2.2.2.2.2.2.2.2]
        exact sideRec_setSideRec_other hne _ _ _
      rw [hside, if_neg (fun h => ho o hod h.1)]
  rw [excursionEnd, if_pos (by simp [hex, hr, recoveryCounts, ha])]
  exact congrArg settle hwait

/-- Settles O56: the three consequences of a start, and an end. -/
theorem excursionsTakeTheirConsequence : Obligations.ExcursionsTakeTheirConsequence := by
  refine ⟨fun s c d hn hg hq he hp ho => ?_, fun s c d hn hg he hr ha ho => ?_, fun s d ha => ?_⟩
  · obtain ⟨b1, b2, b3, b4, b5, b6, b7, b8⟩ := excursionShown_blocks c d s
    obtain ⟨v1, v2, v3, v4⟩ := excursionShown_superv c d s
    have hqueue := queued_excursionShown (s := s) c d hn
    have heq := (excursionStart_eq he hp ho).trans (startExcursion_eq c d s)
    rw [strikesAfter_eq] at v2
    have hcons := fixedConsequence_eq s c d
    have hdetail : ∀ k, excursionDetail c d k true = channelCode c * 256 + sideCode d * 64 + k.code * 16 + 1 := fun _ => rfl
    rw [hdetail] at hqueue
    cases hk : fixedConsequence s c d with
    | note =>
      rw [hk] at heq v1 hqueue hcons
      dsimp only at heq
      refine ⟨_, congrArg Host.Outcome.next heq, ?_⟩
      rw [v1]
      refine ⟨rfl, hcons, v2, hqueue, fun _ => ⟨v3, v4, ?_, b1, fun b hb => ?_⟩, fun h => absurd h (by decide), fun h => absurd h (by decide), b2, b1⟩
      · rw [ProgramStands, b8]
      · cases b with
        | startup => exact b2
        | climate => exact b3
        | power => exact b4
        | share => exact b5
        | steam => exact b6
        | descale => exact b7
        | line | recipe | superv => exact absurd hb (by decide)
    | cut =>
      rw [hk] at heq v1 hqueue hcons
      cases hcut : cutInForce s.superv with
      | true =>
        dsimp only at heq
        rw [hcut, if_pos rfl] at heq
        refine ⟨_, congrArg Host.Outcome.next heq, ?_⟩
        rw [v1]
        refine ⟨rfl, hcons, v2, hqueue, fun h => absurd h (by decide), fun _ => ⟨v3, v4, fun h => absurd h (by simp), ?_, b5⟩,
          fun h => absurd h (by decide), b2, b1⟩
        rw [ProgramStands, b8]
      | false =>
        dsimp only at heq
        rw [hcut, if_neg (by decide)] at heq
        have hg' : GenSettled (excursionShown c d s) :=
          genSettled_congr hg (steamWanted_congr (by rw [b8]) (fun _ => by rw [b8]; exact ⟨rfl, rfl⟩) (by rw [b6])
            (by rw [b6]) (by rw [b2])) (by rw [b6]) (by rw [b2]) (by rw [b2])
        obtain ⟨e1, e2, e3, ⟨d1, d2, d3, d4⟩, e5, e6, e7, e8, e9⟩ := beginCut_effect hg' _ rfl
        refine ⟨_, congrArg Host.Outcome.next heq, ?_⟩
        show sideRec (beginCut (excursionShown c d s)).superv c d = _ ∧ _
        rw [e1, v1]
        refine ⟨rfl, hcons, v2, ?_, fun h => absurd h (by decide), fun _ => ⟨v3, v4, fun _ _ => ⟨d1, d2, d3, d4, ?_, fun h => e6 ?_⟩, ?_, ?_⟩,
          fun h => absurd h (by decide), e8.trans b2, e9.trans b1⟩
        · unfold Queued at *
          rw [e3]
          exact hqueue
        · rw [e5, b3]
        · rw [b4, h]
        · exact programStands_of e7 b8
        · exact e2.trans b5
    | trip =>
      have htold := takeTrip_told .trip (excursionShown_tells c d s) hn hq
      have ht := tripTaken .trip (excursionShown c d s)
      have hside : sideRec (takeTrip .trip (excursionShown c d s)).superv c d = sideRec (excursionShown c d s).superv c d := by
        rw [ht.superv]
        cases d <;> rfl
      have hstrikes : (takeTrip .trip (excursionShown c d s)).superv.strikes = (excursionShown c d s).superv.strikes := by
        rw [ht.superv]
      have hq' := htold.queued (f := .notice .channelExcursion (noticeTag s.recipe) s.recipe.cur
        (excursionDetail c d (fixedConsequence s c d) true)) (by simp)
      rw [hk] at heq v1 hcons hq'
      dsimp only at heq
      obtain ⟨d1, d2, d3, d4⟩ := ht.cold
      refine ⟨_, congrArg Host.Outcome.next heq, ?_⟩
      show sideRec (takeTrip .trip (excursionShown c d s)).superv c d = _ ∧ _
      rw [hside, v1]
      refine ⟨rfl, hcons, ?_, hq', fun h => absurd h (by decide), fun h => absurd h (by decide), fun _ => ⟨?_, ?_, fun h => ht.hold (v3.trans h),
        d1, d2, d3, d4, fun h => ht.shed (by rw [b4, h]), fun h => ?_, fun h => ?_⟩, ht.startup.trans b2, ht.pending.trans b1⟩
      · show (takeTrip .trip (excursionShown c d s)).superv.strikes.get c = _
        rw [hstrikes]
        exact v2
      · show (takeTrip .trip (excursionShown c d s)).superv.trip = true
        rw [ht.superv]
      · show (takeTrip .trip (excursionShown c d s)).superv.relayClosed = false
        rw [ht.superv]
      · have hp := ht.program (by rw [b8]; exact h)
        rwa [b8] at hp
      · have hd := ht.descale (by rw [b7]; exact h)
        rwa [b6] at hd
  · obtain ⟨w1, w2, w3, w4⟩ := setSideRec_rest s.superv c SideRec.cleared d
    have hsup : (excursionEnded c d s).superv = setSideRec s.superv c SideRec.cleared d := by simp [excursionEnded]
    have hj : judgeSteam (excursionEnded c d s) = excursionEnded c d s :=
      judgeSteam_of_same hg (by simp [excursionEnded]) (by simp [excursionEnded]) (by simp [excursionEnded])
    obtain ⟨hl, hx, hset, hps⟩ := settle_of_fixed hj
    have hqueue : Queued (.notice .channelExcursion (noticeTag s.recipe) s.recipe.cur
        (excursionDetail c d (sideRec s.superv c d).cons false)) (excursionEnded c d s) :=
      queued_notice (s := s.setSuperv (setSideRec s.superv c SideRec.cleared d)) hn .channelExcursion _
    have hdetail : excursionDetail c d (sideRec s.superv c d).cons false
        = channelCode c * 256 + sideCode d * 64 + (sideRec s.superv c d).cons.code * 16 := by
      simp [excursionDetail, bitNat]
    rw [hdetail] at hqueue
    have hsup' : (settle (excursionEnded c d s)).superv = setSideRec s.superv c SideRec.cleared d :=
      (settle_frame _).2.2.2.trans hsup
    refine ⟨_, congrArg Host.Outcome.next (excursionEnd_eq he hr ha ho), ?_, ?_, ?_, ?_, ?_, by simp [excursionEnded],
      (SettlesOnly.of_eq (by simp [excursionEnded]) (by simp [excursionEnded]) (by simp [excursionEnded])).trans hset,
      programStands_of hps (by simp [excursionEnded]), by simp [excursionEnded], fun b hb => ?_⟩
    · rw [hsup', sideRec_setSideRec]
    · unfold Queued at *
      rw [hl]
      exact hqueue
    · rw [hsup', w2]
    · rw [hsup', w1]
    · rw [hsup', w3]
    · cases b with
      | startup => simp [Block.same, excursionEnded]
      | climate => simp [Block.same, excursionEnded]
      | share => exact hx.trans (by simp [excursionEnded])
      | power | line | steam | descale | recipe | superv => exact absurd hb (by decide)
  · have hx : excursionEnd .core d s = s := if_neg (by simp [recoveryCounts, ha])
    show Host.Outcome.next (excursionEnd .core d s) = _
    rw [hx]

end Sys2Proof.Machine

/-!
A reading of the inputs (R127, R140, R141): the probe's own fields, what an input presents, and the sides it moves.
-/
namespace Sys2Proof.Machine

variable {s t u w : State} {h : HeatStage} {c : Channel}

/-! ### The probe's own fields (R127) -/

/-- The probe state, the reading's present or absent, and its count. -/
def Recipe.probe (r : Recipe) : Bool × Bool × Nat := (r.probePresent, r.probeShows, r.probeMs)

@[simp] theorem finishProgram_probe (s : State) : (finishProgram s).recipe.probe = s.recipe.probe := by
  simp [finishProgram, Recipe.probe]

@[simp] theorem faultProgram_probe (c : ProgramFault) (s : State) : (faultProgram c s).recipe.probe = s.recipe.probe := by
  unfold faultProgram
  split <;> simp [Recipe.probe]

@[simp] theorem beginStage_probe (i : Nat) (h : HeatStage) (s : State) :
    (beginStage i h s).recipe.probe = s.recipe.probe := by
  rw [beginStage_eq]
  simp [stageBegun_recipe, Recipe.probe]

@[simp] theorem probeRule_probe (s : State) : (probeRule s).recipe.probe = s.recipe.probe := by
  unfold probeRule
  (repeat' split) <;> simp [Recipe.probe]

@[simp] theorem enterStage_probe (fuel : Nat) :
    ∀ (i : Nat) (s : State), (enterStage fuel i s).recipe.probe = s.recipe.probe := by
  induction fuel with
  | zero => intro i s; rfl
  | succ n ih =>
    intro i s
    unfold enterStage
    dsimp only
    split
    case h_1 => exact finishProgram_probe _
    case h_2 => (split <;> [rw [finishProgram_probe]; rw [ih]]) <;> rfl
    case h_3 =>
      split
      · rw [ih]; rfl
      · (split <;> [rw [ih]; rw [faultProgram_probe]]) <;> rfl
    case h_4 =>
      split
      · rw [ih]; rfl
      · (split <;> [rw [ih]; rw [probeRule_probe]]) <;> exact beginStage_probe _ _ _

@[simp] theorem enter_probe (i : Nat) (s : State) : (enter i s).recipe.probe = s.recipe.probe := enterStage_probe _ _ _

@[simp] theorem judgeStage_probe (s : State) : (judgeStage s).recipe.probe = s.recipe.probe := by
  unfold judgeStage
  split
  · exact enter_probe _ _
  · rfl

@[simp] theorem judgeTimedPhase_probe (s : State) : (judgeTimedPhase s).recipe.probe = s.recipe.probe := by
  unfold judgeTimedPhase
  (repeat' split) <;> rfl

@[simp] theorem settle_probe (s : State) : (settle s).recipe.probe = s.recipe.probe := by
  rw [settle_recipe]
  rfl

/-! ### What the rules judge at a reading -/

/-- The state on which the rules judge a reading: the inputs read and the probe's count begun (R127, R140). -/
def inputsRead (x : SensorInputs) (s : State) : State := probeInput (!coreAbsent x.core) (withReadings x s)

/-- The reading, with the side states judged. -/
def sidesRead (x : SensorInputs) (s : State) : State := judgeReadings (inputsRead x s)

theorem sensorReading_eq (x : SensorInputs) (s : State) :
    sensorReading x s = settle (judgeBoil (judgeHeat (judgeStage (judgeTimedPhase (sidesRead x s))))) := rfl

theorem inputsRead_superv (x : SensorInputs) (s : State) : (inputsRead x s).superv =
    { s.superv with readings := readInputs x s.recipe.probePresent s.superv.readings } := rfl

theorem sidesRead_frame (x : SensorInputs) (s : State) :
    (sidesRead x s).pending = s.pending ∧ (sidesRead x s).startup = s.startup ∧ (sidesRead x s).climate = s.climate
      ∧ (sidesRead x s).power = s.power ∧ (sidesRead x s).share = s.share ∧ (sidesRead x s).line = s.line
      ∧ (sidesRead x s).steam = s.steam ∧ (sidesRead x s).descale = s.descale
      ∧ (sidesRead x s).recipe = { s.recipe with
          probeShows := !coreAbsent x.core
          probeMs    := if s.recipe.probeShows = !coreAbsent x.core then s.recipe.probeMs else 0 } := by
  simp only [sidesRead, judgeReadings_frame]
  exact ⟨rfl, rfl, rfl, rfl, rfl, rfl, rfl, rfl, rfl⟩

theorem sensorReading_kept (x : SensorInputs) (s : State) :
    (sensorReading x s).superv = (sidesRead x s).superv ∧ (sensorReading x s).startup = s.startup
      ∧ (sensorReading x s).pending = s.pending ∧ (sensorReading x s).recipe.probeShows = !coreAbsent x.core := by
  rw [sensorReading_eq]
  obtain ⟨hp, hu, -, -, -, -, -, -, hr⟩ := sidesRead_frame x s
  refine ⟨by simp, by simp [hu], by simp [hp], ?_⟩
  have hq : (settle (judgeBoil (judgeHeat (judgeStage (judgeTimedPhase (sidesRead x s)))))).recipe.probe
      = (sidesRead x s).recipe.probe := by simp
  rw [hr] at hq
  exact congrArg (fun p => p.2.1) hq

/-! ### What an input presents (R140, R141) -/

/-- The condition of an input that is not readable. -/
def inputCond : AnalogInput → InputCond
  | .readable _ => .ok
  | .openCircuit => .openCircuit
  | .shortCircuit => .shortCircuit

theorem unreadable_not_fixed {k : InputCond} {r : Reading} (hk : failSide k ≠ .fixed) : (unreadable k r).failed ≠ some .fixed := by
  unfold unreadable
  split
  · simpa using hk
  · rename_i hf
    (repeat' split) <;> simp_all

theorem readAnalog_not_fixed (c : Channel) (i : AnalogInput) (r : Reading) : (readAnalog c i r).failed ≠ some .fixed := by
  cases i with
  | readable v => simp [readAnalog, readableAs]
  | openCircuit | shortCircuit => exact unreadable_not_fixed (by decide)

theorem readCore_not_fixed (b : Bool) (i : AnalogInput) (r : Reading) : (readCore b i r).failed ≠ some .fixed := by
  cases i with
  | readable v => simp [readCore, readableAs]
  | openCircuit => simp [readCore]
  | shortCircuit => exact unreadable_not_fixed (by decide)

theorem inputsRead_not_fixed (x : SensorInputs) (s : State) (c : Channel) (hc : c ≠ .mains) :
    ((inputsRead x s).superv.readings.get c).failed ≠ some .fixed := by
  rw [inputsRead_superv]
  cases c with
  | mains => exact absurd rfl hc
  | core => exact readCore_not_fixed _ _ _
  | board => simp [readInputs, PerChannel.get, readableAs]
  | cav | boil | moist => exact readAnalog_not_fixed _ _ _

/-- The readings of the inputs stand while the rest is judged. -/
theorem sidesRead_readings (x : SensorInputs) (s : State) :
    (sidesRead x s).superv.readings = readInputs x s.recipe.probePresent s.superv.readings := by
  rw [sidesRead, (judgeReadings_judged (inputsRead_not_fixed x s)).1]
  rfl

theorem sensorReading_readings (x : SensorInputs) (s : State) :
    (sensorReading x s).superv.readings = readInputs x s.recipe.probePresent s.superv.readings := by
  rw [(sensorReading_kept x s).1, sidesRead_readings]

/-- R141: an input that is not readable, on a channel that shows a value or holds one, and on one without a value. -/
theorem unreadable_cases (k : InputCond) (r : Reading) :
    (∀ v, r.value = some v → r.failed = none →
        (unreadable k r).value = some v ∧ (unreadable k r).holding = true ∧ (unreadable k r).failed = none)
      ∧ (r.failed ≠ none ∨ (r.value = none ∧ r.holding = false) →
        (unreadable k r).value = r.value ∧ (unreadable k r).failed = some (failSide k)) := by
  obtain ⟨v, c, hold, ms, f⟩ := r
  cases f <;> cases hold <;> cases v <;> simp [unreadable]

/-! ### The stage, the generator and a reading -/

/-- The stage that is judged at a reading that it outlasts does not end (R129, R130). -/
theorem outlasts_endCondition {x : SensorInputs} {cav : Int} (hx : x.cav = .readable cav) (ho : OutlastsReading s x cav h)
    (hr : w.recipe.probePresent = s.recipe.probePresent) (he : w.recipe.elapsedMs = s.recipe.elapsedMs)
    (hv : w.superv.readings = readInputs x s.recipe.probePresent s.superv.readings) : endConditionMet w h = false := by
  have hd : durationReached w.recipe h = durationReached s.recipe h := by simp [durationReached, he]
  have hcore : CoreShort x h → coreMet w h = false := by
    rintro ⟨v, target, hv', ht, hlt⟩
    have hread : reading w .core = some (max 0 (min 1300 v)) := by
      simp [reading, hv, readInputs, PerChannel.get, hv', readCore, readableAs, channelClamp, channelRange, clampInt]
    simp only [coreMet, ht, Option.any_some, readingAtLeast, hread, Bool.and_eq_false_iff]
    exact .inr (decide_eq_false (by omega))
  have hgone : w.recipe.probePresent = false → coreMet w h = false := fun hp => by simp [coreMet, hp]
  have hat : max 0 (min 3000 cav) < (h.cavity : Int) - 20 → atTarget w h = false := by
    intro hlt
    have hread : reading w .cav = some (max 0 (min 3000 cav)) := by
      simp [reading, hv, readInputs, PerChannel.get, hx, readAnalog, readableAs, channelClamp, channelRange, clampInt]
    simp only [atTarget, readingAtLeast, hread, Option.any_some, decide_eq_false_iff_not]
    omega
  unfold OutlastsReading at ho
  unfold endConditionMet
  rw [hd, hr]
  rw [hr] at hgone
  cases hk : h.endKind <;> simp only [hk] at ho ⊢
  case time => exact ho
  case temp => exact hat ho
  case core => obtain ⟨hp, hc⟩ | ⟨hp, hc⟩ := ho <;> simp [hp, hc, hcore, hgone]
  case either => obtain ⟨hp, hc | hc⟩ := ho <;> simp [hp, hc, hcore, hgone]

theorem judgeTimedPhase_rest (s : State) : (judgeTimedPhase s).recipe =
    { s.recipe with phaseStarted := (judgeTimedPhase s).recipe.phaseStarted } := by
  unfold judgeTimedPhase
  (repeat' split) <;> rfl

theorem judgeHeat_of_none (hn : s.steam.request = .none) : judgeHeat s = s := by
  unfold judgeHeat
  rw [hn]

theorem enterDraining_steam (s : State) : (enterDraining s).steam =
    { s.steam with gen := .draining, drain := some ⟨0, 0⟩, drainWant := true } := by
  simp [enterDraining, beginDrain]

/-- R86, R91: what the BOIL reading makes of a generator that is settled. -/
theorem judgeBoil_settled (hf : frozen s = true) (hr : s.startup.restarting = false) (hg : GenSettled s)
    {boil : Int} (hb : reading s .boil = some (max 0 (min 1600 boil))) :
    GenSettled (judgeBoil s)
      ∧ (s.steam.gen = .heating → (judgeBoil s).steam.gen = (if 960 ≤ boil then .ready else .heating))
      ∧ (s.steam.gen = .cooling → if boil ≤ 700
          then (judgeBoil s).steam.gen = .draining ∧ (judgeBoil s).steam.drain = some ⟨0, 0⟩ ∧ (judgeBoil s).steam.drainWant = true
          else (judgeBoil s).steam.gen = .cooling ∧ (judgeBoil s).steam.coolMs = s.steam.coolMs) := by
  have hready : readingAtLeast s .boil readyTemp = decide (960 ≤ boil) := by
    simp only [readingAtLeast, hb, readyTemp, Option.any_some]
    exact decide_eq_decide.2 (by omega)
  have hcold : readingAtMost s .boil drainTemp = decide (boil ≤ 700) := by
    simp only [readingAtMost, hb, drainTemp, Option.any_some]
    exact decide_eq_decide.2 (by omega)
  have hj : judgeBoil s = match s.steam.gen with
      | .heating => if decide (960 ≤ boil) then s.setSteam { s.steam with gen := .ready } else s
      | .cooling => if decide (boil ≤ 700) then enterDraining s else s
      | _ => s := by
    unfold judgeBoil drainIfCool
    rw [hr, hf, hready, hcold]
    cases s.steam.gen <;> rfl
  rw [hj]
  cases hgen : s.steam.gen <;> dsimp only
  case heating =>
    have hw : steamWanted s = true := by
      unfold GenSettled at hg
      simpa [hf, hr, hgen] using hg
    refine ⟨?_, fun _ => by split <;> simp_all, fun hc => absurd hc (by decide)⟩
    split
    · exact .inr (.inr (.inr (.inl ⟨.inr (.inr rfl), hw⟩)))
    · exact hg
  case cooling =>
    refine ⟨?_, fun hc => absurd hc (by decide), fun _ => ?_⟩
    · split
      · exact .inr (.inr (.inr (.inr (.inr (.inl (by rw [enterDraining_steam]))))))
      · exact hg
    · by_cases h7 : boil ≤ 700
      · rw [if_pos h7, if_pos (by simpa using h7)]
        rw [enterDraining_steam]
        exact ⟨rfl, rfl, rfl⟩
      · rw [if_neg h7, if_neg (by simpa using h7)]
        exact ⟨hgen, rfl⟩
  all_goals exact ⟨hg, fun hc => absurd hc (by decide), fun hc => absurd hc (by decide)⟩

/-! ### MAINS (R140, R154) -/

/-- The MAINS channel judges the value presented, once it is armed. -/
theorem presentMains_judged {v : Nat} {d : Side} (hd : d ≠ .fixed) (hj : w.superv.judging = s.superv.judging)
    (hu : w.startup = s.startup) (hs : sideRec w.superv .mains d = sideRec s.superv .mains d)
    (ht : t.superv = (presentMains v w).superv) (htu : t.startup = s.startup) : SideJudged s t .mains d := by
  have hf : ((w.setSuperv { w.superv with readings := { w.superv.readings with
      mains := readableAs .mains v } }).superv.readings.get .mains).failed ≠ some .fixed := by
    simp [PerChannel.get, readableAs]
  refine (judgeChannelSides_judged hf hd).congr hj.symm (by rw [State.setSuperv_startup, hu]) ?_ (by rw [ht]; rfl) (by rw [ht]; rfl)
    (hs.symm.trans ?_) (by rw [ht]; rfl)
  · rw [htu, ← hu]; simp
  · cases d <;> rfl

theorem presentMains_other (v : Nat) (s : State) {k : Channel} (hk : k ≠ .mains) (d : Side) :
    sideRec (presentMains v s).superv k d = sideRec s.superv k d :=
  ((judgeChannelSides_other .mains _).2.2.2 k d (.inl hk)).trans (by cases d <;> rfl)

/-- R140, R154: what the crossing that completes a frame and the one that abandons it present. -/
theorem mains_presented (c : Instr)
    (hc : (∃ interval volts : Nat, c = .zeroCrossing interval volts ∧ s.power.inFrame = true ∧ s.power.slot = 19)
      ∨ (c = .missedCrossing ∧ s.power.inFrame = true ∧ 2 ≤ s.power.misses)) :
    ∃ t w v, exec c s = .next t ∧ t.superv = (presentMains v w).superv ∧ t.startup = s.startup ∧ t.climate = s.climate
      ∧ t.pending = s.pending ∧ w.startup = s.startup
      ∧ w.superv = { s.superv with mainsArmed := s.superv.mainsArmed || decide (c ≠ .missedCrossing) } := by
  obtain ⟨interval, volts, rfl, hi, hs⟩ | ⟨rfl, hi, hm⟩ := hc
  · have hz : zeroCrossing interval volts s =
        frameStart (some volts) (completeFrame volts (crossed (timeCrossing interval s))) := by
      have hp : (timeCrossing interval s).power.inFrame = true ∧ (timeCrossing interval s).power.slot = 19 := by
        unfold timeCrossing
        dsimp only
        split
        · split
          · rw [decideFrequency_power]
            exact ⟨hi, hs⟩
          · exact ⟨hi, hs⟩
        · exact ⟨hi, hs⟩
      simp [zeroCrossing, hp, crossed, frameSlots]
    refine ⟨_, _, volts, congrArg Host.Outcome.next hz, by rw [(frameStart_frame _ _).2.2.2]; rfl, by simp [crossed], by simp [crossed],
      by simp [crossed], ?_, ?_⟩
    · simp [crossed]
    · simp [crossed]
  · refine ⟨_, abandonFrame (missCounted s), 0, congrArg Host.Outcome.next (missedCrossing_gap hi hm), by simp [gapLeft], ?_, ?_, ?_, ?_, ?_⟩
    case refine_4 | refine_5 => rw [missCounted_eq]; simp
    all_goals simp only [settle_frame, gapLeft, presentMains_frame]
    all_goals rw [missCounted_eq]
    all_goals simp

/-! ### A channel that fails (R141) -/

/-- The state in which the hold of a channel has run out, before its sides judge it. -/
def holdEnded (c : Channel) (s : State) : State :=
  s.setSuperv { s.superv with
    readings := s.superv.readings.set
      { s.superv.readings.get c with
        value := none, holding := false, holdMs := 0, failed := some (failSide (s.superv.readings.get c).cond) } c }

theorem channelFails_eq (hh : (s.superv.readings.get c).holding = true) : channelFails c s =
    settle (if c = .cav then judgeFixed (judgeChannelSides c (holdEnded c s)) else judgeChannelSides c (holdEnded c s)) := by
  unfold channelFails
  dsimp only
  rw [if_pos hh]
  rfl

end Sys2Proof.Machine

/-!
O55: readings are presented, held and failed, and move their sides.
-/
namespace Sys2Proof.Machine

variable {s t u w : State} {c : Channel}

/-! ### A channel that fails -/

/-- The sides of a channel whose hold has run out are judged, the fixed limit with those of CAV. -/
def failJudged (c : Channel) (s : State) : State :=
  if c = .cav then judgeFixed (judgeChannelSides c (holdEnded c s)) else judgeChannelSides c (holdEnded c s)

theorem failJudged_superv (c : Channel) (s : State) : (failJudged c s).superv = { (holdEnded c s).superv with
    low := (failJudged c s).superv.low, high := (failJudged c s).superv.high, fixed := (failJudged c s).superv.fixed } := by
  unfold failJudged
  split
  · rw [judgeFixed_superv, (judgeChannelSides_superv _ _).1]
  · rw [(judgeChannelSides_superv _ _).1]

theorem failJudged_frame (c : Channel) (s : State) :
    (failJudged c s).pending = s.pending ∧ (failJudged c s).startup = s.startup ∧ (failJudged c s).climate = s.climate
      ∧ (failJudged c s).power = s.power ∧ (failJudged c s).share = s.share ∧ (failJudged c s).line = s.line
      ∧ (failJudged c s).steam = s.steam ∧ (failJudged c s).descale = s.descale ∧ (failJudged c s).recipe = s.recipe := by
  unfold failJudged
  split <;> simp [holdEnded]

theorem failSide_eq (k : InputCond) : failSide k = if k = .shortCircuit then .high else .low := by cases k <;> rfl

theorem failSide_not_fixed (k : InputCond) : some (failSide k) ≠ some Side.fixed := by
  rw [failSide_eq]
  split <;> simp

theorem holdEnded_reading (c : Channel) (s : State) : (holdEnded c s).superv.readings.get c =
    { s.superv.readings.get c with
      value := none, holding := false, holdMs := 0, failed := some (failSide (s.superv.readings.get c).cond) } := by
  cases c <;> rfl

theorem sideRec_holdEnded (c k : Channel) (s : State) (d : Side) :
    sideRec (holdEnded c s).superv k d = sideRec s.superv k d := by cases d <;> rfl

/-- The failed channel moves its sides in that step (R144, R145, R149). -/
theorem failJudged_judged {d : Side} (hd : d ≠ .fixed ∨ c = .cav) : SideJudged s (failJudged c s) c d := by
  have hr := holdEnded_reading c s
  have hfix : ((holdEnded c s).superv.readings.get c).failed ≠ some .fixed := by
    rw [hr]
    exact failSide_not_fixed _
  by_cases hx : d = .fixed
  · subst hx
    obtain rfl : c = .cav := hd.resolve_left (by decide)
    obtain ⟨o1, o2, -, o4⟩ := judgeChannelSides_other .cav (holdEnded .cav s)
    exact (judgeFixed_judged (s := judgeChannelSides .cav (holdEnded .cav s)) (by rw [o1]; exact hfix)).congr o2.symm
      (by simp [holdEnded]) rfl rfl rfl ((sideRec_holdEnded .cav .cav s .fixed).symm.trans (o4 .cav .fixed (.inr rfl)).symm) rfl
  · have hj := judgeChannelSides_judged hfix hx
    unfold failJudged
    split
    · obtain ⟨f1, -, f3, f4⟩ := judgeFixed_other (judgeChannelSides c (holdEnded c s))
      exact hj.congr rfl rfl (by simp) f3 f1 (sideRec_holdEnded c c s d).symm (f4 c d hx)
    · exact hj.congr rfl rfl rfl rfl rfl (sideRec_holdEnded c c s d).symm rfl

theorem failJudged_other {k : Channel} {d : Side} (hk : k ≠ c) (hd : d ≠ .fixed ∨ k = .cav) :
    sideRec (failJudged c s).superv k d = sideRec s.superv k d := by
  have hj := ((judgeChannelSides_other c (holdEnded c s)).2.2.2 k d (.inl hk)).trans (sideRec_holdEnded c k s d)
  unfold failJudged
  split
  next hc =>
    have hx : d ≠ .fixed := hd.resolve_right fun e => hk (e.trans hc.symm)
    exact ((judgeFixed_other _).2.2.2 k d hx).trans hj
  · exact hj

/-! ### An input that cannot be read -/

theorem readInputs_unreadable {x : SensorInputs} {c : Channel} {i : AnalogInput} {b : Bool} {p : PerChannel Reading}
    (hc : (c = .cav ∧ i = x.cav) ∨ (c = .boil ∧ i = x.boil) ∨ (c = .moist ∧ i = x.moist)
      ∨ (c = .core ∧ i = x.core ∧ i = .shortCircuit)) (hi : i = .openCircuit ∨ i = .shortCircuit) :
    (readInputs x b p).get c = unreadable (inputCond i) (p.get c) := by
  obtain ⟨rfl, rfl⟩ | ⟨rfl, rfl⟩ | ⟨rfl, rfl⟩ | ⟨rfl, rfl, hs⟩ := hc
  case inr.inr.inr => simp [readInputs, PerChannel.get, hs, readCore, inputCond]
  all_goals obtain h | h := hi <;> simp [readInputs, PerChannel.get, h, readAnalog, inputCond]

theorem failSide_cond {i : AnalogInput} (hi : i = .openCircuit ∨ i = .shortCircuit) :
    failSide (inputCond i) = if i = .shortCircuit then .high else .low := by
  obtain rfl | rfl := hi <;> rfl

/-! ### The generator and the program at a reading -/

/-- A stage that outlasts the reading stands, and the generator goes on by its BOIL reading alone. -/
theorem sensorReading_outlasted {x : SensorInputs} {cav boil : Int} (hx : x.cav = .readable cav) (hb : x.boil = .readable boil)
    (hf : frozen s = true) (hr : s.startup.restarting = false) (hq : s.steam.request = .none) (hg : GenSettled s)
    (ho : s.recipe.state = .running → ∀ h, currentHeat s.recipe = some h → OutlastsReading s x cav h) :
    (sensorReading x s).recipe.state = s.recipe.state ∧ (sensorReading x s).recipe.cur = s.recipe.cur
      ∧ (s.steam.gen = .heating → (sensorReading x s).steam.gen = (if 960 ≤ boil then .ready else .heating))
      ∧ (s.steam.gen = .cooling → if boil ≤ 700
          then (sensorReading x s).steam.gen = .draining ∧ (sensorReading x s).steam.drain = some ⟨0, 0⟩
            ∧ (sensorReading x s).steam.drainWant = true
          else (sensorReading x s).steam.gen = .cooling ∧ (sensorReading x s).steam.coolMs = s.steam.coolMs) := by
  obtain ⟨-, fu, -, -, -, -, fm, -, fr⟩ := sidesRead_frame x s
  generalize hv : judgeTimedPhase (sidesRead x s) = v
  have hvr : v.recipe = { s.recipe with
      probeShows := v.recipe.probeShows, probeMs := v.recipe.probeMs, phaseStarted := v.recipe.phaseStarted } := by
    rw [← hv, judgeTimedPhase_rest, fr]
  have hvm : v.steam = s.steam := by rw [← hv, ← fm]; simp
  have hvu : v.startup = s.startup := by rw [← hv, ← fu]; simp
  have hvs : v.superv.readings = readInputs x s.recipe.probePresent s.superv.readings := by
    rw [← hv, ← sidesRead_readings]; simp
  have hends : stageEnds v = false := by
    have hheat : currentHeat v.recipe = currentHeat s.recipe := by rw [hvr]; rfl
    have hstate : v.recipe.state = s.recipe.state := by rw [hvr]
    unfold stageEnds
    rw [hheat, hstate]
    by_cases hs : s.recipe.state = .running
    · cases hc : currentHeat s.recipe with
      | none => simp
      | some h =>
        have := outlasts_endCondition (w := v) hx (ho hs h hc) (by rw [hvr]) (by rw [hvr]) hvs
        simp [this]
    · simp [hs]
  have heq : sensorReading x s = settle (judgeBoil v) := by
    rw [sensorReading_eq, hv, judgeStage, if_neg (by simp [hends]), judgeHeat_of_none (by rw [hvm]; exact hq)]
  have hread : reading v .boil = some (max 0 (min 1600 boil)) := by
    simp [reading, hvs, readInputs, PerChannel.get, hb, readAnalog, readableAs, channelClamp, channelRange, clampInt]
  have hgv : GenSettled v := genSettled_congr hg
    (steamWanted_congr (by rw [hvr]; rfl) (fun _ => by rw [hvr]; exact ⟨rfl, rfl⟩) (by rw [hvm]) (by rw [hvm]) (by rw [hvu]))
    (by rw [hvm]) (by rw [hvu]) (by rw [hvu])
  obtain ⟨g1, g2, g3⟩ := judgeBoil_settled (by simpa [frozen, hvu] using hf) (by rw [hvu]; exact hr) hgv hread
  obtain ⟨-, -, ⟨hout, -, -⟩, hps⟩ := settle_of_fixed (judgeSteam_of_settled g1)
  unfold OutputsOnly at hout
  unfold ProgramStands at hps
  have hbr : (judgeBoil v).recipe = v.recipe := by simp
  rw [heq, hps, hout, hbr, hvr]
  rw [hvm] at g2 g3
  exact ⟨rfl, rfl, g2, g3⟩

/-- Settles O55: the readings, the unreadable inputs, the sides, MAINS at a completed frame and at a gap, and a hold that
runs out. -/
theorem readingsAreHeldThenFail : Obligations.ReadingsAreHeldThenFail := by
  refine ⟨fun s x cav boil moist core hcav hboil hmoist => ?_, fun s x c i hc hi => ?_, fun s x => ?_, fun s c hc => ?_,
    fun s c hh hg => ?_⟩
  · obtain ⟨-, ku, kp, kq⟩ := sensorReading_kept x s
    have hr := sensorReading_readings x s
    refine ⟨_, rfl, ?_, ?_, ?_, ?_, ?_, kq, fun hc => ?_, fun hc => ?_, fun hf hrs hq hg ho =>
      sensorReading_outlasted hcav hboil hf hrs hq hg ho, ku, kp⟩
    all_goals unfold reading; rw [hr]
    · simp [readInputs, PerChannel.get, hcav, readAnalog, readableAs, channelClamp, channelRange, clampInt]
    · simp [readInputs, PerChannel.get, hboil, readAnalog, readableAs, channelClamp, channelRange, clampInt]
    · simp [readInputs, PerChannel.get, hmoist, readAnalog, readableAs, channelClamp, channelRange, clampInt]
    · rfl
    · rfl
    · simp [readInputs, PerChannel.get, hc, readCore, readableAs, channelClamp, channelRange, clampInt]
    · simp [readInputs, PerChannel.get, hc, readCore]
  · obtain ⟨-, ku, kp, -⟩ := sensorReading_kept x s
    have hr : (sensorReading x s).superv.readings.get c = unreadable (inputCond i) (s.superv.readings.get c) := by
      rw [sensorReading_readings, readInputs_unreadable hc hi]
    obtain ⟨h1, h2⟩ := unreadable_cases (inputCond i) (s.superv.readings.get c)
    rw [← hr] at h1 h2
    rw [failSide_cond hi] at h2
    exact ⟨_, rfl, h1, h2, ku, kp⟩
  · obtain ⟨kv, ku, kp, -⟩ := sensorReading_kept x s
    obtain ⟨h1, h2, h3⟩ := judgeReadings_judged (inputsRead_not_fixed x s)
    have fu := (sidesRead_frame x s).2.1
    refine ⟨_, rfl, fun c d hc hd => ?_, fun d hd => ?_, ?_, ku, kp⟩
    · exact (h3 c d hc hd).congr rfl rfl (by rw [ku]; exact (congrArg Startup.channels fu).symm) (by rw [kv]; rfl) (by rw [kv]; rfl)
        (by cases d <;> rfl) (by rw [kv]; rfl)
    · rw [kv]
      exact (h2 d hd).trans (by cases d <;> rfl)
    · rw [kv, sidesRead_readings]
      exact h1
  · obtain ⟨t, w, v, ht, hv, hu, hcl, hp, hwu, hwv⟩ := mains_presented c hc
    refine ⟨t, ht, fun d hd => ?_, fun k d hk => ?_, ?_, hu, hcl, hp⟩
    · exact presentMains_judged hd (by rw [hwv]) hwu (by rw [hwv]; cases d <;> rfl) hv hu
    · rw [hv, presentMains_other v w hk, hwv]
      cases d <;> rfl
    · rw [hv, presentMains_superv, hwv]
  · have hf := failJudged_frame c s
    obtain ⟨fp, fu, fc, fw, fx, fl, fm, fd, fr⟩ := hf
    obtain ⟨hl, hx, hs, hps⟩ := settle_of_fixed (judgeSteam_of_same hg fm fu fr)
    have hv : (settle (failJudged c s)).superv = (failJudged c s).superv := by simp
    have hread : (settle (failJudged c s)).superv.readings = (holdEnded c s).superv.readings := by
      rw [hv, failJudged_superv]
    have hget := holdEnded_reading c s
    refine ⟨settle (failJudged c s), congrArg Host.Outcome.next (channelFails_eq hh), ?_, ?_, ?_, fun d hd => ?_, fun d hd => ?_,
      fun k d hk hd => ?_, ?_, ?_, ?_, ?_, ?_, fun b hb => ?_⟩
    · unfold reading
      rw [hread, hget]
    · rw [hread, hget]
    · rw [hread, hget, failSide_eq]
    · rw [hread]
      exact PerChannel.get_set_of_ne _ _ hd
    · exact (failJudged_judged hd).congr rfl rfl (by simp) (by rw [hv]) (by rw [hv]) rfl (by rw [hv])
    · rw [hv]
      exact failJudged_other hk hd
    · rw [hv, failJudged_superv]; rfl
    · rw [hv, failJudged_superv]; rfl
    · unfold SettlesOnly OutputsOnly ActuatorsOnly WaitOnly at hs ⊢
      rw [fm, fw, fd] at hs
      exact hs
    · unfold ProgramStands at hps ⊢
      rw [fr] at hps
      exact hps
    · simp [fp]
    · cases b with
      | power | steam | descale | recipe | superv => exact absurd hb (by decide)
      | startup => exact (settle_frame _).2.1.trans fu
      | climate => exact (settle_frame _).2.2.1.trans fc
      | share => exact hx.trans fx
      | line => exact hl.trans fl

end Sys2Proof.Machine

/-!
The descale from the dose to its end (R95, R105, R106, R108, R109).
-/
namespace Sys2Proof.Machine

variable {s t u : State} {p : Phase} {k : Nat} {r : ServiceRequest}

/-! ### A phase that is entered with a request -/

@[simp] theorem giveRequest_request (r : ServiceRequest) (s : State) : (giveRequest r s).steam.request = r := by
  cases r <;> simp [giveRequest, beginFill, beginDrain]

/-- The phase `p` with the request `r` entered in `u`, to which `s` has come in one step without a notice. -/
structure PhaseBegun (p : Phase) (k : Nat) (r : ServiceRequest) (s u t : State) : Prop where
  phase   : t.descale.phase = p ∧ t.descale.rinse = k ∧ t.descale.soakMark = s.descale.soakMark
  fresh   : t.descale.heatClock = 0 ∧ t.descale.lowMs = 0 ∧ t.descale.soakMs = 0
  request : t.steam.request = r
  gen     : t.steam.gen = .service
  stock   : t.steam.stock = u.steam.stock
  outputs : OutputsOnly (giveRequest r (enterPhase p k .none u)) t
  share   : t.share = (giveRequest r (enterPhase p k .none u)).share
  told    : Queued (.notice .descalePhase (noticeTag s.recipe) s.recipe.cur (descaleCode p k * 256)) t
  program : ProgramStands s t
  touches : OnlyTouches [.power, .share, .line, .steam, .descale, .recipe] s t

theorem phaseBegun (hu : Tells [] s u) (ha : SteamAside s u) (hd : u.descale.soakMark = s.descale.soakMark)
    (hg : u.steam.gen = .service) (hn : unnumbered s = false) (hq : s.line.queue = [])
    (ht : t = settle (giveRequest r (enterPhase p k .none u))) : PhaseBegun p k r s u t := by
  have hrec : u.recipe = s.recipe := ha.2.2.2.1
  have hgen : (giveRequest r (enterPhase p k .none u)).steam.gen = .service := by simpa using hg
  have ha' : SteamAside s (giveRequest r (enterPhase p k .none u)) := by simpa [SteamAside] using ha
  obtain ⟨hx, ho, hps, htouch⟩ := makesSteam_settles (judgeSteam_of_service hgen) ha'
  have htell := (hu.enterPhase (phase := p) (rinse := k) (cause := .none)).giveRequest (r := r) |>.settle
  have hwait := waitOnly_settle (giveRequest r (enterPhase p k .none u))
  have hstock := settle_stock (giveRequest r (enterPhase p k .none u))
  rw [← ht] at hx ho hps htouch htell hwait hstock
  have hout := ho
  unfold OutputsOnly at hout
  unfold WaitOnly at hwait
  have hdesc : (giveRequest r (enterPhase p k .none u)).descale = (enterPhase p k .none u).descale := by simp
  rw [hdesc] at hwait
  have htold := (htell.told hn hq (by simp)).queued (f := .notice .descalePhase (noticeTag s.recipe) s.recipe.cur
    (descaleCode p k * 256)) (by simp [hrec, DescaleCause.code])
  have hst : (giveRequest r (enterPhase p k .none u)).steam.stock = u.steam.stock := by
    rw [giveRequest_stock]
    simp [enterPhase]
  refine ⟨⟨(congrArg Descale.phase hwait :).trans (by simp), (congrArg Descale.rinse hwait :).trans (by simp [enterPhase]),
    (congrArg Descale.soakMark hwait :).trans (by simpa [enterPhase] using hd)⟩,
    ⟨(congrArg Descale.heatClock hwait :).trans (by simp [enterPhase]), (congrArg Descale.lowMs hwait :).trans (by simp [enterPhase]),
      (congrArg Descale.soakMs hwait :).trans (by simp [enterPhase])⟩,
    (congrArg Steam.request hout :).trans (giveRequest_request _ _), (congrArg Steam.gen hout :).trans hgen, hstock.trans hst,
    ho, hx, htold, hps, htouch⟩

/-- R106: what the phases that heat leave: no fill, no want of the INLET unit and no request of the valve. -/
theorem PhaseBegun.heats {v : Int} (h : PhaseBegun p k (.heat v) s u t)
    (ht : t = settle (giveRequest (.heat v) (enterPhase p k .none u))) :
    t.steam.fill = none ∧ t.steam.inletWant = false ∧ t.steam.fillReq = false := by
  have ho := h.outputs
  unfold OutputsOnly at ho
  rw [giveRequest_heat_steam] at ho
  have hf : t.steam.fill = none := (congrArg Steam.fill ho :)
  refine ⟨hf, (congrArg Steam.inletWant ho :), ?_⟩
  rw [ht] at hf ⊢
  exact (settle_no_fill hf).1

/-! ### The holds behind a request -/

/-- R43, R94: a request that is cleared gives the INLET and the DRAIN unit up where they were wanted, and no other hold. -/
theorem clearRequest_holds (q : Pool) (s : State) : (clearRequest s).share.holds.get q
    = if (q = .drain ∧ s.steam.drainWant = true) ∨ (q = .inlet ∧ s.steam.inletWant = true) then 0
      else s.share.holds.get q := by
  have h1 : (clearRequest s).share = (clearDrain (clearFill s)).share := rfl
  have hw : (clearFill s).steam.drainWant = s.steam.drainWant := by simp [clearFill]
  rw [h1, clearDrain_holds, clearFill_holds, hw]
  by_cases hd : q = .drain ∧ s.steam.drainWant = true <;> simp [hd]

theorem giveRequest_fill_holds (v : Nat) (q : Pool) (s : State) :
    (giveRequest (.fill v) s).share.holds.get q = (clearRequest s).share.holds.get q := by
  simp [giveRequest]

/-! ### A fill that is done -/

/-- The phase that follows DOSE or RINSE_FILL (R105, R106, R108). -/
theorem fillDone_eq (hph : s.descale.phase = .dose ∨ s.descale.phase = .rinseFill) : fillDone s =
    giveRequest (.heat (if s.descale.phase = .dose then 700 else 800))
      (enterPhase (if s.descale.phase = .dose then .soakHeat else .rinseHeat)
        (if s.descale.phase = .dose then 0 else s.descale.rinse) .none (clearRequest s)) := by
  obtain h | h := hph <;> simp [fillDone, h, enterSoakHeat, enterRinseHeat]

/-- What the end of a service fill leaves, begun in `u`, a state that differs from `s` in its generator alone. -/
theorem fillDone_settles (hm : u = s.setSteam u.steam) (hg : u.steam.gen = .service) (hn : unnumbered s = false)
    (hq : s.line.queue = []) (hph : s.descale.phase = .dose ∨ s.descale.phase = .rinseFill) (ht : t = settle (fillDone u)) :
    t.descale.phase = (if s.descale.phase = .dose then .soakHeat else .rinseHeat)
      ∧ t.descale.rinse = (if s.descale.phase = .dose then 0 else s.descale.rinse)
      ∧ t.steam.request = .heat (if s.descale.phase = .dose then 700 else 800)
      ∧ t.descale.heatClock = 0 ∧ t.descale.lowMs = 0 ∧ t.descale.soakMark = s.descale.soakMark
      ∧ t.steam.gen = .service ∧ t.steam.fill = none ∧ t.steam.inletWant = false ∧ t.steam.fillReq = false
      ∧ t.steam.stock = u.steam.stock
      ∧ Queued (.notice .descalePhase (noticeTag s.recipe) s.recipe.cur (descaleCode t.descale.phase t.descale.rinse * 256)) t
      ∧ ProgramStands s t ∧ OnlyTouches [.power, .share, .line, .steam, .descale, .recipe] s t := by
  have hd : u.descale = s.descale := by rw [hm]; rfl
  have heq := fillDone_eq (s := u) (by rw [hd]; exact hph)
  rw [heq, hd] at ht
  have hu : Tells [] s u := (Tells.refl s).same (by rw [hm]; rfl) (by rw [hm]; rfl) (by rw [hm]; rfl)
  have ha : SteamAside s u := by rw [hm]; simp [SteamAside]
  have h := phaseBegun hu.clearRequest (by simpa [SteamAside] using ha) (by simp [hd]) (by simpa using hg) hn hq ht
  obtain ⟨h1, h2, h3⟩ := h.phase
  obtain ⟨f1, f2, -⟩ := h.fresh
  obtain ⟨e1, e2, e3⟩ := h.heats ht
  refine ⟨h1, h2, h.request, f1, f2, h3, h.gen, e1, e2, e3, h.stock.trans (clearRequest_stock u), ?_, h.program, h.touches⟩
  rw [h1, h2]
  exact h.told

/-! ### Heating that is done -/

/-- R95, R106: a HEAT request judged at a reading of BOIL. -/
theorem judgeHeat_heating {v : Int} (hb : reading s .boil = some (max 0 (min 1600 v)))
    (hph : (s.descale.phase = .soakHeat ∧ s.steam.request = .heat 700)
      ∨ (s.descale.phase = .rinseHeat ∧ s.steam.request = .heat 800)) :
    (s.descale.phase = .soakHeat → 700 ≤ v → judgeHeat s = enterSoak s)
      ∧ (s.descale.phase = .rinseHeat → 800 ≤ v → judgeHeat s = enterRinseDrain s.descale.rinse s)
      ∧ (v < (if s.descale.phase = .soakHeat then 700 else 800) → judgeHeat s = s) := by
  have hread : ∀ w : Int, w = 700 ∨ w = 800 → readingAtLeast s .boil w = decide (w ≤ v) := fun w hw => by
    simp only [readingAtLeast, hb, Option.any_some]
    exact decide_eq_decide.2 (by omega)
  obtain ⟨hp, hr⟩ | ⟨hp, hr⟩ := hph
  · have hj : judgeHeat s = if 700 ≤ v then enterSoak s else s := by
      simp only [judgeHeat, hr, hp, hread 700 (.inl rfl), decide_eq_true_eq]
    rw [hj, hp]
    exact ⟨fun _ h => if_pos h, fun h => absurd h (by decide), fun h => if_neg (by simpa using h)⟩
  · have hj : judgeHeat s = if 800 ≤ v then enterRinseDrain s.descale.rinse s else s := by
      simp only [judgeHeat, hr, hp, hread 800 (.inr rfl), decide_eq_true_eq]
    rw [hj, hp]
    exact ⟨fun h => absurd h (by decide), fun _ h => if_pos h, fun h => if_neg (by simpa using h)⟩

theorem judgeBoil_of_service (hg : s.steam.gen = .service) : judgeBoil s = s := by
  simp [judgeBoil, hg]

/-- With no program active a reading moves the sides, the probe's count, a service HEAT and what settles. -/
theorem sensorReading_of_service {x : SensorInputs} (hp : programActive s.recipe = false)
    (hg : (judgeHeat (sidesRead x s)).steam.gen = .service) : sensorReading x s = settle (judgeHeat (sidesRead x s)) := by
  have hr := (sidesRead_frame x s).2.2.2.2.2.2.2.2
  have hc : currentHeat (sidesRead x s).recipe = none := by
    have hp' : programActive (sidesRead x s).recipe = false := by rw [hr]; exact hp
    simp [currentHeat, hp']
  have ht : judgeTimedPhase (sidesRead x s) = sidesRead x s := by simp only [judgeTimedPhase, hc]
  have hj : judgeStage (sidesRead x s) = sidesRead x s := if_neg (by simp [stageEnds, hc])
  rw [sensorReading_eq, ht, hj, judgeBoil_of_service hg]

/-! ### The end of the descale -/

/-- R100: a write that is asked for, in the values current then. -/
theorem askWrite_asked (s : State) :
    (s.steam.writing = none → (askWrite s).steam.writing = some ⟨s.steam.scale, s.steam.sub, s.steam.acid⟩)
      ∧ (s.steam.writing.isSome = true → (askWrite s).steam.writeAgain = true) := by
  unfold askWrite
  cases h : s.steam.writing <;> simp [recordNow]

/-- The state in which the descale is COMPLETE and told so, before the generator is released (R109). -/
def descaleCompleted (s : State) : State :=
  notice .descaleComplete s.steam.scale (completionStep (enterPhase .complete 0 .none s))

theorem finishDescale_eq (s : State) : finishDescale s =
    endPhase .off (if s.descale.soakMark then .none else .rinsed)
      (if s.descale.soakMark then descaleCompleted s else setAcid false s) := by
  unfold finishDescale
  split <;> rfl

/-- The stock of the generator at the end, and the write asked for (R99, R100). -/
theorem descaleCompleted_steam (s : State) : (descaleCompleted s).steam =
    (askWrite (s.setSteam { s.steam with scale := 0, sub := 0, acid := false })).steam := by
  have h1 := askWrite_steam (s.setSteam { s.steam with scale := 0, sub := 0, acid := false })
  simp only [descaleCompleted, completionStep, askWrite, notice_frame, enterPhase_frame, State.setSteam_steam]
  split <;> rfl

end Sys2Proof.Machine

/-!
O59: the descale runs to its end.
-/
namespace Sys2Proof.Machine

variable {s t u : State}

theorem drainDryTimeEnd_service {d : Drain} (hg : s.steam.gen = .service) (hd : s.steam.drain = some d)
    (hb : s.power.base.pump = true) (hl : s.steam.levels.low = false) : drainDryTimeEnd s = settle (drainDone s) := by
  simp [drainDryTimeEnd, hg, hd, hb, hl]

/-- R108: RINSE_FILL asks for its fill while HIGH reads DRY. -/
theorem enterRinseFill_of_high_dry {k : Nat} (h : s.steam.levels.high = false) :
    enterRinseFill k s = giveRequest (.fill 500) (enterPhase .rinseFill k .none s) := by
  simp [enterRinseFill, h]

/-- R108: the rinse that follows a drain. -/
theorem drainDone_rinses (hh : s.steam.levels.high = false)
    (hph : s.descale.phase = .acidDrain ∨ (s.descale.phase = .rinseDrain ∧ s.descale.rinse < 3)) :
    drainDone s = giveRequest (.fill 500)
      (enterPhase .rinseFill (if s.descale.phase = .acidDrain then 1 else s.descale.rinse + 1) .none (clearRequest s)) := by
  have hc : (clearRequest s).steam.levels.high = false := by simpa using hh
  obtain h | ⟨h, hk⟩ := hph
  · simp [drainDone, h, enterRinseFill_of_high_dry hc]
  · simp [drainDone, h, hk, enterRinseFill_of_high_dry hc]

/-- R109: the third rinse drain ends the descale. -/
theorem drainDone_finishes (hph : s.descale.phase = .rinseDrain) (hk : 3 ≤ s.descale.rinse) :
    drainDone s = finishDescale (clearRequest s) := by
  simp [drainDone, hph, Nat.not_lt.2 hk]

/-- What the write at the end of the descale is asked for on: the marker clear, and with the soak mark S and sub-count 0
(R99, R109). -/
def writtenLast (s : State) : State := s.setSteam { s.steam with
  acid := false
  scale := if s.descale.soakMark then 0 else s.steam.scale
  sub := if s.descale.soakMark then 0 else s.steam.sub }

/-- The state in which the generator is released at the end of the descale. -/
def descaleDone (s : State) : State := if s.descale.soakMark then descaleCompleted s else setAcid false s

theorem descaleDone_steam (s : State) : (descaleDone s).steam = (askWrite (writtenLast s)).steam := by
  unfold descaleDone writtenLast
  cases h : s.descale.soakMark with
  | true => exact descaleCompleted_steam s
  | false => rfl

theorem descaleDone_aside (s : State) : SteamAside s (descaleDone s) := by
  unfold descaleDone
  split <;> simp [SteamAside, descaleCompleted, completionStep, setAcid]

/-- R109, R114: the notices before the last. -/
theorem descaleDone_tells (h : Tells [] s u) (hr : u.recipe = s.recipe) (hsc : u.steam.scale = s.steam.scale) :
    Tells (if u.descale.soakMark then
        [.notice .descalePhase (noticeTag s.recipe) s.recipe.cur (16 * 256),
          .notice .descaleComplete (noticeTag s.recipe) s.recipe.cur s.steam.scale] else []) s (descaleDone u) := by
  unfold descaleDone
  split
  · have h1 := (h.enterPhase (phase := .complete) (rinse := 0) (cause := .none)).completionStep
    have h2 := h1.noticeOf (code := .descaleComplete) (detail := u.steam.scale) (tag := noticeTag s.recipe)
      (index := s.recipe.cur) (by simp [hr, completionStep]) (by simp [hr, completionStep])
    rw [hr, hsc] at h2
    rw [descaleCompleted, hsc]
    exact h2
  · exact h.setAcid

/-- R99, R100, R109: what the end of the descale leaves of scale, marker and record. -/
theorem descaleDone_stock {x : Steam} (h : x.stock = (descaleDone s).steam.stock) :
    x.levels = s.steam.levels ∧ x.acid = false ∧ x.scale = (if s.descale.soakMark then 0 else s.steam.scale)
      ∧ x.sub = (if s.descale.soakMark then 0 else s.steam.sub)
      ∧ (s.steam.writing = none → x.writing = some ⟨x.scale, x.sub, false⟩)
      ∧ (s.steam.writing.isSome = true → x.writeAgain = true) := by
  obtain ⟨a1, a2⟩ := askWrite_asked (writtenLast s)
  have ha := askWrite_steam (writtenLast s)
  rw [descaleDone_steam, ha] at h
  simp only [Steam.stock, Prod.mk.injEq] at h
  obtain ⟨h1, h2, h3, h4, -, h6, h7⟩ := h
  refine ⟨h1, h4, h2, h3, fun hw => ?_, fun hw => ?_⟩
  · rw [h6, h2, h3]
    exact a1 hw
  · rw [h7]
    exact a2 hw

/-- Settles O59: the last pulse, HIGH, the reading of BOIL, the drains between the rinses, and the last drain. -/
theorem descaleRunsToItsEnd : Obligations.DescaleRunsToItsEnd := by
  refine ⟨fun s f hn hq hg hf hk hb hc hph => ?_, fun s f hn hq hg hh hin hf hk hph => ?_,
    fun s x v hn hq hg hp hb hph => ?_, fun s d hn hq hg hd hb hl hh hph => ?_,
    fun s d hn hq hg hp hd hb hl hph hk => ?_⟩
  · have heq : flowPulse s = settle (fillDone (spendPulse f s)) := by
      have h0 : f.budget - 1 = 0 := by omega
      simp [flowPulse, hf, hk, servicePulse, hc, budgetSpent, spendPulse, h0]
    obtain ⟨h1, h2, h3, h4, h5, h6, h7, h8, h9, h10, h11, h12, h13, h14⟩ :=
      fillDone_settles (u := spendPulse f s) rfl hg hn hq hph heq
    obtain ⟨-, i2, i3, i4⟩ := Steam.stock_fields h11
    exact ⟨_, rfl, h1, h2, h3, h4, h5, h6, h7, h8, h9, h10, i4, i2, i3, h12, h13, h14⟩
  · have hact : actOnLevel .high true (levelShown .high s) = fillDone (levelShown .high s) := by
      show highWet _ = _
      rw [highWet, if_pos (by simp [levelShown, hf, hk])]
    have heq : levelReadingChange .high s = settle (fillDone (levelShown .high s)) := by
      have hin' : s.steam.levelInputs.get .high = true := hin
      rw [levelReadingChange_eq (by rw [hin']; simp [PerElectrode.get, hh]), hin', hact]
    obtain ⟨h1, h2, h3, h4, h5, h6, h7, h8, h9, h10, h11, h12, h13, h14⟩ :=
      fillDone_settles (u := levelShown .high s) rfl hg hn hq hph heq
    obtain ⟨i1, i2, i3, i4⟩ := Steam.stock_fields h11
    refine ⟨_, rfl, i1.trans ?_, h1, h2, h3, h4, h5, h6, h7, h8, h9, h10, i4, i2, i3, h12, h13, h14⟩
    simp [levelShown, PerElectrode.set, PerElectrode.get, hin]
  · obtain ⟨fp, fu, fc, -, -, fl, fm, fd, fr⟩ := sidesRead_frame x s
    generalize hw : sidesRead x s = w at fp fu fc fl fm fd fr
    have hread : reading w .boil = some (max 0 (min 1600 v)) := by
      rw [← hw]
      unfold reading
      rw [sidesRead_readings]
      simp [readInputs, PerChannel.get, hb, readAnalog, readableAs, channelClamp, channelRange, clampInt]
    obtain ⟨j1, j2, j3⟩ := judgeHeat_heating hread (by rw [fd, fm]; exact hph)
    rw [fd] at j1 j2 j3
    have hgw : w.steam.gen = .service := by rw [fm]; exact hg
    have hbegun : ∀ p k r t, t = settle (giveRequest r (enterPhase p k .none w)) → PhaseBegun p k r w w t := fun p k r t ht =>
      phaseBegun (Tells.refl w) ⟨rfl, rfl, rfl, rfl, rfl⟩ rfl hgw (by simpa [unnumbered, fu] using hn) (by rw [fl]; exact hq) ht
    have htag : noticeTag w.recipe = noticeTag s.recipe ∧ w.recipe.cur = s.recipe.cur := by rw [fr]; exact ⟨rfl, rfl⟩
    have htouch : ∀ t, OnlyTouches [.power, .share, .line, .steam, .descale, .recipe] w t →
        OnlyTouches [.power, .share, .line, .steam, .descale, .recipe, .superv] s t := fun t ht => by
      refine ⟨ht.1.trans fp, fun b hb => ?_⟩
      cases b with
      | startup => exact (ht.2 .startup (by decide)).trans fu
      | climate => exact (ht.2 .climate (by decide)).trans fc
      | power | share | line | steam | descale | recipe | superv => exact absurd hb (by decide)
    have hdone : ∀ p k r, judgeHeat w = giveRequest r (enterPhase p k .none w) →
        PhaseBegun p k r w w (sensorReading x s) := fun p k r hj => by
      have heq := sensorReading_of_service (s := s) (x := x) hp (by rw [hw, hj]; simpa using hgw)
      rw [hw, hj] at heq
      exact hbegun p k r _ heq
    have hcommon : ∀ p k r, PhaseBegun p k r w w (sensorReading x s) → (sensorReading x s).steam.gen = .service
        ∧ (sensorReading x s).steam.acid = s.steam.acid ∧ (sensorReading x s).steam.scale = s.steam.scale
        ∧ (sensorReading x s).descale.soakMark = s.descale.soakMark
        ∧ OnlyTouches [.power, .share, .line, .steam, .descale, .recipe, .superv] s (sensorReading x s) :=
      fun p k r h => by
        obtain ⟨-, i2, -, i4⟩ := Steam.stock_fields h.stock
        exact ⟨h.gen, i4.trans (by rw [fm]), i2.trans (by rw [fm]), h.phase.2.2.trans (by rw [fd]), htouch _ h.touches⟩
    refine ⟨_, rfl, ?_⟩
    by_cases hv : v < (if s.descale.phase = .soakHeat then 700 else 800)
    · have heq := sensorReading_of_service (s := s) (x := x) hp (by rw [hw, j3 hv]; exact hgw)
      rw [hw, j3 hv] at heq
      obtain ⟨-, ho, -, ht⟩ := makesSteam_settles (s := w) (judgeSteam_of_service hgw) ⟨rfl, rfl, rfl, rfl, rfl⟩
      have hwait := waitOnly_settle w
      rw [← heq] at ho ht hwait
      unfold OutputsOnly at ho
      unfold WaitOnly at hwait ⊢
      rw [fm] at ho
      rw [fd] at hwait
      refine ⟨fun h1 h2 => ?_, fun h1 h2 => ?_, fun _ => ⟨hwait, (congrArg Steam.request ho :)⟩, (congrArg Steam.gen ho :).trans hg,
        (congrArg Steam.acid ho :), (congrArg Steam.scale ho :), (congrArg Descale.soakMark hwait :), htouch _ ht⟩
      · rw [if_pos h1] at hv; omega
      · rw [if_neg (by rw [h1]; decide)] at hv; omega
    · obtain ⟨h0, -⟩ | ⟨h0, -⟩ := hph
      · have h := hdone .soak 0 (.hold 680 4) (j1 h0 (by simpa [h0] using hv))
        refine ⟨fun _ _ => ⟨h.phase.1, h.fresh.2.2, h.request, ?_⟩, fun h1 => absurd (h0.symm.trans h1) (by decide),
          fun hv' => absurd hv' hv, hcommon _ _ _ h⟩
        have := h.told
        rwa [htag.1, htag.2] at this
      · have h := hdone .rinseDrain s.descale.rinse .drain (j2 h0 (by simpa [h0] using hv))
        have ho := h.outputs
        unfold OutputsOnly at ho
        rw [giveRequest_drain_steam] at ho
        refine ⟨fun h1 => absurd (h0.symm.trans h1) (by decide),
          fun _ _ => ⟨h.phase.1, h.phase.2.1, h.request, (congrArg Steam.drain ho :), (congrArg Steam.drainWant ho :), ?_⟩,
          fun hv' => absurd hv' hv, hcommon _ _ _ h⟩
        have := h.told
        rwa [htag.1, htag.2] at this
  · have heq := (drainDryTimeEnd_service hg hd hb hl).trans (congrArg settle (drainDone_rinses hh hph))
    have h := phaseBegun (Tells.refl s).clearRequest (by simp [SteamAside]) (by simp) (by simpa using hg) hn hq heq
    have ho := h.outputs
    unfold OutputsOnly at ho
    rw [giveRequest_fill_steam] at ho
    have hdrain : (drainDryTimeEnd s).steam.drain = none := (congrArg Steam.drain ho :)
    have hx := h.share
    obtain ⟨h1, h2, h3⟩ := h.phase
    obtain ⟨-, i2, -, i4⟩ := Steam.stock_fields (h.stock.trans (clearRequest_stock s))
    refine ⟨_, rfl, h1, h2, h.request, (congrArg Steam.fill ho :), (congrArg Steam.inletWant ho :), hdrain, ?_, h.gen, fun hw => ?_,
      i4, i2, h3, ?_, h.program, h.touches⟩
    · rw [heq] at hdrain ⊢
      exact (settle_no_drain hdrain).2
    · have hold : (clearRequest s).share.holds.get .drain = 0 := by simp [clearRequest_holds, hw]
      have hnone : (clearRequest (enterPhase .rinseFill (if s.descale.phase = .acidDrain then 1 else s.descale.rinse + 1)
          .none (clearRequest s))).share.holds.get .drain = 0 := by
        rw [clearRequest_holds]
        refine ite_eq_left_iff.2 fun _ => ?_
        simpa using hold
      rw [hx]
      exact (giveRequest_fill_holds 500 .drain _).trans hnone
    · rw [h2]
      exact h.told
  · have heq : drainDryTimeEnd s = settle (endPhase .off
        (if (clearRequest s).descale.soakMark then .none else .rinsed) (descaleDone (clearRequest s))) := by
      rw [drainDryTimeEnd_service hg hd hb hl, drainDone_finishes hph hk, finishDescale_eq]
      rfl
    have hrec : (clearRequest s).recipe = s.recipe := by simp
    have hmark : (clearRequest s).descale.soakMark = s.descale.soakMark := by simp
    have hcs := clearRequest_steam s
    have htell := descaleDone_tells (Tells.refl s).clearRequest hrec (by simp)
    have ha : SteamAside s (descaleDone (clearRequest s)) := by
      have := descaleDone_aside (clearRequest s)
      simpa [SteamAside] using this
    obtain ⟨l1, -⟩ := descaleDone_stock (s := clearRequest s) rfl
    have h := descaleEnded .off _ htell ha (by rw [l1, hcs]) hn hq (by split <;> simp) hp _ heq
    obtain ⟨-, i2, i3, i4, i5, i6⟩ := descaleDone_stock h.stock
    rw [hmark, hcs] at i3 i4
    rw [hcs] at i5 i6
    have htold := h.told
    rw [hmark] at htold
    refine ⟨_, rfl, h.phase.1, h.phase.2, i2, h.gen.trans (by simp [hl]), h.request, h.drain.1, h.drain.2, i5, i6,
      fun hm => ?_, fun hm => ?_, h.program, h.touches⟩
    · rw [if_pos hm] at i3 i4 htold
      rw [if_pos hm] at htold
      exact ⟨i3, i4, htold.queued List.mem_cons_self, htold.queued (List.mem_cons_of_mem _ List.mem_cons_self),
        htold.queued (List.mem_cons_of_mem _ (List.mem_cons_of_mem _ List.mem_cons_self))⟩
    · rw [if_neg (by simp [hm])] at i3 i4 htold
      rw [if_neg (by simp [hm])] at htold
      exact ⟨i3, i4, htold.queued List.mem_cons_self⟩

end Sys2Proof.Machine

/-!
What time and the readings of the inputs make of a program (R122, R125 to R132, R138).
-/
namespace Sys2Proof.Machine

variable {s t u w y : State} {h : HeatStage} {r : Rest} {i n last : Nat}

/-! ### A chain of entries that no command begins -/

@[simp] theorem judgeSteam_request (s : State) : (judgeSteam s).steam.request = s.steam.request := by
  unfold judgeSteam
  (repeat' split) <;> (try rw [enterFilling_steam]) <;> (try rw [endSteam_steam]) <;> (try split) <;> rfl

theorem enter_judged (hr : EntryRests w n i w.recipe.stack r) (hn : n ≤ 17000) (ha : programActive w.recipe = true) :
    ∃ y, ChainEnds w y r ∧ (enter i w = y ∨ enter i w = judgeSteam y) := by
  have hans := enterStage_rests hr (fuel := entryFuel) w.recipe.cur (by unfold entryFuel; omega)
  change r.Answers w (enter i w) at hans
  cases r with
  | begins j h stack =>
    obtain ⟨fuel, hx⟩ := hans
    obtain ⟨hat, hh⟩ := hr.begun rfl
    exact ⟨_, stageBegun_ends w j h stack, .inr (by rw [hx, beginStage_rests hat hh])⟩
  | finishes =>
    obtain ⟨j, stack, hx⟩ := hans
    exact ⟨_, finishProgram_ends w j stack, .inl hx⟩
  | stackFault =>
    obtain ⟨j, stack, hx⟩ := hans
    exact ⟨_, faultProgram_ends w ha j stack, .inl hx⟩

/-- What stands at the rest of a chain stands in every state alike in program and climate. -/
theorem Rest.Stands.later (h : r.Stands last s y) (hrec : t.recipe = { y.recipe with withheldMs := t.recipe.withheldMs })
    (hcl : t.climate = y.climate) : r.Stands last s t := by
  cases r with
  | begins j k stack =>
    obtain ⟨⟨h1, h2, h3, h4, h5, h6, h7, h8, h9⟩, h10⟩ := h
    refine ⟨⟨?_, ?_, ?_, ?_, ?_, ?_, ?_, ?_, hcl.trans h9⟩, ?_⟩
    all_goals rw [hrec]; assumption
  | finishes | stackFault =>
    obtain ⟨h1, h2, h3, h4, h5⟩ := h
    refine ⟨?_, ?_, ?_, ?_, hcl.trans h5⟩
    all_goals rw [hrec]; assumption

/-- It is read from the store, the climate and the readings before the chain. -/
theorem Rest.Stands.earlier (h : r.Stands last w t) (hstore : w.recipe.store = s.recipe.store)
    (hclimate : w.climate = s.climate) (hread : w.superv.readings = s.superv.readings) : r.Stands last s t := by
  cases r with
  | begins j k stack =>
    obtain ⟨⟨h1, h2, h3, h4, h5, h6, h7, h8, h9⟩, h10⟩ := h
    rw [atTarget_congr hread] at h6
    rw [hclimate] at h9
    exact ⟨⟨h1, h2, h3, h4, h5, h6, h7, h8.trans hstore, h9⟩, h10⟩
  | finishes | stackFault =>
    obtain ⟨h1, h2, h3, h4, h5⟩ := h
    rw [ClimateLeft, hclimate] at h5
    exact ⟨h1, h2, h3, h4.trans hstore, h5⟩

/-- With the notices of its rest in the queue. -/
theorem Rest.Stands.rests (h : r.Stands last s t) (hq : ∀ f ∈ restNotices (noticeTag s.recipe) last r, Queued f t) :
    RestsAs last s t r := by
  cases r with
  | begins j k stack => exact ⟨h.1, h.2, hq _ (by simp [restNotices, beginNotices])⟩
  | finishes | stackFault =>
    obtain ⟨h1, h2, h3, h4, h5⟩ := h
    exact ⟨h1, h2, h3, h4, h5, hq _ (by simp [restNotices])⟩

/-- What a chain of entries from `w` leaves behind what settles. -/
structure ChainSettled (w t : State) (r : Rest) : Prop where
  stands  : r.Stands w.recipe.lastHeat w t
  tells   : Tells (restNotices (noticeTag w.recipe) w.recipe.lastHeat r) w t
  wait    : WaitOnly w t
  superv  : t.superv = w.superv
  startup : t.startup = w.startup
  pending : t.pending = w.pending

theorem ChainEnds.settled (hy : ChainEnds w y r) {z : State} (hrec : z.recipe = y.recipe) (hcl : z.climate = y.climate)
    (hd : z.descale = y.descale) (hv : z.superv = y.superv) (hu : z.startup = y.startup) (hp : z.pending = y.pending)
    (ht : Tells (restNotices (noticeTag w.recipe) w.recipe.lastHeat r) w z) : ChainSettled w (settle z) r := by
  have hrs := settle_recipe z
  rw [hrec] at hrs
  have hw := waitOnly_settle z
  unfold WaitOnly at hw
  rw [hd, hy.descale] at hw
  refine ⟨hy.stands.later hrs (by simp [hcl]), ht.settle, hw, ?_, ?_, ?_⟩
  · simp [hv, hy.superv]
  · simp [hu, hy.startup]
  · simp [hp, hy.pending]

theorem chain_settles (hr : EntryRests w n i w.recipe.stack r) (hn : n ≤ 17000) (ha : programActive w.recipe = true) :
    ChainSettled w (settle (enter i w)) r := by
  obtain ⟨y, hy, he⟩ := enter_ends hr hn ha
  rw [he]
  exact hy.settled rfl rfl rfl rfl rfl rfl hy.tells

/-- The same where the generator is judged at a reading behind the chain, with no service request in progress. -/
theorem chain_judged (hr : EntryRests w n i w.recipe.stack r) (hn : n ≤ 17000) (ha : programActive w.recipe = true)
    (hq : w.steam.request = .none) : ChainSettled w (settle (judgeBoil (judgeHeat (enter i w)))) r := by
  obtain ⟨y, hy, he⟩ := enter_judged hr hn ha
  have hqy : y.steam.request = .none := by rw [hy.steam]; exact hq
  obtain ⟨z, hz, hrec, hcl, hd, hv, hu, hp, hreq, ht⟩ : ∃ z, enter i w = z ∧ z.recipe = y.recipe ∧ z.climate = y.climate
      ∧ z.descale = y.descale ∧ z.superv = y.superv ∧ z.startup = y.startup ∧ z.pending = y.pending
      ∧ z.steam.request = .none ∧ Tells (restNotices (noticeTag w.recipe) w.recipe.lastHeat r) w z := by
    obtain he | he := he
    · exact ⟨y, he, rfl, rfl, rfl, rfl, rfl, rfl, hqy, hy.tells⟩
    · exact ⟨_, he, by simp, by simp, by simp, by simp, by simp, by simp, by simpa using hqy, hy.tells.judgeSteam⟩
  rw [hz, judgeHeat_of_none hreq]
  exact hy.settled (by simp [hrec]) (by simp [hcl]) (by simp [hd]) (by simp [hv]) (by simp [hu]) (by simp [hp]) ht.judgeBoil

/-- The chain from a stage that ends, from `s` on. -/
structure ProgramMoves (s t : State) (i : Nat) (h' : HeatStage) : Prop where
  begins   : stageAt s.recipe i = some (.heat h' none) → EntersHeat i h' s t
  finishes : stageAt s.recipe i = none → t.recipe.state = .finished ∧ t.recipe.cur = s.recipe.lastHeat ∧ ClimateLeft s t
  wait     : WaitOnly s t
  touches  : OnlyTouches [.climate, .power, .share, .line, .steam, .descale, .recipe] s t

/-- R125: the stage at the index begins, or the program ends past the last. -/
theorem programMoves {h' : HeatStage} (hi : i ≠ 0) (ha : programActive s.recipe = true)
    (hnext : (stageAt s.recipe i = some (.heat h' none) ∧ StageHolds s h') ∨ stageAt s.recipe i = none) {ms : Nat} :
    ProgramMoves s (settle (enter i (s.setRecipe { s.recipe with elapsedMs := ms }))) i h' := by
  obtain ⟨w, hw⟩ : ∃ w, w = s.setRecipe { s.recipe with elapsedMs := ms } := ⟨_, rfl⟩
  rw [← hw]
  have hstages : SameStages s w := by rw [hw]; exact ⟨rfl, rfl, rfl⟩
  have hact : programActive w.recipe = true := by rw [hw]; exact ha
  have hfrom : ∀ r, EntryRests s 0 i s.recipe.stack r → ChainSettled w (settle (enter i w)) r
      ∧ r.Stands s.recipe.lastHeat s (settle (enter i w)) := fun r hr => by
    have hs : w.recipe.stack = s.recipe.stack := by rw [hw]; rfl
    have hl : w.recipe.lastHeat = s.recipe.lastHeat := by rw [hw]; rfl
    have h := chain_settles (by rw [hs]; exact hstages.entryRests hr) (Nat.zero_le _) hact
    refine ⟨h, ?_⟩
    have := h.stands.earlier hstages.store (by rw [hw]; rfl) hstages.readings
    rwa [hl] at this
  have hrest : ∀ r, ChainSettled w (settle (enter i w)) r → WaitOnly s (settle (enter i w))
      ∧ OnlyTouches [.climate, .power, .share, .line, .steam, .descale, .recipe] s (settle (enter i w)) := fun r h => by
    have hwait := h.wait
    unfold WaitOnly at hwait ⊢
    have hd : w.descale = s.descale := by rw [hw]; rfl
    rw [hd] at hwait
    refine ⟨hwait, h.pending.trans (by rw [hw]; rfl), fun b hb => ?_⟩
    cases b with
    | startup => exact h.startup.trans (by rw [hw]; rfl)
    | superv => exact h.superv.trans (by rw [hw]; rfl)
    | climate | power | share | line | steam | descale | recipe => exact absurd hb (by decide)
  obtain ⟨hstage, hh⟩ | hnone := hnext
  · obtain ⟨hc, hst⟩ := hfrom _ (.begins i s.recipe.stack h' none hstage (by simp) hh)
    obtain ⟨h1, h2⟩ := hrest _ hc
    exact ⟨fun _ => hst.1, fun h0 => absurd (hstage.symm.trans h0) (by simp), h1, h2⟩
  · have hpast : s.recipe.store.length < i := by
      unfold stageAt at hnone
      rw [if_neg hi, List.getElem?_eq_none_iff] at hnone
      omega
    obtain ⟨hc, f1, f2, -, -, f5⟩ := hfrom _ (.past i s.recipe.stack hpast)
    obtain ⟨h1, h2⟩ := hrest _ hc
    exact ⟨fun h0 => absurd (hnone.symm.trans h0) (by simp), fun _ => ⟨f1, f2, f5⟩, h1, h2⟩

/-! ### The end condition -/

theorem endsNow_iff (s : State) (h : HeatStage) : EndsNow s h ↔ endConditionMet s h = true := by
  have hd : DurationRun s h ↔ durationReached s.recipe h = true := by
    unfold DurationRun durationReached
    cases h.duration <;> simp
  have ha : AtTarget s h ↔ atTarget s h = true := by
    unfold AtTarget atTarget readingAtLeast
    cases reading s .cav <;> simp
  have hc : CoreReached s h ↔ coreMet s h = true := by
    unfold CoreReached coreMet readingAtLeast
    cases h.core <;> cases reading s .core <;> simp
  unfold EndsNow endConditionMet
  cases h.endKind <;> simp [hd, ha, hc]

theorem endConditionMet_congr (hv : u.superv.readings = s.superv.readings)
    (hp : u.recipe.probePresent = s.recipe.probePresent) (he : u.recipe.elapsedMs = s.recipe.elapsedMs) (h : HeatStage) :
    endConditionMet u h = endConditionMet s h := by
  unfold endConditionMet
  rw [atTarget_congr hv, coreMet_congr hv hp, hp]
  simp [durationReached, he]

/-! ### A stage and a reading of the inputs -/

/-- The state in which the end of the stage is judged at a reading. -/
def stageRead (x : SensorInputs) (s : State) : State := judgeTimedPhase (sidesRead x s)

theorem stageRead_readings (x : SensorInputs) (s : State) :
    (stageRead x s).superv.readings = (withReadings x s).superv.readings := by
  have h : (stageRead x s).superv = (sidesRead x s).superv := by simp [stageRead]
  rw [h, sidesRead_readings]
  rfl

/-- The program at a reading, before its stage is judged (R127, R128). -/
theorem stageRead_recipe (x : SensorInputs) (s : State) : (stageRead x s).recipe = { s.recipe with
    phaseStarted := (stageRead x s).recipe.phaseStarted
    probeShows   := !coreAbsent x.core
    probeMs      := if s.recipe.probeShows = !coreAbsent x.core then s.recipe.probeMs else 0 } := by
  rw [stageRead, judgeTimedPhase_rest, (sidesRead_frame x s).2.2.2.2.2.2.2.2]

theorem stageRead_frame (x : SensorInputs) (s : State) :
    (stageRead x s).pending = s.pending ∧ (stageRead x s).startup = s.startup ∧ (stageRead x s).climate = s.climate
      ∧ (stageRead x s).line = s.line ∧ (stageRead x s).share = s.share ∧ (stageRead x s).steam = s.steam
      ∧ (stageRead x s).descale = s.descale := by
  obtain ⟨fp, fu, fc, -, fx, fl, fm, fd, -⟩ := sidesRead_frame x s
  simp [stageRead, fp, fu, fc, fx, fl, fm, fd]

theorem stageRead_ends (x : SensorInputs) (s : State) (hc : currentHeat s.recipe = some h) :
    stageEnds (stageRead x s) = true ↔ s.recipe.state = .running ∧ EndsNow (withReadings x s) h := by
  have hr := stageRead_recipe x s
  have hcur : currentHeat (stageRead x s).recipe = some h := by rw [hr]; exact hc
  have hstate : (stageRead x s).recipe.state = s.recipe.state := by rw [hr]
  rw [endsNow_iff, ← endConditionMet_congr (u := stageRead x s) (stageRead_readings x s) (by rw [hr]; rfl) (by rw [hr]; rfl)]
  simp [stageEnds, hcur, hstate]

/-- R128: the timed phase starts at the first reading of CAV within 2.0 °C of the target, and stays started. -/
theorem stageRead_phaseStarted (x : SensorInputs) (s : State) (hc : currentHeat s.recipe = some h) :
    (stageRead x s).recipe.phaseStarted = true ↔ s.recipe.phaseStarted = true ∨ AtTarget (withReadings x s) h := by
  have hr := (sidesRead_frame x s).2.2.2.2.2.2.2.2
  have hcur : currentHeat (sidesRead x s).recipe = some h := by rw [hr]; exact hc
  have hphase : (sidesRead x s).recipe.phaseStarted = s.recipe.phaseStarted := by rw [hr]
  have hat : AtTarget (withReadings x s) h ↔ atTarget (sidesRead x s) h = true := by
    rw [atTarget_congr (u := sidesRead x s) (s := withReadings x s) (sidesRead_readings x s)]
    unfold AtTarget atTarget readingAtLeast
    cases reading (withReadings x s) .cav <;> simp
  rw [hat, stageRead]
  unfold judgeTimedPhase
  simp only [hcur, hphase]
  split
  next h1 =>
    rw [Bool.and_eq_true] at h1
    simp [h1.2]
  next h1 =>
    rw [hphase]
    cases hs : s.recipe.phaseStarted
    · simpa [hs] using h1
    · simp

theorem sensorReading_probe (x : SensorInputs) (s : State) :
    (sensorReading x s).recipe.probePresent = s.recipe.probePresent := by
  have hq : (sensorReading x s).recipe.probe = (sidesRead x s).recipe.probe := by
    rw [sensorReading_eq]
    simp
  rw [(sidesRead_frame x s).2.2.2.2.2.2.2.2] at hq
  exact congrArg Prod.fst hq

/-- A stage that the reading does not end goes on (R128, R129). -/
theorem sensorReading_goes_on {x : SensorInputs} (hc : currentHeat s.recipe = some h)
    (ho : s.recipe.state = .running → ¬ EndsNow (withReadings x s) h) :
    (sensorReading x s).recipe = { s.recipe with
        phaseStarted := (stageRead x s).recipe.phaseStarted, withheldMs := (sensorReading x s).recipe.withheldMs
        probeShows := !coreAbsent x.core
        probeMs := if s.recipe.probeShows = !coreAbsent x.core then s.recipe.probeMs else 0 }
      ∧ (sensorReading x s).climate = s.climate := by
  have hno : stageEnds (stageRead x s) = false := by
    rw [Bool.eq_false_iff, Ne, stageRead_ends x s hc]
    exact fun ⟨h1, h2⟩ => ho h1 h2
  have heq : sensorReading x s = settle (judgeBoil (judgeHeat (stageRead x s))) := by
    rw [sensorReading_eq]
    change settle (judgeBoil (judgeHeat (judgeStage (stageRead x s)))) = _
    rw [judgeStage, if_neg (by simp [hno])]
  have hrec := settle_recipe (judgeBoil (judgeHeat (stageRead x s)))
  have hkeep : (judgeBoil (judgeHeat (stageRead x s))).recipe = (stageRead x s).recipe := by simp
  rw [← heq, hkeep, stageRead_recipe] at hrec
  refine ⟨hrec, ?_⟩
  rw [heq]
  simp [(stageRead_frame x s).2.2.1]

end Sys2Proof.Machine

/-!
O60: timers and readings move a program on.
-/
namespace Sys2Proof.Machine

variable {s t u w : State} {h : HeatStage}

theorem timerRuns_of (hph : s.recipe.phaseStarted = true) (hst : s.recipe.state = .running ∨ s.recipe.state = .prompting)
    (hd : s.climate.doorOpen = false) (hc : cutInForce s.superv = false) : timerRuns s = true := by
  obtain h | h := hst <;> simp [timerRuns, hph, h, hd, hc]

/-- R129: the stage timer at the duration of a stage that ends on it. -/
theorem stageTimeEnd_eq {d : Nat} (hst : s.recipe.state = .running) (hat : heatAt s.recipe s.recipe.cur = some h)
    (hd : h.duration = some d) (hk : h.endKind = .time ∨ h.endKind = .either) (ht : timerRuns s = true) :
    ∃ ms, stageTimeEnd s = settle (enter (s.recipe.cur + 1) (s.setRecipe { s.recipe with elapsedMs := ms })) := by
  have hcur : currentHeat s.recipe = some h := (currentHeat_of_active (by simp [programActive, hst])).trans hat
  have hends : endsOnTime s h = true := by
    obtain hk | hk := hk <;> simp [endsOnTime, hd, hk]
  refine ⟨max s.recipe.elapsedMs (1000 * h.duration.getD 0), ?_⟩
  simp only [stageTimeEnd, hcur]
  rw [if_pos ⟨hst, ht, hends⟩]
  rfl

/-- R132: the PROMPT that is not answered takes answer 0. -/
theorem promptTimeout_eq {d : Nat} (hst : s.recipe.state = .prompting) (hat : heatAt s.recipe s.recipe.cur = some h)
    (hd : h.duration = some d) (hk : h.endKind = .prompt) (ht : timerRuns s = true) :
    ∃ ms, promptTimeout s
      = settle (enter (s.recipe.cur + h.branches.headD 1) (s.setRecipe { s.recipe with elapsedMs := ms })) := by
  have hact : programActive s.recipe = true := by simp [programActive, hst]
  have hcur : currentHeat s.recipe = some h := (currentHeat_of_active hact).trans hat
  have happ : ∀ v : State, currentHeat v.recipe = some h → applyAnswer 0 v = enter (v.recipe.cur + h.branches.headD 1) v := by
    intro v hv
    rw [applyAnswer, hv, Option.bind_some]
    cases h.branches <;> rfl
  refine ⟨max s.recipe.elapsedMs (1000 * h.duration.getD 0), ?_⟩
  simp only [promptTimeout, hcur]
  rw [if_pos ⟨hst, hk, by simp [hd], ht⟩, happ (elapse h s) hcur]
  rfl

/-! ### The probe -/

/-- With no excursion of CORE in progress a probe that goes takes its value, but for one above the range (R127, R145). -/
theorem probeLost_cleared (hl : s.superv.low.core = SideRec.cleared) (hh : s.superv.high.core = SideRec.cleared) :
    probeLost s = s.setSuperv { s.superv with
      readings := { s.superv.readings with core := s.superv.readings.core.probeGone } } := by
  simp [probeLost, endCoreExcursion, sideRec, PerChannel.get, hl, hh, SideRec.cleared, SideRec.inProgress]

/-- The state in which a probe that has gone has been asked for (R127, R130). -/
def probeAsked (s : State) : State :=
  notice .prompt 250 (s.setSuperv { s.superv with
      readings := { s.superv.readings with core := s.superv.readings.core.probeGone } }
    |>.setRecipe { s.recipe with probePresent := false, probeMs := 0, state := .prompting, prompt := 250 })

/-- R130: a CORE stage without probe and duration asks for it. -/
theorem probeStateChange_gone (hshows : s.recipe.probeShows = false) (hp : s.recipe.probePresent = true)
    (hst : s.recipe.state = .running) (hat : heatAt s.recipe s.recipe.cur = some h) (hk : h.endKind = .core)
    (hd : h.duration = none) (hl : s.superv.low.core = SideRec.cleared) (hh : s.superv.high.core = SideRec.cleared) :
    probeStateChange s = settle (probeAsked s) := by
  have hgone : s.setRecipe { s.recipe with probePresent := s.recipe.probeShows, probeMs := 0 }
      = s.setRecipe { s.recipe with probePresent := false, probeMs := 0 } :=
    congrArg (fun b => s.setRecipe { s.recipe with probePresent := b, probeMs := 0 }) hshows
  obtain ⟨w, hw⟩ : ∃ w, w = (s.setRecipe { s.recipe with probePresent := false, probeMs := 0 }).setSuperv { s.superv with
      readings := { s.superv.readings with core := s.superv.readings.core.probeGone } } := ⟨_, rfl⟩
  have hlost : probeLost (s.setRecipe { s.recipe with probePresent := false, probeMs := 0 }) = w := by
    rw [hw]
    exact probeLost_cleared hl hh
  have hr : w.recipe = { s.recipe with probePresent := false, probeMs := 0 } := by rw [hw]; rfl
  have hcur : currentHeat w.recipe = some h :=
    (currentHeat_of_active (by rw [hr]; simp [programActive, hst])).trans (by rw [hr]; exact hat)
  have hend : endConditionMet w h = false := by
    have hpw : w.recipe.probePresent = false := by rw [hr]
    simp [endConditionMet, hk, coreMet, hpw, durationReached, hd]
  have hrule : probeRule w = notice .prompt 250 (w.setRecipe { w.recipe with state := .prompting, prompt := 250 }) := by
    have hpw : w.recipe.probePresent = false := by rw [hr]
    simp only [probeRule, hcur]
    rw [if_pos ⟨.inl hk, hpw⟩, if_neg (by simp [hd])]
    rfl
  unfold probeStateChange
  rw [if_neg (by simp [hshows, hp])]
  dsimp only
  rw [hgone, if_pos (.inl hst), if_neg (by simp [hshows]), if_neg (by simp [hshows]), hlost, judgeStageAndProbe,
    if_neg (by simp [stageEnds_of_current hcur hend]), hrule]
  rw [hw]
  rfl

theorem probeAsked_blocks (s : State) :
    (probeAsked s).pending = s.pending ∧ (probeAsked s).startup = s.startup ∧ (probeAsked s).climate = s.climate
      ∧ (probeAsked s).power = s.power ∧ (probeAsked s).share = s.share ∧ (probeAsked s).steam = s.steam
      ∧ (probeAsked s).descale = s.descale
      ∧ (probeAsked s).recipe = { s.recipe with probePresent := false, probeMs := 0, state := .prompting, prompt := 250 }
      ∧ (probeAsked s).superv = { s.superv with
          readings := { s.superv.readings with core := s.superv.readings.core.probeGone } } := by
  simp [probeAsked]

/-- Settles O60: the load timer, the stage and PROMPT timers, the probe, the readings, and a reason withheld. -/
theorem programTimersMoveOn : Obligations.ProgramTimersMoveOn := by
  refine ⟨fun s hn hst => ?_, fun s h h' d hst hat hd hk hph hdo hc hnext => ?_,
    fun s h h' d hst hat hd hk hph hdo hc hnext => ?_, fun s h hn hg hq hshows hp hst hat hk hd hl hh => ?_,
    fun s hg hshows hp hst => ?_, fun s x h links r hn hq hreq hst hc hends hl hrest => ?_,
    fun s x h hc ho => ⟨_, rfl, ?_⟩, fun s h hn ha hat hm hmark hw => ?_⟩
  · have heq : loadTimeout s = endSession (enqueue (.notice .loadTimeout s.recipe.tag s.recipe.cur
        (expectedIndex s.recipe)) s) := if_pos hst
    have hq := queued_enqueue_notice hn .loadTimeout s.recipe.tag s.recipe.cur (expectedIndex s.recipe)
    refine ⟨_, congrArg Host.Outcome.next heq, by simp [endSession], hq, by simp, fun b hb => ?_⟩
    cases b with
    | line | recipe => exact absurd hb (by decide)
    | startup | climate | power | share | steam | descale | superv => simp [Block.same]
  · obtain ⟨ms, heq⟩ := stageTimeEnd_eq hst hat hd hk (timerRuns_of hph (.inl hst) hdo hc)
    have hm := programMoves (Nat.succ_ne_zero _) (by simp [programActive, hst]) hnext (ms := ms)
    exact ⟨_, congrArg Host.Outcome.next heq, hm.begins, hm.finishes, hm.wait, hm.touches⟩
  · have hcur : s.recipe.cur ≠ 0 := by
      intro h0
      simp [heatAt, stageAt, h0] at hat
    obtain ⟨ms, heq⟩ := promptTimeout_eq hst hat hd hk (timerRuns_of hph (.inr hst) hdo hc)
    have hm := programMoves (by omega) (by simp [programActive, hst]) hnext (ms := ms)
    exact ⟨_, congrArg Host.Outcome.next heq, hm.begins, hm.finishes, hm.wait, hm.touches⟩
  · have heq := probeStateChange_gone hshows hp hst hat hk hd hl hh
    obtain ⟨bp, bu, bc, -, bx, bm, bd, br, bv⟩ := probeAsked_blocks s
    have hgs : GenSettled (probeAsked s) := genSettled_congr hg
      (steamWanted_congr (by rw [br]; simp [programActive, hst]) (fun _ => by rw [br]; exact ⟨rfl, rfl⟩) (by rw [bm]) (by rw [bm])
        (by rw [bu])) (by rw [bm]) (by rw [bu]) (by rw [bu])
    obtain ⟨hline, hx, hs, hps⟩ := settle_of_fixed (judgeSteam_of_settled hgs)
    have hv : (settle (probeAsked s)).superv = (probeAsked s).superv := by simp
    have hcl : (settle (probeAsked s)).climate = s.climate := by simp [bc]
    refine ⟨_, congrArg Host.Outcome.next heq, ?_, ?_, ?_, hcl, ?_, by simp [bp], fun b hb => ?_⟩
    · unfold ProgramStands at hps
      rwa [br] at hps
    · unfold reading
      rw [hv, bv]
      rfl
    · have hnotice := queued_notice (s := s.setSuperv { s.superv with
          readings := { s.superv.readings with core := s.superv.readings.core.probeGone } }
        |>.setRecipe { s.recipe with probePresent := false, probeMs := 0, state := .prompting, prompt := 250 }) hn .prompt 250
      unfold Queued at *
      rw [hline]
      exact hnotice
    · unfold SettlesOnly OutputsOnly ActuatorsOnly WaitOnly at hs ⊢
      rw [bm, bd, (probeAsked_blocks s).2.2.2.1] at hs
      exact hs
    · cases b with
      | power | line | steam | descale | recipe | superv => exact absurd hb (by decide)
      | startup => exact (settle_frame _).2.1.trans bu
      | climate => exact hcl
      | share => exact hx.trans bx
  · obtain ⟨w, hw⟩ : ∃ w, w = s.setRecipe { s.recipe with probePresent := true, probeMs := 0 } := ⟨_, rfl⟩
    have hends : stageEnds w = false := by
      rw [hw]
      simp [stageEnds, hst]
    have hjs : judgeStage w = w := if_neg (by simp [hends])
    have hshown : s.setRecipe { s.recipe with probePresent := s.recipe.probeShows, probeMs := 0 } = w :=
      (congrArg (fun b => s.setRecipe { s.recipe with probePresent := b, probeMs := 0 }) hshows).trans hw.symm
    have heq : probeStateChange s = settle w := by
      unfold probeStateChange
      rw [if_neg (by simp [hshows, hp])]
      dsimp only
      rw [hshown, if_pos hshows, if_pos hshows, hjs, ite_self]
    have hj : judgeSteam w = w := judgeSteam_of_settled (genSettled_congr hg
      (steamWanted_congr (by rw [hw]; rfl) (fun _ => by rw [hw]; exact ⟨rfl, rfl⟩) (by rw [hw]; rfl) (by rw [hw]; rfl)
        (by rw [hw]; rfl)) (by rw [hw]; rfl) (by rw [hw]; rfl) (by rw [hw]; rfl))
    obtain ⟨hline, hx, hs, hps⟩ := settle_of_fixed hj
    refine ⟨_, congrArg Host.Outcome.next heq, ?_, ?_, by simp [hw], fun b hb => ?_⟩
    · unfold ProgramStands at hps
      rw [show w.recipe = { s.recipe with probePresent := true, probeMs := 0 } by rw [hw]; rfl] at hps
      exact hps
    · unfold SettlesOnly OutputsOnly ActuatorsOnly WaitOnly at hs ⊢
      rw [show w.steam = s.steam by rw [hw]; rfl, show w.power = s.power by rw [hw]; rfl,
        show w.descale = s.descale by rw [hw]; rfl] at hs
      exact hs
    · cases b with
      | power | steam | descale | recipe => exact absurd hb (by decide)
      | startup | climate | superv => simp [Block.same, hw]
      | share => exact hx.trans (by rw [hw]; rfl)
      | line => exact hline.trans (by rw [hw]; rfl)
  · obtain ⟨fp, fu, fc, fl, -, fm, fd⟩ := stageRead_frame x s
    have hr := stageRead_recipe x s
    have hv := stageRead_readings x s
    have hcur : (stageRead x s).recipe.cur = s.recipe.cur := by rw [hr]
    have hlast : (stageRead x s).recipe.lastHeat = s.recipe.lastHeat := by rw [hr]
    have htag : noticeTag (stageRead x s).recipe = noticeTag s.recipe := by rw [hr]; rfl
    have hsame : SameStages (withReadings x s) (stageRead x s) := ⟨by rw [hr]; rfl, by rw [hr]; rfl, hv⟩
    have heq : sensorReading x s = settle (judgeBoil (judgeHeat (enter (s.recipe.cur + 1) (stageRead x s)))) := by
      rw [sensorReading_eq]
      change settle (judgeBoil (judgeHeat (judgeStage (stageRead x s)))) = _
      rw [judgeStage, if_pos ((stageRead_ends x s hc).2 ⟨hst, hends⟩), hcur]
    have hchain := chain_judged (w := stageRead x s) (by rw [hr]; exact hsame.entryRests hrest) hl
      (by rw [hr]; simp [programActive, hst]) (by rw [fm]; exact hreq)
    rw [← heq] at hchain
    have hstands := hchain.stands.earlier (s := withReadings x s) hsame.store fc hv
    rw [hlast] at hstands
    have htells := hchain.tells
    rw [hlast, htag] at htells
    have hlen := restNotices_length (noticeTag s.recipe) s.recipe.lastHeat r
    have htold := htells.told (by simpa [unnumbered, fu] using hn) (by rw [fl]; exact hq) (by omega)
    have hwait := hchain.wait
    unfold WaitOnly at hwait
    rw [fd] at hwait
    refine ⟨_, rfl, hstands.rests fun f hf => htold.queued hf, htold.reportsAre, ?_, sensorReading_probe x s, hwait,
      hchain.pending.trans fp, fun b hb => ?_⟩
    · rw [hchain.superv, hv]
    · cases b with
      | startup => exact hchain.startup.trans fu
      | climate | power | share | line | steam | descale | recipe | superv => exact absurd hb (by decide)
  · obtain ⟨hrec, hcl⟩ := sensorReading_goes_on hc ho
    obtain ⟨-, ku, kp, -⟩ := sensorReading_kept x s
    have hph : (sensorReading x s).recipe.phaseStarted = (stageRead x s).recipe.phaseStarted := by rw [hrec]
    refine ⟨?_, ?_, sensorReading_readings x s, hcl, kp, fun b hb => ?_⟩
    · rw [hph]
      exact hrec
    · rw [hph]
      exact stageRead_phaseStarted x s hc
    · cases b with
      | startup => exact ku
      | climate => exact hcl
      | power | share | line | steam | descale | recipe | superv => exact absurd hb (by decide)
  · have hcur : currentHeat s.recipe = some h := (currentHeat_of_active ha).trans hat
    have heq : steamWithheld s = notice .steamWithheld ((withheldReason s).code * 256
        + (if withheldReason s = .fault then faultKindCode s.steam.faultKind else 0))
        (s.setRecipe { s.recipe with withheldMark := true, withheldMs := 0 }) :=
      if_pos (by simp [withheldWatched, hcur, hm, hmark, hw])
    refine ⟨_, congrArg Host.Outcome.next heq, by simp,
      queued_notice (s := s.setRecipe { s.recipe with withheldMark := true, withheldMs := 0 }) hn .steamWithheld _, by simp,
      fun b hb => ?_⟩
    cases b with
    | line | recipe => exact absurd hb (by decide)
    | startup | climate | power | share | steam | descale | superv => simp [Block.same]

end Sys2Proof.Machine

/-!
The re-initialisation that ends a RESTART (R60, R78, R98, R115, R154, R160).
-/
namespace Sys2Proof.Machine

variable {s t u : State} {f : TxFrame} {q : List QEntry}

/-! ### A frame behind the queue -/

theorem insertFrame_behind (h : ∀ e ∈ q, e.frame.cls ≤ f.cls) : insertFrame f q = q ++ [⟨f, false⟩] := by
  induction q with
  | nil => rfl
  | cons e q ih =>
    obtain ⟨he, hq⟩ := List.forall_mem_cons.1 h
    rw [insertFrame, if_pos he, ih hq]
    rfl

/-- R75, R76: a REPORT enters behind a short queue of REPORTs, and the STATUS behind them. -/
theorem enqueueQueue_report (hf : f.isReport = true) (h : ∀ e ∈ q, e.frame.isReport = true) (hl : q.length < 5) :
    enqueueQueue f q = q ++ [⟨f, false⟩] := by
  have hcls : ∀ g : TxFrame, g.isReport = true → g.cls = 5 := fun g hg => by simpa [TxFrame.isReport] using hg
  have hadd : enqueueQueue f q = addReport f q := by
    cases f with
    | result | notice | reading => rfl
    | trip | tripClear | lower | yields | raise | status => simp [TxFrame.isReport, TxFrame.cls] at hf
  have hcount := List.countP_le_length (p := fun e : QEntry => e.frame.isReport) (l := q)
  rw [hadd, addReport, if_neg (by simp only [reportLimit]; omega), addFrame, if_neg (by simp only [queueLimit]; omega)]
  exact insertFrame_behind fun e he => by rw [hcls _ (h e he), hcls _ hf]

theorem enqueueQueue_status (h : ∀ e ∈ q, e.frame.isReport = true) (hl : q.length < 8) :
    enqueueQueue .status q = q ++ [⟨.status, false⟩] := by
  have hcls : ∀ e ∈ q, e.frame.cls = 5 := fun e he => by simpa [TxFrame.isReport] using h e he
  have hno : anyWaiting TxFrame.isStatus q = false := by
    rw [anyWaiting, List.any_eq_false]
    intro e he
    have := hcls e he
    cases hfr : e.frame <;> simp_all [TxFrame.isStatus, TxFrame.cls]
  rw [show enqueueQueue .status q = putFrame TxFrame.isStatus .status q from rfl, putFrame, if_neg (by simp [hno]), addFrame,
    if_neg (by simp only [queueLimit]; omega)]
  exact insertFrame_behind fun e he => by rw [hcls e he]; decide

/-! ### The start check (R154) -/

/-- What the start check finds. -/
def startPasses (s : State) : Bool :=
  !s.superv.welded && !s.superv.trip && !(channelList.any (beyondAtStart s))
    && !(fixedJudgement s.superv.readings.cav).any (·.beyond)

theorem beyondLimit_iff (s : State) (c : Channel) : BeyondALimit s c ↔
    ((lowJudgement (s.startup.channels.get c) c (s.superv.readings.get c)).any (·.beyond)
      || (highJudgement (s.startup.channels.get c) c (s.superv.readings.get c)).any (·.beyond)) = true := by
  unfold BeyondALimit lowJudgement highJudgement reading
  rcases (s.superv.readings.get c).failed with _ | (_ | _ | _)
  · cases (s.superv.readings.get c).value <;> simp [judgeLow, judgeHigh]
  all_goals simp

theorem beyondFixed_iff (s : State) :
    BeyondFixedLimit s ↔ (fixedJudgement s.superv.readings.cav).any (·.beyond) = true := by
  unfold BeyondFixedLimit fixedJudgement reading
  simp only [PerChannel.get]
  rcases s.superv.readings.cav.failed with _ | (_ | _ | _)
  · cases s.superv.readings.cav.value <;> simp
  all_goals simp

theorem startPasses_iff (s : State) : startPasses s = true ↔ StartCheckPasses s := by
  have hall : (channelList.any (beyondAtStart s)) = false ↔
      ∀ c, c ≠ .mains → (s.startup.channels.get c).enabled = true → (s.superv.readings.get c).cond.showsAbsent = false →
        ¬ BeyondALimit s c := by
    have hmem : ∀ c, c ∈ channelList := fun c => by cases c <;> decide
    rw [List.any_eq_false]
    refine ⟨fun h c hc he ha hb => h c (hmem c) ?_, fun h c _ hb => ?_⟩
    · simp [beyondAtStart, (beyondLimit_iff s c).1 hb, he, hc, ha]
    · simp only [beyondAtStart, Bool.and_eq_true, decide_eq_true_eq, Bool.not_eq_true'] at hb
      obtain ⟨⟨⟨he, hc⟩, ha⟩, hb⟩ := hb
      exact h c hc he ha ((beyondLimit_iff s c).2 hb)
  unfold startPasses StartCheckPasses
  rw [beyondFixed_iff, ← hall]
  simp [and_assoc, and_comm, and_left_comm]

/-- The relay is commanded closed where the check finds nothing against it. -/
theorem startCheck_eq (s : State) : startCheck s = if startPasses s then commandRelay true s else s := rfl

/-- The check is read from faults, readings and limits. -/
theorem startPasses_congr (hw : u.superv.welded = s.superv.welded) (ht : u.superv.trip = s.superv.trip)
    (hr : u.superv.readings = s.superv.readings) (hc : u.startup.channels = s.startup.channels) :
    startPasses u = startPasses s := by
  have hb : beyondAtStart u = beyondAtStart s := by
    funext c
    simp [beyondAtStart, hr, hc]
  simp [startPasses, hw, ht, hr, hb]

/-- What the supervision starts from (R154). -/
theorem startJudging_superv (s : State) : (startJudging s).superv = { s.superv with
    low := (startJudging s).superv.low, high := (startJudging s).superv.high, fixed := (startJudging s).superv.fixed
    strikes := PerChannel.all 0, judging := true, mainsArmed := false } := by
  unfold startJudging judgeReadings
  rw [judgeFixed_superv]
  iterate 5 rw [(judgeChannelSides_superv _ _).1]
  rfl

/-- The faults, the readings and the relay behind the start check. -/
theorem superviseAgain_superv (s : State) :
    (superviseAgain s).superv.trip = s.superv.trip ∧ (superviseAgain s).superv.welded = s.superv.welded
      ∧ (superviseAgain s).superv.configFault = s.superv.configFault
      ∧ (superviseAgain s).superv.readings = s.superv.readings ∧ (superviseAgain s).superv.judging = true
      ∧ (superviseAgain s).superv.strikes = PerChannel.all 0
      ∧ (superviseAgain s).superv.relayClosed = (startPasses s || s.superv.relayClosed) := by
  have h := startJudging_superv s
  have hp : startPasses (startJudging s) = startPasses s := by
    refine startPasses_congr ?_ ?_ ?_ ?_
    · rw [h]
    · rw [h]
    · rw [h]
    · simp [startJudging, clearJudging]
  unfold superviseAgain
  rw [startCheck_eq, hp]
  cases hs : startPasses s <;> simp only [commandRelay, State.setSuperv_superv, if_true, if_false, Bool.false_eq_true] <;> rw [h] <;> simp

end Sys2Proof.Machine

/-!
What the re-initialisation leaves (R160), block by block, and the states from which it gives `Restarted`.
-/
namespace Sys2Proof.Machine

variable {s s' t u v : State}

/-! ### The state before the notices and what settles -/

/-- The supervision and the generator begin again behind the RESULT. -/
def restartSupervised (s : State) : State :=
  genFromLevels (superviseAgain (respond .restart .accepted noDetail (blocksRestarted s)))

/-- The state in which what settles at once is formed. -/
def restartDone (s : State) : State :=
  joinUnlessClash (descaleRestarted (descaleActive s.descale) (noticeIfDue (restartSupervised s)))

theorem reInitialise_eq (s : State) : reInitialise s = settle (restartDone s) := rfl

theorem restartSupervised_frame (s : State) :
    (restartSupervised s).pending = s.pending ∧ (restartSupervised s).startup = (blocksRestarted s).startup
      ∧ (restartSupervised s).climate = climateRestarted s.climate ∧ (restartSupervised s).power = powerRestarted s.power
      ∧ (restartSupervised s).share = shareRestarted s.line.numberClash s.share
      ∧ (restartSupervised s).descale = s.descale ∧ (restartSupervised s).recipe = recipeAtRestart s.recipe := by
  simp [restartSupervised]
  exact ⟨rfl, rfl, rfl, rfl, rfl, rfl⟩

theorem restartDone_frame (s : State) :
    (restartDone s).pending = s.pending ∧ (restartDone s).startup = (blocksRestarted s).startup
      ∧ (restartDone s).climate = climateRestarted s.climate ∧ (restartDone s).power = powerRestarted s.power
      ∧ (restartDone s).recipe = recipeAtRestart s.recipe
      ∧ (restartDone s).superv = (superviseAgain (respond .restart .accepted noDetail (blocksRestarted s))).superv
      ∧ (restartDone s).steam = (restartSupervised s).steam := by
  obtain ⟨h1, h2, h3, h4, -, -, h7⟩ := restartSupervised_frame s
  refine ⟨by simp [restartDone, h1], by simp [restartDone, h2], by simp [restartDone, h3], by simp [restartDone, h4],
    by simp [restartDone, h7], ?_, by simp [restartDone]⟩
  simp [restartDone, restartSupervised]

/-- R80: the generator takes its state from LOW, with no fill, drain or request. -/
theorem restartDone_steam (s : State) : (restartDone s).steam = { steamRestarted s.steam with
    gen := if s.steam.levels.low then .cooling else .empty } := by
  have hs : (superviseAgain (respond .restart .accepted noDetail (blocksRestarted s))).steam = steamRestarted s.steam := by
    simp
    rfl
  rw [(restartDone_frame s).2.2.2.2.2.2, restartSupervised, genFromLevels, hs]
  have hl : (steamRestarted s.steam).levels = s.steam.levels := rfl
  rw [hl]
  split
  · simp only [enterCooling, State.setSteam_steam, hs]
    rfl
  · simp only [enterEmpty, State.setSteam_steam, hs]
    rfl

theorem descaleRestarted_descale (b : Bool) (s : State) : (descaleRestarted b s).descale.soakMark = false
    ∧ (descaleRestarted b s).descale.phase = (if b then (if s.steam.acid then .holdAcid else .off) else s.descale.phase) := by
  unfold descaleRestarted
  dsimp only
  split
  next =>
    refine ⟨by simp [enterPhase], ?_⟩
    rw [enterPhase_phase]
    rfl
  next => exact ⟨rfl, rfl⟩

theorem joinUnlessClash_share (s : State) : (joinUnlessClash s).share =
    if s.line.numberClash then { s.share with statusMs := 0 }
    else { s.share with link := .joining, joinMs := some 0, sinceOwnMs := some 0, isolatedMs := 0, lost := false, statusMs := 0 } := by
  unfold joinUnlessClash openJoinWindow
  split
  · simp [queueStatus]
  · simp [queueStatus]

theorem restartDone_share (s : State) : (restartDone s).share.holds = PerPool.all 0 ∧ (restartDone s).share.table = []
    ∧ (restartDone s).share.tripSet = [] ∧ (restartDone s).share.floor = s.share.floor
    ∧ (s.line.numberClash = false → (restartDone s).share.link = .joining ∧ (restartDone s).share.joinMs = some 0) := by
  have hx : (descaleRestarted (descaleActive s.descale) (noticeIfDue (restartSupervised s))).share
      = shareRestarted s.line.numberClash s.share := by simp [(restartSupervised_frame s).2.2.2.2.1]
  have hc : (descaleRestarted (descaleActive s.descale) (noticeIfDue (restartSupervised s))).line.numberClash
      = s.line.numberClash := by
    simp [restartSupervised]
    rfl
  rw [restartDone, joinUnlessClash_share, hx, hc]
  cases s.line.numberClash <;> simp [shareRestarted, Share.reset]

/-! ### The queue (R78) -/

/-- What stands in the queue before the STATUS. -/
def restartNotices (s : State) : List QEntry :=
  [⟨.result .restart .accepted 0, false⟩]
    ++ (if levelNow s = .none then [] else [⟨.notice .descaleDue 0 0 (levelNow s).code, false⟩])
    ++ (if descaleActive s.descale then [⟨.notice .descalePhase 0 0 (if s.steam.acid then 4363 else 11), false⟩] else [])

theorem restartNotices_reports (s : State) : ∀ e ∈ restartNotices s, e.frame.isReport = true := by
  intro e he
  unfold restartNotices at he
  split at he <;> split at he <;> simp at he <;> aesop

/-- The line of a state whose queue alone is begun again (R78). -/
structure LineBegun (s u : State) (q : List QEntry) : Prop where
  queue : u.line = { lineRestarted s.line with queue := q }
  setup : unnumbered u = unnumbered s
  told  : noticeTag u.recipe = 0 ∧ u.recipe.cur = 0

theorem LineBegun.enqueue {q : List QEntry} (h : LineBegun s u q) (hn : unnumbered s = false) (f : TxFrame) :
    LineBegun s (enqueue f u) (enqueueQueue f q) := by
  have hnu : unnumbered u = false := h.setup.trans hn
  have hl : (Machine.enqueue f u) = setQueue (enqueueQueue f u.line.queue) u := if_neg (by simp [hnu])
  have hq : u.line.queue = q := by rw [h.queue]
  rw [hl, hq]
  refine ⟨?_, h.setup, h.told⟩
  show { u.line with queue := enqueueQueue f q } = _
  rw [h.queue]

theorem LineBegun.notice {q : List QEntry} (h : LineBegun s u q) (hn : unnumbered s = false) (code : NoticeCode) (detail : Nat) :
    LineBegun s (notice code detail u) (enqueueQueue (.notice code 0 0 detail) q) := by
  have := h.enqueue hn (.notice code 0 0 detail)
  rw [Machine.notice, noticeAt, h.told.1, h.told.2]
  exact this

theorem LineBegun.same {q : List QEntry} (h : LineBegun s u q) (hl : v.line = u.line) (hu : v.startup = u.startup)
    (hr : v.recipe = u.recipe) : LineBegun s v q :=
  ⟨hl.trans h.queue, by rw [← h.setup, unnumbered, unnumbered, hu], by rw [hr]; exact h.told⟩

theorem restartSupervised_line (hn : unnumbered s = false) :
    LineBegun s (restartSupervised s) [⟨.result .restart .accepted 0, false⟩] := by
  have h0 : LineBegun s (blocksRestarted s) [] := ⟨rfl, rfl, rfl, rfl⟩
  have h1 := h0.enqueue hn (.result .restart .accepted noDetail)
  exact h1.same (by simp [restartSupervised, respond]) (by simp [restartSupervised, respond])
    (by simp [restartSupervised, respond])

theorem LineBegun.enterPhase {q : List QEntry} (h : LineBegun s u q) (hn : unnumbered s = false) (p : Phase) (k : Nat)
    (c : DescaleCause) :
    LineBegun s (enterPhase p k c u) (enqueueQueue (.notice .descalePhase 0 0 (descaleCode p k * 256 + c.code)) q) := by
  refine LineBegun.notice (u := u.setDescale { u.descale with
    phase := p, rinse := k, prepMs := 0, soakMs := 0, lowMs := 0, heatClock := 0, powerWait := false, waitMs := 0
    waitNoted := false }) ?_ hn _ _
  exact h.same rfl rfl rfl

theorem restartSupervised_level (s : State) :
    levelNow (restartSupervised s) = levelNow s ∧ (restartSupervised s).steam.acid = s.steam.acid := by
  rw [levelNow, ← (restartDone_frame s).2.2.2.2.2.2, restartDone_steam, (restartSupervised_frame s).2.1]
  exact ⟨rfl, rfl⟩

/-- R98: DESCALE_DUE behind the RESULT. -/
theorem noticeIfDue_line (hn : unnumbered s = false) : LineBegun s (noticeIfDue (restartSupervised s))
    ([⟨.result .restart .accepted 0, false⟩]
      ++ (if levelNow s = .none then [] else [⟨.notice .descaleDue 0 0 (levelNow s).code, false⟩])) := by
  have h1 := restartSupervised_line hn
  have hlevel := (restartSupervised_level s).1
  unfold noticeIfDue
  rw [hlevel]
  split
  · exact h1
  · have := h1.notice hn .descaleDue (levelNow s).code
    rw [enqueueQueue_report rfl (by simp [TxFrame.isReport, TxFrame.cls]) (by simp)] at this
    rw [noticeScale, hlevel]
    exact this

/-- R114, R115: the descale that was active is told behind it. -/
theorem descaleRestarted_line (hn : unnumbered s = false) :
    LineBegun s (descaleRestarted (descaleActive s.descale) (noticeIfDue (restartSupervised s))) (restartNotices s) := by
  have h2 := noticeIfDue_line hn
  have hacid : (noticeIfDue (restartSupervised s)).steam.acid = s.steam.acid := by simp [(restartSupervised_level s).2]
  have hclear : LineBegun s ((noticeIfDue (restartSupervised s)).setDescale
      { (noticeIfDue (restartSupervised s)).descale with soakMark := false }) _ := h2.same rfl rfl rfl
  unfold descaleRestarted
  dsimp only
  split
  next hact =>
    have h := hclear.enterPhase hn (if s.steam.acid then .holdAcid else .off) 0 .restart
    rw [enqueueQueue_report rfl (by split <;> simp [TxFrame.isReport, TxFrame.cls]) (by split <;> simp)] at h
    have hd : descaleCode (if s.steam.acid then .holdAcid else .off) 0 * 256 + DescaleCause.restart.code
        = if s.steam.acid then 4363 else 11 := by cases s.steam.acid <;> rfl
    rw [hd] at h
    rw [State.setDescale_steam, hacid, restartNotices, if_pos hact]
    exact h
  next hact =>
    rw [restartNotices, if_neg hact, List.append_nil]
    exact hclear

theorem restartDone_line (hn : unnumbered s = false) (hf : frozen s = true) :
    (restartDone s).line = { lineRestarted s.line with queue := restartNotices s ++ [⟨.status, false⟩] } := by
  have h3 := descaleRestarted_line hn
  have hfu : frozen (descaleRestarted (descaleActive s.descale) (noticeIfDue (restartSupervised s))) = true := by
    simp only [frozen, descaleRestarted_frame, noticeIfDue_frame, (restartSupervised_frame s).2.1]
    exact hf
  have hlen : (restartNotices s).length < 8 := by
    unfold restartNotices
    split <;> split <;> simp
  have hstatus : ∀ w : State, LineBegun s w (restartNotices s) → frozen w = true →
      (queueStatus w).line = { lineRestarted s.line with queue := restartNotices s ++ [⟨.status, false⟩] } := fun w hw hfw => by
    have := (hw.enqueue hn .status).queue
    rw [enqueueQueue_status (restartNotices_reports s) hlen] at this
    rw [queueStatus, State.setShare_line, enqueueShare_of_frozen hfw]
    exact this
  unfold restartDone
  generalize descaleRestarted (descaleActive s.descale) (noticeIfDue (restartSupervised s)) = w at h3 hfu
  unfold joinUnlessClash
  split
  · exact hstatus _ h3 hfu
  · exact hstatus _ (h3.same rfl rfl rfl) hfu

end Sys2Proof.Machine

/-!
The re-initialisation gives `Restarted` (R160).
-/
namespace Sys2Proof.Machine

variable {s s' t u : State}

/-- With climate and generator withdrawn no base actuator runs (R25). -/
theorem settle_all_off (hj : judgeSteam u = u) (hc : u.climate.fanReq = false) (hv : u.climate.ventReq = false)
    (hf : u.steam.fill = none) (hd : u.steam.drain = none) : (settle u).power.base = PerActuator.all false := by
  obtain ⟨-, -, hfill, hdrain⟩ := settle_keeps_request hj
  have h3 := (settle_no_fill (hfill.trans hf)).2
  have h4 := (settle_no_drain (hdrain.trans hd)).2
  have h1 := settle_base_off (s := u) .fan (by simp [baseRequests, PerActuator.get, hc])
  have h2 := settle_base_off (s := u) .vent (by simp [baseRequests, PerActuator.get, hv])
  have hext : ∀ x : PerActuator Bool, x = ⟨x.fan, x.vent, x.fill, x.pump⟩ := fun _ => rfl
  rw [hext (settle u).power.base]
  simp only [PerActuator.get] at h1 h2 h3 h4
  rw [h1, h2, h3, h4]
  rfl

/-- What a generator that neither heats nor serves forms (R83, R87). -/
theorem settle_cold (hj : judgeSteam u = u) (hg : u.steam.gen = .cooling ∨ u.steam.gen = .empty) :
    (settle u).steam.boilerDemand = 0 ∧ (settle u).steam.gate = false := by
  have hgen := (settle_keeps_request hj).1
  obtain ⟨o1, o2, -⟩ := (steamOutputs_iff _).1 (settle_steamOutputs u)
  rw [o1, o2, gateOpen, boilerTarget]
  obtain h | h := hg <;> simp [boilerRaw, hgen, h]

/-- Two states alike in what the re-initialisation reads. -/
structure RestartAlike (s s' : State) : Prop where
  pending : s'.pending = s.pending
  startup : (blocksRestarted s').startup = (blocksRestarted s).startup
  clash   : s'.line.numberClash = s.line.numberClash
  floor   : s'.share.floor = s.share.floor
  recipe  : recipeAtRestart s'.recipe = recipeAtRestart s.recipe
  climate : climateRestarted s'.climate = climateRestarted s.climate
  freq    : s'.power.freq = s.power.freq
  steam   : s'.steam.levels = s.steam.levels ∧ s'.steam.scale = s.steam.scale ∧ s'.steam.sub = s.steam.sub
    ∧ s'.steam.acid = s.steam.acid
  phase   : s'.descale.phase = s.descale.phase
  superv  : s'.superv.trip = s.superv.trip ∧ s'.superv.welded = s.superv.welded
    ∧ s'.superv.configFault = s.superv.configFault ∧ s'.superv.readings = s.superv.readings
  relay   : s.superv.relayClosed = false ∨ s.startup.restarting = false → s'.superv.relayClosed = false

theorem RestartAlike.refl (h : s.superv.relayClosed = false ∨ s.startup.restarting = true) : RestartAlike s s :=
  ⟨rfl, rfl, rfl, rfl, rfl, rfl, rfl, ⟨rfl, rfl, rfl, rfl⟩, rfl, ⟨rfl, rfl, rfl, rfl⟩,
    fun h' => h'.elim id fun hr => h.elim id fun hr' => absurd (hr.symm.trans hr') (by decide)⟩

/-- R160: the re-initialisation in `s'`, to which `s` has come, is that of a RESTART taken in `s`. -/
theorem reInitialise_restarted (ha : RestartAlike s s') (hn : unnumbered s' = false) (hf : frozen s' = true) :
    Restarted s (reInitialise s') ∧ (reInitialise s').line.state = s'.line.state := by
  obtain ⟨dp, du, dc, dw, dr, dv, -⟩ := restartDone_frame s'
  have dm := restartDone_steam s'
  have dl := restartDone_line hn hf
  obtain ⟨x1, x2, x3, x4, x5⟩ := restartDone_share s'
  obtain ⟨m1, m2, m3, m4⟩ := ha.steam
  obtain ⟨v1, v2, v3, v4⟩ := ha.superv
  have hprog : programActive (restartDone s').recipe = false := by rw [dr]; rfl
  have hgen : (restartDone s').steam.gen = .cooling ∨ (restartDone s').steam.gen = .empty := by
    rw [dm]
    cases s'.steam.levels.low <;> simp
  have hj := judgeSteam_of_released hprog hgen
  obtain ⟨hline, hshare, ⟨hout, hact, hwait⟩, -⟩ := settle_of_fixed hj
  have hrec : (settle (restartDone s')).recipe = recipeAtRestart s'.recipe := by
    rw [settle_recipe, settle_withheld hprog, dr]
    rfl
  obtain ⟨hdem, hgate⟩ := settle_cold hj hgen
  have hbase := settle_all_off hj (by rw [dc]; rfl) (by rw [dc]; rfl) (by rw [dm]; rfl) (by rw [dm]; rfl)
  have hsv : (settle (restartDone s')).superv = (restartDone s').superv := by simp
  have hcl : (settle (restartDone s')).climate = (restartDone s').climate := by simp
  have hst : (settle (restartDone s')).startup = (restartDone s').startup := by simp
  obtain ⟨p1, p2, p3, p4, p5, p6, p7⟩ := superviseAgain_superv (respond .restart .accepted noDetail (blocksRestarted s'))
  have hsup : (respond .restart .accepted noDetail (blocksRestarted s')).superv = s'.superv := by
    simp
    rfl
  rw [hsup] at p1 p2 p3 p4 p7
  rw [← dv] at p1 p2 p3 p4 p5 p6 p7
  have hlevel : levelNow s' = levelNow s := by
    have hsupply : s'.startup.supply = s.startup.supply := (congrArg Startup.supply ha.startup :)
    rw [levelNow, levelNow, m2, hsupply]
  have hactive : descaleActive s'.descale = descaleActive s.descale := by rw [descaleActive, descaleActive, ha.phase]
  obtain ⟨q1, q2⟩ := descaleRestarted_descale (descaleActive s'.descale) (noticeIfDue (restartSupervised s'))
  have hacid : (noticeIfDue (restartSupervised s')).steam.acid = s.steam.acid := by
    simp [(restartSupervised_level s').2, m4]
  have hphase : (noticeIfDue (restartSupervised s')).descale.phase = s.descale.phase := by
    simp [(restartSupervised_frame s').2.2.2.2.2.1, ha.phase]
  have hdd : (restartDone s').descale = (descaleRestarted (descaleActive s'.descale) (noticeIfDue (restartSupervised s'))).descale := by
    simp [restartDone]
  rw [← hdd] at q1 q2
  rw [hacid, hphase, hactive] at q2
  have hnot : restartNotices s' = restartNotices s := by
    simp only [restartNotices, hlevel, hactive, m4]
  rw [reInitialise_eq]
  unfold OutputsOnly at hout
  unfold ActuatorsOnly at hact
  unfold WaitOnly at hwait
  rw [dm] at hout
  rw [dw] at hact
  rw [dl] at hline
  refine ⟨⟨?_, ?_, ?_, ?_, ?_, ?_, ?_, ?_, ?_, ?_, fun hc => ?_, ?_, ?_, ?_, ?_, ?_, ?_, hbase, ?_, ?_, hdem, hgate, ?_, ?_, ?_,
    ?_, ?_, ?_, ?_, ?_, ?_, ?_, ?_, ?_, fun hr => ?_⟩, ?_⟩
  · simp [dp, ha.pending]
  · rw [hst, du, ha.startup]
    rfl
  · rw [hline, hnot]
    rfl
  · rw [hline]; rfl
  · rw [hline]; rfl
  · rw [hline, ← ha.clash]; rfl
  · rw [hshare]; exact x1
  · rw [hshare]; exact x2
  · rw [hshare]; exact x3
  · rw [hshare, x4, ha.floor]
  · rw [hshare]; exact x5 (ha.clash.trans hc)
  · rw [hrec, ha.recipe]; rfl
  · rw [hcl, dc, ha.climate]; rfl
  · rw [hact, ← ha.freq]; rfl
  · rw [hact]; rfl
  · rw [hact]; rfl
  · rw [hact]; rfl
  · rw [hout, m1]
  · rw [hout]; rfl
  · rw [hout, ← m1]; rfl
  · rw [hout, ← m2]; rfl
  · rw [hout, ← m3]; rfl
  · rw [hout, ← m4]; rfl
  · rw [hwait]; exact q1
  · rw [hwait]; exact q2
  · rw [hsv, p1, v1]
  · rw [hsv, p2, v2]
  · rw [hsv, p3, v3]
  · rw [hsv, p4, v4]
  · rw [hsv]; exact p5
  · rw [hsv]; exact p6
  · have hsame : startPasses (settle (restartDone s')) = startPasses (respond .restart .accepted noDetail (blocksRestarted s')) := by
      refine startPasses_congr ?_ ?_ ?_ ?_
      · rw [hsv, p2, hsup]
      · rw [hsv, p1, hsup]
      · rw [hsv, p4, hsup]
      · rw [hst, du]; simp
    rw [← startPasses_iff, hsame, hsv, p7, ha.relay hr, Bool.or_false]
  · rw [hline]; rfl

end Sys2Proof.Machine

/-!
The row of the re-initialisation, and a received frame that finds the part behind it (R160, R66, R67).
-/
namespace Sys2Proof.Machine

variable {s t u : State}

/-! ### The line behind the re-initialisation -/

theorem waits_enqueueQueue {q : List QEntry} {f : TxFrame} (hq : ∀ e ∈ q, e.sending = false) :
    ∀ e ∈ enqueueQueue f q, e.sending = false := fun e he => by
  obtain rfl | he := mem_enqueueQueue he
  · rfl
  · exact hq e he

theorem waits_restartNotices (s : State) : ∀ e ∈ restartNotices s, e.sending = false := by
  intro e he
  unfold restartNotices at he
  split at he <;> split at he <;> simp at he <;> aesop

/-- The settling behind the re-initialisation leaves the line. -/
theorem settle_restartDone_line (s : State) : (settle (restartDone s)).line = (restartDone s).line := by
  obtain ⟨-, -, -, -, hr, -, -⟩ := restartDone_frame s
  have hprog : programActive (restartDone s).recipe = false := by rw [hr]; rfl
  refine (settle_of_fixed (judgeSteam_of_released hprog ?_)).1
  rw [restartDone_steam]
  cases s.steam.levels.low <;> simp

/-- R78: the line state stands, and what stands in the queue waits. -/
theorem reInitialise_begun (hn : unnumbered s = false) :
    ∃ q, (∀ e ∈ q, e.sending = false) ∧ (reInitialise s).line = { lineRestarted s.line with queue := q } := by
  have hstatus : ∀ w : State, LineBegun s w (restartNotices s) →
      ∃ q, (∀ e ∈ q, e.sending = false) ∧ (queueStatus w).line = { lineRestarted s.line with queue := q } := fun w hw => by
    rw [queueStatus, State.setShare_line, enqueueShare]
    split
    · exact ⟨_, waits_enqueueQueue (waits_restartNotices s), (hw.enqueue hn .status).queue⟩
    · exact ⟨_, waits_restartNotices s, hw.queue⟩
  have h3 := descaleRestarted_line hn
  rw [reInitialise_eq, settle_restartDone_line, restartDone, joinUnlessClash]
  split
  · exact hstatus _ h3
  · exact hstatus _ (h3.same rfl rfl rfl)

/-! ### The opening mark of a received frame behind a lost arbitration -/

/-- The state of a receiver: the line is BUSY, no own frame is being sent and no RAISE waits. -/
structure Receives (s : State) : Prop where
  busy    : s.line.state = .busy ∧ s.line.breakSeen = false
  waits   : ∀ e ∈ s.line.queue, e.sending = false
  noRaise : NoRaise s

theorem Receives.begins (h : Receives s) : beginReceive s = s := by
  have hn : s.line.queue.find? (·.sending) = none := List.find?_eq_none.2 fun e he => by simp [h.waits e he]
  have hs : sendingFrame s = none := by rw [sendingFrame, hn]; rfl
  rw [beginReceive_of_free h.noRaise (.inr (.inl hs)), stopQueue, hn, hs]
  show s.setLine { s.line with state := .busy, breakSeen := false } = s
  rw [← h.busy.1, ← h.busy.2]
  rfl

/-- R67: what a lost arbitration leaves. -/
theorem arbitrationLost_line (hs : (sendingFrame s).isSome = true) :
    ((arbitrationLost s).line.state = .busy ∧ (arbitrationLost s).line.breakSeen = false)
      ∧ ∀ e ∈ (arbitrationLost s).line.queue, e.sending = false := by
  obtain ⟨r, hr⟩ := arbitrationLost_eq hs
  rw [hr]
  exact ⟨⟨rfl, rfl⟩, fun e he => waits_of_mem_stopQueue (mem_withoutRaises he).1⟩

/-- R160: also where the re-initialisation comes with it. -/
theorem receives_of_lost (hn : unnumbered s = false) (hs : (sendingFrame s).isSome = true) : Receives (beginReceive s) := by
  obtain ⟨hbusy, hwaits⟩ := arbitrationLost_line hs
  have hno := noRaise_beginReceive s
  have hb : beginReceive s = reInitIfDue (arbitrationLost s) := if_pos hs
  rw [hb] at hno ⊢
  obtain he | ⟨-, -, he⟩ := reInitIfDue_cases (arbitrationLost s)
  · rw [he] at hno ⊢
    exact ⟨hbusy, hwaits, hno⟩
  · rw [he] at hno ⊢
    have hu : unnumbered (arbitrationLost s) = false := by simpa [unnumbered] using hn
    obtain ⟨q, hq, hl⟩ := reInitialise_begun hu
    refine ⟨?_, ?_, hno⟩ <;> rw [hl]
    · exact hbusy
    · exact hq

/-- The straps stand at an opening mark (R166). -/
theorem beginReceive_straps (hs : (sendingFrame s).isSome = true) :
    (beginReceive s).startup.station = s.startup.station ∧ (beginReceive s).startup.partner = s.startup.partner := by
  rw [beginReceive, if_pos hs]
  simp

section
variable (hn : unnumbered s = false) (hs : (sendingFrame s).isSome = true)
include hn hs

theorem beginReceive_numbered : unnumbered (beginReceive s) = false := by
  obtain ⟨h1, h2⟩ := beginReceive_straps hs
  rw [unnumbered, h1, h2]
  exact hn

theorem beginReceive_again : beginReceive (beginReceive s) = beginReceive s := (receives_of_lost hn hs).begins

theorem malformedFrame_again (g : MalformGround) : malformedFrame g (beginReceive s) = malformedFrame g s := by
  simp only [malformedFrame, beginReceive_numbered hn hs, beginReceive_again hn hs, hn, Bool.false_eq_true, if_false]

theorem receiveFrame_again (n : Nat) (content : FrameContent) (v : Bool) :
    receiveFrame n content v (beginReceive s) = receiveFrame n content v s := by
  simp only [receiveFrame, beginReceive_numbered hn hs, beginReceive_again hn hs, hn, malformedFrame_again hn hs, Bool.false_eq_true, if_false]

theorem takeCommand_again (k : CmdKind) (owner : State → State) :
    takeCommand k owner (beginReceive s) = takeCommand k owner s := by
  simp only [takeCommand, beginReceive_numbered hn hs, beginReceive_again hn hs, hn, (beginReceive_straps hs).2,
    Bool.false_eq_true, if_false]

theorem takeSized_again (ok : Bool) (k : CmdKind) (owner : State → State) :
    takeSized ok k owner (beginReceive s) = takeSized ok k owner s := by
  simp only [takeSized, takeCommand_again hn hs, malformedFrame_again hn hs]

/-- R66, R67: a received frame is judged by the part as it is behind the lost arbitration. -/
theorem exec_received (c : Instr) (hc : receivesFrame c = true) : exec c s = exec c (beginReceive s) := by
  have hstation := (beginReceive_straps hs).1
  have hf : ∀ n content v, Host.Outcome.next (receiveFrame n content v s)
      = (.next (receiveFrame n content v (beginReceive s)) : Host.Outcome State Fault Refusal) :=
    fun n content v => by rw [receiveFrame_again hn hs]
  have ht : ∀ k owner, Host.Outcome.next (takeCommand k owner s)
      = (.next (takeCommand k owner (beginReceive s)) : Host.Outcome State Fault Refusal) :=
    fun k owner => by rw [takeCommand_again hn hs]
  have hz : ∀ ok k owner, Host.Outcome.next (takeSized ok k owner s)
      = (.next (takeSized ok k owner (beginReceive s)) : Host.Outcome State Fault Refusal) :=
    fun ok k owner => by rw [takeSized_again hn hs]
  cases c with
  | raiseReceived => exact hf ..
  | lowerReceived => exact hf ..
  | yieldReceived => exact hf ..
  | statusReceived => exact hf ..
  | tripReceived => exact hf ..
  | tripClearReceived => exact hf ..
  | wellFormedFrameNotTaken => exact hf ..
  | partnerVeto sender =>
    show Host.Outcome.next (receiveFrame _ (.command (BitVec.ofNat 4 s.startup.station)) false s)
      = .next (receiveFrame _ (.command (BitVec.ofNat 4 (beginReceive s).startup.station)) false (beginReceive s))
    rw [hstation]
    exact hf ..
  | ownNumberFrame content v =>
    show Host.Outcome.next (receiveFrame s.startup.station content v s)
      = .next (receiveFrame (beginReceive s).startup.station content v (beginReceive s))
    rw [hstation]
    exact hf ..
  | malformedFrame g => exact congrArg Host.Outcome.next (malformedFrame_again hn hs g).symm
  | stage => exact hz ..
  | runManual => exact hz ..
  | setupSupply => exact hz ..
  | setupChannel => exact hz ..
  | setupEnd => exact hz ..
  | query => exact ht ..
  | loadOpen => exact ht ..
  | start => exact ht ..
  | pause => exact ht ..
  | resume => exact ht ..
  | abort => exact ht ..
  | answer => exact ht ..
  | finishAck => exact ht ..
  | descaleStart => exact ht ..
  | descaleConfirm => exact ht ..
  | relayRestore => exact ht ..
  | restart => exact ht ..
  | _ => exact (Bool.false_ne_true hc).elim

end

/-- Settles O21: the row that ends a restart, and the frame behind which it comes. -/
theorem reInitialisationEndsRestart : Obligations.ReInitialisationEndsRestart := by
  refine ⟨fun s hr hs hn hf => ?_, fun s u c hn hs hc hu => ?_⟩
  · have he : reInitialisation s = reInitialise s := if_pos ⟨hr, hs⟩
    exact ⟨_, congrArg Host.Outcome.next he, reInitialise_restarted (.refl (.inr hr)) hn hf⟩
  · have hb : beginReceive s = u := (if_pos hs).trans (Host.Outcome.next.inj hu)
    rw [← hb]
    exact exec_received hn hs c hc

end Sys2Proof.Machine

/-!
RESTART: what winds down, and the re-initialisation that follows at once where no hold is to be given back (R159, R60, R160).
-/
namespace Sys2Proof.Machine

variable {s t u h : State}

/-! ### A LOWER that waits -/

theorem Queued.lower_lowerHold {p q : Pool} {g v w : Nat} (hq : Queued (.lower p g v) s) (hpq : p ≠ q) :
    Queued (.lower p g v) (lowerHold q w s) := by
  have hs : ∀ y : State, Queued (.lower p g v) y →
      Queued (.lower p g v) (Machine.enqueueShare (.lower q (ownGroup s.startup.supply q) w) y) := fun y hy =>
    hy.enqueueShare rfl (by cases p <;> cases q <;> first | exact absurd rfl hpq | exact ⟨rfl, rfl⟩)
  unfold lowerHold
  split
  · cases q with
    | power => exact hs _ hq
    | inlet => exact hs _ hq
    | drain => exact hs _ hq
  · exact hq

theorem Queued.lower_dropRaise {p q : Pool} {g v : Nat} (hq : Queued (.lower p g v) s) :
    Queued (.lower p g v) (dropRaise q s) := List.mem_filter.2 ⟨hq, by cases p <;> cases q <;> rfl⟩

/-- A withdrawn want finds no hold to give back. -/
theorem releaseWater_of_zero {p : Pool} (hz : s.share.holds.get p = 0) : releaseWater p s = dropRaise p s := by
  rw [releaseWater, if_neg (by omega)]

/-- With no hold left a request that ends leaves holds and LOWERs. -/
theorem clearRequest_of_zero (hz : s.share.holds = PerPool.all 0) :
    (clearRequest s).share = s.share
      ∧ ∀ p g v, Queued (.lower p g v) s → Queued (.lower p g v) (clearRequest s) := by
  have hfill : (clearFill s).share = s.share
      ∧ ∀ p g v, Queued (.lower p g v) s → Queued (.lower p g v) (clearFill s) := by
    unfold clearFill unwantInlet
    split
    · rw [releaseWater_of_zero (p := .inlet) (by simp [hz, PerPool.get, PerPool.all])]
      exact ⟨by simp, fun p g v hq => Queued.lower_dropRaise (s := (s.setSteam _).setSteam _) hq⟩
    · exact ⟨rfl, fun _ _ _ hq => hq⟩
  have hdrain : (clearDrain (clearFill s)).share = (clearFill s).share
      ∧ ∀ p g v, Queued (.lower p g v) (clearFill s) → Queued (.lower p g v) (clearDrain (clearFill s)) := by
    unfold clearDrain unwantDrain
    split
    · rw [releaseWater_of_zero (p := .drain) (by simp [hfill.1, hz, PerPool.get, PerPool.all])]
      exact ⟨by simp, fun p g v hq => Queued.lower_dropRaise (s := ((clearFill s).setSteam _).setSteam _) hq⟩
    · exact ⟨rfl, fun _ _ _ hq => hq⟩
  exact ⟨hdrain.1.trans hfill.1, fun p g v hq => hdrain.2 p g v (hfill.2 p g v hq)⟩

/-! ### The holds (R60) -/

theorem PerPool.eq_all_of_get {x : PerPool Nat} {v : Nat} (hx : ∀ p, x.get p = v) : x = PerPool.all v := by
  have h1 := hx .power
  have h2 := hx .inlet
  have h3 := hx .drain
  cases x
  simp_all [PerPool.get, PerPool.all]

/-- The restart has begun, and the holds to give back are noted. -/
def lowersNoted (h : State) : State :=
  h.setStartup { h.startup with
    restarting := true, restartMs := 0
    restartLowers := ⟨decide (h.share.holds.power ≠ 0), decide (h.share.holds.inlet ≠ 0), decide (h.share.holds.drain ≠ 0)⟩ }

/-- Every hold is given back, and no RAISE waits. -/
def restartLowered (h : State) : State :=
  dropRaise .drain (dropRaise .inlet (dropRaise .power
    (lowerHold .drain 0 (lowerHold .inlet 0 (lowerHold .power 0 (lowersNoted h))))))

theorem restartLowered_claims (h : State) : Claims (lowersNoted h) (restartLowered h) :=
  (((((Claims.refl (lowersNoted h)).lowerHold .power 0).lowerHold .inlet 0).lowerHold .drain 0).dropRaise _).dropRaise _
    |>.dropRaise _

theorem restartLowered_tells (h : State) : Tells [] h (restartLowered h) :=
  have h0 : Tells [] h (lowersNoted h) := (Tells.refl h).same rfl rfl rfl
  h0.lowerHold.lowerHold.lowerHold.dropRaise.dropRaise.dropRaise

theorem restartLowered_floor (h : State) : (restartLowered h).share.floor = h.share.floor
    ∧ (restartLowered h).line.numberClash = h.line.numberClash := by simp [restartLowered, lowersNoted]

theorem restartLowered_holds (h : State) : (restartLowered h).share.holds = PerPool.all 0 := by
  have hs : (restartLowered h).share
      = (lowerHold .drain 0 (lowerHold .inlet 0 (lowerHold .power 0 (lowersNoted h)))).share := by simp [restartLowered]
  rw [hs]
  have hget : ∀ p, (lowerHold .drain 0 (lowerHold .inlet 0 (lowerHold .power 0 (lowersNoted h)))).share.holds.get p = 0 :=
    fun p => by
      simp only [lowerHold_holds]
      cases p <;> simp
  exact PerPool.eq_all_of_get hget

theorem restartLowered_queued (hf : frozen h = true) (hn : unnumbered h = false) {p : Pool} (hp : h.share.holds.get p ≠ 0) :
    Queued (.lower p (ownGroup h.startup.supply p) 0) (restartLowered h) := by
  have hlow : ∀ y : State, y.startup = (lowersNoted h).startup → 0 < y.share.holds.get p →
      Queued (.lower p (ownGroup h.startup.supply p) 0) (lowerHold p 0 y) := fun y hy h0 => by
    have hsupply : y.startup.supply = h.startup.supply := by rw [hy]; rfl
    have := queued_lowerHold (s := y) (p := p) (v := 0) (by rw [frozen, hy]; exact hf) (by rw [unnumbered, hy]; exact hn) h0
    rwa [hsupply] at this
  have hpos : 0 < (lowersNoted h).share.holds.get p := Nat.pos_of_ne_zero hp
  have hwait : Queued (.lower p (ownGroup h.startup.supply p) 0)
      (lowerHold .drain 0 (lowerHold .inlet 0 (lowerHold .power 0 (lowersNoted h)))) := by
    cases p with
    | power => exact ((hlow _ rfl hpos).lower_lowerHold (by decide)).lower_lowerHold (by decide)
    | inlet =>
      refine (hlow _ (by simp) ?_).lower_lowerHold (by decide)
      rwa [lowerHold_holds, if_neg (by decide)]
    | drain =>
      refine hlow _ (by simp) ?_
      rwa [lowerHold_holds, if_neg (by decide), lowerHold_holds, if_neg (by decide)]
  exact hwait.lower_dropRaise.lower_dropRaise.lower_dropRaise

/-! ### The other blocks -/

/-- The program is gone and the climate left. -/
def restartIdle (h : State) : State :=
  stopDescaleTimers (leaveClimate ((restartLowered h).setRecipe (recipeAtRestart (restartLowered h).recipe)))

/-- Every block has wound down; what settles follows. -/
def restartWound (h : State) : State :=
  abandonFrame (commandRelay false (writeIfDiffers (clearRequest (restartIdle h))))

theorem takeRestart_eq (h : State) : takeRestart h = settle (restartWound h) := rfl

theorem leaveClimate_power (s : State) : (leaveClimate s).power = { s.power with
    shed := (leaveClimate s).power.shed, cavityZeroed := (leaveClimate s).power.cavityZeroed } := by
  unfold leaveClimate shedCavity
  split <;> rfl

theorem writeIfDiffers_steam (s : State) : (writeIfDiffers s).steam = { s.steam with
    writing := (writeIfDiffers s).steam.writing, writeAgain := (writeIfDiffers s).steam.writeAgain } := by
  unfold writeIfDiffers
  split
  · rfl
  · exact askWrite_steam s

protected theorem Tells.writeIfDiffers {l : List TxFrame} (h : Tells l s t) : Tells l s (writeIfDiffers t) := by
  unfold Machine.writeIfDiffers
  split
  · exact h
  · exact h.askWrite

theorem restartIdle_tells (h : State) : Tells [] h (restartIdle h) :=
  (restartLowered_tells h).same (by simp [restartIdle]) (by simp [restartIdle, unnumbered]) (by simp [restartIdle])

theorem restartWound_tells (h : State) : Tells [] h (restartWound h) :=
  (restartIdle_tells h).clearRequest.writeIfDiffers.same (by simp [restartWound]) (by simp [restartWound, unnumbered])
    (by simp [restartWound])

theorem restartIdle_share (h : State) : (restartIdle h).share = (restartLowered h).share := by simp [restartIdle]

theorem restartWound_share (h : State) : (restartWound h).share = (restartLowered h).share := by
  have hz : (restartIdle h).share.holds = PerPool.all 0 := by rw [restartIdle_share, restartLowered_holds]
  simp [restartWound, (clearRequest_of_zero hz).1, restartIdle_share]

theorem restartWound_queued (hf : frozen h = true) (hn : unnumbered h = false) {p : Pool} (hp : h.share.holds.get p ≠ 0) :
    Queued (.lower p (ownGroup h.startup.supply p) 0) (restartWound h) := by
  have hz : (restartIdle h).share.holds = PerPool.all 0 := by rw [restartIdle_share, restartLowered_holds]
  have hq : Queued (.lower p (ownGroup h.startup.supply p) 0) (restartIdle h) := by
    have hl : (restartIdle h).line = (restartLowered h).line := by simp [restartIdle]
    unfold Queued
    rw [hl]
    exact restartLowered_queued hf hn hp
  have hl : (restartWound h).line = (clearRequest (restartIdle h)).line := by simp [restartWound]
  unfold Queued
  rw [hl]
  exact (clearRequest_of_zero hz).2 _ _ _ hq

theorem restartWound_frame (h : State) :
    (restartWound h).pending = h.pending ∧ (restartWound h).startup = (lowersNoted h).startup
      ∧ ClimateLeft h (restartWound h) ∧ (restartWound h).recipe = recipeAtRestart h.recipe
      ∧ (restartWound h).descale = { h.descale with
          prepMs := 0, soakMs := 0, lowMs := 0, heatClock := 0, powerWait := false, waitMs := 0, waitNoted := false }
      ∧ (restartWound h).superv = { h.superv with
          relayClosed := false, mismatchMs := if h.superv.relayClosed = false then h.superv.mismatchMs else 0 } := by
  obtain ⟨hp, hu, hc, -, hd, hr, hv⟩ := (restartLowered_claims h).blocks
  have hcl : ClimateLeft (restartLowered h) (restartWound h) := by
    have hl := climateLeft_leaveClimate ((restartLowered h).setRecipe (recipeAtRestart (restartLowered h).recipe))
    unfold ClimateLeft at hl ⊢
    simpa [restartWound, restartIdle] using hl
  refine ⟨?_, ?_, ?_, ?_, ?_, ?_⟩
  · simp [restartWound, restartIdle, hp]
    rfl
  · simp [restartWound, restartIdle, hu]
  · unfold ClimateLeft at hcl ⊢
    rw [hcl, hc]
    rfl
  · simp [restartWound, restartIdle, hr]
    rfl
  · have hdd : (restartWound h).descale = (stopDescaleTimers (restartLowered h)).descale := by
      simp [restartWound, restartIdle, stopDescaleTimers]
    rw [hdd, stopDescaleTimers, State.setDescale_descale, hd]
    rfl
  · have hvv : (restartWound h).superv = (commandRelay false (restartLowered h)).superv := by
      simp [restartWound, restartIdle, commandRelay]
    rw [hvv, commandRelay, State.setSuperv_superv, hv]
    rfl

/-- R159: the generator's request is gone; state, levels and stock stand. -/
theorem restartWound_steam (h : State) : (restartWound h).steam = { h.steam with
    fill := none, drain := none, request := .none, inletWant := false, drainWant := false
    writing := (restartWound h).steam.writing, writeAgain := (restartWound h).steam.writeAgain } := by
  have hs : (restartWound h).steam = (writeIfDiffers (clearRequest (restartIdle h))).steam := by simp [restartWound]
  have hi : (restartIdle h).steam = h.steam := by
    simp [restartIdle, (restartLowered_claims h).blocks.2.2.2.1]
    rfl
  rw [hs, writeIfDiffers_steam, clearRequest_steam, hi]

/-- R33: the frame is abandoned; grants, flag, want and frequency stand. -/
theorem restartWound_power (h : State) : (restartWound h).power.inFrame = false
    ∧ (restartWound h).power.gates = PerElement.all false ∧ (restartWound h).power.grants = h.power.grants
    ∧ (restartWound h).power.starved = h.power.starved ∧ (restartWound h).power.want = h.power.want
    ∧ (restartWound h).power.freq = h.power.freq := by
  have hi : (restartIdle h).power = (leaveClimate ((restartLowered h).setRecipe
      (recipeAtRestart (restartLowered h).recipe))).power := by simp [restartIdle]
  have hx : (restartWound h).power = (abandonFrame (restartIdle h)).power := by simp [restartWound, abandonFrame]
  rw [hx, abandonFrame, State.setPower_power, hi, leaveClimate_power, State.setRecipe_power, (restartLowered_claims h).power]
  exact ⟨rfl, rfl, rfl, rfl, rfl, rfl⟩

/-! ### What settles -/

theorem restartWound_restarting (h : State) : (restartWound h).startup.restarting = true := by
  rw [(restartWound_frame h).2.1]
  rfl

theorem judgeSteam_of_restarting (hr : s.startup.restarting = true) : judgeSteam s = s := if_pos (by simp [hr])

/-- R33, R87: during a restart nothing is driven. -/
theorem settle_restarting (hr : s.startup.restarting = true) :
    (settle s).power.base = PerActuator.all false ∧ (settle s).steam.boilerDemand = 0 ∧ (settle s).steam.gate = false := by
  have hrs : (settle s).startup.restarting = true := by simpa using hr
  obtain ⟨o1, o2, -⟩ := (steamOutputs_iff _).1 (settle_steamOutputs s)
  refine ⟨?_, ?_, ?_⟩
  · unfold settle
    rw [show ∀ y, (settleWaits y).power = y.power from fun y => by simp, settleBase, State.setPower_power]
    have : (settleOutputs (judgeSteam s)).startup.restarting = true := by simpa using hr
    exact if_pos this
  · rw [o2, boilerTarget, hrs]; rfl
  · rw [o1, gateOpen, hrs]; simp

end Sys2Proof.Machine

/-!
The RESTART of a panel command, from the closing mark to what it leaves (R155, R159, R160).
-/
namespace Sys2Proof.Machine

variable {s t u h : State}

/-- A RESTART that is taken on a free line. -/
theorem restart_taken (hf : PanelFree s) (hz : frozen s = true) :
    exec .restart s = .next (settle (markClosed (reInitIfDue (takeRestart (commandHeard s))))) := by
  have hu := (heardFrom_commandHeard hf.1).blocks.2.1
  have hfr : frozen (commandHeard s) = true := by rw [frozen, hu]; exact hz
  refine congrArg Host.Outcome.next (?_ : takeCommand .restart restartCommand s = _)
  rw [takeCommand_of_panelFree hf, restartCommand, if_pos hfr]

/-- R160: RESTART waits for a LOWER that it has queued. -/
theorem restartDue_takeRestart (h : State) : restartDue (takeRestart h) = decide (h.share.holds = PerPool.all 0) := by
  have hu : (takeRestart h).startup = (lowersNoted h).startup := by
    rw [takeRestart_eq, ← (restartWound_frame h).2.1]
    simp
  rw [restartDue, hu]
  cases hh : h.share.holds with
  | mk a b c =>
    simp only [lowersNoted, State.setStartup_startup, hh, PerPool.all, PerPool.mk.injEq]
    by_cases ha : a = 0 <;> by_cases hb : b = 0 <;> by_cases hc : c = 0 <;> simp [ha, hb, hc]

theorem takeRestart_settled (h : State) :
    (takeRestart h).line = (restartWound h).line ∧ (takeRestart h).share = (restartWound h).share
      ∧ SettlesOnly (restartWound h) (takeRestart h)
      ∧ (takeRestart h).recipe = recipeAtRestart h.recipe := by
  obtain ⟨hl, hx, hs, -⟩ := settle_of_fixed (judgeSteam_of_restarting (restartWound_restarting h))
  have hr := (restartWound_frame h).2.2.2.1
  have hp : programActive (restartWound h).recipe = false := by rw [hr]; rfl
  refine ⟨hl, hx, hs, ?_⟩
  rw [takeRestart_eq, settle_recipe, settle_withheld hp, hr]
  rfl

theorem takeRestart_tells (h : State) : Tells [] h (takeRestart h) := (restartWound_tells h).settle

theorem takeRestart_blocks (h : State) : (takeRestart h).pending = h.pending
    ∧ (takeRestart h).startup = (lowersNoted h).startup ∧ ClimateLeft h (takeRestart h)
    ∧ (takeRestart h).superv = (restartWound h).superv := by
  obtain ⟨h1, h2, h3, -, -, -⟩ := restartWound_frame h
  unfold ClimateLeft at *
  rw [← h1, ← h2, ← h3]
  simp [takeRestart_eq]

/-! ### With a hold to give back -/

/-- The line is IDLE behind a closing mark, and what follows settles. -/
def closedIdle (s : State) : State := settle (s.setLine { s.line with state := .idle, breakSeen := false })

/-- What stands behind the closing mark of a RESTART that waits for its LOWERs. -/
def restartClosed (h : State) : State := closedIdle (takeRestart h)

theorem restart_winds_down (hf : PanelFree s) (hz : frozen s = true) (hne : s.share.holds ≠ PerPool.all 0) :
    exec .restart s = .next (restartClosed (commandHeard s)) := by
  have hh := heardFrom_commandHeard hf.1
  have hx : (commandHeard s).share.holds = s.share.holds := by rw [hh.share.1]
  have hd : restartDue (takeRestart (commandHeard s)) = false := by
    rw [restartDue_takeRestart, hx]
    simpa using hne
  rw [restart_taken hf hz, reInitIfDue, if_neg (by simp [hd]),
    markClosed_of_tells (hh.redecide hf.1) (takeRestart_tells _)]
  rfl

theorem restartClosed_blocks (h : State) : (restartClosed h).pending = h.pending
    ∧ (restartClosed h).startup = (lowersNoted h).startup ∧ ClimateLeft h (restartClosed h)
    ∧ (restartClosed h).superv = (restartWound h).superv := by
  obtain ⟨h1, h2, h3, h4⟩ := takeRestart_blocks h
  unfold ClimateLeft at *
  rw [← h1, ← h2, ← h3, ← h4]
  simp [restartClosed, closedIdle]

/-- R33: during a restart a closing mark drives nothing, and leaves the queue and the shares. -/
theorem closed_restarting (hr : s.startup.restarting = true) :
    SettlesOnly s (closedIdle s) ∧ (closedIdle s).line.queue = s.line.queue ∧ (closedIdle s).share = s.share
      ∧ (closedIdle s).power.base = PerActuator.all false ∧ (closedIdle s).steam.boilerDemand = 0
      ∧ (closedIdle s).steam.gate = false := by
  have hm : (s.setLine { s.line with state := .idle, breakSeen := false }).startup.restarting = true := hr
  obtain ⟨hl, hx, hs, -⟩ := settle_of_fixed (judgeSteam_of_restarting hm)
  unfold closedIdle
  exact ⟨(SettlesOnly.of_eq (t := s) rfl rfl rfl).trans hs, by rw [hl]; rfl, hx, settle_restarting hm⟩

theorem takeRestart_restarting (h : State) : (takeRestart h).startup.restarting = true := by
  rw [(takeRestart_blocks h).2.1]
  rfl

theorem restartClosed_recipe (h : State) : (restartClosed h).recipe = recipeAtRestart h.recipe := by
  have hr := (takeRestart_settled h).2.2.2
  unfold restartClosed closedIdle
  rw [settle_recipe, settle_withheld (by rw [State.setLine_recipe, hr]; rfl), State.setLine_recipe, hr]
  rfl

theorem restartClosed_settles (h : State) : SettlesOnly (restartWound h) (restartClosed h)
    ∧ (restartClosed h).power.base = PerActuator.all false ∧ (restartClosed h).steam.boilerDemand = 0
    ∧ (restartClosed h).steam.gate = false := by
  obtain ⟨hs, -, -, hb⟩ := closed_restarting (takeRestart_restarting h)
  unfold restartClosed
  exact ⟨(takeRestart_settled h).2.2.1.trans hs, hb⟩

theorem restartClosed_queue (h : State) : (restartClosed h).line.queue = (restartWound h).line.queue
    ∧ (restartClosed h).share.holds = PerPool.all 0 := by
  obtain ⟨-, hq, hx, -⟩ := closed_restarting (takeRestart_restarting h)
  obtain ⟨sl, sx, -, -⟩ := takeRestart_settled h
  unfold restartClosed
  rw [hq, sl, hx, sx, restartWound_share]
  exact ⟨rfl, restartLowered_holds h⟩

theorem restartWindsDown_lowers (hf : PanelFree s) (hz : frozen s = true) (hne : s.share.holds ≠ PerPool.all 0) :
    ∃ t, exec .restart s = .next t ∧ t.pending = s.pending
      ∧ t.startup = { s.startup with
          restarting := true, restartMs := 0
          restartLowers := ⟨decide (s.share.holds.power ≠ 0), decide (s.share.holds.inlet ≠ 0),
            decide (s.share.holds.drain ≠ 0)⟩ }
      ∧ t.share.holds = PerPool.all 0
      ∧ (∀ p, s.share.holds.get p ≠ 0 → Queued (.lower p (ownGroup s.startup.supply p) 0) t)
      ∧ t.superv.relayClosed = false ∧ t.superv.trip = s.superv.trip
      ∧ t.power.inFrame = false ∧ t.power.gates = PerElement.all false ∧ t.power.base = PerActuator.all false
      ∧ t.power.grants = s.power.grants ∧ t.power.starved = s.power.starved ∧ t.power.want = s.power.want
      ∧ ClimateLeft s t
      ∧ t.recipe = { Recipe.reset with
          probePresent := s.recipe.probePresent, probeShows := s.recipe.probeShows, probeMs := s.recipe.probeMs }
      ∧ t.descale.phase = s.descale.phase ∧ t.descale.rinse = s.descale.rinse
      ∧ t.steam.request = .none ∧ t.steam.fill = none ∧ t.steam.drain = none
      ∧ t.steam.boilerDemand = 0 ∧ t.steam.gate = false ∧ t.steam.acid = s.steam.acid ∧ t.steam.gen = s.steam.gen := by
  have hh := heardFrom_commandHeard hf.1
  obtain ⟨bp, bu, bc, bw, bm, bd, br, bv⟩ := hh.blocks
  have hx : (commandHeard s).share.holds = s.share.holds := by rw [hh.share.1]
  refine ⟨_, restart_winds_down hf hz hne, ?_⟩
  generalize commandHeard s = h at bp bu bc bw bm bd br bv hx
  obtain ⟨-, -, -, -, wd, wv⟩ := restartWound_frame h
  obtain ⟨w1, w2, w3, w4, w5, -⟩ := restartWound_power h
  have wm := restartWound_steam h
  obtain ⟨cp, cu, cc, cv⟩ := restartClosed_blocks h
  obtain ⟨⟨ho, ha, hw⟩, b1, b2, b3⟩ := restartClosed_settles h
  obtain ⟨cq, ch⟩ := restartClosed_queue h
  unfold OutputsOnly at ho
  unfold ActuatorsOnly at ha
  unfold WaitOnly at hw
  refine ⟨cp.trans bp, ?_, ch, fun p hp => ?_, ?_, ?_, ?_, ?_, b1, ?_, ?_, ?_, ?_, ?_, ?_, ?_, ?_, ?_, ?_, b2, b3, ?_, ?_⟩
  · rw [cu, lowersNoted, State.setStartup_startup, bu, hx]
  · have hq := restartWound_queued (h := h) (by rw [frozen, bu]; exact hz) (by rw [unnumbered, bu]; exact hf.1.1)
      (p := p) (by rwa [hx])
    rw [bu] at hq
    unfold Queued
    rw [cq]
    exact hq
  · rw [cv, wv]
  · rw [cv, wv, bv]
  · rw [ha]; exact w1
  · rw [ha]; exact w2
  · rw [ha, ← bw]; exact w3
  · rw [ha, ← bw]; exact w4
  · rw [ha, ← bw]; exact w5
  · unfold ClimateLeft at cc ⊢
    rw [cc, bc]
  · rw [restartClosed_recipe, br]
    rfl
  · rw [hw, wd, bd]
  · rw [hw, wd, bd]
  · rw [ho, wm]
  · rw [ho, wm]
  · rw [ho, wm]
  · rw [ho, wm, bm]
  · rw [ho, wm, bm]

/-! ### With none -/

/-- R160: what is restarted stands behind the closing mark. -/
theorem Restarted.closed {y : State} (hr : Restarted s y) (hf : y.steam.fill = none ∧ y.steam.drain = none) :
    Restarted s (settle (y.setLine { y.line with state := .idle, breakSeen := false }))
      ∧ (settle (y.setLine { y.line with state := .idle, breakSeen := false })).line.state = .idle := by
  obtain ⟨e1, e2, e3, e4, e5, e6, e7, e8, e9, e10, e11, e12, e13, e14, e15, e16, e17, e18, e19, e20, e21, e22, e23, e24,
    e25, e26, e27, e28, e29, e30, e31, e32, e33, e34, e35⟩ := hr
  have hg : y.steam.gen = .cooling ∨ y.steam.gen = .empty := by
    rw [e19]
    cases s.steam.levels.low <;> simp
  generalize hmark : y.setLine { y.line with state := .idle, breakSeen := false } = m
  have mst : m.steam = y.steam := by rw [← hmark]; rfl
  have mcl : m.climate = y.climate := by rw [← hmark]; rfl
  have mrc : m.recipe = y.recipe := by rw [← hmark]; rfl
  have mpw : m.power = y.power := by rw [← hmark]; rfl
  have mds : m.descale = y.descale := by rw [← hmark]; rfl
  have mup : m.startup = y.startup := by rw [← hmark]; rfl
  have msv : m.superv = y.superv := by rw [← hmark]; rfl
  have hprog : programActive m.recipe = false := by rw [mrc, e12]; rfl
  have hj := judgeSteam_of_released hprog (by rwa [mst])
  obtain ⟨hl, hx, ⟨ho, ha, hw⟩, -⟩ := settle_of_fixed hj
  obtain ⟨hdem, hgate⟩ := settle_cold hj (by rwa [mst])
  have hbase := settle_all_off hj (by rw [mcl, e13]; rfl) (by rw [mcl, e13]; rfl) (by rw [mst]; exact hf.1)
    (by rw [mst]; exact hf.2)
  have hrec : (settle m).recipe = y.recipe := by
    rw [settle_recipe, settle_withheld hprog, mrc, e12]
    rfl
  have hline : (settle m).line = { y.line with state := .idle, breakSeen := false } := by
    rw [hl, ← hmark]
    rfl
  have hshare : (settle m).share = y.share := by
    rw [hx, ← hmark]
    rfl
  have hsv : (settle m).superv = y.superv := by simp [msv]
  have hcl : (settle m).climate = y.climate := by simp [mcl]
  have hst : (settle m).startup = y.startup := by simp [mup]
  have hpe : (settle m).pending = y.pending := by
    rw [← hmark]
    simp
  unfold OutputsOnly at ho
  unfold ActuatorsOnly at ha
  unfold WaitOnly at hw
  rw [mst] at ho
  rw [mpw] at ha
  rw [mds] at hw
  have hsame : startPasses (settle m) = startPasses y :=
    startPasses_congr (by rw [hsv]) (by rw [hsv]) (by rw [hsv]) (by rw [hst])
  refine ⟨⟨hpe.trans e1, hst.trans e2, ?_, ?_, ?_, ?_, ?_, ?_, ?_, ?_, fun hc => ?_, hrec.trans e12, hcl.trans e13, ?_, ?_, ?_,
    ?_, hbase, ?_, ?_, hdem, hgate, ?_, ?_, ?_, ?_, ?_, ?_, ?_, ?_, ?_, ?_, ?_, ?_, fun hr => ?_⟩, ?_⟩
  · rw [hline]; exact e3
  · rw [hline]; exact e4
  · rw [hline]; exact e5
  · rw [hline]; exact e6
  · rw [hshare]; exact e7
  · rw [hshare]; exact e8
  · rw [hshare]; exact e9
  · rw [hshare]; exact e10
  · rw [hshare]; exact e11 hc
  · rw [ha]; exact e14
  · rw [ha]; exact e15
  · rw [ha]; exact e16
  · rw [ha]; exact e17
  · rw [ho]; exact e19
  · rw [ho]; exact e20
  · rw [ho]; exact e23
  · rw [ho]; exact e24
  · rw [ho]; exact e25
  · rw [ho]; exact e26
  · rw [hw]; exact e27
  · rw [hw]; exact e28
  · rw [hsv]; exact e29
  · rw [hsv]; exact e30
  · rw [hsv]; exact e31
  · rw [hsv]; exact e32
  · rw [hsv]; exact e33
  · rw [hsv]; exact e34
  · rw [← startPasses_iff, hsame, startPasses_iff, hsv]
    exact e35 hr
  · rw [hline]

theorem reInitialise_stills (s : State) : (reInitialise s).steam.fill = none ∧ (reInitialise s).steam.drain = none
    ∧ (reInitialise s).share.redecide = PerPool.all false := by
  have dr := (restartDone_frame s).2.2.2.2.1
  have hj : judgeSteam (restartDone s) = restartDone s := by
    refine judgeSteam_of_released (by rw [dr]; rfl) ?_
    rw [restartDone_steam]
    cases s.steam.levels.low <;> simp
  obtain ⟨-, hx, ⟨ho, -, -⟩, -⟩ := settle_of_fixed hj
  unfold OutputsOnly at ho
  rw [restartDone_steam] at ho
  rw [reInitialise_eq, ho, hx]
  refine ⟨rfl, rfl, ?_⟩
  rw [restartDone, joinUnlessClash_share]
  have hs : (descaleRestarted (descaleActive s.descale) (noticeIfDue (restartSupervised s))).share
      = shareRestarted s.line.numberClash s.share := by simp [(restartSupervised_frame s).2.2.2.2.1]
  rw [hs]
  cases s.line.numberClash <;> split <;> rfl

/-- To the re-initialisation a RESTART is alike before and behind what winds down. -/
theorem restartAlike_taken (hf : PanelFree s) :
    RestartAlike s (takeRestart (commandHeard s)) := by
  have hh := heardFrom_commandHeard hf.1
  obtain ⟨bp, bu, bc, bw, bm, bd, br, bv⟩ := hh.blocks
  have hline := hh.line
  have hfl : (commandHeard s).share.floor = s.share.floor := by rw [hh.share.1]
  generalize commandHeard s = h at bp bu bc bw bm bd br bv hline hfl
  obtain ⟨tp, tu, tc, tv⟩ := takeRestart_blocks h
  obtain ⟨-, -, -, -, wd, wv⟩ := restartWound_frame h
  have wpow := (restartWound_power h).2.2.2.2.2
  have wm := restartWound_steam h
  obtain ⟨sl, sx, ⟨ho, ha, hw⟩, sr⟩ := takeRestart_settled h
  obtain ⟨lf, lc⟩ := restartLowered_floor h
  unfold OutputsOnly at ho
  unfold ActuatorsOnly at ha
  unfold WaitOnly at hw
  unfold ClimateLeft at tc
  refine ⟨tp.trans bp, ?_, ?_, ?_, ?_, ?_, ?_, ⟨?_, ?_, ?_, ?_⟩, ?_, ⟨?_, ?_, ?_, ?_⟩, fun _ => ?_⟩
  · show { (takeRestart h).startup with restarting := false, restartMs := 0, restartLowers := PerPool.all false }
      = { s.startup with restarting := false, restartMs := 0, restartLowers := PerPool.all false }
    rw [tu, ← bu]
    rfl
  · have : (takeRestart h).line.numberClash = h.line.numberClash := by
      have := Line.still_eq_iff.1 (takeRestart_tells h).still
      rw [this]
    rw [this, hline]
  · rw [sx, restartWound_share, lf, hfl]
  · rw [sr, br]; rfl
  · rw [tc, bc]; rfl
  · rw [ha, ← bw]; exact wpow
  · rw [ho, wm, bm]
  · rw [ho, wm, bm]
  · rw [ho, wm, bm]
  · rw [ho, wm, bm]
  · rw [hw, wd, bd]
  · rw [tv, wv, bv]
  · rw [tv, wv, bv]
  · rw [tv, wv, bv]
  · rw [tv, wv, bv]
  · rw [tv, wv]

/-! #### Nothing is being sent -/

/-- Every frame in the queue waits. -/
def AllWait (s : State) : Prop := ∀ e ∈ s.line.queue, e.sending = false

theorem AllWait.sending (hw : AllWait s) : sendingFrame s = none := by
  rw [sendingFrame, List.find?_eq_none.2 fun e he => by simp [hw e he]]
  rfl

theorem AllWait.same (hw : AllWait s) (hl : t.line.queue = s.line.queue) : AllWait t := fun e he => hw e (hl ▸ he)

protected theorem AllWait.dropRaise {p : Pool} (hw : AllWait s) : AllWait (dropRaise p s) := fun e he =>
  hw e (List.mem_filter.1 he).1

protected theorem AllWait.lowerHold {p : Pool} {v : Nat} (hw : AllWait s) : AllWait (lowerHold p v s) := by
  obtain h | h := lowerHold_queue p v s
  · exact hw.same (by rw [h])
  · unfold AllWait
    rw [h]
    exact waits_enqueueQueue (q := s.line.queue) (f := .lower p (ownGroup s.startup.supply p) v) hw

protected theorem AllWait.releaseWater {p : Pool} (hw : AllWait s) : AllWait (releaseWater p s) := by
  unfold Machine.releaseWater
  split
  · exact hw.lowerHold
  · exact hw.dropRaise

protected theorem AllWait.clearFill (hw : AllWait s) : AllWait (clearFill s) := by
  unfold Machine.clearFill unwantInlet
  split
  · exact AllWait.releaseWater (hw.same rfl)
  · exact hw

protected theorem AllWait.clearDrain (hw : AllWait s) : AllWait (clearDrain s) := by
  unfold Machine.clearDrain unwantDrain
  split
  · exact AllWait.releaseWater (hw.same rfl)
  · exact hw

theorem allWait_takeRestart (hw : AllWait s) : AllWait (takeRestart s) := by
  have h1 : AllWait (restartLowered s) :=
    have h0 : AllWait (lowersNoted s) := hw
    h0.lowerHold.lowerHold.lowerHold.dropRaise.dropRaise.dropRaise
  have h2 : AllWait (restartIdle s) := h1.same (by simp [restartIdle])
  have h3 : AllWait (restartWound s) :=
    h2.clearFill.clearDrain.same (by simp [restartWound, clearRequest])
  exact h3.same (congrArg Line.queue (takeRestart_settled s).1)

theorem allWait_commandHeard (hf : LineFree s) : AllWait (commandHeard s) := by
  have hq : (commandHeard s).line.queue = stopQueue s.line.queue := by rw [(heardFrom_commandHeard hf).line]
  unfold AllWait
  rw [hq]
  exact fun e he => waits_of_mem_stopQueue he

/-- R160: with no hold to give back RESTART re-initialises in the same step. -/
theorem restartWindsDown_atOnce (hf : PanelFree s) (hz : frozen s = true) (he : s.share.holds = PerPool.all 0) :
    ∃ t, exec .restart s = .next t ∧ Restarted s t ∧ t.line.state = .idle := by
  have hh := heardFrom_commandHeard hf.1
  have hx : (commandHeard s).share.holds = s.share.holds := by rw [hh.share.1]
  have hu : (takeRestart (commandHeard s)).startup = (lowersNoted s).startup := by
    rw [(takeRestart_blocks _).2.1, lowersNoted, lowersNoted, hx, hh.blocks.2.1]
    rfl
  have hdue : restartDue (takeRestart (commandHeard s)) = true := by
    rw [restartDue_takeRestart, hx, he]
    rfl
  have hre : reInitIfDue (takeRestart (commandHeard s)) = reInitialise (takeRestart (commandHeard s)) := by
    rw [reInitIfDue, if_pos hdue, reInitialisation,
      if_pos ⟨takeRestart_restarting _, (allWait_takeRestart (allWait_commandHeard hf.1)).sending⟩]
  have hr := (reInitialise_restarted (restartAlike_taken hf) (by rw [unnumbered, hu]; exact hf.1.1)
    (by rw [frozen, hu]; exact hz)).1
  obtain ⟨hfill, hdrain, hred⟩ := reInitialise_stills (takeRestart (commandHeard s))
  refine ⟨_, restart_taken hf hz, ?_⟩
  rw [hre, markClosed_of_none hred]
  exact hr.closed ⟨hfill, hdrain⟩

/-- Settles O20: every block winds down, and the re-initialisation where nothing is to be given back. -/
theorem restartWindsDown : Obligations.RestartWindsDown :=
  ⟨fun _ => restartWindsDown_lowers, fun _ => restartWindsDown_atOnce⟩

end Sys2Proof.Machine

/-!
The completion of an own frame: what the Share Unit is told, the end of an isolation and what settles (R46, R55, R77).
-/
namespace Sys2Proof.Machine

variable {s t u : State} {f : TxFrame} {vetoed : Bool}

/-! ### What the Share Unit is told (R46) -/

/-- What the outcome of an own frame may change: holds and marks of the shares, the LOWERs noted for a restart, and the
queue. -/
structure OutcomeOnly (s t : State) : Prop where
  power   : t.power = s.power
  still   : t.line.still = s.line.still
  startup : t.startup = { s.startup with restartLowers := t.startup.restartLowers }
  share   : t.share = { s.share with holds := t.share.holds, fell := t.share.fell, vetoMark := t.share.vetoMark }
  waits   : AllWait s → AllWait t

theorem OutcomeOnly.refl (s : State) : OutcomeOnly s s := ⟨rfl, rfl, rfl, rfl, id⟩

theorem OutcomeOnly.trans (h1 : OutcomeOnly s t) (h2 : OutcomeOnly t u) : OutcomeOnly s u where
  power := h2.power.trans h1.power
  still := h2.still.trans h1.still
  startup := by rw [h2.startup, h1.startup]
  share := by rw [h2.share, h1.share]
  waits hw := h2.waits (h1.waits hw)

/-- A water pool that is given back leaves the scheduler. -/
theorem outcomeOnly_lowerHold {p : Pool} (hp : p ≠ .power) (v : Nat) (s : State) : OutcomeOnly s (lowerHold p v s) where
  power := by
    unfold lowerHold
    split
    · cases p with
      | power => exact absurd rfl hp
      | inlet => simp
      | drain => simp
    · rfl
  still := by
    obtain h | h := lowerHold_queue p v s
    · rw [h]
    · rw [h]
      rfl
  startup := by simp
  share := by rw [lowerHold_share]
  waits hw := hw.lowerHold

theorem outcomeOnly_recordOwnRaise (p : Pool) (v : Nat) (s : State) : OutcomeOnly s (recordOwnRaise p v s) := by
  have h1 : OutcomeOnly s (if s.share.fell.get p then s else setHold p v s) := by
    split
    · exact .refl s
    · exact ⟨rfl, rfl, rfl, rfl, id⟩
  unfold recordOwnRaise
  refine h1.trans ?_
  generalize (if s.share.fell.get p then s else setHold p v s) = y
  cases p with
  | power => exact ⟨rfl, rfl, rfl, rfl, id⟩
  | inlet =>
    dsimp only
    split
    · exact outcomeOnly_lowerHold (by decide) 0 y
    · exact .refl y
  | drain =>
    dsimp only
    split
    · exact outcomeOnly_lowerHold (by decide) 0 y
    · exact .refl y

theorem outcomeOnly_ownOutcome (f : TxFrame) (vetoed : Bool) (s : State) : OutcomeOnly s (ownOutcome f vetoed s) := by
  unfold ownOutcome
  split
  · split
    · unfold vetoOwnRaise
      split
      · exact ⟨rfl, rfl, rfl, rfl, id⟩
      · exact .refl s
      · exact .refl s
    · exact outcomeOnly_recordOwnRaise ..
  · unfold noteLower
    split
    · exact ⟨rfl, rfl, rfl, rfl, id⟩
    · exact .refl s
  all_goals exact .refl s

/-- R46: the holds of a RAISE of a pool that takes its value, unless a decrease came meanwhile. -/
def raisedHolds (x : Share) (p : Pool) (v : Nat) : PerPool Nat := if x.fell.get p then x.holds else x.holds.set v p

/-- R46: a RAISE whose pool is still wanted gives the hold its value. -/
theorem recordOwnRaise_wanted {p : Pool} (v : Nat)
    (hi : p = .inlet → s.steam.inletWant = true ∧ s.share.tripSet = []) (hd : p = .drain → s.steam.drainWant = true) :
    (recordOwnRaise p v s).share.holds = raisedHolds s.share p v := by
  have h1 : (if s.share.fell.get p then s else setHold p v s).share.holds = raisedHolds s.share p v := by
    unfold raisedHolds
    split <;> rfl
  have h2 : (if s.share.fell.get p then s else setHold p v s).steam = s.steam
      ∧ (if s.share.fell.get p then s else setHold p v s).share.tripSet = s.share.tripSet := by
    split <;> exact ⟨rfl, rfl⟩
  unfold recordOwnRaise
  generalize (if s.share.fell.get p then s else setHold p v s) = y at h1 h2
  cases p with
  | power => exact h1
  | inlet =>
    obtain ⟨hw, ht⟩ := hi rfl
    dsimp only
    rw [if_neg (by simp [h2, hw, ht])]
    exact h1
  | drain =>
    dsimp only
    rw [if_neg (by simp [h2, hd rfl])]
    exact h1

theorem recordOwnRaise_power_mark (v : Nat) (s : State) : (recordOwnRaise .power v s).share.vetoMark = false := rfl

theorem ownOutcome_of_none (hf : ∀ p, f.raiseValue p = none) (vetoed : Bool) (s : State) :
    (ownOutcome f vetoed s).share = s.share ∧ (ownOutcome f vetoed s).line = s.line := by
  cases f with
  | raise p g v => exact absurd (hf p) (by simp [TxFrame.raiseValue])
  | lower p g v => exact ⟨by simp [ownOutcome], by simp [ownOutcome]⟩
  | _ => exact ⟨rfl, rfl⟩

/-- R40, R46: a vetoed frame changes no hold, and a RAISE for POWER sets the veto mark. -/
theorem ownOutcome_vetoed (f : TxFrame) (s : State) :
    (ownOutcome f true s).share = { s.share with vetoMark := s.share.vetoMark || (f.raiseValue .power).isSome }
      ∧ (ownOutcome f true s).line = s.line := by
  cases f with
  | raise p g v =>
    cases p with
    | power => exact ⟨by simp [ownOutcome, vetoOwnRaise, TxFrame.raiseValue], rfl⟩
    | _ => exact ⟨by simp [ownOutcome, vetoOwnRaise, TxFrame.raiseValue], rfl⟩
  | lower p g v => exact ⟨by simp [ownOutcome, TxFrame.raiseValue], by simp [ownOutcome]⟩
  | _ => exact ⟨by simp [ownOutcome, TxFrame.raiseValue], rfl⟩

/-- R160: which LOWERs of a restart are left. -/
theorem ownOutcome_lowers (p : Pool) (vetoed : Bool) (s : State) :
    (ownOutcome f vetoed s).startup.restartLowers.get p = true
      ↔ s.startup.restartLowers.get p = true ∧ ∀ g, f ≠ .lower p g 0 := by
  cases f with
  | raise q g v =>
    cases vetoed <;> simp [ownOutcome]
  | lower q g v =>
    unfold ownOutcome noteLower
    dsimp only
    split
    next hv =>
      subst hv
      cases p <;> cases q <;> simp [PerPool.get, PerPool.set]
    next hv =>
      simp [hv]
  | _ => simp [ownOutcome]

end Sys2Proof.Machine

/-!
The row of an own frame that completes (R46, R55, R77, R160).
-/
namespace Sys2Proof.Machine

variable {s t u : State} {f : TxFrame} {vetoed : Bool}

/-! ### The end of an isolation (R55) -/

theorem endIsolation_rests (h : s.share.link ≠ .isolated ∨ s.line.numberClash = true) : endIsolation s = s := by
  unfold endIsolation
  rw [if_neg]
  rintro ⟨h1, h2⟩
  simp [h1, h2] at h

theorem endIsolation_opens (h1 : s.share.link = .isolated) (h2 : s.line.numberClash = false) :
    endIsolation s = openJoinWindow (notice .lineRestored (min 65535 (s.share.isolatedMs / 1000)) s) := if_pos ⟨h1, h2⟩

theorem openJoinWindow_share (s : State) : (openJoinWindow s).share = { s.share with
    link := .joining, joinMs := some 0, sinceOwnMs := some 0, isolatedMs := 0, lost := false, statusMs := 0 } := by
  simp [openJoinWindow, queueStatus]

theorem endIsolation_share (h1 : s.share.link = .isolated) (h2 : s.line.numberClash = false) :
    (endIsolation s).share = { s.share with
      link := .joining, joinMs := some 0, sinceOwnMs := some 0, isolatedMs := 0, lost := false, statusMs := 0 } := by
  rw [endIsolation_opens h1 h2, openJoinWindow_share]
  simp

theorem queued_endIsolation (h1 : s.share.link = .isolated) (h2 : s.line.numberClash = false) (hf : frozen s = true)
    (hn : unnumbered s = false) : Queued .status (endIsolation s) := by
  rw [endIsolation_opens h1 h2]
  unfold openJoinWindow
  exact queued_queueStatus (by simpa [frozen] using hf) (by simpa [unnumbered] using hn)

theorem endIsolation_line (s : State) :
    (endIsolation s).line.still = s.line.still ∧ (AllWait s → AllWait (endIsolation s)) := by
  have hen : ∀ (g : TxFrame) (y : State), (enqueue g y).line.still = y.line.still ∧ (AllWait y → AllWait (enqueue g y)) :=
    fun g y => by
      unfold enqueue
      split
      · exact ⟨rfl, id⟩
      · exact ⟨rfl, fun hw => waits_enqueueQueue (q := y.line.queue) hw⟩
  have hsh : ∀ (g : TxFrame) (y : State),
      (enqueueShare g y).line.still = y.line.still ∧ (AllWait y → AllWait (enqueueShare g y)) := fun g y => by
    unfold enqueueShare
    split
    · exact hen g y
    · exact ⟨rfl, id⟩
  unfold endIsolation
  split
  · obtain ⟨a1, a2⟩ := hen (.notice .lineRestored (noticeTag s.recipe) s.recipe.cur (min 65535 (s.share.isolatedMs / 1000))) s
    obtain ⟨b1, b2⟩ := hsh .status ((notice .lineRestored (min 65535 (s.share.isolatedMs / 1000)) s).setShare
      { (notice .lineRestored (min 65535 (s.share.isolatedMs / 1000)) s).share with
        link := .joining, joinMs := some 0, sinceOwnMs := some 0, isolatedMs := 0, lost := false })
    exact ⟨b1.trans a1, fun hw => b2 (a2 hw)⟩
  · exact ⟨rfl, id⟩

/-! ### The completion before it settles -/

/-- What an own frame does as it completes. -/
def ownCompleted (f : TxFrame) (vetoed : Bool) (s : State) : State := endIsolation (ownOutcome f vetoed (finishSending s))

theorem ownFrameComplete_eq (hs : sendingFrame s = some f) :
    ownFrameComplete vetoed s = settle (ownCompleted f vetoed s) := by
  unfold ownFrameComplete
  rw [hs]
  rfl

theorem allWait_finishSending (s : State) : AllWait (finishSending s) := fun e he => by
  simpa using (List.mem_filter.1 he).2

theorem ownCompleted_waits (f : TxFrame) (vetoed : Bool) (s : State) : AllWait (ownCompleted f vetoed s) :=
  (endIsolation_line _).2 ((outcomeOnly_ownOutcome f vetoed _).waits (allWait_finishSending s))

theorem ownCompleted_blocks (f : TxFrame) (vetoed : Bool) (s : State) :
    (ownCompleted f vetoed s).pending = s.pending ∧ (ownCompleted f vetoed s).climate = s.climate
      ∧ (ownCompleted f vetoed s).power = s.power ∧ (ownCompleted f vetoed s).steam = s.steam
      ∧ (ownCompleted f vetoed s).descale = s.descale ∧ (ownCompleted f vetoed s).recipe = s.recipe
      ∧ (ownCompleted f vetoed s).superv = s.superv
      ∧ (ownCompleted f vetoed s).startup = { s.startup with restartLowers := (ownCompleted f vetoed s).startup.restartLowers } := by
  have h := outcomeOnly_ownOutcome f vetoed (finishSending s)
  have hu := h.startup
  have hp := h.power
  have hu' : (ownCompleted f vetoed s).startup = (ownOutcome f vetoed (finishSending s)).startup := by simp [ownCompleted]
  refine ⟨by simp [ownCompleted], by simp [ownCompleted], ?_, by simp [ownCompleted], by simp [ownCompleted],
    by simp [ownCompleted], by simp [ownCompleted], ?_⟩
  · simp only [ownCompleted, endIsolation_frame, hp, finishSending_frame]
  · rw [hu', hu]
    simp

theorem ownCompleted_still (f : TxFrame) (vetoed : Bool) (s : State) : (ownCompleted f vetoed s).line = { s.line with
    state := .idle, breakSeen := false, txBytes := [], clashes := 0, queue := (ownCompleted f vetoed s).line.queue } := by
  have h := (endIsolation_line (ownOutcome f vetoed (finishSending s))).1.trans
    (outcomeOnly_ownOutcome f vetoed (finishSending s)).still
  exact Line.still_eq_iff.1 h

theorem ownCompleted_settled (hg : s.startup.restarting = true ∨ GenSettled s) (f : TxFrame) (vetoed : Bool) :
    judgeSteam (ownCompleted f vetoed s) = ownCompleted f vetoed s := by
  obtain ⟨-, -, -, hm, -, hr, -, hu⟩ := ownCompleted_blocks f vetoed s
  refine hg.elim (fun h => judgeSteam_of_restarting (by rw [hu]; exact h)) fun h => judgeSteam_of_settled ?_
  exact genSettled_congr h (steamWanted_congr (by rw [hr]) (fun _ => by rw [hr]; exact ⟨rfl, rfl⟩) (by rw [hm]) (by rw [hm])
    (by rw [hu])) (by rw [hm]) (by rw [hu]) (by rw [hu])

/-- What stands behind the completion. -/
theorem ownFrameComplete_stands (hs : sendingFrame s = some f) (hg : s.startup.restarting = true ∨ GenSettled s) :
    (ownFrameComplete vetoed s).line = (ownCompleted f vetoed s).line
      ∧ (ownFrameComplete vetoed s).share = (ownCompleted f vetoed s).share
      ∧ SettlesOnly s (ownFrameComplete vetoed s) ∧ ProgramStands s (ownFrameComplete vetoed s)
      ∧ (ownFrameComplete vetoed s).pending = s.pending ∧ (ownFrameComplete vetoed s).climate = s.climate
      ∧ (ownFrameComplete vetoed s).superv = s.superv
      ∧ (ownFrameComplete vetoed s).startup = (ownCompleted f vetoed s).startup := by
  obtain ⟨hp, hc, hw, hm, hd, hr, hv, -⟩ := ownCompleted_blocks f vetoed s
  obtain ⟨hl, hx, hset, hprog⟩ := settle_of_fixed (ownCompleted_settled hg f vetoed)
  rw [ownFrameComplete_eq hs]
  exact ⟨hl, hx, (SettlesOnly.of_eq hm hw hd).trans hset, programStands_of hprog hr, by simp [hp], by simp [hc], by simp [hv],
    by simp⟩

/-! ### The shares -/

theorem ownCompleted_share (f : TxFrame) (vetoed : Bool) (s : State) :
    (ownCompleted f vetoed s).share.holds = (ownOutcome f vetoed (finishSending s)).share.holds
      ∧ (ownCompleted f vetoed s).share.vetoMark = (ownOutcome f vetoed (finishSending s)).share.vetoMark
      ∧ (ownCompleted f vetoed s).share.table = s.share.table ∧ (ownCompleted f vetoed s).share.tripSet = s.share.tripSet
      ∧ (ownCompleted f vetoed s).share.floor = s.share.floor := by
  have hv : (ownCompleted f vetoed s).share.vetoMark = (ownOutcome f vetoed (finishSending s)).share.vetoMark := by
    unfold ownCompleted
    generalize ownOutcome f vetoed (finishSending s) = y
    by_cases h : y.share.link ≠ .isolated ∨ y.line.numberClash = true
    · rw [endIsolation_rests h]
    · rw [endIsolation_share (by simpa using fun h1 => h (.inl h1)) (by simpa using fun h1 => h (.inr h1))]
  exact ⟨by simp [ownCompleted], hv, by simp [ownCompleted], by simp [ownCompleted], by simp [ownCompleted]⟩

theorem finishSending_share (s : State) :
    (finishSending s).share = { s.share with sinceOwnMs := s.share.sinceOwnMs.map fun _ => 0 } := rfl

/-- R53: the isolation count begins again. -/
theorem ownCompleted_sinceOwn (f : TxFrame) (vetoed : Bool) (h : s.share.sinceOwnMs.isSome = true) :
    (ownCompleted f vetoed s).share.sinceOwnMs = some 0 := by
  have hx := (outcomeOnly_ownOutcome f vetoed (finishSending s)).share
  have hy : (ownOutcome f vetoed (finishSending s)).share.sinceOwnMs = some 0 := by
    rw [hx, finishSending_share]
    obtain ⟨n, hn⟩ := Option.isSome_iff_exists.1 h
    simp [hn]
  unfold ownCompleted
  generalize ownOutcome f vetoed (finishSending s) = y at hy
  by_cases h : y.share.link ≠ .isolated ∨ y.line.numberClash = true
  · rw [endIsolation_rests h, hy]
  · rw [endIsolation_share (by simpa using fun h1 => h (.inl h1)) (by simpa using fun h1 => h (.inr h1))]

/-- R55: where the station is ISOLATED without a NUMBER_CLASH it joins again. -/
theorem ownCompleted_joins (f : TxFrame) (vetoed : Bool) (h1 : s.share.link = .isolated) (h2 : s.line.numberClash = false)
    (hf : frozen s = true) (hn : unnumbered s = false) :
    (ownCompleted f vetoed s).share.link = .joining ∧ (ownCompleted f vetoed s).share.joinMs = some 0
      ∧ Queued .status (ownCompleted f vetoed s) := by
  have k1 : (ownOutcome f vetoed (finishSending s)).share.link = .isolated := by simpa using h1
  have k2 : (ownOutcome f vetoed (finishSending s)).line.numberClash = false := by simpa using h2
  unfold ownCompleted
  refine ⟨?_, ?_, queued_endIsolation k1 k2 (by simpa [frozen] using hf) (by simpa [unnumbered] using hn)⟩ <;>
    rw [endIsolation_share k1 k2]

theorem ownCompleted_rests (f : TxFrame) (vetoed : Bool) (h : s.share.link ≠ .isolated ∨ s.line.numberClash = true) :
    ownCompleted f vetoed s = ownOutcome f vetoed (finishSending s) :=
  endIsolation_rests (by simpa using h)

end Sys2Proof.Machine

/-!
The completion of an own frame, put together (R46, R55, R77, R160).
-/
namespace Sys2Proof.Machine

variable {s t u : State} {f : TxFrame} {vetoed : Bool}

/-! ### The holds behind a RAISE -/

theorem raiseValue_some {p : Pool} {v : Nat} (hv : v ∈ f.raiseValue p) : ∃ g, f = .raise p g v := by
  cases f with
  | raise q g w =>
    simp only [TxFrame.raiseValue] at hv
    split at hv
    next hq =>
      obtain rfl := Option.mem_some_iff.1 hv
      exact ⟨g, by rw [hq]⟩
    · simp at hv
  | _ => simp [TxFrame.raiseValue] at hv

/-- R46: a RAISE that was not vetoed gives the hold its value. -/
theorem ownCompleted_raised {p : Pool} {v : Nat} (hv : v ∈ f.raiseValue p)
    (hi : p = .inlet → s.steam.inletWant = true ∧ s.share.tripSet = []) (hd : p = .drain → s.steam.drainWant = true) :
    (ownCompleted f false s).share.holds = raisedHolds s.share p v := by
  obtain ⟨g, rfl⟩ := raiseValue_some hv
  rw [(ownCompleted_share _ _ _).1]
  exact recordOwnRaise_wanted (s := finishSending s) v (by simpa using hi) (by simpa using hd)

theorem ownCompleted_veto (f : TxFrame) (s : State) : (ownCompleted f true s).share.holds = s.share.holds
    ∧ (ownCompleted f true s).share.vetoMark = (s.share.vetoMark || (f.raiseValue .power).isSome) := by
  obtain ⟨h1, h2, -⟩ := ownCompleted_share f true s
  rw [h1, h2, (ownOutcome_vetoed f _).1, finishSending_share]
  exact ⟨rfl, rfl⟩

theorem ownCompleted_other (hf : ∀ p, f.raiseValue p = none) :
    (ownCompleted f vetoed s).share.holds = s.share.holds := by
  rw [(ownCompleted_share f vetoed s).1, (ownOutcome_of_none hf vetoed _).1, finishSending_share]

/-- R77: every other frame stays in its place. -/
theorem ownCompleted_queue (h : s.share.link ≠ .isolated ∨ s.line.numberClash = true)
    (hf : vetoed = true ∨ (∀ p, f.raiseValue p = none)) :
    (ownCompleted f vetoed s).line.queue = s.line.queue.filter fun e => !e.sending := by
  rw [ownCompleted_rests f vetoed h]
  obtain rfl | hf := hf
  · rw [(ownOutcome_vetoed f _).2]
    rfl
  · rw [(ownOutcome_of_none hf vetoed _).2]
    rfl

/-! ### The restart -/

theorem ownCompleted_lowers (p : Pool) (f : TxFrame) (vetoed : Bool) (s : State) :
    (ownCompleted f vetoed s).startup.restartLowers.get p = true
      ↔ s.startup.restartLowers.get p = true ∧ ∀ g, f ≠ .lower p g 0 := by
  have h := ownOutcome_lowers (f := f) p vetoed (finishSending s)
  have hu : (ownCompleted f vetoed s).startup = (ownOutcome f vetoed (finishSending s)).startup := by simp [ownCompleted]
  rw [hu, h]
  simp

theorem restartDue_iff_get (s : State) :
    restartDue s = true ↔ (∀ p, s.startup.restartLowers.get p = false) ∨ 1000 ≤ s.startup.restartMs := by
  have hget : (∀ p, s.startup.restartLowers.get p = false) ↔ s.startup.restartLowers.power = false
      ∧ s.startup.restartLowers.inlet = false ∧ s.startup.restartLowers.drain = false :=
    ⟨fun h => ⟨h .power, h .inlet, h .drain⟩, fun ⟨h1, h2, h3⟩ p => by cases p <;> assumption⟩
  rw [hget]
  simp [restartDue, and_assoc]

/-- R160: the re-initialisation waits for a LOWER that is left. -/
theorem reInitIfDue_ownFrameComplete (hs : sendingFrame s = some f) (hg : GenSettled s)
    (hr : s.startup.restarting = false ∨ ((∃ p, s.startup.restartLowers.get p = true ∧ ∀ g, f ≠ .lower p g 0)
      ∧ s.startup.restartMs < 1000)) :
    reInitIfDue (ownFrameComplete vetoed s) = ownFrameComplete vetoed s := by
  obtain ⟨-, -, -, -, -, -, -, hu⟩ := ownFrameComplete_stands (vetoed := vetoed) hs (.inr hg)
  have hc := (ownCompleted_blocks f vetoed s).2.2.2.2.2.2.2
  obtain h | ⟨⟨p, hp, hl⟩, hms⟩ := hr
  · exact reInitIfDue_of_not_restarting (by rw [hu, hc]; exact h)
  · rw [reInitIfDue, if_neg]
    rw [restartDue_iff_get, hu]
    rintro (h | h)
    · exact Bool.false_ne_true ((h p).symm.trans ((ownCompleted_lowers p f vetoed s).2 ⟨hp, hl⟩))
    · rw [hc] at h
      exact absurd h (by simpa using hms)

/-- Two states alike in what stands while a restart waits. -/
theorem restartAlike_of_stands (hr : s.startup.restarting = true) (hp : t.pending = s.pending)
    (hu : (blocksRestarted t).startup = (blocksRestarted s).startup) (hn : t.line.numberClash = s.line.numberClash)
    (hf : t.share.floor = s.share.floor) (hpr : ProgramStands s t) (hc : t.climate = s.climate) (hs : SettlesOnly s t)
    (hv : t.superv = s.superv) : RestartAlike s t := by
  obtain ⟨ho, ha, hw⟩ := hs
  unfold OutputsOnly at ho
  unfold ActuatorsOnly at ha
  unfold WaitOnly at hw
  unfold ProgramStands at hpr
  refine ⟨hp, hu, hn, hf, ?_, by rw [hc], ?_, ⟨?_, ?_, ?_, ?_⟩, ?_, ⟨?_, ?_, ?_, ?_⟩, fun h => ?_⟩
  · rw [hpr]; rfl
  · rw [ha]
  · rw [ho]
  · rw [ho]
  · rw [ho]
  · rw [ho]
  · rw [hw]
  · rw [hv]
  · rw [hv]
  · rw [hv]
  · rw [hv]
  · rw [hv]
    exact h.elim id fun h => absurd (hr.symm.trans h) (by decide)

/-- R160: the last LOWER, or the frame waited for, brings the re-initialisation. -/
theorem ownFrame_restarts (hn : unnumbered s = false) (hf : frozen s = true) (hr : s.startup.restarting = true)
    (hs : sendingFrame s = some f)
    (hd : 1000 ≤ s.startup.restartMs ∨ (∀ p, s.startup.restartLowers.get p = true → ∃ g, f = .lower p g 0)) :
    ∃ t, exec (.ownFrameComplete vetoed) s = .next t ∧ Restarted s t ∧ t.line.state = .idle := by
  obtain ⟨hl, hx, hset, hprog, hp, hc, hv, hu⟩ := ownFrameComplete_stands (vetoed := vetoed) hs (.inl hr)
  have hb := (ownCompleted_blocks f vetoed s).2.2.2.2.2.2.2
  have hst := ownCompleted_still f vetoed s
  have hdue : restartDue (ownFrameComplete vetoed s) = true := by
    rw [restartDue_iff_get, hu]
    refine hd.symm.imp (fun h p => ?_) fun h => by rw [hb]; exact h
    by_contra hne
    obtain ⟨h1, h2⟩ := (ownCompleted_lowers p f vetoed s).1 (by simpa using hne)
    obtain ⟨g, hg⟩ := h p h1
    exact h2 g hg
  have hwait : sendingFrame (ownFrameComplete vetoed s) = none :=
    ((ownCompleted_waits f vetoed s).same (congrArg Line.queue hl)).sending
  have he : reInitIfDue (ownFrameComplete vetoed s) = reInitialise (ownFrameComplete vetoed s) := by
    rw [reInitIfDue, if_pos hdue, reInitialisation, if_pos ⟨by rw [hu, hb]; exact hr, hwait⟩]
  have halike : RestartAlike s (ownFrameComplete vetoed s) := by
    refine restartAlike_of_stands hr hp ?_ (by rw [hl, hst]) ?_ hprog hc hset hv
    · show { (ownFrameComplete vetoed s).startup with restarting := false, restartMs := 0, restartLowers := PerPool.all false }
        = { s.startup with restarting := false, restartMs := 0, restartLowers := PerPool.all false }
      rw [hu, hb]
    · rw [hx]
      exact (ownCompleted_share f vetoed s).2.2.2.2
  obtain ⟨h1, h2⟩ := reInitialise_restarted halike (by rw [unnumbered, hu, hb]; exact hn) (by rw [frozen, hu, hb]; exact hf)
  refine ⟨_, congrArg Host.Outcome.next he, h1, h2.trans ?_⟩
  rw [hl, hst]

/-- Settles O47: the completion of an own frame. -/
theorem ownFrameCompletes : Obligations.OwnFrameCompletes := by
  refine ⟨fun s vetoed f hg hn hf hs hr => ?_, fun s vetoed f hn hf hr hs hd => ownFrame_restarts hn hf hr hs hd⟩
  obtain ⟨hl, hx, ⟨ho, ha, hw⟩, hprog, hp, hc, hv, hu⟩ := ownFrameComplete_stands (vetoed := vetoed) hs (.inr hg)
  have hb := (ownCompleted_blocks f vetoed s).2.2.2.2.2.2.2
  have hst := ownCompleted_still f vetoed s
  obtain ⟨x1, x2, x3, x4, -⟩ := ownCompleted_share f vetoed s
  refine ⟨_, congrArg Host.Outcome.next (reInitIfDue_ownFrameComplete hs hg hr), ?_, ?_, ?_, ?_, fun h => ?_,
    fun h1 h2 => ?_, fun _ h2 => ?_, fun h => ?_, fun v h1 h2 => ⟨?_, ?_⟩, fun v h1 h2 h3 h4 => ?_, fun v h1 h2 h3 => ?_,
    fun h => ?_, fun h1 h2 => ?_, fun h => ?_, ?_, ?_, fun h => ?_, ?_, hprog, hp, fun b hb' => ?_⟩
  · rw [hl, hst]
  · exact ((ownCompleted_waits f vetoed s).same (congrArg Line.queue hl)).sending
  · rw [hl, hst]
  · rw [hl, hst]
  · rw [hx]; exact ownCompleted_sinceOwn f vetoed h
  · rw [hl]; exact ownCompleted_queue h1 h2
  · subst h2
    rw [hx]; exact (ownCompleted_veto f s).1
  · subst h
    rw [hx]; exact (ownCompleted_veto f s).2
  · subst h2
    obtain ⟨g, rfl⟩ := raiseValue_some h1
    rw [hx, x2]
    exact recordOwnRaise_power_mark v _
  · subst h2
    rw [hx, ownCompleted_raised h1 nofun nofun, raisedHolds]
    cases hb : s.share.fell.power <;> simp [PerPool.get, PerPool.set, hb]
  · subst h2
    rw [hx, ownCompleted_raised h1 (fun _ => ⟨h3, h4⟩) nofun, raisedHolds]
    cases hb : s.share.fell.inlet <;> simp [PerPool.get, PerPool.set, hb]
  · subst h2
    rw [hx, ownCompleted_raised h1 nofun fun _ => h3, raisedHolds]
    cases hb : s.share.fell.drain <;> simp [PerPool.get, PerPool.set, hb]
  · rw [hx]; exact ownCompleted_other h
  · obtain ⟨j1, j2, j3⟩ := ownCompleted_joins f vetoed h1 h2 hf hn
    rw [hx]
    unfold Queued at j3 ⊢
    rw [hl]
    exact ⟨j1, j2, j3⟩
  · rw [hx, ownCompleted_rests f vetoed h]
    simp
  · rw [hx]; exact x3
  · rw [hx]; exact x4
  · have := (ownCompleted_lowers .power f vetoed s).not.2 fun h' => h'.2 _ h
    rw [hu]
    exact Bool.eq_false_iff.2 this
  · rw [hu, hb]
  · cases b with
    | climate => exact hc
    | superv => exact hv
    | startup | power | share | line | steam | descale | recipe => exact absurd hb' (by decide)

end Sys2Proof.Machine

/-!
The queue of a frame that is no longer being sent (R67, R72, R75, R76), and what stays in a queue with room (R76).
-/
namespace Sys2Proof.Machine

variable {s t u : State} {f : TxFrame} {q : List QEntry}

/-! ### One frame is being sent -/

theorem sending_eq_of_count (h1 : q.countP (·.sending) = 1) (hf : (q.find? (·.sending)).map (·.frame) = some f) :
    ∀ e ∈ q, e.sending = true → e.frame = f := by
  rw [List.countP_eq_length_filter, List.length_eq_one_iff] at h1
  obtain ⟨a, ha⟩ := h1
  have hfind : q.find? (·.sending) = some a := by rw [← List.head?_filter, ha]; rfl
  rw [hfind, Option.map_some, Option.some.injEq] at hf
  intro e he hs
  have hm : e ∈ q.filter (·.sending) := List.mem_filter.2 ⟨he, hs⟩
  rw [ha, List.mem_singleton] at hm
  rw [hm, hf]

/-- The entry of a frame that waits. -/
def QEntry.waiting (e : QEntry) : QEntry := ⟨e.frame, false⟩

theorem QEntry.waiting_of_waits {e : QEntry} (h : e.sending = false) : e.waiting = e := by
  cases e
  simp only at h
  rw [h]
  rfl

/-- R75: with no other frame of its sort, the frame that stops waits again at its place, and every other keeps its own. -/
theorem stopQueue_map (h1 : q.countP (·.sending) = 1) (hf : (q.find? (·.sending)).map (·.frame) = some f)
    (ho : ∀ e ∈ q, e.sending = false → f.sameSort e.frame = false ∧ f.removes e.frame = false) :
    stopQueue q = q.map QEntry.waiting := by
  have hall := sending_eq_of_count h1 hf
  obtain ⟨a, ha, haf⟩ := Option.map_eq_some_iff.1 hf
  have hnone : q.find? (fun x => !x.sending && a.frame.sameSort x.frame) = none := by
    rw [List.find?_eq_none]
    intro x hx
    rw [haf]
    cases hxs : x.sending with
    | true => simp
    | false => simp [(ho x hx hxs).1]
  unfold stopQueue
  rw [ha]
  dsimp only
  rw [hnone, haf]
  have hmap : ∀ r : List QEntry, (∀ e ∈ r, e ∈ q) → r.filterMap (stoppedEntry f none) = r.map QEntry.waiting := fun r => by
    induction r with
    | nil => exact fun _ => rfl
    | cons e r ih =>
      intro hr
      have he : e ∈ q := hr e List.mem_cons_self
      have hstop : stoppedEntry f none e = some e.waiting := by
        unfold stoppedEntry
        cases hs : e.sending with
        | true =>
          rw [if_pos rfl, ← hall e he hs]
          rfl
        | false =>
          obtain ⟨h1, h2⟩ := ho e he hs
          rw [if_neg (by simp), if_neg (by simp [h1, h2]), QEntry.waiting_of_waits hs]
      rw [List.filterMap_cons, hstop, List.map_cons, ih fun e he => hr e (List.mem_cons_of_mem _ he)]
  exact hmap q fun _ he => he

/-- A frame is a RAISE. -/
def TxFrame.isAnyRaise (f : TxFrame) : Bool := f.isRaise .power || f.isRaise .inlet || f.isRaise .drain

theorem isAnyRaise_false_iff : f.isAnyRaise = false ↔ ∀ p, f.isRaise p = false := by
  unfold TxFrame.isAnyRaise
  constructor
  · intro h p
    cases p <;> simp_all
  · intro h
    simp [h]

theorem withoutRaises_eq_filter (q : List QEntry) : withoutRaises q = q.filter fun e => e.sending || !e.frame.isAnyRaise := by
  unfold withoutRaises removeWaiting TxFrame.isAnyRaise
  rw [List.filter_filter, List.filter_filter]
  refine List.filter_congr fun e _ => ?_
  cases e.sending <;> simp [Bool.and_comm, Bool.and_assoc]

/-- What is being sent stands where the RAISEs that wait are removed. -/
theorem withoutRaises_sending (q : List QEntry) :
    (withoutRaises q).countP (·.sending) = q.countP (·.sending)
      ∧ (withoutRaises q).find? (·.sending) = q.find? (·.sending) := by
  have h : (withoutRaises q).filter (·.sending) = q.filter (·.sending) := by
    rw [withoutRaises_eq_filter, List.filter_filter]
    refine List.filter_congr fun e _ => ?_
    cases e.sending <;> simp
  rw [List.countP_eq_length_filter, List.countP_eq_length_filter, ← List.head?_filter, ← List.head?_filter, h]
  exact ⟨rfl, rfl⟩

/-- R44, R67: of a queue whose sent frame loses arbitration. -/
theorem lostQueue_map (h1 : q.countP (·.sending) = 1) (hf : (q.find? (·.sending)).map (·.frame) = some f)
    (hr : ∀ p, f.isRaise p = false)
    (ho : ∀ e ∈ q, e.sending = false → f.sameSort e.frame = false ∧ f.removes e.frame = false) :
    withoutRaises (stopQueue (withoutRaises q)) = (q.filter fun e => !e.frame.isAnyRaise).map QEntry.waiting := by
  obtain ⟨w1, w2⟩ := withoutRaises_sending q
  have hstop : stopQueue (withoutRaises q) = (withoutRaises q).map QEntry.waiting :=
    stopQueue_map (w1.trans h1) (by rw [w2, hf]) fun e he hs => ho e ((withoutRaises_sublist q).mem he) hs
  have hall := sending_eq_of_count h1 hf
  have hfil : (q.filter fun e => e.sending || !e.frame.isAnyRaise) = q.filter fun e => !e.frame.isAnyRaise := by
    refine List.filter_congr fun e he => ?_
    cases hs : e.sending with
    | true =>
      have hn : e.frame.isAnyRaise = false := by rw [hall e he hs]; exact isAnyRaise_false_iff.2 hr
      simp [hn]
    | false => simp
  rw [hstop, withoutRaises_eq_filter, withoutRaises_eq_filter, hfil, List.filter_map, List.filter_filter]
  congr 1
  refine List.filter_congr fun e _ => ?_
  simp [QEntry.waiting]

/-- A RAISE and the RAISEs of its pool are of one sort. -/
theorem sameSort_of_isRaise {p : Pool} {g : TxFrame} (hf : f.isRaise p = true) : f.sameSort g = g.isRaise p := by
  cases f with
  | raise q _ _ =>
    obtain rfl : q = p := of_decide_eq_true hf
    cases q <;> simp [TxFrame.sameSort, TxFrame.isRaise, TxFrame.isSafety, TxFrame.isYield, TxFrame.isStatus,
      TxFrame.isLower, TxFrame.cls]
  | _ => exact absurd hf (by simp [TxFrame.isRaise])

/-- R44: the RAISE that stops being sent waits until it is voided too. -/
theorem anyWaiting_stopQueue (h1 : q.countP (·.sending) = 1) (hf : (q.find? (·.sending)).map (·.frame) = some f) (p : Pool) :
    anyWaiting (TxFrame.isRaise p) (stopQueue (withoutRaises q)) = f.isRaise p := by
  obtain ⟨w1, w2⟩ := withoutRaises_sending q
  have hall := sending_eq_of_count h1 hf
  obtain ⟨a, ha, haf⟩ := Option.map_eq_some_iff.1 hf
  have hmem : a ∈ withoutRaises q := List.mem_of_find?_eq_some (w2.trans ha)
  have has : a.sending = true := by simpa using List.find?_some ha
  have hwait : ∀ x ∈ withoutRaises q, x.sending = false → x.frame.isRaise p = false := fun x hx hs =>
    (mem_withoutRaises hx).2 hs p
  unfold stopQueue
  rw [w2, ha]
  dsimp only
  rw [haf]
  generalize hnew : ((withoutRaises q).find? fun x => !x.sending && f.sameSort x.frame) = new
  have hput : ((new.map (·.frame)).getD f).isRaise p = f.isRaise p := by
    cases new with
    | none => rfl
    | some x =>
      have hx := List.find?_some hnew
      have hxm := List.mem_of_find?_eq_some hnew
      simp only [Bool.and_eq_true, Bool.not_eq_true'] at hx
      have hno : ∀ p, x.frame.isRaise p = false := (mem_withoutRaises hxm).2 hx.1
      have hsort := hx.2
      show x.frame.isRaise p = f.isRaise p
      rw [hno p]
      cases hfr : f.isRaise p with
      | false => rfl
      | true =>
        rw [sameSort_of_isRaise hfr] at hsort
        exact absurd (hsort.symm.trans (hno p)) (by decide)
  rw [Bool.eq_iff_iff, anyWaiting, List.any_eq_true]
  constructor
  · rintro ⟨y, hy, hw⟩
    obtain ⟨x, hx, hxy⟩ := List.mem_filterMap.1 hy
    simp only [Bool.and_eq_true, Bool.not_eq_true'] at hw
    unfold stoppedEntry at hxy
    split at hxy
    · rw [Option.some.injEq] at hxy
      rw [← hput, ← hw.2, ← hxy]
    next hs =>
      split at hxy
      · exact absurd hxy (by simp)
      · rw [Option.some.injEq] at hxy
        subst hxy
        exact absurd (hw.2.symm.trans (hwait x hx (by simpa using hs))) (by decide)
  · intro hr
    refine ⟨⟨(new.map (·.frame)).getD f, false⟩, List.mem_filterMap.2 ⟨a, hmem, ?_⟩, ?_⟩
    · unfold stoppedEntry
      rw [if_pos has]
    · simp [hput, hr]

/-! ### A queue with room -/

theorem reports_insertFrame (g : TxFrame) (q : List QEntry) :
    (insertFrame g q).countP (·.frame.isReport) = q.countP (·.frame.isReport) + (if g.isReport then 1 else 0) := by
  induction q with
  | nil => simp [insertFrame, List.countP_cons]
  | cons e q ih =>
    unfold insertFrame
    split
    · simp only [List.countP_cons, ih]
      omega
    · simp only [List.countP_cons]

/-- A queue of at most `n` frames, `r` of them REPORTs. -/
def HasAtMost (n r : Nat) (q : List QEntry) : Prop := q.length ≤ n ∧ q.countP (·.frame.isReport) ≤ r

theorem HasAtMost.sublist {n r : Nat} {q' : List QEntry} (h : HasAtMost n r q) (hs : q'.Sublist q) : HasAtMost n r q' :=
  ⟨hs.length_le.trans h.1, hs.countP_le.trans h.2⟩

theorem addFrame_of_room {n r : Nat} (h : HasAtMost n r q) (hn : n < 8) (g : TxFrame) : addFrame g q = insertFrame g q := by
  have := h.1
  rw [addFrame, queueLimit, if_neg (by omega)]

theorem HasAtMost.report {n r : Nat} (h : HasAtMost n r q) (hn : n < 8) (hr : r < 5) (hf : f.isReport = true) :
    enqueueQueue f q = insertFrame f q ∧ HasAtMost (n + 1) (r + 1) (enqueueQueue f q) := by
  have he : enqueueQueue f q = insertFrame f q := by
    have hadd : addReport f q = insertFrame f q := by
      have := h.2
      rw [addReport, reportLimit, if_neg (by omega), addFrame_of_room h hn]
    cases f <;> first | exact hadd | exact absurd hf (by simp [TxFrame.isReport, TxFrame.cls])
  refine ⟨he, ?_⟩
  rw [he]
  exact ⟨by rw [length_insertFrame]; have := h.1; omega, by rw [reports_insertFrame, if_pos hf]; have := h.2; omega⟩

/-- R76: a LOWER in a queue with room discards no REPORT. -/
theorem HasAtMost.lower {n r : Nat} {p : Pool} {g v : Nat} (h : HasAtMost n r q) (hn : n < 8) :
    HasAtMost (n + 1) r (enqueueQueue (.lower p g v) q)
      ∧ ∀ e ∈ q, e.frame.isReport = true → e ∈ enqueueQueue (.lower p g v) q := by
  have h0 := h.sublist (removeWaiting_sublist (TxFrame.isRaise p) q)
  have hmem : ∀ e ∈ q, e.frame.isReport = true → e ∈ removeWaiting (TxFrame.isRaise p) q := fun e he hr =>
    List.mem_filter.2 ⟨he, by
      by_contra hc
      simp only [Bool.or_eq_true, Bool.not_eq_true', not_or, Bool.not_eq_false] at hc
      exact absurd (hr.symm.trans (isReport_of_isRaise hc.2)) (by decide)⟩
  show HasAtMost (n + 1) r (putFrame (TxFrame.isLower p) (.lower p g v) (removeWaiting (TxFrame.isRaise p) q))
    ∧ ∀ e ∈ q, e.frame.isReport = true → e ∈ putFrame (TxFrame.isLower p) (.lower p g v) (removeWaiting (TxFrame.isRaise p) q)
  unfold putFrame
  split
  · refine ⟨⟨?_, ?_⟩, fun e he hr => ?_⟩
    · have := h0.1
      rw [replaceWaiting, List.length_map]
      omega
    · have hrep := filter_replaceWaiting (f := .lower p g v) rfl (fun x => isReport_of_isLower (p := p))
        (removeWaiting (TxFrame.isRaise p) q)
      rw [List.countP_eq_length_filter, hrep, ← List.countP_eq_length_filter]
      exact h0.2
    · have hrep := filter_replaceWaiting (f := .lower p g v) rfl (fun x => isReport_of_isLower (p := p))
        (removeWaiting (TxFrame.isRaise p) q)
      have : e ∈ (removeWaiting (TxFrame.isRaise p) q).filter fun e => e.frame.isReport :=
        List.mem_filter.2 ⟨hmem e he hr, hr⟩
      rw [← hrep] at this
      exact (List.mem_filter.1 this).1
  · rw [addFrame_of_room h0 hn]
    refine ⟨⟨?_, ?_⟩, fun e he hr => mem_insertFrame_of_mem (hmem e he hr)⟩
    · rw [length_insertFrame]; have := h0.1; omega
    · rw [reports_insertFrame]; exact h0.2

end Sys2Proof.Machine

/-!
The rows of a frame that stops being sent: lost arbitration, a drive fault, a clash and a broken closing mark (R44, R67, R72,
R73, R77, R160).
-/
namespace Sys2Proof.Machine

variable {s t u : State} {f : TxFrame}

/-! ### What the rows leave -/

theorem countClash_counts (h : s.line.clashes < 2 ∨ s.line.numberClash = true) :
    countClash s = s.setLine { s.line with clashes := s.line.clashes + 1 } := by
  unfold countClash
  dsimp only
  rw [if_neg]
  · rintro ⟨h1, h2⟩
    have h1' : 3 ≤ s.line.clashes + 1 := h1
    obtain h | h := h
    · omega
    · exact absurd (h.symm.trans h2) (by decide)

/-- What a frame that stops being sent leaves beside the line state and its queue. -/
structure Stopped (s u : State) : Prop where
  stands  : OnlyTouches [.power, .share, .line, .steam, .descale, .recipe] s u
  floor   : u.share.floor = s.share.floor
  clash   : u.line.numberClash = s.line.numberClash
  waits   : AllWait u
  settles : SettlesOnly s u
  program : ProgramStands s u

theorem allWait_stopQueue {q : List QEntry} (h : u.line.queue = stopQueue q) : AllWait u := fun _ he =>
  waits_of_mem_stopQueue (h ▸ he)

theorem programStands_of_eq (h : t.recipe = s.recipe) : ProgramStands s t := by
  unfold ProgramStands
  rw [h]

theorem touches_line_of (l : List Block) (hl : .line ∈ l) (x : Line) : OnlyTouches l s (s.setLine x) := by
  refine ⟨rfl, fun b hb => ?_⟩
  cases b with
  | line => exact absurd hl hb
  | _ => rfl

theorem stopped_breakOff (st : LineState) (ab : Bool) (s : State) : Stopped s (breakOff st ab s) :=
  ⟨touches_line_of _ (by decide) _, rfl, rfl, allWait_stopQueue rfl, .of_eq rfl rfl rfl, programStands_of_eq rfl⟩

/-- R67, R44: the shares note the pools to decide again, and no RAISE is left. -/
theorem arbitrationLost_blocks (hs : (sendingFrame s).isSome = true) :
    (arbitrationLost s).line = { s.line with
        state := .busy, breakSeen := false, txBytes := []
        queue := withoutRaises (stopQueue (withoutRaises s.line.queue)) }
      ∧ (arbitrationLost s).share = { s.share with redecide := (arbitrationLost s).share.redecide }
      ∧ ∀ p, (arbitrationLost s).share.redecide.get p = (s.share.redecide.get p
          || anyWaiting (TxFrame.isRaise p) s.line.queue
          || anyWaiting (TxFrame.isRaise p) (stopQueue (withoutRaises s.line.queue))) := by
  obtain ⟨-, l1, s1, r1⟩ := voidRaises_blocks s
  obtain ⟨-, l2, s2, r2⟩ := voidRaises_blocks (stopSending .busy false (voidRaises s))
  have he : arbitrationLost s = voidRaises (stopSending .busy false (voidRaises s)) := if_pos hs
  have hq : (stopSending .busy false (voidRaises s)).line = { s.line with
      state := .busy, breakSeen := false, txBytes := [], queue := stopQueue (withoutRaises s.line.queue) } := by
    rw [stopSending, State.setLine_line, l1]
  have hx : (stopSending .busy false (voidRaises s)).share = (voidRaises s).share := rfl
  rw [hq] at l2 r2
  rw [hx] at s2 r2
  rw [he]
  refine ⟨l2, s2.trans ?_, fun p => ?_⟩
  · rw [s1]
  · rw [r2, r1]

theorem stopped_arbitrationLost (hs : (sendingFrame s).isSome = true) : Stopped s (arbitrationLost s) := by
  obtain ⟨hl, hx, -⟩ := arbitrationLost_blocks hs
  refine ⟨⟨by simp, fun b hb => ?_⟩, by rw [hx], by rw [hl], fun e he => ?_, .of_eq (by simp) (by simp) (by simp),
    programStands_of_eq (by simp)⟩
  · cases b with
    | line | share => exact absurd hb (by decide)
    | startup | climate | power | steam | descale | recipe | superv => simp [Block.same]
  · rw [hl] at he
    exact waits_of_mem_stopQueue (mem_withoutRaises he).1

/-- R72, R73: a clash before the third, or with NUMBER_CLASH held. -/
theorem clash_counts (hs : (sendingFrame s).isSome = true) (h : s.line.clashes < 2 ∨ s.line.numberClash = true) :
    clash s = settle ((breakOff .busy true s).setLine
      { (breakOff .busy true s).line with clashes := s.line.clashes + 1 }) := by
  rw [clash, if_pos hs, countClash_counts (s := breakOff .busy true s) h]
  rfl

/-- What a clash settles. -/
theorem clashed_settled (hg : s.startup.restarting = true ∨ GenSettled s) (x : Line) :
    (settle (s.setLine x)).line = x ∧ (settle (s.setLine x)).share = s.share ∧ SettlesOnly s (settle (s.setLine x))
      ∧ ProgramStands s (settle (s.setLine x)) ∧ OnlyTouches [.power, .line, .steam, .descale, .recipe] s (settle (s.setLine x)) := by
  have hj : judgeSteam (s.setLine x) = s.setLine x :=
    hg.elim (fun h => judgeSteam_of_restarting h) fun h => judgeSteam_of_settled (genSettled_congr h rfl rfl rfl rfl)
  obtain ⟨hl, hx, hs, hp⟩ := settle_of_fixed hj
  refine ⟨hl, hx, (SettlesOnly.of_eq (t := s) rfl rfl rfl).trans hs, programStands_of hp rfl, by simp, fun b hb => ?_⟩
  cases b with
  | power | line | steam | descale | recipe => exact absurd hb (by decide)
  | share => exact hx
  | startup | climate | superv => simp [Block.same]

theorem stopped_clash (hs : (sendingFrame s).isSome = true) (h : s.line.clashes < 2 ∨ s.line.numberClash = true)
    (hg : s.startup.restarting = true ∨ GenSettled s) : Stopped s (clash s) := by
  have hline : (breakOff .busy true s).setLine { (breakOff .busy true s).line with clashes := s.line.clashes + 1 }
      = s.setLine { (breakOff .busy true s).line with clashes := s.line.clashes + 1 } := rfl
  obtain ⟨hl, hx, hset, hp, ht⟩ := clashed_settled hg { (breakOff .busy true s).line with clashes := s.line.clashes + 1 }
  rw [clash_counts hs h, hline]
  refine ⟨ht.mono (by decide), by rw [hx], by rw [hl]; rfl, fun e he => ?_, hset, hp⟩
  rw [hl] at he
  exact waits_of_mem_stopQueue he

/-! ### The restart that waited (R160) -/

theorem Stopped.restarts (h : Stopped s u) (hn : unnumbered s = false) (hf : frozen s = true)
    (hr : s.startup.restarting = true)
    (hd : s.startup.restartLowers = PerPool.all false ∨ 1000 ≤ s.startup.restartMs) : Restarted s (reInitIfDue u) := by
  have hu : u.startup = s.startup := h.stands.2 .startup (by decide)
  have hdue : restartDue u = true := by
    rw [restartDue_iff_get, hu]
    exact hd.imp (fun h p => by rw [h]; cases p <;> rfl) id
  have he : reInitIfDue u = reInitialise u := by
    rw [reInitIfDue, if_pos hdue, reInitialisation, if_pos ⟨by rw [hu]; exact hr, h.waits.sending⟩]
  have ha : RestartAlike s u := restartAlike_of_stands hr h.stands.1
    (by show { u.startup with restarting := false, restartMs := 0, restartLowers := PerPool.all false }
          = { s.startup with restarting := false, restartMs := 0, restartLowers := PerPool.all false }
        rw [hu])
    h.clash h.floor h.program (h.stands.2 .climate (by decide)) h.settles (h.stands.2 .superv (by decide))
  rw [he]
  exact (reInitialise_restarted ha (by rw [unnumbered, hu]; exact hn) (by rw [frozen, hu]; exact hf)).1

theorem stoppedFrame_restarts {c : Instr} (hn : unnumbered s = false) (hf : frozen s = true)
    (hr : s.startup.restarting = true) (hs : (sendingFrame s).isSome = true)
    (hd : s.startup.restartLowers = PerPool.all false ∨ 1000 ≤ s.startup.restartMs)
    (hc : c = .arbitrationLost ∨ c = .driveFault ∨ c = .closingMarkBroken
      ∨ (c = .clash ∧ (s.line.clashes < 2 ∨ s.line.numberClash = true))) :
    ∃ t, exec c s = .next t ∧ Restarted s t := by
  obtain rfl | rfl | rfl | ⟨rfl, hk⟩ := hc
  · exact ⟨_, rfl, (stopped_arbitrationLost hs).restarts hn hf hr hd⟩
  · have he : driveFault s = breakOff .wait false s := if_pos hs
    exact ⟨_, rfl, (he ▸ stopped_breakOff .wait false s).restarts hn hf hr hd⟩
  · have he : closingMarkBroken s = breakOff .busy true s := if_pos hs
    exact ⟨_, rfl, (he ▸ stopped_breakOff .busy true s).restarts hn hf hr hd⟩
  · exact ⟨_, rfl, (stopped_clash hs hk (.inl hr)).restarts hn hf hr hd⟩

/-! ### Lost arbitration -/

theorem lostArbitration (hs : sendingFrame s = some f) (h1 : s.line.queue.countP (·.sending) = 1)
    (hr : s.startup.restarting = false) :
    ∃ t, exec .arbitrationLost s = .next t
      ∧ t.line.state = .busy ∧ t.line.breakSeen = false ∧ sendingFrame t = none ∧ t.line.txBytes = []
      ∧ (∀ p, raiseQueued p t = false)
      ∧ (∀ p, t.share.redecide.get p = (s.share.redecide.get p || raiseQueued p s))
      ∧ ((∀ p, f.isRaise p = false) →
          (∀ e ∈ s.line.queue, e.sending = false → f.sameSort e.frame = false ∧ f.removes e.frame = false) →
          t.line.queue = (s.line.queue.filter fun e =>
              !(e.frame.isRaise .power || e.frame.isRaise .inlet || e.frame.isRaise .drain)).map
            fun e => ⟨e.frame, false⟩)
      ∧ t.share = { s.share with redecide := t.share.redecide } ∧ OnlyTouches [.line, .share] s t := by
  have hsome : (sendingFrame s).isSome = true := by rw [hs]; rfl
  obtain ⟨hl, hx, hred⟩ := arbitrationLost_blocks hsome
  have hstop := stopped_arbitrationLost hsome
  have hres : reInitIfDue (arbitrationLost s) = arbitrationLost s := reInitIfDue_of_not_restarting (by simpa using hr)
  refine ⟨_, congrArg Host.Outcome.next hres, by rw [hl], by rw [hl], hstop.waits.sending, by rw [hl], fun p => ?_, fun p => ?_,
    fun hno ho => ?_, hx, by simp, fun b hb => ?_⟩
  · rw [raiseQueued_false_iff]
    intro e he
    have hq := he
    rw [hl] at hq
    exact (mem_withoutRaises hq).2 (hstop.waits e he) p
  · rw [hred, anyWaiting_stopQueue h1 hs, Bool.or_assoc]
    congr 1
    have hall := sending_eq_of_count h1 hs
    obtain ⟨a, ha, haf⟩ := Option.map_eq_some_iff.1 hs
    rw [Bool.eq_iff_iff, Bool.or_eq_true, anyWaiting, raiseQueued, List.any_eq_true, List.any_eq_true]
    constructor
    · rintro (⟨e, he, hw⟩ | hf)
      · exact ⟨e, he, (Bool.and_eq_true _ _ ▸ hw).2⟩
      · exact ⟨a, List.mem_of_find?_eq_some ha, haf ▸ hf⟩
    · rintro ⟨e, he, hw⟩
      cases hes : e.sending with
      | false => exact .inl ⟨e, he, by simp [hes, hw]⟩
      | true => exact .inr (hall e he hes ▸ hw)
  · rw [hl]
    exact lostQueue_map h1 hs hno ho
  · cases b with
    | line | share => exact absurd hb (by decide)
    | startup | climate | power | steam | descale | recipe | superv => simp [Block.same]

/-! ### A drive fault, a broken mark, and a clash that does not isolate -/

/-- R77: the queue without a RAISE that was being sent, and with any other frame waiting at its place. -/
theorem breakOff_queue (hs : sendingFrame s = some f) (h1 : s.line.queue.countP (·.sending) = 1) :
    (∀ p, f.isRaise p = true →
        stopQueue (s.line.queue.filter fun e => !(e.sending && e.frame.isAnyRaise)) = s.line.queue.filter fun e => !e.sending)
      ∧ ((∀ p, f.isRaise p = false) →
        (∀ e ∈ s.line.queue, e.sending = false → f.sameSort e.frame = false ∧ f.removes e.frame = false) →
        stopQueue (s.line.queue.filter fun e => !(e.sending && e.frame.isAnyRaise)) = s.line.queue.map QEntry.waiting) := by
  have hall := sending_eq_of_count h1 hs
  refine ⟨fun p hp => ?_, fun hno ho => ?_⟩
  · have hany : f.isAnyRaise = true := by
      by_contra hc
      exact absurd (hp.symm.trans (isAnyRaise_false_iff.1 (by simpa using hc) p)) (by decide)
    have hfil : (s.line.queue.filter fun e => !(e.sending && e.frame.isAnyRaise)) = s.line.queue.filter fun e => !e.sending :=
      List.filter_congr fun e he => by
        cases hes : e.sending with
        | true => simp [hall e he hes, hany]
        | false => simp
    rw [hfil]
    refine stopQueue_of_none (List.find?_eq_none.2 fun e he => ?_)
    simpa using (List.mem_filter.1 he).2
  · have hany := isAnyRaise_false_iff.2 hno
    have hfil : (s.line.queue.filter fun e => !(e.sending && e.frame.isAnyRaise)) = s.line.queue :=
      List.filter_eq_self.2 fun e he => by
        cases hes : e.sending with
        | true => simp [hall e he hes, hany]
        | false => simp
    rw [hfil]
    exact stopQueue_map h1 hs ho

end Sys2Proof.Machine

/-!
The third clash, and the rows of a frame that stops being sent put together (R53, R55, R67, R72, R73, R77).
-/
namespace Sys2Proof.Machine

variable {s t u : State} {f : TxFrame}

/-! ### Before the third clash -/

/-- What a broken frame leaves of the queue, as its row says it. -/
theorem stoppedFrame_waits {c : Instr} (hs : sendingFrame s = some f) (h1 : s.line.queue.countP (·.sending) = 1)
    (hr : s.startup.restarting = false) (hc : c = .driveFault ∨ c = .closingMarkBroken
      ∨ (c = .clash ∧ GenSettled s ∧ (s.line.clashes < 2 ∨ s.line.numberClash = true))) :
    ∃ t, exec c s = .next t
      ∧ t.line.state = (if c = .driveFault then .wait else .busy) ∧ t.line.breakSeen = decide (c ≠ .driveFault)
      ∧ sendingFrame t = none ∧ t.line.txBytes = []
      ∧ t.line.clashes = (if c = .clash then s.line.clashes + 1 else s.line.clashes)
      ∧ (∀ p, f.isRaise p = true → t.line.queue = s.line.queue.filter fun e => !e.sending)
      ∧ ((∀ p, f.isRaise p = false) →
          (∀ e ∈ s.line.queue, e.sending = false → f.sameSort e.frame = false ∧ f.removes e.frame = false) →
          t.line.queue = s.line.queue.map fun e => ⟨e.frame, false⟩)
      ∧ t.share = s.share ∧ SettlesOnly s t ∧ ProgramStands s t
      ∧ (c ≠ .clash → OnlyTouches [.line] s t) ∧ OnlyTouches [.power, .line, .steam, .descale, .recipe] s t := by
  have hsome : (sendingFrame s).isSome = true := by rw [hs]; rfl
  obtain ⟨q1, q2⟩ := breakOff_queue hs h1
  have hoff : ∀ st ab, (sendingFrame (breakOff st ab s) = none
      ∧ SettlesOnly s (breakOff st ab s) ∧ ProgramStands s (breakOff st ab s)) := fun st ab =>
    ⟨(stopped_breakOff st ab s).waits.sending, (stopped_breakOff st ab s).settles, (stopped_breakOff st ab s).program⟩
  have hres : ∀ u : State, u.startup = s.startup → reInitIfDue u = u := fun u hu =>
    reInitIfDue_of_not_restarting (by rw [hu]; exact hr)
  obtain rfl | rfl | ⟨rfl, hg, hk⟩ := hc
  · have he : reInitIfDue (driveFault s) = breakOff .wait false s :=
      (congrArg reInitIfDue (if_pos hsome)).trans (hres _ rfl)
    obtain ⟨o1, o2, o3⟩ := hoff .wait false
    exact ⟨_, congrArg Host.Outcome.next he, rfl, rfl, o1, rfl, rfl, q1, q2, rfl, o2, o3,
      fun _ => touches_line_of _ (by decide) _, touches_line_of _ (by decide) _⟩
  · have he : reInitIfDue (closingMarkBroken s) = breakOff .busy true s :=
      (congrArg reInitIfDue (if_pos hsome)).trans (hres _ rfl)
    obtain ⟨o1, o2, o3⟩ := hoff .busy true
    exact ⟨_, congrArg Host.Outcome.next he, rfl, rfl, o1, rfl, rfl, q1, q2, rfl, o2, o3,
      fun _ => touches_line_of _ (by decide) _, touches_line_of _ (by decide) _⟩
  · have hst := stopped_clash hsome hk (.inr hg)
    have he : reInitIfDue (clash s) = clash s := hres _ (hst.stands.2 .startup (by decide))
    obtain ⟨hl, hx, hset, hp, ht⟩ := clashed_settled (.inr hg)
      { (breakOff .busy true s).line with clashes := s.line.clashes + 1 }
    have hc : clash s = settle (s.setLine { (breakOff .busy true s).line with clashes := s.line.clashes + 1 }) :=
      clash_counts hsome hk
    rw [← hc] at hl hx hset hp ht
    refine ⟨_, congrArg Host.Outcome.next he, by rw [hl]; rfl, by rw [hl]; rfl, hst.waits.sending, by rw [hl]; rfl,
      by rw [hl]; rfl, fun p hp => ?_, fun hno ho => ?_, hx, hset, hp, fun h => absurd rfl h, ht⟩
    · rw [hl]; exact q1 p hp
    · rw [hl]; exact q2 hno ho

/-! ### The third clash -/

/-- The queue behind a clash of the one frame in it. -/
def brokenAlone (f : TxFrame) : List QEntry := if f.isAnyRaise then [] else [⟨f, false⟩]

theorem breakOff_alone (hq : s.line.queue = [⟨f, true⟩]) (st : LineState) (ab : Bool) :
    (breakOff st ab s).line.queue = brokenAlone f := by
  have h : (breakOff st ab s).line.queue = stopQueue (s.line.queue.filter fun e => !(e.sending && e.frame.isAnyRaise)) := rfl
  rw [h, hq]
  unfold brokenAlone
  cases hf : f.isAnyRaise <;> simp [hf, stopQueue, stoppedEntry]

theorem brokenAlone_short (f : TxFrame) : HasAtMost 1 1 (brokenAlone f) ∧ (∀ e ∈ brokenAlone f, e.sending = false)
    ∧ ∀ e ∈ brokenAlone f, ∀ p, e.frame.isRaise p = false := by
  unfold brokenAlone
  split
  · exact ⟨⟨by simp, by simp⟩, by simp, by simp⟩
  next h =>
    refine ⟨⟨by simp, by simp [List.countP_cons]; split <;> omega⟩, by simp, ?_⟩
    simpa using isAnyRaise_false_iff.1 (by simpa using h)

theorem HasAtMost.lowerHold {n r : Nat} (h : HasAtMost n r s.line.queue) (hn : n < 8) (p : Pool) (v : Nat) :
    HasAtMost (n + 1) r (lowerHold p v s).line.queue
      ∧ ∀ e ∈ s.line.queue, e.frame.isReport = true → e ∈ (Machine.lowerHold p v s).line.queue := by
  obtain hl | hl := lowerHold_queue p v s
  · rw [hl]
    exact ⟨⟨Nat.le_succ_of_le h.1, h.2⟩, fun e he _ => he⟩
  · rw [hl]
    exact HasAtMost.lower h hn

theorem HasAtMost.dropRaise {n r : Nat} (h : HasAtMost n r s.line.queue) (p : Pool) :
    HasAtMost n r (dropRaise p s).line.queue
      ∧ ∀ e ∈ s.line.queue, e.frame.isReport = true → e ∈ (Machine.dropRaise p s).line.queue := by
  refine ⟨h.sublist (removeWaiting_sublist _ _), fun e he hr => List.mem_filter.2 ⟨he, ?_⟩⟩
  by_contra hc
  simp only [Bool.or_eq_true, Bool.not_eq_true', not_or, Bool.not_eq_false] at hc
  exact absurd (hr.symm.trans (isReport_of_isRaise hc.2)) (by decide)

theorem HasAtMost.enqueue {n r : Nat} (h : HasAtMost n r s.line.queue) (hn : n < 8) (hr : r < 5) (hf : f.isReport = true) :
    HasAtMost (n + 1) (r + 1) (enqueue f s).line.queue ∧ ∀ e ∈ s.line.queue, e ∈ (Machine.enqueue f s).line.queue := by
  unfold Machine.enqueue
  split
  · exact ⟨⟨Nat.le_succ_of_le h.1, Nat.le_succ_of_le h.2⟩, fun _ he => he⟩
  · obtain ⟨he, hb⟩ := h.report hn hr hf
    refine ⟨hb, fun e hm => ?_⟩
    show e ∈ enqueueQueue f s.line.queue
    rw [he]
    exact mem_insertFrame_of_mem hm

/-- R53: in a queue with room an isolation discards no REPORT. -/
theorem HasAtMost.isolate {n r : Nat} (h : HasAtMost n r s.line.queue) (hn : n < 5) (hr : r < 5)
    (e : QEntry) (he : e ∈ s.line.queue) (her : e.frame.isReport = true) : e ∈ (isolate s).line.queue := by
  have h0 : HasAtMost n r (s.setShare { s.share with link := .isolated, joinMs := none, isolatedMs := 0, lost := false }).line.queue := h
  obtain ⟨b1, m1⟩ := h0.lowerHold (by omega) .power (min s.share.holds.power s.share.floor)
  obtain ⟨b2, m2⟩ := b1.lowerHold (by omega) .inlet 0
  obtain ⟨b3, m3⟩ := b2.lowerHold (by omega) .drain 0
  obtain ⟨b4, m4⟩ := b3.dropRaise .power
  obtain ⟨b5, m5⟩ := b4.dropRaise .inlet
  obtain ⟨b6, m6⟩ := b5.dropRaise .drain
  have hm := m6 e (m5 e (m4 e (m3 e (m2 e (m1 e he her) her) her) her) her) her
  exact (b6.enqueue (f := .notice .lineIsolated _ _ noDetail) (by omega) (by omega) rfl).2 e hm

protected theorem AllWait.enqueue {g : TxFrame} (hw : AllWait s) : AllWait (enqueue g s) := by
  unfold Machine.enqueue
  split
  · exact hw
  · exact waits_enqueueQueue (q := s.line.queue) hw

protected theorem AllWait.isolate (hw : AllWait s) : AllWait (isolate s) := by
  have h0 : AllWait (s.setShare { s.share with link := .isolated, joinMs := none, isolatedMs := 0, lost := false }) := hw
  exact h0.lowerHold.lowerHold.lowerHold.dropRaise.dropRaise.dropRaise.enqueue

/-- R73: the third clash is noted, and NUMBER_CLASH told. -/
def clashNoted (s : State) : State :=
  notice .numberClash s.startup.station (s.setLine { s.line with clashes := s.line.clashes + 1, numberClash := true })

theorem countClash_third (h1 : 2 ≤ s.line.clashes) (h2 : s.line.numberClash = false) :
    countClash s = if s.share.link = .isolated then clashNoted s else isolate (clashNoted s) := by
  have hx : (clashNoted s).share = s.share := by simp [clashNoted]
  unfold countClash
  dsimp only
  rw [if_pos ⟨by show 3 ≤ s.line.clashes + 1; omega, h2⟩]
  show (if (clashNoted s).share.link = .isolated then clashNoted s else isolate (clashNoted s)) = _
  rw [hx]

/-- R53, R55, R73: what the third clash leaves, where the queue has room. -/
structure ThirdClash (s u : State) : Prop where
  claims   : Claims (s.setLine { s.line with clashes := s.line.clashes + 1, numberClash := true }) u
  told     : Queued (.notice .numberClash (noticeTag s.recipe) s.recipe.cur s.startup.station) u
  noRaise  : NoRaise u
  waits    : AllWait u
  isolated : u.share.link = .isolated
  falls    : s.share.link ≠ .isolated → u.share = { s.share with
    link := .isolated, joinMs := none, isolatedMs := 0, lost := false
    holds := ⟨min s.share.holds.power s.share.floor, 0, 0⟩, fell := u.share.fell }
  tells    : s.share.link ≠ .isolated → Queued (.notice .lineIsolated (noticeTag s.recipe) s.recipe.cur 0) u
  stands   : s.share.link = .isolated → u.share = s.share

theorem thirdClash (h1 : 2 ≤ s.line.clashes) (h2 : s.line.numberClash = false) (hn : unnumbered s = false)
    (hq : HasAtMost 1 1 s.line.queue) (hw : AllWait s) (hr : NoRaise s) : ThirdClash s (countClash s) := by
  have hx : (clashNoted s).share = s.share := by simp [clashNoted]
  have hu : (clashNoted s).startup = s.startup := by simp [clashNoted]
  have hrec : (clashNoted s).recipe = s.recipe := by simp [clashNoted]
  have hc : Claims (s.setLine { s.line with clashes := s.line.clashes + 1, numberClash := true }) (clashNoted s) :=
    (Claims.refl _).notice _ _
  have h0 : HasAtMost 1 1 (s.setLine { s.line with clashes := s.line.clashes + 1, numberClash := true }).line.queue := hq
  have hroom : HasAtMost 2 2 (clashNoted s).line.queue := (h0.enqueue (by omega) (by omega) rfl).1
  have hwait : AllWait (clashNoted s) := AllWait.enqueue (s := s.setLine _) hw
  have hno : NoRaise (clashNoted s) := NoRaise.notice (t := s.setLine _) hr
  have htold : Queued (.notice .numberClash (noticeTag s.recipe) s.recipe.cur s.startup.station) (clashNoted s) :=
    queued_notice (s := s.setLine { s.line with clashes := s.line.clashes + 1, numberClash := true }) hn .numberClash
      s.startup.station
  rw [countClash_third h1 h2]
  by_cases hl : s.share.link = .isolated
  · rw [if_pos hl]
    exact ⟨hc, htold, hno, hwait, by rw [hx, hl], fun h => absurd hl h, fun h => absurd hl h, fun _ => hx⟩
  · rw [if_neg hl]
    have hshare := isolate_share (clashNoted s)
    rw [hx] at hshare
    refine ⟨hc.isolate, hroom.isolate (by omega) (by omega) _ htold rfl, hno.isolate, hwait.isolate, by rw [hshare],
      fun _ => hshare, fun _ => ?_, fun h => absurd h hl⟩
    have := queued_isolate (s := clashNoted s) (by rw [unnumbered, hu]; exact hn)
    rwa [hrec] at this

/-- R73: the third clash of the one frame in the queue. -/
theorem thirdClash_alone (hq : s.line.queue = [⟨f, true⟩]) (hn : unnumbered s = false)
    (hr : s.startup.restarting = false) (hg : GenSettled s) (h1 : 2 ≤ s.line.clashes) (h2 : s.line.numberClash = false) :
    ∃ t, exec .clash s = .next t
      ∧ t.line.state = .busy ∧ t.line.breakSeen = true ∧ sendingFrame t = none ∧ t.line.txBytes = []
      ∧ t.line.clashes = s.line.clashes + 1 ∧ t.line.numberClash = true ∧ t.share.link = .isolated
      ∧ Queued (.notice .numberClash (noticeTag s.recipe) s.recipe.cur s.startup.station) t
      ∧ (∀ p, raiseQueued p t = false)
      ∧ (s.share.link ≠ .isolated →
          t.share.holds = ⟨min s.share.holds.power s.share.floor, 0, 0⟩ ∧ t.share.joinMs = none
          ∧ t.share.isolatedMs = 0 ∧ t.share.lost = false
          ∧ Queued (.notice .lineIsolated (noticeTag s.recipe) s.recipe.cur 0) t)
      ∧ (s.share.link = .isolated → t.share = s.share)
      ∧ t.share.table = s.share.table ∧ t.share.tripSet = s.share.tripSet
      ∧ ProgramStands s t ∧ OnlyTouches [.power, .share, .line, .steam, .descale, .recipe] s t := by
  have hsome : (sendingFrame s).isSome = true := by simp [sendingFrame, hq]
  have halone := breakOff_alone hq .busy true
  obtain ⟨a1, a2, a3⟩ := brokenAlone_short f
  have hc := thirdClash (s := breakOff .busy true s) h1 h2 hn (by rw [halone]; exact a1)
    (by unfold AllWait; rw [halone]; exact a2)
    (fun p => by rw [raiseQueued_false_iff, halone]; exact fun e he => a3 e he p)
  have he : clash s = settle (countClash (breakOff .busy true s)) := if_pos hsome
  generalize countClash (breakOff .busy true s) = u at hc he
  have hv : GenSettled ((breakOff .busy true s).setLine { (breakOff .busy true s).line with
      clashes := (breakOff .busy true s).line.clashes + 1, numberClash := true }) := genSettled_congr hg rfl rfl rfl rfl
  obtain ⟨hx, hl, -, hp, ht⟩ := hc.claims.settled hv
  have hline := Line.still_eq_iff.1 hc.claims.still
  have hru : (settle u).startup = s.startup := ht.2 .startup (by decide)
  have hres : reInitIfDue (clash s) = settle u := by
    rw [he]
    exact reInitIfDue_of_not_restarting (by rw [hru]; exact hr)
  have hqueued : ∀ g, Queued g u → Queued g (settle u) := fun g hg => by
    unfold Queued at *
    rwa [hl]
  have htab : u.share.table = s.share.table ∧ u.share.tripSet = s.share.tripSet := by
    by_cases hk : s.share.link = .isolated
    · rw [hc.stands hk]
      exact ⟨rfl, rfl⟩
    · rw [hc.falls hk]
      exact ⟨rfl, rfl⟩
  refine ⟨_, congrArg Host.Outcome.next hres, ?_, ?_, (hc.waits.same (congrArg Line.queue hl)).sending, ?_, ?_, ?_,
    by rw [hx]; exact hc.isolated, hqueued _ hc.told, ?_, fun hk => ?_, fun hk => by rw [hx]; exact hc.stands hk,
    by rw [hx]; exact htab.1, by rw [hx]; exact htab.2, programStands_of hp rfl, ?_⟩
  · rw [hl, hline]; rfl
  · rw [hl, hline]; rfl
  · rw [hl, hline]; rfl
  · rw [hl, hline]; rfl
  · rw [hl, hline]; rfl
  · exact hc.noRaise.congr (congrArg Line.queue hl)
  · have hf := hc.falls hk
    rw [hx, hf]
    exact ⟨rfl, rfl, rfl, rfl, hqueued _ (hc.tells hk)⟩
  · exact (touches_line_of _ (by decide) _).trans ht

/-- Settles O49: a frame that stops being sent, by each of the four rows. -/
theorem stoppedFramesWaitAgain : Obligations.StoppedFramesWaitAgain :=
  ⟨fun _ _ => lostArbitration, fun _ _ _ => stoppedFrame_waits,
    fun _ _ hq hn hr hg h1 h2 => thirdClash_alone hq hn hr hg h1 h2,
    fun _ _ => stoppedFrame_restarts⟩

end Sys2Proof.Machine

/-!
A frame that carries the own number: the clash it counts, and the effect it has beside (R36, R49, R55, R58, R73).
-/
namespace Sys2Proof.Machine

variable {s t u v : State} {f : TxFrame} {n r : Nat} {q : List QEntry}

/-! ### Room in the queue -/

/-- R76: in a queue with room a frame of another class discards no REPORT. -/
theorem HasAtMost.other (h : HasAtMost n r q) (hn : n < 8) (hf : f.isReport = false) :
    HasAtMost (n + 1) r (enqueueQueue f q)
      ∧ ∀ e ∈ q, e.sending = false → e.frame.isReport = true → e ∈ enqueueQueue f q := by
  have hput : ∀ p : TxFrame → Bool, (∀ g, p g = true → g.isReport = false) →
      HasAtMost (n + 1) r (putFrame p f q) ∧ ∀ e ∈ q, e.sending = false → e.frame.isReport = true → e ∈ putFrame p f q :=
    fun p hp => by
      have hfil := filter_putFrame (q := q) hf hp fun _ => by have := h.1; omega
      refine ⟨⟨?_, ?_⟩, fun e he hs her => ?_⟩
      · unfold putFrame
        split
        · rw [replaceWaiting, List.length_map]
          exact Nat.le_succ_of_le h.1
        · rw [addFrame_of_room h hn, length_insertFrame]
          exact Nat.succ_le_succ h.1
      · rw [List.countP_eq_length_filter, hfil, ← List.countP_eq_length_filter]
        exact h.2
      · have hm : e ∈ q.filter fun e => e.frame.isReport := List.mem_filter.2 ⟨he, her⟩
        rw [← hfil] at hm
        exact (List.mem_filter.1 hm).1
  have hcls : ∀ k, k ≠ 5 → ∀ g : TxFrame, g.cls = k → g.isReport = false := fun k hk g hg => by
    simp [TxFrame.isReport, hg, hk]
  cases f with
  | trip | tripClear => exact hput TxFrame.isSafety fun g hg => hcls 0 (by decide) g (of_decide_eq_true hg)
  | yields => exact hput TxFrame.isYield fun g hg => hcls 2 (by decide) g (of_decide_eq_true hg)
  | status => exact hput TxFrame.isStatus fun g => isReport_of_isStatus
  | lower p g w =>
    obtain ⟨h1, h2⟩ := h.lower (p := p) (g := g) (v := w) hn
    exact ⟨h1, fun e he _ her => h2 e he her⟩
  | raise p g w =>
    show HasAtMost (n + 1) r (if anyWaiting (TxFrame.isLower p) q then q else _)
      ∧ ∀ e ∈ q, e.sending = false → e.frame.isReport = true → e ∈ (if anyWaiting (TxFrame.isLower p) q then q else _)
    split
    · exact ⟨⟨Nat.le_succ_of_le h.1, h.2⟩, fun e he _ _ => he⟩
    · exact hput (TxFrame.isRaise p) fun g => isReport_of_isRaise
  | result | notice | reading => exact absurd hf (by simp [TxFrame.isReport, TxFrame.cls])

/-- R76: in a queue with room no REPORT is discarded. -/
theorem HasAtMost.enters (h : HasAtMost n r q) (hn : n < 8) (hr : r < 5) (f : TxFrame) :
    HasAtMost (n + 1) (r + 1) (enqueueQueue f q)
      ∧ ∀ e ∈ q, e.sending = false → e.frame.isReport = true → e ∈ enqueueQueue f q := by
  cases hf : f.isReport with
  | true =>
    obtain ⟨he, hb⟩ := h.report hn hr hf
    refine ⟨hb, fun e hm _ _ => ?_⟩
    rw [he]
    exact mem_insertFrame_of_mem hm
  | false =>
    obtain ⟨h1, h2⟩ := h.other hn hf
    exact ⟨⟨h1.1, Nat.le_succ_of_le h1.2⟩, h2⟩

/-- A REPORT waits in a queue with room for more frames. -/
structure Roomy (n r : Nat) (e : QEntry) (s : State) : Prop where
  room : HasAtMost n r s.line.queue
  mem  : e ∈ s.line.queue

variable {e : QEntry}

theorem Roomy.mono {n' r' : Nat} (h : Roomy n r e s) (hn : n ≤ n') (hr : r ≤ r') : Roomy n' r' e s :=
  ⟨⟨h.room.1.trans hn, h.room.2.trans hr⟩, h.mem⟩

theorem Roomy.same (h : Roomy n r e s) (hl : t.line.queue = s.line.queue) : Roomy n r e t := ⟨by rw [hl]; exact h.room, hl ▸ h.mem⟩

section
variable (he : e.sending = false ∧ e.frame.isReport = true)
include he

theorem Roomy.enqueue (h : Roomy n r e s) (hn : n < 8) (hr : r < 5) (f : TxFrame) :
    Roomy (n + 1) (r + 1) e (Machine.enqueue f s) := by
  unfold Machine.enqueue
  split
  · exact h.mono (by omega) (by omega)
  · obtain ⟨h1, h2⟩ := h.room.enters hn hr f
    exact ⟨h1, h2 e h.mem he.1 he.2⟩

theorem Roomy.enqueueOther (h : Roomy n r e s) (hn : n < 8) (hf : f.isReport = false) :
    Roomy (n + 1) r e (Machine.enqueueShare f s) := by
  unfold Machine.enqueueShare Machine.enqueue
  (repeat' split)
  · exact h.mono (by omega) le_rfl
  · obtain ⟨h1, h2⟩ := h.room.other hn hf
    exact ⟨h1, h2 e h.mem he.1 he.2⟩
  · exact h.mono (by omega) le_rfl

theorem Roomy.enqueueShare (h : Roomy n r e s) (hn : n < 8) (hr : r < 5) (f : TxFrame) :
    Roomy (n + 1) (r + 1) e (Machine.enqueueShare f s) := by
  unfold Machine.enqueueShare
  split
  · exact h.enqueue he hn hr f
  · exact h.mono (by omega) (by omega)

theorem Roomy.lowerHold (h : Roomy n r e s) (hn : n < 8) (p : Pool) (w : Nat) : Roomy (n + 1) r e (Machine.lowerHold p w s) :=
  let ⟨h1, h2⟩ := h.room.lowerHold hn p w
  ⟨h1, h2 e h.mem he.2⟩

theorem Roomy.dropRaise (h : Roomy n r e s) (p : Pool) : Roomy n r e (Machine.dropRaise p s) :=
  let ⟨h1, h2⟩ := h.room.dropRaise p
  ⟨h1, h2 e h.mem he.2⟩

theorem Roomy.learnOrigin (h : Roomy n r e s) (hn : n < 7) (hr : r < 5) (k : Nat) :
    Roomy (n + 2) (r + 1) e (Machine.learnOrigin k s) := by
  have h1 : Roomy n r e (s.setShare { s.share with tripSet := insertOrigin k s.share.tripSet }) := h.same rfl
  have hadd : Roomy (n + 1) r e (addOrigin k s) := by
    unfold addOrigin dropInlet
    dsimp only
    split
    · exact (h1.lowerHold he (by omega) .inlet 0).dropRaise he .inlet
    · exact h1.mono (by omega) le_rfl
  unfold Machine.learnOrigin
  split
  · exact h.mono (by omega) (by omega)
  · exact hadd.enqueue he (by omega) hr _

theorem Roomy.removeOrigin (h : Roomy n r e s) (hn : n < 7) (hr : r < 5) (k : Nat) :
    Roomy (n + 2) (r + 1) e (Machine.removeOrigin k s) := by
  have h1 : Roomy n r e (s.setShare { s.share with tripSet := s.share.tripSet.filter (· ≠ k) }) := h.same rfl
  unfold Machine.removeOrigin
  dsimp only
  split
  · unfold evalWater
    split
    · exact (h1.enqueueShare he (by omega) hr _).mono (by omega) le_rfl
    · exact h1.mono (by omega) (by omega)
  · exact h1.mono (by omega) (by omega)

/-- R49, R51, R58: a frame with the own number leaves a REPORT that waits. -/
theorem Roomy.contentEffect (h : Roomy n r e s) (hn : n < 6) (hr : r < 4) (vetoed : Bool) (content : FrameContent) :
    Roomy 8 5 e (Machine.contentEffect s.startup.station vetoed content s) := by
  have hst : Roomy 8 5 e s := h.mono (by omega) (by omega)
  have hrec : ∀ g, record s.startup.station g s = s := fun g => if_pos rfl
  have hlearn := fun k => (h.learnOrigin he (by omega) (by omega) k).mono (n' := 8) (r' := 5) (by omega) (by omega)
  have hremove := fun k => (h.removeOrigin he (by omega) (by omega) k).mono (n' := 8) (r' := 5) (by omega) (by omega)
  cases content with
  | raise p g w =>
    show Roomy 8 5 e (if vetoed = true then s else recordShare s.startup.station p g w s)
    rw [show recordShare s.startup.station p g w s = s from hrec _, ite_self]
    exact hst
  | lower p g w =>
    show Roomy 8 5 e (if vetoed = true then s else recordShare s.startup.station p g w s)
    rw [show recordShare s.startup.station p g w s = s from hrec _, ite_self]
    exact hst
  | command => exact hst
  | report => exact hst
  | yields g w =>
    show Roomy 8 5 e (takeYield g w s)
    unfold takeYield
    split
    · have h1 : Roomy n r e (s.setShare { s.share with backoffMs := some 0 }) := h.same rfl
      exact (h1.lowerHold he (by omega) .power _).mono (by omega) (by omega)
    · exact hst
  | trip type origin g =>
    show Roomy 8 5 e (takeWaterTrip type origin g s)
    unfold takeWaterTrip
    split
    · exact hlearn _
    · exact hst
  | tripClear type origin g =>
    show Roomy 8 5 e (takeTripClear s.startup.station type origin g s)
    unfold takeTripClear
    (repeat' split) <;> first | exact hst | exact hremove _
  | status b =>
    show Roomy 8 5 e (if vetoed = true then s else recordStatus s.startup.station b s)
    split
    · exact hst
    · unfold recordStatus
      dsimp only
      rw [hrec]
      have h1 : Roomy (n + 1) (r + 1) e (if statusCallsForAnswer s.startup.station b s then queueStatus s else s) := by
        split
        · exact (h.enqueueShare he (by omega) (by omega) .status).same rfl
        · exact h.mono (by omega) (by omega)
      generalize (if statusCallsForAnswer s.startup.station b s then queueStatus s else s) = y at h1 ⊢
      unfold leakFlag
      (repeat' split)
      · exact (h1.learnOrigin he (by omega) (by omega) _).mono (by omega) (by omega)
      · exact (h1.removeOrigin he (by omega) (by omega) _).mono (by omega) (by omega)
      · exact h1.mono (by omega) (by omega)

end

end Sys2Proof.Machine

/-!
A frame that carries the own number, from its opening mark to what settles (R36, R49, R55, R58, R73).
-/
namespace Sys2Proof.Machine

variable {s t u c h : State} {n r : Nat} {e : QEntry}

theorem Roomy.isolate (he : e.sending = false ∧ e.frame.isReport = true) (h : Roomy n r e s) (hn : n < 4) (hr : r < 5) :
    Roomy (n + 4) (r + 1) e (Machine.isolate s) := by
  have h0 : Roomy n r e (s.setShare { s.share with link := .isolated, joinMs := none, isolatedMs := 0, lost := false }) := h.same rfl
  exact (((((((h0.lowerHold he (by omega) .power (min s.share.holds.power s.share.floor)).lowerHold he (by omega) .inlet 0).lowerHold
    he (by omega) .drain 0).dropRaise he .power).dropRaise he .inlet).dropRaise he .drain).enqueue he (by omega) hr
      (.notice .lineIsolated _ _ noDetail) :)

/-! ### The clash that it counts -/

/-- The frame before its clash is counted. -/
def ownBegun (driven : Bool) (s : State) : State := s.setLine { s.line with
  state := .busy, breakSeen := false, txBytes := if (sendingFrame s).isSome then [] else s.line.txBytes
  queue := stopQueue s.line.queue, malformed := 0, verdictDriven := driven }

theorem takeFrame_own (hf : LineFree s) (driven : Bool) :
    takeFrame s.startup.station driven (beginReceive s) = countClash (ownBegun driven s) := by
  obtain ⟨-, hraise, -, hrest⟩ := hf
  rw [beginReceive_of_free hraise hrest]
  exact if_pos rfl

/-- What a frame with the own number finds of the state, its clash counted (R73). -/
structure OwnHeard (s c h : State) : Prop where
  base    : OnlyTouches [.line] s c
  clashes : c.line.clashes = s.line.clashes + 1
  queue   : c.line.queue = []
  claims  : Claims c h
  table   : h.share.table = s.share.table ∧ h.share.tripSet = s.share.tripSet
  third   : 2 ≤ s.line.clashes → s.line.numberClash = false → c.line.numberClash = true ∧ h.share.link = .isolated
    ∧ Roomy 5 2 ⟨.notice .numberClash (noticeTag s.recipe) s.recipe.cur s.startup.station, false⟩ h
  counted : s.line.clashes < 2 ∨ s.line.numberClash = true → c.line.numberClash = s.line.numberClash ∧ h = c
  quiet   : ∀ e ∈ h.line.queue, e.frame.isStatus = false

/-- No STATUS is in the queue. -/
def NoStatus (s : State) : Prop := ∀ e ∈ s.line.queue, e.frame.isStatus = false

theorem NoStatus.same (hs : NoStatus s) (hl : t.line.queue = s.line.queue) : NoStatus t := fun e he => hs e (hl ▸ he)

theorem NoStatus.enqueue {f : TxFrame} (hs : NoStatus s) (hf : f.isStatus = false) : NoStatus (enqueue f s) := by
  unfold Machine.enqueue
  split
  · exact hs
  · intro e he
    obtain rfl | he := mem_enqueueQueue he
    · exact hf
    · exact hs e he

theorem NoStatus.enqueueShare {f : TxFrame} (hs : NoStatus s) (hf : f.isStatus = false) : NoStatus (enqueueShare f s) := by
  unfold Machine.enqueueShare
  split
  · exact hs.enqueue hf
  · exact hs

theorem NoStatus.lowerHold {p : Pool} {v : Nat} (hs : NoStatus s) : NoStatus (lowerHold p v s) := by
  obtain hl | hl := lowerHold_queue p v s
  · exact hs.same (by rw [hl])
  · intro e he
    rw [hl] at he
    obtain rfl | he := mem_enqueueQueue (f := .lower p (ownGroup s.startup.supply p) v) (q := s.line.queue) he
    · rfl
    · exact hs e he

theorem NoStatus.dropRaise {p : Pool} (hs : NoStatus s) : NoStatus (dropRaise p s) := fun e he => hs e (List.mem_filter.1 he).1

theorem NoStatus.isolate (hs : NoStatus s) : NoStatus (isolate s) := by
  have h0 : NoStatus (s.setShare { s.share with link := .isolated, joinMs := none, isolatedMs := 0, lost := false }) := hs
  exact h0.lowerHold.lowerHold.lowerHold.dropRaise.dropRaise.dropRaise.enqueue rfl

theorem NoStatus.learnOrigin {k : Nat} (hs : NoStatus s) : NoStatus (learnOrigin k s) := by
  have h1 : NoStatus (s.setShare { s.share with tripSet := insertOrigin k s.share.tripSet }) := hs
  have hadd : NoStatus (addOrigin k s) := by
    unfold addOrigin dropInlet
    dsimp only
    split
    · exact h1.lowerHold.dropRaise
    · exact h1
  unfold Machine.learnOrigin
  split
  · exact hs
  · exact hadd.enqueue rfl

theorem NoStatus.removeOrigin {k : Nat} (hs : NoStatus s) : NoStatus (removeOrigin k s) := by
  have h1 : NoStatus (s.setShare { s.share with tripSet := s.share.tripSet.filter (· ≠ k) }) := hs
  unfold Machine.removeOrigin
  dsimp only
  split
  · unfold evalWater
    split
    · exact h1.enqueueShare rfl
    · exact h1
  · exact h1

theorem touches_line_trans {x : Line} : OnlyTouches [.line] s (s.setLine x) := touches_line_of _ (by decide) x

theorem ownHeard (hf : LineFree s) (hq : s.line.queue = []) (driven : Bool) :
    ∃ c, OwnHeard s c (takeFrame s.startup.station driven (beginReceive s)) := by
  rw [takeFrame_own hf]
  have hbq : (ownBegun driven s).line.queue = [] := by
    show stopQueue s.line.queue = []
    rw [hq]
    rfl
  by_cases h3 : 2 ≤ s.line.clashes ∧ s.line.numberClash = false
  · obtain ⟨h1, h2⟩ := h3
    have ht := thirdClash (s := ownBegun driven s) h1 h2 hf.1 (by rw [hbq]; exact ⟨by simp, by simp⟩)
      (by unfold AllWait; rw [hbq]; simp) (fun p => by rw [raiseQueued_false_iff, hbq]; simp)
    have he : (⟨.notice .numberClash (noticeTag s.recipe) s.recipe.cur s.startup.station, false⟩ : QEntry).sending = false
        ∧ (⟨.notice .numberClash (noticeTag s.recipe) s.recipe.cur s.startup.station, false⟩ : QEntry).frame.isReport = true := ⟨rfl, rfl⟩
    have hnq : HasAtMost 1 1 (clashNoted (ownBegun driven s)).line.queue := by
      have h0 : HasAtMost 0 0 ((ownBegun driven s).setLine { (ownBegun driven s).line with
          clashes := (ownBegun driven s).line.clashes + 1, numberClash := true }).line.queue := by
        show HasAtMost 0 0 (ownBegun driven s).line.queue
        rw [hbq]
        exact ⟨by simp, by simp⟩
      exact (h0.enqueue (by omega) (by omega) rfl).1
    have hnm : Roomy 1 1 ⟨.notice .numberClash (noticeTag s.recipe) s.recipe.cur s.startup.station, false⟩
        (clashNoted (ownBegun driven s)) :=
      ⟨hnq, queued_notice (s := (ownBegun driven s).setLine { (ownBegun driven s).line with
        clashes := (ownBegun driven s).line.clashes + 1, numberClash := true }) hf.1 .numberClash s.startup.station⟩
    have hns : NoStatus (clashNoted (ownBegun driven s)) := by
      have h0 : NoStatus ((ownBegun driven s).setLine { (ownBegun driven s).line with
          clashes := (ownBegun driven s).line.clashes + 1, numberClash := true }) := fun e he => by
        have : e ∈ (ownBegun driven s).line.queue := he
        rw [hbq] at this
        simp at this
      exact h0.enqueue rfl
    have htab : (countClash (ownBegun driven s)).share.table = s.share.table
        ∧ (countClash (ownBegun driven s)).share.tripSet = s.share.tripSet := by
      by_cases hk : s.share.link = .isolated
      · rw [ht.stands hk]
        exact ⟨rfl, rfl⟩
      · rw [ht.falls hk]
        exact ⟨rfl, rfl⟩
    refine ⟨(ownBegun driven s).setLine { (ownBegun driven s).line with
        clashes := (ownBegun driven s).line.clashes + 1, numberClash := true }, touches_line_trans, rfl, hbq, ht.claims, htab, fun _ _ => ⟨rfl, ht.isolated, ?_⟩, fun h => ?_, ?_⟩
    · rw [countClash_third (s := ownBegun driven s) h1 h2]
      split
      · exact hnm.mono (by omega) (by omega)
      · exact hnm.isolate he (by omega) (by omega)
    · obtain h | h := h
      · omega
      · exact absurd (h.symm.trans h2) (by decide)
    · rw [countClash_third (s := ownBegun driven s) h1 h2]
      split
      · exact hns
      · exact hns.isolate
  · have hcount : s.line.clashes < 2 ∨ s.line.numberClash = true := by
      by_cases hc : s.line.clashes < 2
      · exact .inl hc
      · refine .inr ?_
        by_contra hn
        exact h3 ⟨by omega, by simpa using hn⟩
    rw [countClash_counts (s := ownBegun driven s) hcount]
    refine ⟨(ownBegun driven s).setLine { (ownBegun driven s).line with
        clashes := (ownBegun driven s).line.clashes + 1 }, touches_line_trans, rfl, hbq, .refl _, ⟨rfl, rfl⟩, fun h1 h2 => absurd ⟨h1, h2⟩ h3, fun _ => ⟨rfl, rfl⟩, ?_⟩
    show ∀ e ∈ (ownBegun driven s).line.queue, _
    rw [hbq]
    simp

/-! ### The closing mark -/

/-- Behind its closing mark such a frame leaves what it has claimed, and what settles. -/
theorem Claims.closesIdle (hc : Claims c u) (hg : GenSettled c) (hr : c.share.redecide = PerPool.all false) :
    (settle (markClosed u)).share = u.share
      ∧ (settle (markClosed u)).line = { u.line with state := .idle, breakSeen := false }
      ∧ ProgramStands c (settle (markClosed u))
      ∧ OnlyTouches [.power, .share, .line, .steam, .descale, .recipe] c (settle (markClosed u)) := by
  obtain ⟨hp, hu, hcl, hm, hd, hrc, hv⟩ := hc.blocks
  rw [markClosed_of_none (hc.redecide.trans hr)]
  have hi : Claims (c.setLine { c.line with state := .idle, breakSeen := false })
      (u.setLine { u.line with state := .idle, breakSeen := false }) := by
    refine .of hp hu hcl hm hd hrc hv ?_ hc.redecide hc.power
    have hl := Line.still_eq_iff.1 hc.still
    rw [Line.still_eq_iff]
    show { u.line with state := .idle, breakSeen := false } = _
    rw [hl]
    rfl
  obtain ⟨hx, hl, -, hpr, ht⟩ := hi.settled (genSettled_congr hg rfl rfl rfl rfl)
  exact ⟨hx, hl, programStands_of hpr rfl, (touches_line_of _ (by decide) _).trans ht⟩

theorem claims_contentEffect (n : Nat) (vetoed : Bool) (content : FrameContent) (s : State) :
    Claims s (contentEffect n vetoed content s) := by
  have h0 := Claims.refl s
  cases content with
  | raise p g w => exact .choice h0 (h0.record n _)
  | lower p g w => exact .choice h0 (h0.record n _)
  | command => exact h0
  | report => exact h0
  | yields g w => exact h0.takeYield g w
  | trip type origin g => exact h0.takeWaterTrip type origin g
  | tripClear type origin g => exact h0.takeTripClear n type origin g
  | status b => exact .choice h0 (h0.recordStatus n b)

/-- R36, R73: no entry is created or changed under the own number. -/
theorem contentEffect_own_table (vetoed : Bool) (content : FrameContent) (hn : n = s.startup.station) :
    (contentEffect n vetoed content s).share.table = s.share.table := by
  subst hn
  have hrec : ∀ g, record s.startup.station g s = s := fun g => if_pos rfl
  cases content with
  | raise p g w =>
    show (if vetoed = true then s else recordShare s.startup.station p g w s).share.table = _
    rw [show recordShare s.startup.station p g w s = s from hrec _, ite_self]
  | lower p g w =>
    show (if vetoed = true then s else recordShare s.startup.station p g w s).share.table = _
    rw [show recordShare s.startup.station p g w s = s from hrec _, ite_self]
  | command => rfl
  | report => rfl
  | yields g w => exact (takeYield_fields g w s).2.2.2.1
  | trip type origin g => exact (takeWaterTrip_fields type origin g s).2.2.1
  | tripClear type origin g => exact (takeTripClear_fields _ type origin g s).2.2.2.1
  | status b =>
    show (if vetoed = true then s else recordStatus s.startup.station b s).share.table = _
    split
    · rfl
    · unfold recordStatus
      dsimp only
      rw [hrec]
      split <;> simp

end Sys2Proof.Machine

/-!
The row of a frame that carries the own number, put together (R36, R49, R55, R58, R73).
-/
namespace Sys2Proof.Machine

variable {s t u c h : State}

theorem station_ne_zero (hf : LineFree s) : s.startup.station ≠ 0 := by
  have := hf.1
  simp only [unnumbered, Bool.or_eq_false_iff, decide_eq_false_iff_not] at this
  exact this.1.1

theorem ownNumber_exec (hf : LineFree s) (content : FrameContent) (otherVeto : Bool) :
    exec (.ownNumberFrame content otherVeto) s = .next (settle (markClosed (contentEffect s.startup.station
      (contentVeto (beginReceive s) s.startup.station content || otherVeto) content (takeFrame s.startup.station
        (contentVeto (beginReceive s) s.startup.station content) (beginReceive s))))) :=
  congrArg Host.Outcome.next (receiveFrame_of_free hf (station_ne_zero hf) content otherVeto)

/-- The state in which the clash is counted is, but for the line, the one before. -/
theorem OwnHeard.free (hh : OwnHeard s c h) (hf : LineFree s) (hg : GenSettled s) :
    GenSettled c ∧ c.share.redecide = PerPool.all false ∧ h.startup = s.startup ∧ h.recipe = s.recipe := by
  have hu := hh.base.2 .startup (by decide)
  have hr := hh.base.2 .recipe (by decide)
  have hm := hh.base.2 .steam (by decide)
  have hx := hh.base.2 .share (by decide)
  have hu' : c.startup = s.startup := hu
  have hr' : c.recipe = s.recipe := hr
  have hm' : c.steam = s.steam := hm
  have hx' : c.share = s.share := hx
  obtain ⟨-, hhu, -, -, -, hhr, -⟩ := hh.claims.blocks
  refine ⟨genSettled_congr hg (steamWanted_congr (by rw [hr']) (fun _ => by rw [hr']; exact ⟨rfl, rfl⟩) (by rw [hm'])
    (by rw [hm']) (by rw [hu'])) (by rw [hm']) (by rw [hu']) (by rw [hu']), ?_, hhu.trans hu', hhr.trans hr'⟩
  rw [hx']
  exact hf.2.2.1

/-- What stands behind the closing mark of a frame with the own number. -/
theorem OwnHeard.closes (hh : OwnHeard s c h) (hf : LineFree s) (hg : GenSettled s) (hc : Claims h u) :
    (settle (markClosed u)).share = u.share
      ∧ (settle (markClosed u)).line = { c.line with state := .idle, breakSeen := false, queue := u.line.queue }
      ∧ ProgramStands s (settle (markClosed u))
      ∧ OnlyTouches [.power, .share, .line, .steam, .descale, .recipe] s (settle (markClosed u)) := by
  obtain ⟨hgc, hred, -, -⟩ := hh.free hf hg
  have hall := hh.claims.trans hc
  obtain ⟨hx, hl, hp, ht⟩ := hall.closesIdle hgc hred
  refine ⟨hx, ?_, programStands_of hp (hh.base.2 .recipe (by decide)), (hh.base.mono (by decide)).trans ht⟩
  rw [hl, Line.still_eq_iff.1 hall.still]

/-- R73, R55: the clash. -/
theorem ownNumber_counts (hf : LineFree s) (hg : GenSettled s) (hq : s.line.queue = []) (content : FrameContent)
    (otherVeto : Bool) :
    ∃ t, exec (.ownNumberFrame content otherVeto) s = .next t
      ∧ t.line.clashes = s.line.clashes + 1 ∧ t.share.table = s.share.table ∧ t.line.state = .idle
      ∧ (2 ≤ s.line.clashes → s.line.numberClash = false →
          t.line.numberClash = true ∧ t.share.link = .isolated
          ∧ Queued (.notice .numberClash (noticeTag s.recipe) s.recipe.cur s.startup.station) t)
      ∧ (s.line.clashes < 2 ∨ s.line.numberClash = true →
          t.line.numberClash = s.line.numberClash ∧ t.share.link = s.share.link)
      ∧ ProgramStands s t ∧ OnlyTouches [.power, .share, .line, .steam, .descale, .recipe] s t := by
  refine ⟨_, ownNumber_exec hf content otherVeto, ?_⟩
  generalize contentVeto (beginReceive s) s.startup.station content = driven
  obtain ⟨c, hh⟩ := ownHeard hf hq driven
  have hhu := (hh.free hf hg).2.2.1
  generalize takeFrame s.startup.station driven (beginReceive s) = h at hh hhu
  have hstation : s.startup.station = h.startup.station := by rw [hhu]
  obtain ⟨hx, hl, hp, ht⟩ := hh.closes hf hg (claims_contentEffect s.startup.station (driven || otherVeto) content h)
  have htab := contentEffect_own_table (s := h) (driven || otherVeto) content hstation
  have hlink := (contentEffect_fields s.startup.station (driven || otherVeto) content h).2.1
  refine ⟨by rw [hl]; exact hh.clashes, by rw [hx, htab]; exact hh.table.1, by rw [hl], fun h1 h2 => ?_, fun hk => ?_, hp, ht⟩
  · obtain ⟨k1, k2, k3⟩ := hh.third h1 h2
    have hroom := k3.contentEffect ⟨rfl, rfl⟩ (by omega) (by omega) (driven || otherVeto) content
    rw [← hstation] at hroom
    refine ⟨by rw [hl]; exact k1, by rw [hx, hlink]; exact k2, ?_⟩
    unfold Queued
    rw [hl]
    exact hroom.mem
  · obtain ⟨k1, k2⟩ := hh.counted hk
    have hxc : c.share = s.share := hh.base.2 .share (by decide)
    exact ⟨by rw [hl]; exact k1, by rw [hx, hlink, k2, hxc]⟩

/-! ### A STATUS with the own number -/

theorem recordStatus_own (b : StatusBody) (s : State) : recordStatus s.startup.station b s
    = leakFlag s.startup.station b (if b.joining then queueStatus s else s) := by
  unfold recordStatus
  dsimp only
  rw [show record s.startup.station (fun _ => statusEntry s.startup.station b) s = s from if_pos rfl,
    show statusCallsForAnswer s.startup.station b s = b.joining from if_pos rfl]

theorem NoStatus.leakFlag {n : Nat} {b : StatusBody} (hs : NoStatus s) : NoStatus (leakFlag n b s) := by
  unfold Machine.leakFlag
  (repeat' split)
  · exact hs.learnOrigin
  · exact hs.removeOrigin
  · exact hs

/-- R49, R58: a STATUS with the own number answers and acts on the water, and makes no entry. -/
theorem ownStatus_taken (hf : LineFree s) (hg : GenSettled s) (hq : s.line.queue = []) (hfz : frozen s = true)
    (b : StatusBody) :
    ∃ t, exec (.ownNumberFrame (.status b) false) s = .next t
      ∧ t.share.table = s.share.table
      ∧ (b.joining = true → Queued .status t)
      ∧ (b.joining = false → ∀ e ∈ t.line.queue, e.frame.isStatus = false)
      ∧ (b.waterGroup.toNat = s.startup.supply.waterGroup → b.leak = true →
          s.startup.station ∈ t.share.tripSet ∧ (s.share.tripSet = [] → t.share.holds.inlet = 0)
          ∧ (s.startup.station ∉ s.share.tripSet →
              Queued (.notice .waterTrip (noticeTag s.recipe) s.recipe.cur s.startup.station) t))
      ∧ (b.waterGroup.toNat = s.startup.supply.waterGroup → b.leak = false → s.startup.station ∉ t.share.tripSet)
      ∧ (b.waterGroup.toNat ≠ s.startup.supply.waterGroup → t.share.tripSet = s.share.tripSet)
      ∧ (∀ m : Nat, m ≠ s.startup.station → (m ∈ t.share.tripSet ↔ m ∈ s.share.tripSet)) := by
  refine ⟨_, ownNumber_exec hf (.status b) false, ?_⟩
  show _ ∧ _
  rw [show contentVeto (beginReceive s) s.startup.station (.status b) = false from rfl]
  obtain ⟨c, hh⟩ := ownHeard hf hq false
  obtain ⟨-, -, hhu, hhr⟩ := hh.free hf hg
  generalize takeFrame s.startup.station false (beginReceive s) = h at hh hhu hhr
  obtain ⟨hx, hl, -, -⟩ := hh.closes hf hg (claims_contentEffect s.startup.station (false || false) (.status b) h)
  have he : contentEffect s.startup.station (false || false) (.status b) h
      = leakFlag s.startup.station b (if b.joining then queueStatus h else h) := by
    rw [← hhu]
    exact recordStatus_own b h
  have htab := contentEffect_own_table (s := h) (n := s.startup.station) (false || false) (.status b) (by rw [hhu])
  have htrip : (if b.joining then queueStatus h else h).share.tripSet = s.share.tripSet := by
    split
    · simp [hh.table.2]
    · exact hh.table.2
  have hbu : (if b.joining then queueStatus h else h).startup = s.startup := by
    split
    · simp [hhu]
    · exact hhu
  have hbr : (if b.joining then queueStatus h else h).recipe = s.recipe := by
    split
    · simp [hhr]
    · exact hhr
  have hnum : unnumbered (if b.joining then queueStatus h else h) = false := by rw [unnumbered, hbu]; exact hf.1
  rw [he] at hx hl htab
  rw [he]
  have hqueued : ∀ g, Queued g (leakFlag s.startup.station b (if b.joining then queueStatus h else h)) →
      Queued g (settle (markClosed (leakFlag s.startup.station b (if b.joining then queueStatus h else h)))) := fun g hg => by
    unfold Queued at *
    rwa [hl]
  obtain ⟨-, hother, hlearn, hgone⟩ := leakFlag_share s.startup.station b (if b.joining then queueStatus h else h)
  rw [hbu] at hlearn hgone
  obtain ⟨lmem, -, -, linlet⟩ := learnOrigin_share s.startup.station (if b.joining then queueStatus h else h)
  refine ⟨by rw [hx, htab]; exact hh.table.1, fun hj => hqueued _ (Queued.status_leakFlag ?_ _ _), fun hj e he => ?_,
    fun hw hk => ⟨?_, fun hz => ?_, fun hm => hqueued _ ?_⟩, fun hw hk => by rw [hx]; exact hgone hw hk, fun hw => ?_,
    fun m hm => ?_⟩
  · rw [if_pos hj]
    exact queued_queueStatus (by rw [frozen, hhu]; exact hfz) (by rw [unnumbered, hhu]; exact hf.1)
  · rw [hl] at he
    have hb : NoStatus (if b.joining then queueStatus h else h) := by
      rw [if_neg (by simp [hj])]
      exact hh.quiet
    exact hb.leakFlag e he
  · rw [hx, hlearn hw hk]
    exact (lmem _).2 (.inl rfl)
  · rw [hx, hlearn hw hk]
    exact linlet (htrip.trans hz)
  · rw [hlearn hw hk]
    have := queued_learnOrigin hnum (n := s.startup.station) (by rw [htrip]; exact hm)
    rwa [hbr] at this
  · rw [hx, leakFlag, if_neg (by rw [hbu]; exact hw), htrip]
  · rw [hx, hother m hm, htrip]

/-- Settles O50: the clash that a frame with the own number counts, and the STATUS taken beside. -/
theorem ownNumberCountsAClash : Obligations.OwnNumberCountsAClash :=
  ⟨fun _ content otherVeto hf hg hq => ownNumber_counts hf hg hq content otherVeto,
    fun _ b hf hg hq hfz => ownStatus_taken hf hg hq hfz b⟩

end Sys2Proof.Machine

/-!
Malformed frames, and frames that no block takes (R45, R62, R68 to R71, R74).
-/
namespace Sys2Proof.Machine

variable {s t u : State}

/-! ### A malformed frame -/

/-- The state in which a frame on a free line is judged. -/
def frameOpened (s : State) : State := s.setLine { s.line with
  state := .busy, breakSeen := false, txBytes := if (sendingFrame s).isSome then [] else s.line.txBytes
  queue := stopQueue s.line.queue }

/-- What a malformed frame leaves: the line state at its end, the count, and the verdict slot. -/
def malformedLeft (st : LineState) (ab driven : Bool) (s : State) : State := s.setLine { s.line with
  state := st, breakSeen := ab, txBytes := if (sendingFrame s).isSome then [] else s.line.txBytes
  queue := stopQueue s.line.queue, malformed := s.line.malformed + 1, verdictDriven := driven }

theorem setShare_same {x : Share} (h : x = s.share) : s.setShare x = s := by
  rw [h]
  rfl

theorem markClosed_malformed (hr : s.share.redecide = PerPool.all false) (driven : Bool) :
    markClosed (countMalformed driven (frameOpened s)) = malformedLeft .idle false driven s := by
  rw [markClosed_of_none (s := countMalformed driven (frameOpened s)) hr]
  rfl

theorem markLost_malformed (hr : s.share.redecide = PerPool.all false) (st : LineState) (ab driven : Bool) :
    markLost st ab (countMalformed driven (frameOpened s)) = malformedLeft st ab driven s := by
  have h : markLost st ab (countMalformed driven (frameOpened s))
      = (malformedLeft st ab driven s).setShare { s.share with redecide := PerPool.all false } := rfl
  rw [h]
  exact setShare_same (s := malformedLeft st ab driven s) (by rw [← hr]; rfl)

/-- R68, R70: how a malformed frame ends, by its ground. -/
def malformedEnd : MalformGround → LineState × Bool
  | .lengthAbove24 => (.wait, false)
  | .breakInside => (.busy, true)
  | .closingMarkDominant _ _ => (.busy, true)
  | _ => (.idle, false)

/-- R68, R71: what the station does in the verdict slot of a malformed frame. -/
def malformedDriven (s : State) : MalformGround → Bool
  | .lengthAbove24 => false
  | .breakInside => false
  | .closingMarkDominant sender content => closingMarkVeto sender content s
  | _ => malformedVeto s

theorem closingMarkVeto_opened (sender : Nibble) (content : Option FrameContent) (s : State) :
    closingMarkVeto sender content (frameOpened s) = closingMarkVeto sender content s := by
  cases content with
  | none => rfl
  | some c => cases c <;> rfl

theorem malformedFrame_of_free (hf : LineFree s) (g : MalformGround) : malformedFrame g s
    = malformedLeft (malformedEnd g).1 (malformedEnd g).2 (malformedDriven s g) s := by
  obtain ⟨hn, hraise, hred, hrest⟩ := hf
  have ho : beginReceive s = frameOpened s := beginReceive_of_free hraise hrest
  rw [malformedFrame, if_neg (by simp [hn]), ho]
  cases g with
  | lengthAbove24 => exact markLost_malformed hred .wait false false
  | breakInside => exact markLost_malformed hred .busy true false
  | closingMarkDominant sender content =>
    refine (markLost_malformed hred .busy true _).trans ?_
    rw [closingMarkVeto_opened]
    rfl
  | _ => exact markClosed_malformed hred (malformedVeto s)

/-- A sender's number that is legal is not 0. -/
theorem closingMarkVeto_content {n : Nibble} (hn : senderOk n = true) (c : FrameContent) (s : State) :
    closingMarkVeto n (some c) s = contentVeto s n.toNat c := by
  have h0 : n ≠ 0 := by
    rintro rfl
    simp [senderOk] at hn
  exact if_neg h0

/-- R45: the verdict slot of a RAISE, by capacity or trip set. -/
theorem raiseVeto_iff (s : State) (n : Nat) (p : Pool) (group : Byte) (hold : Word16) : raiseVeto s n p group hold =
    (decide (group.toNat = ownGroup s.startup.supply p ∧ s.share.link ≠ .joining
        ∧ poolCapacity s.startup.supply p
          < (((s.share.table.filter fun e => e.station ≠ n).map (charge s p)).sum + s.share.holds.get p + holdTaken p hold))
      || decide (p = .inlet ∧ group.toNat = s.startup.supply.waterGroup ∧ s.share.tripSet ≠ [])) := by
  rw [Bool.eq_iff_iff]
  simp [raiseVeto, capacityVeto, tripVeto, chargesWithout, and_assoc]

theorem malformed_taken (hf : LineFree s) {g : MalformGround} (hg : groundOk g = true) :
    ∃ t, exec (.malformedFrame g) s = .next t
      ∧ t.line.malformed = s.line.malformed + 1
      ∧ (closingMarkOf g = none →
          t.line.verdictDriven = (decide (s.line.malformed < 8) && decide (g ≠ .lengthAbove24 ∧ g ≠ .breakInside))
          ∧ t.line.state = (if g = .lengthAbove24 then .wait else if g = .breakInside then .busy else .idle)
          ∧ t.line.breakSeen = decide (g = .breakInside))
      ∧ ((closingMarkOf g).isSome = true → t.line.state = .busy ∧ t.line.breakSeen = true)
      ∧ (closingMarkOf g = some none → t.line.verdictDriven = decide (s.line.malformed < 8))
      ∧ (∀ (n : Nibble) (p : Pool) (group : Byte) (hold : Word16),
          g = .closingMarkDominant n (some (.raise p group hold)) →
          t.line.verdictDriven =
            (decide (group.toNat = ownGroup s.startup.supply p ∧ s.share.link ≠ .joining
                ∧ poolCapacity s.startup.supply p
                  < (((s.share.table.filter fun e => e.station ≠ n.toNat).map (charge s p)).sum
                    + s.share.holds.get p + holdTaken p hold))
              || decide (p = .inlet ∧ group.toNat = s.startup.supply.waterGroup ∧ s.share.tripSet ≠ [])))
      ∧ (∀ n dest : Nibble, g = .closingMarkDominant n (some (.command dest)) →
          t.line.verdictDriven = decide (dest.toNat = s.startup.station ∧ n.toNat ≠ s.startup.partner))
      ∧ (∀ (n : Nibble) (c : FrameContent), g = .closingMarkDominant n (some c) →
          (∀ (p : Pool) (group : Byte) (hold : Word16), c ≠ .raise p group hold) → (∀ dest : Nibble, c ≠ .command dest) →
          t.line.verdictDriven = false)
      ∧ t.line.clashes = s.line.clashes ∧ OnlyTouches [.line] s t := by
  have hveto : malformedVeto s = decide (s.line.malformed < 8) := by
    simp [malformedVeto, suspended]
    by_cases h : s.line.malformed < 8 <;> simp [h]
    omega
  refine ⟨_, congrArg Host.Outcome.next (malformedFrame_of_free hf g), rfl, fun h => ?_, fun h => ?_, fun h => ?_,
    fun n p group hold h => ?_, fun n dest h => ?_, fun n c h h1 h2 => ?_, rfl, touches_line_of _ (by decide) _⟩
  · cases g with
    | closingMarkDominant => exact absurd h (by simp [closingMarkOf])
    | _ => simp [malformedLeft, malformedEnd, malformedDriven, hveto]
  · cases g with
    | closingMarkDominant => exact ⟨rfl, rfl⟩
    | _ => exact absurd h (by simp [closingMarkOf])
  · cases g with
    | closingMarkDominant sender content =>
      obtain rfl : content = none := Option.some.inj h
      exact hveto
    | _ => exact absurd h (by simp [closingMarkOf])
  · subst h
    exact (closingMarkVeto_content (by simpa [groundOk] using hg) _ s).trans (raiseVeto_iff s n.toNat p group hold)
  · subst h
    refine (closingMarkVeto_content (by simpa [groundOk] using hg) _ s).trans ?_
    show (decide (dest.toNat = s.startup.station) && decide (n.toNat ≠ s.startup.partner)) = _
    rw [Bool.decide_and]
  · subst h
    refine (closingMarkVeto_content (by simpa [groundOk] using hg) _ s).trans ?_
    cases c with
    | raise p group hold => exact absurd rfl (h1 p group hold)
    | command dest => exact absurd rfl (h2 dest)
    | _ => rfl

/-! ### A frame that no block takes -/

/-- R69, R71: a frame without an effect of its own tells that its sender is there. -/
theorem frame_heard {n : Nibble} {content : FrameContent} {driven : Bool} (hf : LineFree s) (hg : GenSettled s)
    (hn0 : n ≠ 0) (hn : n.toNat ≠ s.startup.station) (hc : ∀ v u, contentEffect n.toNat v content u = u)
    (hd : contentVeto (beginReceive s) n.toNat content = driven) :
    ∃ t, Host.Outcome.next (receiveFrame n.toNat content false s) = (.next t : Host.Outcome State Fault Refusal)
      ∧ FrameClosed driven s t ∧ SenderHeard n.toNat s t ∧ SettlesOnly s t ∧ ProgramStands s t
      ∧ OnlyTouches [.power, .share, .line, .steam, .descale, .recipe] s t := by
  refine ⟨_, congrArg Host.Outcome.next (receiveFrame_of_free hf (nibble_toNat_ne hn0) content false), ?_⟩
  rw [hc, hd]
  have hh := heardFrom_takeFrame (driven := driven) hf hn
  obtain ⟨h1, h2, h3, -, h5, h6, h7, h8, h9⟩ := hh.aside hf hg (.refl _) (.refl _)
  obtain ⟨bp, bu, bc, -, -, -, br, bv⟩ := hh.blocks
  refine ⟨h1, h2, h3, ?_, onlyTouches_descaling (h9.trans bp) (h6.trans bu) (h7.trans bc) (h8.trans bv)⟩
  unfold ProgramStands
  rw [h5, br]

/-- Settles O51: malformed frames, the partner check, and frames that no block takes. -/
theorem framesAreVetoedAndHeard : Obligations.FramesAreVetoedAndHeard := by
  refine ⟨fun s g hf hg => malformed_taken hf hg, fun s n hf hg hn0 hn hp hst => ?_, fun s n hf hg hn0 hn => ?_⟩
  · refine frame_heard (content := .command (BitVec.ofNat 4 s.startup.station)) hf hg hn0 hn (fun _ _ => rfl) ?_
    have hs : (BitVec.ofNat 4 s.startup.station).toNat = s.startup.station := by
      rw [BitVec.toNat_ofNat]
      exact Nat.mod_eq_of_lt (by omega)
    obtain ⟨-, hraise, -, hrest⟩ := hf
    rw [beginReceive_of_free hraise hrest]
    show (decide ((BitVec.ofNat 4 s.startup.station).toNat = s.startup.station) && decide (n.toNat ≠ s.startup.partner)) = true
    simp [hs, hp]
  · exact frame_heard (content := .report) hf hg hn0 hn (fun _ _ => rfl) rfl

end Sys2Proof.Machine

/-!
The freeze of the configuration, block by block (R57, R154, R167, R170, R171).
-/
namespace Sys2Proof.Machine

variable {s t u : State} {e : QEntry} {n r : Nat}

/-! ### The sides (R154) -/

/-- A side is CLEAR, or PENDING on the reading as it stands. -/
def SideRec.begun (x : SideRec) : Prop := x.state = .clear ∨ x.state = .pending

theorem SideRec.begun_applyJudged {x : SideRec} (h : x.begun) (j : Option Judged) : (applyJudged x j).begun := by
  cases j with
  | none => exact h
  | some j =>
    unfold applyJudged SideRec.judge
    rcases h with h | h <;> rw [h] <;> dsimp only <;> split <;> simp [SideRec.begun, h]

theorem SideRec.begun_absent {x : SideRec} (h : x.begun) : x.absent.begun := by
  unfold SideRec.absent
  rcases h with h | h <;> simp [SideRec.begun, h]

/-- Every side is CLEAR or PENDING. -/
def SidesBegun (v : Superv) : Prop := (∀ k, (v.low.get k).begun ∧ (v.high.get k).begun) ∧ v.fixed.begun

theorem SidesBegun.judgeChannelSides (h : SidesBegun s.superv) (c : Channel) :
    SidesBegun (judgeChannelSides c s).superv := by
  obtain ⟨hb, hf⟩ := h
  obtain ⟨hsv, hother⟩ := judgeChannelSides_superv c s
  have hown : ((Machine.judgeChannelSides c s).superv.low.get c).begun ∧ ((Machine.judgeChannelSides c s).superv.high.get c).begun := by
    unfold Machine.judgeChannelSides
    split
    · dsimp only
      split
      · simp [SideRec.begun_absent (hb c).1, SideRec.begun_absent (hb c).2]
      · simp [SideRec.begun_applyJudged (hb c).1, SideRec.begun_applyJudged (hb c).2]
    · exact hb c
  refine ⟨fun k => ?_, by rw [hsv]; exact hf⟩
  by_cases hk : k = c
  · rw [hk]
    exact hown
  · obtain ⟨h1, h2⟩ := hother k hk
    rw [h1, h2]
    exact hb k

theorem SidesBegun.judgeReadings (h : SidesBegun s.superv) : SidesBegun (judgeReadings s).superv := by
  have h5 := ((((h.judgeChannelSides .cav).judgeChannelSides .core).judgeChannelSides .boil).judgeChannelSides
    .moist).judgeChannelSides .board
  unfold Machine.judgeReadings
  generalize Machine.judgeChannelSides .board _ = y at h5
  obtain ⟨hb, hf⟩ := h5
  unfold judgeFixed
  split
  · exact ⟨hb, SideRec.begun_applyJudged hf _⟩
  · exact ⟨hb, hf⟩

theorem sidesBegun_superviseAgain (s : State) : SidesBegun (superviseAgain s).superv := by
  have h0 : SidesBegun (clearJudging s).superv := ⟨fun k => by cases k <;> exact ⟨.inl rfl, .inl rfl⟩, .inl rfl⟩
  have h1 : SidesBegun (startJudging s).superv := h0.judgeReadings
  unfold superviseAgain startCheck
  split
  · exact h1
  · exact h1

/-! ### The frames of the freeze -/

/-- The configuration is frozen, and the supervision and the generator begin (R80, R153, R154). -/
def freezeBegun (s : State) : State := genFromLevels (superviseFromFreeze (freezeConfig s))

/-- The notices of the freeze stand in the queue (R98, R115). -/
def freezeNoted (s : State) : State := descaleAtFreeze (noticeIfDue (freezeBegun s))

/-- The samples begin (R5), and the leak state that was owed is told (R57). -/
def leakToldAtFreeze (s : State) : State := tellOwedLeak (s.setClimate { s.climate with sampleMs := 0 })

def freezeTold (s : State) : State := leakToldAtFreeze (freezeNoted s)

theorem freeze_eq (s : State) : freeze s = settle (joinUnlessClash (freezeTold s)) := by
  rw [freezeTold, leakToldAtFreeze, freezeNoted, freezeBegun, freeze]

theorem freezeBegun_line (s : State) : (freezeBegun s).line = (freezeConfig s).line := by
  simp [freezeBegun, superviseFromFreeze, startJudging, clearJudging]

/-- What passes from a queue to the next with `n` more frames, `r` of them REPORTs. -/
structure Passes (n r : Nat) (s t : State) : Prop where
  safety : NoNewSafety s t
  room   : ∀ {e m k}, e.sending = false ∧ e.frame.isReport = true → m + n ≤ 8 → k + r ≤ 5 → Roomy m k e s →
    Roomy (m + n) (k + r) e t

theorem Passes.same (hl : t.line = s.line) : Passes 0 0 s t := ⟨.same hl, fun _ _ _ h => h.same (by rw [hl])⟩

theorem Passes.trans {n' r' : Nat} (h1 : Passes n r s t) (h2 : Passes n' r' t u) : Passes (n + n') (r + r') s u :=
  ⟨h1.safety.trans h2.safety, fun he hn hr h => by
    have := h2.room he (by omega) (by omega) (h1.room he (by omega) (by omega) h)
    rwa [Nat.add_assoc, Nat.add_assoc] at this⟩

theorem Passes.mono {n' r' : Nat} (h : Passes n r s t) (hn : n ≤ n') (hr : r ≤ r') : Passes n' r' s t :=
  ⟨h.safety, fun he hm hk hs => (h.room he (by omega) (by omega) hs).mono (by omega) (by omega)⟩

theorem passes_notice (code : NoticeCode) (detail : Nat) (s : State) : Passes 1 1 s (notice code detail s) :=
  ⟨noNewSafety_enqueue rfl s, fun he hm hk h => h.enqueue he (by omega) (by omega) _⟩

theorem freezeConfig_passes (s : State) : Passes 1 1 s (freezeConfig s) := by
  have h0 : Passes 0 0 s ((s.setStartup { s.startup with
      setup := .frozen, windowMs := 0, supply := checkedSupply s.startup.workSupply, channels := s.startup.workChannels }).setShare
        { s.share with floor := floorOf (checkedSupply s.startup.workSupply) }) := .same rfl
  unfold freezeConfig
  dsimp only
  split
  · exact (h0.trans (passes_notice _ _ _)).mono (by omega) (by omega)
  · exact h0.mono (by omega) (by omega)

theorem passes_noticeIfDue (s : State) : Passes 1 1 s (noticeIfDue s) := by
  unfold noticeIfDue
  split
  · exact (Passes.same (s := s) (t := s) rfl).mono (by omega) (by omega)
  · exact passes_notice _ _ _

theorem passes_descaleAtFreeze (s : State) : Passes 1 1 s (descaleAtFreeze s) := by
  unfold descaleAtFreeze
  split
  · have h0 : Passes 0 0 s (s.setDescale { s.descale with
        phase := .holdAcid, rinse := 0, prepMs := 0, soakMs := 0, lowMs := 0, heatClock := 0, powerWait := false, waitMs := 0
        waitNoted := false }) := .same rfl
    exact (h0.trans (passes_notice _ _ _)).mono (by omega) (by omega)
  · exact (Passes.same (s := s) (t := s) rfl).mono (by omega) (by omega)

theorem freezeNoted_passes (s : State) : Passes 3 3 s (freezeNoted s) := by
  have h1 : Passes 1 1 s (freezeBegun s) := (freezeConfig_passes s).trans (.same (freezeBegun_line s))
  exact (h1.trans (passes_noticeIfDue _)).trans (passes_descaleAtFreeze _)

/-! ### The blocks behind the freeze -/

theorem freezeConfig_share (s : State) :
    (freezeConfig s).share = { s.share with floor := floorOf (checkedSupply s.startup.workSupply) }
      ∧ (freezeConfig s).line.numberClash = s.line.numberClash := by
  unfold freezeConfig
  dsimp only
  split <;> simp

theorem superviseFromFreeze_eq (s : State) : superviseFromFreeze s
    = superviseAgain (s.setSuperv { s.superv with checkValue := configCheckValue s, checkMs := 0 }) := rfl

theorem genFromLevels_steam (s : State) : (genFromLevels s).steam.acid = s.steam.acid
    ∧ (genFromLevels s).steam.levels = s.steam.levels := by
  unfold genFromLevels
  split <;> simp [enterCooling, enterEmpty]

theorem freezeBegun_blocks (s : State) : (freezeBegun s).pending = s.pending ∧ (freezeBegun s).climate = s.climate
    ∧ (freezeBegun s).startup = frozenStartup s.startup
    ∧ (freezeBegun s).share = { s.share with floor := floorOf (checkedSupply s.startup.workSupply) }
    ∧ (freezeBegun s).steam.gen = (if s.steam.levels.low then .cooling else .empty) ∧ (freezeBegun s).steam.acid = s.steam.acid
    ∧ (freezeBegun s).descale = s.descale ∧ (freezeBegun s).recipe = s.recipe
    ∧ (freezeBegun s).superv = (superviseFromFreeze (freezeConfig s)).superv
    ∧ (freezeBegun s).line.numberClash = s.line.numberClash := by
  obtain ⟨h3, h8⟩ := freezeConfig_share s
  have hsteam : (superviseFromFreeze (freezeConfig s)).steam = s.steam := by
    simp [superviseFromFreeze, startJudging, clearJudging]
  refine ⟨?_, ?_, ?_, ?_, ?_, ?_, ?_, ?_, ?_, ?_⟩
  · simp [freezeBegun, superviseFromFreeze, startJudging, clearJudging]
  · simp [freezeBegun, superviseFromFreeze, startJudging, clearJudging]
  · simp [freezeBegun, superviseFromFreeze, startJudging, clearJudging]
  · simp [freezeBegun, superviseFromFreeze, startJudging, clearJudging, h3]
  · rw [freezeBegun, genFromLevels_gen, hsteam]
  · rw [freezeBegun, (genFromLevels_steam _).1, hsteam]
  · simp [freezeBegun, superviseFromFreeze, startJudging, clearJudging]
  · simp [freezeBegun, superviseFromFreeze, startJudging, clearJudging]
  · simp [freezeBegun]
  · rw [freezeBegun_line, h8]

theorem descaleAtFreeze_phase (s : State) :
    (descaleAtFreeze s).descale.phase = if s.steam.acid then .holdAcid else s.descale.phase := by
  unfold descaleAtFreeze
  split
  next h => rw [enterPhase_phase]
  next h => rfl

theorem freezeNoted_blocks (s : State) : (freezeNoted s).pending = s.pending ∧ (freezeNoted s).climate = s.climate
    ∧ (freezeNoted s).startup = frozenStartup s.startup
    ∧ (freezeNoted s).share = { s.share with floor := floorOf (checkedSupply s.startup.workSupply) }
    ∧ (freezeNoted s).steam.gen = (if s.steam.levels.low then .cooling else .empty)
    ∧ (freezeNoted s).descale.phase = (if s.steam.acid then .holdAcid else s.descale.phase)
    ∧ (freezeNoted s).recipe = s.recipe ∧ (freezeNoted s).superv = (superviseFromFreeze (freezeConfig s)).superv
    ∧ (freezeNoted s).line.numberClash = s.line.numberClash := by
  obtain ⟨h1, h2, h3, h4, h5, h6, h7, h8, h9, h10⟩ := freezeBegun_blocks s
  have hn : ∀ v : State, (noticeIfDue v).line.numberClash = v.line.numberClash := fun v => by
    unfold noticeIfDue noticeScale
    split <;> simp
  have hd : ∀ v : State, (descaleAtFreeze v).line.numberClash = v.line.numberClash := fun v => by
    unfold descaleAtFreeze
    split <;> simp
  refine ⟨?_, ?_, ?_, ?_, ?_, ?_, ?_, ?_, ?_⟩
  · simp [freezeNoted, h1]
  · simp [freezeNoted, h2]
  · simp [freezeNoted, h3]
  · simp [freezeNoted, h4]
  · simp [freezeNoted, h5]
  · rw [freezeNoted, descaleAtFreeze_phase]
    simp [h6, h7]
  · simp [freezeNoted, h8]
  · simp [freezeNoted, h9]
  · rw [freezeNoted, hd, hn, h10]

end Sys2Proof.Machine

/-!
The two commands that freeze the configuration (R57, R167, R170, R171).
-/
namespace Sys2Proof.Machine

variable {s t u y : State} {e : QEntry}

/-! ### The owed frame (R57) -/

/-- The SAFETY frame of the leak state. -/
def leakFrame (s : State) : TxFrame :=
  if s.share.leakWet then .trip s.startup.station s.startup.supply.waterGroup
  else .tripClear s.startup.station s.startup.supply.waterGroup

theorem leakFrame_class (s : State) : (leakFrame s).isReport = false ∧ (∀ q, TxFrame.status.sameSort (leakFrame s) = false
    ∧ TxFrame.status.removes (leakFrame s) = false ∧ enqueueQueue (leakFrame s) q = putFrame TxFrame.isSafety (leakFrame s) q) := by
  unfold leakFrame
  split <;> exact ⟨rfl, fun _ => ⟨rfl, rfl, rfl⟩⟩

theorem tellLeak_eq (s : State) : tellLeak s = enqueueShare (leakFrame s) s := by
  unfold tellLeak leakFrame
  split <;> rfl

theorem tellOwedLeak_blocks (s : State) : (tellOwedLeak s).share = { s.share with safetyOwed := false }
    ∧ (tellOwedLeak s).line.numberClash = s.line.numberClash := by
  unfold tellOwedLeak
  split
  · rw [tellLeak_eq]
    exact ⟨by simp, by simp⟩
  next h =>
    have : s.share.safetyOwed = false := by simpa using h
    rw [← this]
    exact ⟨rfl, rfl⟩

theorem tellOwedLeak_room {m k : Nat} (he : e.sending = false ∧ e.frame.isReport = true) (hm : m < 8) (h : Roomy m k e s) :
    Roomy (m + 1) k e (tellOwedLeak s) := by
  unfold tellOwedLeak
  split
  · rw [tellLeak_eq]
    exact Roomy.enqueueOther he (h.same rfl) hm (leakFrame_class _).1
  · exact h.mono (by omega) le_rfl

theorem queued_tellLeak (hf : frozen s = true) (hn : unnumbered s = false) : Queued (leakFrame s) (tellLeak s) := by
  rw [tellLeak_eq, enqueueShare_of_frozen hf, enqueue, if_neg (by simp [hn])]
  show (⟨leakFrame s, false⟩ : QEntry) ∈ enqueueQueue (leakFrame s) s.line.queue
  rw [((leakFrame_class s).2 _).2.2]
  exact mem_putFrame _ _ _

theorem queued_tellOwedLeak (ho : s.share.safetyOwed = true) (hf : frozen s = true) (hn : unnumbered s = false) :
    Queued (leakFrame s) (tellOwedLeak s) := by
  rw [tellOwedLeak, if_pos ho]
  exact queued_tellLeak (s := s.setShare { s.share with safetyOwed := false }) hf hn

/-! ### Before it settles -/

theorem leakToldAtFreeze_blocks (s : State) : (leakToldAtFreeze s).pending = s.pending
    ∧ (leakToldAtFreeze s).climate = { s.climate with sampleMs := 0 } ∧ (leakToldAtFreeze s).startup = s.startup
    ∧ (leakToldAtFreeze s).share = { s.share with safetyOwed := false } ∧ (leakToldAtFreeze s).steam = s.steam
    ∧ (leakToldAtFreeze s).descale = s.descale ∧ (leakToldAtFreeze s).recipe = s.recipe
    ∧ (leakToldAtFreeze s).superv = s.superv ∧ (leakToldAtFreeze s).line.numberClash = s.line.numberClash := by
  obtain ⟨k1, k2⟩ := tellOwedLeak_blocks (s.setClimate { s.climate with sampleMs := 0 })
  have hf : ∀ v : State, (tellOwedLeak v).pending = v.pending ∧ (tellOwedLeak v).climate = v.climate
      ∧ (tellOwedLeak v).startup = v.startup ∧ (tellOwedLeak v).steam = v.steam ∧ (tellOwedLeak v).descale = v.descale
      ∧ (tellOwedLeak v).recipe = v.recipe ∧ (tellOwedLeak v).superv = v.superv := fun v => by
    unfold tellOwedLeak
    split
    · rw [tellLeak_eq]
      simp
    · exact ⟨rfl, rfl, rfl, rfl, rfl, rfl, rfl⟩
  obtain ⟨f1, f2, f3, f4, f5, f6, f7⟩ := hf (s.setClimate { s.climate with sampleMs := 0 })
  exact ⟨f1, f2, f3, k1, f4, f5, f6, f7, k2⟩

/-- R57, R78: of the frames of the Share Unit at the freeze. -/
theorem leakToldAtFreeze_queue (hf : frozen s = true) (hn : unnumbered s = false) :
    (s.share.safetyOwed = true → Queued (leakFrame s) (leakToldAtFreeze s))
      ∧ (s.share.safetyOwed = false → NoNewSafety s (leakToldAtFreeze s))
      ∧ ∀ {e m k}, e.sending = false ∧ e.frame.isReport = true → m < 8 → Roomy m k e s →
        Roomy (m + 1) k e (leakToldAtFreeze s) := by
  refine ⟨fun ho => queued_tellOwedLeak (s := s.setClimate { s.climate with sampleMs := 0 }) ho hf hn, fun ho => ?_,
    fun he hm h => tellOwedLeak_room (s := s.setClimate { s.climate with sampleMs := 0 }) he hm (h.same rfl)⟩
  rw [leakToldAtFreeze, tellOwedLeak, if_neg (by rw [State.setClimate_share]; simp [ho])]
  exact .same rfl

theorem freezeTold_blocks (s : State) : (freezeTold s).pending = s.pending
    ∧ (freezeTold s).climate = { s.climate with sampleMs := 0 }
    ∧ (freezeTold s).startup = frozenStartup s.startup
    ∧ (freezeTold s).share = { s.share with floor := floorOf (checkedSupply s.startup.workSupply), safetyOwed := false }
    ∧ (freezeTold s).steam.gen = (if s.steam.levels.low then .cooling else .empty)
    ∧ (freezeTold s).descale.phase = (if s.steam.acid then .holdAcid else s.descale.phase)
    ∧ (freezeTold s).recipe = s.recipe ∧ (freezeTold s).superv = (superviseFromFreeze (freezeConfig s)).superv
    ∧ (freezeTold s).line.numberClash = s.line.numberClash := by
  obtain ⟨h1, h2, h3, h4, h5, h6, h7, h8, h9⟩ := freezeNoted_blocks s
  obtain ⟨k1, k2, k3, k4, k5, k6, k7, k8, k9⟩ := leakToldAtFreeze_blocks (freezeNoted s)
  rw [freezeTold, k1, k2, k3, k4, k5, k6, k7, k8, k9]
  exact ⟨h1, by rw [h2], h3, by rw [h4], h5, h6, h7, h8, h9⟩

/-- What stands before the blocks settle. -/
def freezeJoined (s : State) : State := joinUnlessClash (freezeTold s)

theorem freezeJoined_blocks (s : State) : (freezeJoined s).pending = s.pending
    ∧ (freezeJoined s).climate = { s.climate with sampleMs := 0 } ∧ (freezeJoined s).startup = frozenStartup s.startup
    ∧ (freezeJoined s).steam.gen = (if s.steam.levels.low then .cooling else .empty)
    ∧ (freezeJoined s).descale.phase = (if s.steam.acid then .holdAcid else s.descale.phase)
    ∧ (freezeJoined s).recipe = s.recipe ∧ (freezeJoined s).superv = (superviseFromFreeze (freezeConfig s)).superv := by
  obtain ⟨h1, h2, h3, -, h5, h6, h7, h8, -⟩ := freezeTold_blocks s
  unfold freezeJoined
  exact ⟨by simp [h1], by simp [h2], by simp [h3], by simp [h5], by simp [h6], by simp [h7], by simp [h8]⟩

theorem freezeJoined_share (hc : s.line.numberClash = false) : (freezeJoined s).share = { s.share with
    floor := floorOf (checkedSupply s.startup.workSupply), safetyOwed := false, link := .joining, joinMs := some 0
    sinceOwnMs := some 0, isolatedMs := 0, lost := false, statusMs := 0 } := by
  obtain ⟨-, -, -, h4, -, -, -, -, h9⟩ := freezeTold_blocks s
  rw [freezeJoined, joinUnlessClash_share, h9, hc, h4]
  rfl

/-- R56: the STATUS of the join window. -/
theorem freezeJoined_eq (hc : s.line.numberClash = false) : freezeJoined s = openJoinWindow (freezeTold s) := by
  rw [freezeJoined, joinUnlessClash, (freezeTold_blocks s).2.2.2.2.2.2.2.2, hc]
  rfl

theorem frozen_freezeTold (s : State) : frozen (freezeTold s) = true := by
  rw [frozen, (freezeTold_blocks s).2.2.1]
  rfl

theorem numbered_freezeTold (hn : unnumbered s = false) : unnumbered (freezeTold s) = false := by
  rw [unnumbered, (freezeTold_blocks s).2.2.1]
  exact hn

theorem freezeJoined_queue (hc : s.line.numberClash = false) (hn : unnumbered s = false) :
    Queued .status (freezeJoined s)
      ∧ (s.share.safetyOwed = true → Queued (if s.share.leakWet
          then .trip s.startup.station (checkedSupply s.startup.workSupply).waterGroup
          else .tripClear s.startup.station (checkedSupply s.startup.workSupply).waterGroup) (freezeJoined s))
      ∧ (s.share.safetyOwed = false → NoNewSafety s (freezeJoined s))
      ∧ ∀ {e}, e.sending = false ∧ e.frame.isReport = true → Roomy 1 1 e s → e ∈ (freezeJoined s).line.queue := by
  obtain ⟨-, -, h3, h4, -, -, -, -, -⟩ := freezeNoted_blocks s
  have hft := frozen_freezeTold s
  have hnt := numbered_freezeTold hn
  obtain ⟨q1, q2, q3⟩ := leakToldAtFreeze_queue (s := freezeNoted s) (by rw [frozen, h3]; rfl) (by rw [unnumbered, h3]; exact hn)
  have ht : freezeTold s = leakToldAtFreeze (freezeNoted s) := rfl
  have howed : (freezeNoted s).share.safetyOwed = s.share.safetyOwed := by rw [h4]
  have hleak : leakFrame (freezeNoted s) = if s.share.leakWet
      then .trip s.startup.station (checkedSupply s.startup.workSupply).waterGroup
      else .tripClear s.startup.station (checkedSupply s.startup.workSupply).waterGroup := by
    rw [leakFrame, h3, h4]
    rfl
  have hcls := leakFrame_class (freezeNoted s)
  have hroom := fun {e} (he : e.sending = false ∧ e.frame.isReport = true) (hr : Roomy 1 1 e s) =>
    q3 he (by omega) ((freezeNoted_passes s).room he (by omega) (by omega) hr)
  have hsafe := fun ho => (freezeNoted_passes s).safety.trans (q2 (howed.trans ho))
  rw [freezeJoined_eq hc]
  rw [hleak] at q1 hcls
  rw [← ht] at q1 hroom hsafe
  generalize freezeTold s = y at *
  refine ⟨queued_queueStatus hft hnt, fun ho => ?_, fun ho => ?_, fun he hr => ?_⟩
  · exact Queued.enqueueShare (s := y.setShare { y.share with
      link := .joining, joinMs := some 0, sinceOwnMs := some 0, isolatedMs := 0, lost := false }) (q1 (howed.trans ho)) hcls.1
      ⟨(hcls.2 []).1, (hcls.2 []).2.1⟩
  · exact (hsafe ho).trans (noNewSafety_enqueueShare (f := .status) rfl (y.setShare { y.share with
      link := .joining, joinMs := some 0, sinceOwnMs := some 0, isolatedMs := 0, lost := false }))
  · exact (Roomy.enqueueOther (s := y.setShare { y.share with
      link := .joining, joinMs := some 0, sinceOwnMs := some 0, isolatedMs := 0, lost := false }) he ((hroom he hr).same rfl)
      (by omega) (f := .status) rfl).mem

end Sys2Proof.Machine

/-!
The freeze, put together: what settles, the closing mark of END, and the statement (R57, R154, R167, R170, R171).
-/
namespace Sys2Proof.Machine

variable {s t u y : State} {e : QEntry}

theorem freezeJoined_settled (hr : s.recipe.state = .idle) : judgeSteam (freezeJoined s) = freezeJoined s := by
  obtain ⟨-, -, -, h4, -, h6, -⟩ := freezeJoined_blocks s
  refine judgeSteam_of_released ?_ ?_
  · rw [programActive, h6, hr]
  · rw [h4]
    cases s.steam.levels.low <;> simp

/-- What stands of a freeze behind what may follow it: the closing mark of END. -/
structure FrozenBehind (s t : State) : Prop where
  pending : t.pending = s.pending
  climate : t.climate = { s.climate with sampleMs := 0 }
  startup : t.startup = frozenStartup s.startup
  gen     : t.steam.gen = if s.steam.levels.low then .cooling else .empty
  phase   : t.descale.phase = if s.steam.acid then .holdAcid else s.descale.phase
  recipe  : t.recipe.state = .idle
  superv  : t.superv = (superviseFromFreeze (freezeConfig s)).superv
  share   : t.share = (freezeJoined s).share
  queue   : t.line.queue = (freezeJoined s).line.queue

theorem freeze_frozenBehind (hr : s.recipe.state = .idle) : FrozenBehind s (freeze s) := by
  obtain ⟨h1, h2, h3, h4, h5, h6, h7⟩ := freezeJoined_blocks s
  obtain ⟨hl, hx, ⟨ho, -, hw⟩, hp⟩ := settle_of_fixed (freezeJoined_settled hr)
  have he : freeze s = settle (freezeJoined s) := freeze_eq s
  unfold OutputsOnly at ho
  unfold WaitOnly at hw
  unfold ProgramStands at hp
  rw [he]
  exact ⟨by simp [h1], by simp [h2], by simp [h3], by rw [ho]; exact h4, by rw [hw]; exact h5, by rw [hp, h6]; exact hr,
    by simp [h7], hx, by rw [hl]⟩

/-- The closing mark of END adds nothing to what the freeze has left. -/
theorem FrozenBehind.closed (h : FrozenBehind s u) (hg : GenSettled u) : FrozenBehind s (closedIdle u) := by
  have hj : judgeSteam (u.setLine { u.line with state := .idle, breakSeen := false }) = _ :=
    judgeSteam_of_settled (genSettled_congr hg rfl rfl rfl rfl)
  obtain ⟨hl, hx, ⟨ho, -, hw⟩, hp⟩ := settle_of_fixed hj
  unfold OutputsOnly at ho
  unfold WaitOnly at hw
  unfold ProgramStands at hp
  unfold closedIdle
  refine ⟨?_, ?_, ?_, ?_, ?_, ?_, ?_, ?_, ?_⟩
  · simpa using h.pending
  · simpa using h.climate
  · simpa using h.startup
  · rw [ho]; exact h.gen
  · rw [hw]; exact h.phase
  · rw [hp]; exact h.recipe
  · simpa using h.superv
  · rw [hx]; exact h.share
  · rw [hl]; exact h.queue

/-- The check value of the frozen configuration is kept (R153). -/
def checkKept (s : State) : State := s.setSuperv { s.superv with checkValue := configCheckValue s, checkMs := 0 }

theorem superviseFromFreeze_eq_checkKept (s : State) : superviseFromFreeze s = superviseAgain (checkKept s) := by
  rw [superviseFromFreeze_eq, checkKept]

theorem checkKept_superv (s : State) : (checkKept s).superv.readings = s.superv.readings
    ∧ (checkKept s).superv.trip = s.superv.trip ∧ (checkKept s).superv.welded = s.superv.welded
    ∧ (checkKept s).superv.relayClosed = s.superv.relayClosed ∧ (checkKept s).startup = s.startup := by
  simp [checkKept]

/-- R154: the supervision behind the freeze. -/
theorem superviseFromFreeze_superv (s : State) :
    (superviseFromFreeze s).superv.readings = s.superv.readings ∧ (superviseFromFreeze s).superv.judging = true
      ∧ (superviseFromFreeze s).superv.strikes = PerChannel.all 0 ∧ SidesBegun (superviseFromFreeze s).superv
      ∧ (superviseFromFreeze s).superv.trip = s.superv.trip ∧ (superviseFromFreeze s).superv.welded = s.superv.welded
      ∧ (superviseFromFreeze s).superv.relayClosed = (startPasses s || s.superv.relayClosed) := by
  obtain ⟨c1, c2, c3, c4, c5⟩ := checkKept_superv s
  have hp : startPasses (checkKept s) = startPasses s := startPasses_congr c3 c2 c1 (by rw [c5])
  rw [superviseFromFreeze_eq_checkKept]
  generalize checkKept s = y at c1 c2 c3 c4 hp
  have hs := sidesBegun_superviseAgain y
  obtain ⟨h1, h2, -, h4, h5, h6, h7⟩ := superviseAgain_superv y
  exact ⟨h4.trans c1, h5, h6, hs, h1.trans c2, h2.trans c3, by rw [h7, hp, c4]⟩

/-- `y` stands as `s` does, but for its queue and what the line has heard. -/
structure AsBefore (s y : State) : Prop where
  pending : y.pending = s.pending
  startup : y.startup = s.startup
  climate : y.climate = s.climate
  steam   : y.steam = s.steam
  descale : y.descale = s.descale
  recipe  : y.recipe = s.recipe
  superv  : y.superv = s.superv
  clash   : y.line.numberClash = s.line.numberClash
  leak    : y.share.leakWet = s.share.leakWet
  trips   : y.share.tripSet = s.share.tripSet
  owed    : y.share.safetyOwed = s.share.safetyOwed

theorem AsBefore.refl (s : State) : AsBefore s s := ⟨rfl, rfl, rfl, rfl, rfl, rfl, rfl, rfl, rfl, rfl, rfl⟩

/-- R57, R154, R167, R170, R171: what a freeze in `y` leaves, in the words of the statement. -/
theorem FrozenBehind.freezes (h : FrozenBehind y t) (hs : AsBefore s y) (hn : unnumbered s = false)
    (hd : s.descale.phase = .off) (hc : s.line.numberClash = false) :
    t.pending = s.pending
      ∧ FreezesTo s.startup.workSupply t.startup.supply
      ∧ t.startup = { s.startup with
          setup := .frozen, windowMs := 0, supply := t.startup.supply, channels := s.startup.workChannels }
      ∧ t.share.floor = t.startup.supply.capacity / t.startup.supply.stations
      ∧ t.share.link = .joining ∧ t.share.joinMs = some 0 ∧ Queued .status t
      ∧ t.superv.judging = true ∧ t.superv.checkValue = checkField (configBytes t.startup)
      ∧ t.superv.readings = s.superv.readings ∧ t.superv.strikes = PerChannel.all 0
      ∧ (∀ k d, (sideRec t.superv k d).state = .clear ∨ (sideRec t.superv k d).state = .pending)
      ∧ (s.superv.relayClosed = false → (t.superv.relayClosed = true ↔ StartCheckPasses t))
      ∧ t.steam.gen = (if s.steam.levels.low then .cooling else .empty)
      ∧ t.descale.phase = (if s.steam.acid then .holdAcid else .off)
      ∧ t.climate.sampleMs = 0 ∧ t.recipe.state = .idle
      ∧ t.share.leakWet = s.share.leakWet ∧ t.share.tripSet = s.share.tripSet ∧ t.share.safetyOwed = false
      ∧ (s.share.safetyOwed = true →
          Queued (if s.share.leakWet then .trip s.startup.station t.startup.supply.waterGroup
            else .tripClear s.startup.station t.startup.supply.waterGroup) t) := by
  obtain ⟨s1, s2, s3, s4, s5, s6, s7, s8, s9, s10, s11⟩ := hs
  obtain ⟨q1, q2, -, -⟩ := freezeJoined_queue (s8.trans hc) (by rw [unnumbered, s2]; exact hn)
  have hx := freezeJoined_share (s8.trans hc)
  have hsv := (freezeConfig_frame y).2.2.2.2.2.2
  obtain ⟨v1, v2, v3, ⟨v4, v5⟩, v6, v7, v8⟩ := superviseFromFreeze_superv (freezeConfig y)
  rw [hsv, s7] at v1 v6 v7 v8
  have hu := h.startup
  have hvalue : t.superv.checkValue = checkField (configBytes t.startup) := by
    rw [h.superv, superviseFromFreeze_checkValue, configCheckValue, freezeConfig_startup, hu]
  have hqueued : ∀ g, Queued g (freezeJoined y) → Queued g t := fun g hg => by
    unfold Queued at *
    rwa [h.queue]
  have hsame : startPasses t = startPasses (freezeConfig y) := by
    refine startPasses_congr ?_ ?_ ?_ ?_
    · rw [h.superv, v7, hsv, s7]
    · rw [h.superv, v6, hsv, s7]
    · rw [h.superv, v1, hsv, s7]
    · rw [hu, freezeConfig_startup]
  rw [s2] at hu
  rw [s2, s9, s11] at q2
  refine ⟨h.pending.trans s1, ?_, ?_, ?_, ?_, ?_, hqueued _ q1, ?_, hvalue, ?_, ?_, fun k d => ?_, fun hr => ?_, ?_, ?_, ?_,
    h.recipe, ?_, ?_, ?_, fun ho => ?_⟩
  · rw [hu]; exact freezesTo_checkedSupply _
  · rw [hu]; rfl
  · rw [h.share, hx, hu, s2]; rfl
  · rw [h.share, hx]
  · rw [h.share, hx]
  · rw [h.superv]; exact v2
  · rw [h.superv]; exact v1
  · rw [h.superv]; exact v3
  · rw [h.superv]
    cases d with
    | low => exact (v4 k).1
    | high => exact (v4 k).2
    | fixed => exact v5
  · rw [← startPasses_iff, hsame, h.superv, v8, hr, Bool.or_false]
  · rw [h.gen, s4]
  · rw [h.phase, s5, hd, s4]
  · rw [h.climate]
  · rw [h.share, hx]; exact s9
  · rw [h.share, hx]; exact s10
  · rw [h.share, hx]
  · rw [hu]
    exact hqueued _ (q2 ho)

/-- R57: of the REPORT that stood in the queue, and of the SAFETY frames, behind the freeze. -/
theorem FrozenBehind.queued (h : FrozenBehind y t) (hn : unnumbered y = false) (hc : y.line.numberClash = false) :
    (∀ {e}, e.sending = false ∧ e.frame.isReport = true → Roomy 1 1 e y → e ∈ t.line.queue)
      ∧ (y.share.safetyOwed = false → NoNewSafety y t) := by
  obtain ⟨-, -, q3, q4⟩ := freezeJoined_queue hc hn
  rw [h.queue]
  exact ⟨q4, fun ho e he => q3 ho e (by rwa [← h.queue])⟩

/-- The state in which an accepted END freezes. -/
def endAnswered (s : State) : State := respond .setup .accepted noDetail (commandHeard s)

theorem endAnswered_asBefore (hf : LineFree s) : AsBefore s (endAnswered s)
    ∧ (endAnswered s).share.redecide = PerPool.all false := by
  have hh := heardFrom_commandHeard hf
  obtain ⟨b1, b2, b3, -, b5, b6, b7, b8⟩ := hh.blocks
  have hx := hh.share.1
  have hshare : (endAnswered s).share = (commandHeard s).share := by simp [endAnswered]
  have hclash : (endAnswered s).line.numberClash = (commandHeard s).line.numberClash := by simp [endAnswered]
  refine ⟨⟨by simp [endAnswered, b1], by simp [endAnswered, b2], by simp [endAnswered, b3], by simp [endAnswered, b5],
    by simp [endAnswered, b6], by simp [endAnswered, b7], by simp [endAnswered, b8], ?_, ?_, ?_, ?_⟩, ?_⟩
  · rw [hclash, hh.line]
  · rw [hshare, hx]
  · rw [hshare, hx]
  · rw [hshare, hx]
  · rw [hshare, hh.redecide hf]

/-- R154: the RESULT of END, and the SAFETY frames that stood before it. -/
theorem endAnswered_queue (hf : LineFree s) :
    (s.line.queue = [] → Roomy 1 1 ⟨.result .setup .accepted noDetail, false⟩ (endAnswered s))
      ∧ (sendingFrame s = none → ∀ e ∈ (endAnswered s).line.queue, e.frame.isSafety = true → e ∈ s.line.queue) := by
  have hh := heardFrom_commandHeard hf
  refine ⟨fun hq => ?_, fun hs e he hsf => ?_⟩
  · have h0 : HasAtMost 0 0 (commandHeard s).line.queue := by
      rw [hh.queue (sendingFrame_of_empty hq), hq]
      exact ⟨by simp, by simp⟩
    exact ⟨(h0.enqueue (by omega) (by omega) rfl).1, queued_respond (commandHeard_numbered hf) _ _ _⟩
  · have h2 := noNewSafety_enqueue (f := .result .setup .accepted noDetail) rfl (commandHeard s) e he hsf
    rwa [hh.queue hs] at h2

/-- An accepted END freezes, behind its RESULT. -/
theorem exec_setupEnd_freezes (hf : PanelFree s) (ho : s.startup.setup = .opened) (hr : s.recipe.state = .idle)
    (hc : s.line.numberClash = false) : ∃ t, exec (.setupEnd []) s = .next t ∧ FrozenBehind (endAnswered s) t := by
  obtain ⟨ha, hred⟩ := endAnswered_asBefore hf.1
  have hb := freeze_frozenBehind (s := endAnswered s) (by rw [ha.recipe]; exact hr)
  have hredecide : (freeze (endAnswered s)).share.redecide = PerPool.all false := by
    rw [hb.share, freezeJoined_share (ha.clash.trans hc)]
    exact hred
  have hg : GenSettled (freeze (endAnswered s)) := by
    rw [freeze_eq]
    exact genSettled_settle _
  have hx : exec (.setupEnd []) s = .next (settle (markClosed (freeze (endAnswered s)))) := exec_setupEnd_of_opened hf ho
  rw [markClosed_of_none hredecide] at hx
  exact ⟨_, hx, hb.closed hg⟩

/-- Settles O18: END and the expiry of the window freeze alike. -/
theorem configurationFreezes : Obligations.ConfigurationFreezes := by
  rintro s c (⟨rfl, hf⟩ | ⟨rfl, hn, -⟩) ho hr hd hc
  · obtain ⟨t, hx, hb⟩ := exec_setupEnd_freezes hf ho hr hc
    obtain ⟨ha, -⟩ := endAnswered_asBefore hf.1
    obtain ⟨k1, k2⟩ := endAnswered_queue hf.1
    have hnum : unnumbered s = false := hf.1.1
    obtain ⟨q1, q2⟩ := hb.queued (by rw [unnumbered, ha.startup]; exact hnum) (ha.clash.trans hc)
    obtain ⟨f1, f2, f3, f4, f5, f6, f7, f8, f9, f10, f11, f12, f13, f14, f15, f16, f17, f18, f19, f20, f21⟩ := hb.freezes ha hnum hd hc
    exact ⟨t, hx, f1, f2, f3, f4, f5, f6, f7, f8, f9, f10, f11, f12, f13, fun _ hq => q1 ⟨rfl, rfl⟩ (k1 hq), f14, f15, f16, f17,
      f18, f19, f20, f21,
      fun h hs e he hsf => k2 hs e (q2 (ha.owed.trans h) e he hsf) hsf⟩
  · have hb := freeze_frozenBehind hr
    obtain ⟨f1, f2, f3, f4, f5, f6, f7, f8, f9, f10, f11, f12, f13, f14, f15, f16, f17, f18, f19, f20, f21⟩ := hb.freezes (.refl s) hn hd hc
    exact ⟨freeze s, exec_setupWindowExpiry_of_opened ho, f1, f2, f3, f4, f5, f6, f7, f8, f9, f10, f11, f12, f13,
      fun h => absurd h (by simp), f14, f15, f16, f17, f18, f19, f20, f21,
      fun h _ => (hb.queued hn hc).2 h⟩

end Sys2Proof.Machine

/-!
The bytes of a stage record: laid by R177 and read back by its presence flags (R173, R177).
-/
namespace Sys2Proof.Machine

variable {a x : List Byte} {r q : RawRecord}

/-! ### Reading a field -/

theorem fieldBytes_some {n w : Nat} (hn : n = 1 ∨ n = 2 ∨ n = 3) (hw : w < 256 ^ n) :
    (fieldBytes n (some w)).length = n ∧ bytesToNat (fieldBytes n (some w)) = w := by
  rcases hn with rfl | rfl | rfl
  · exact ⟨rfl, (bytesToNat_byteOf w).trans (Nat.mod_eq_of_lt hw)⟩
  · exact ⟨rfl, (bytesToNat_bytes2 w).trans (Nat.mod_eq_of_lt hw)⟩
  · exact ⟨rfl, (bytesToNat_bytes3 w).trans (Nat.mod_eq_of_lt hw)⟩

theorem takeField_fieldBytes {n : Nat} {v : Option Nat} (hn : n = 1 ∨ n = 2 ∨ n = 3) (h : ∀ w ∈ v, w < 256 ^ n)
    (x : List Byte) : takeField v.isSome n (fieldBytes n v ++ x) = some (v, x) := by
  cases v with
  | none => rfl
  | some w =>
    obtain ⟨hl, hb⟩ := fieldBytes_some hn (h w rfl)
    simp only [takeField, Option.isSome_some, if_true]
    rw [if_pos (by rw [List.length_append, hl]; omega), List.take_left' hl, List.drop_left' hl, hb]

/-- The bytes of a branch list. -/
def branchBytes (l : Option (List Nat)) : List Byte :=
  match l with
  | none => []
  | some l => byteOf l.length :: l.map byteOf

theorem map_toNat_byteOf {l : List Nat} (h : ∀ o ∈ l, o < 256) : (l.map byteOf).map BitVec.toNat = l := by
  rw [List.map_map]
  exact (List.map_congr_left fun o ho => by simp [Nat.mod_eq_of_lt (h o ho)]).trans (List.map_id l)

theorem takeBranches_branchBytes {l : Option (List Nat)} (h : ∀ k ∈ l, k.length < 256 ∧ ∀ o ∈ k, o < 256) (x : List Byte) :
    takeBranches l.isSome (branchBytes l ++ x) = some (l, x) := by
  cases l with
  | none => rfl
  | some k =>
    obtain ⟨hk, ho⟩ := h k rfl
    have hl : (byteOf k.length).toNat = k.length := by simp [Nat.mod_eq_of_lt hk]
    simp only [branchBytes, takeBranches, Option.isSome_some, if_true, List.cons_append, hl]
    rw [if_pos (by simp), List.take_left' (by simp), List.drop_left' (by simp), map_toNat_byteOf ho]

/-- What follows the bytes of a field is left to the next one. -/
theorem takeField_append {flag : Bool} {n : Nat} {v : Option Nat} {b : List Byte} (h : takeField flag n a = some (v, b))
    (x : List Byte) : takeField flag n (a ++ x) = some (v, b ++ x) := by
  cases flag with
  | false =>
    obtain ⟨rfl, rfl⟩ : none = v ∧ a = b := by simpa [takeField] using h
    rfl
  | true =>
    by_cases hn : n ≤ a.length
    · obtain ⟨rfl, rfl⟩ : some (bytesToNat (a.take n)) = v ∧ a.drop n = b := by simpa [takeField, hn] using h
      have hx : n ≤ (a ++ x).length := by rw [List.length_append]; omega
      simp only [takeField, if_true, if_pos hx, List.take_append_of_le_length hn, List.drop_append_of_le_length hn]
    · simp [takeField, hn] at h

theorem takeBranches_append {flag : Bool} {v : Option (List Nat)} {b : List Byte} (h : takeBranches flag a = some (v, b))
    (x : List Byte) : takeBranches flag (a ++ x) = some (v, b ++ x) := by
  cases flag with
  | false =>
    obtain ⟨rfl, rfl⟩ : none = v ∧ a = b := by simpa [takeBranches] using h
    rfl
  | true =>
    cases a with
    | nil => simp [takeBranches] at h
    | cons c rest =>
      by_cases hn : c.toNat ≤ rest.length
      · obtain ⟨rfl, rfl⟩ : some ((rest.take c.toNat).map BitVec.toNat) = v ∧ rest.drop c.toNat = b := by
          simpa [takeBranches, hn] using h
        have hx : c.toNat ≤ (rest ++ x).length := by rw [List.length_append]; omega
        simp only [takeBranches, if_true, List.cons_append, if_pos hx, List.take_append_of_le_length hn,
          List.drop_append_of_le_length hn]
      · simp [takeBranches, hn] at h

/-! ### Reading a record -/

theorem isEmpty_append_of_ne (hx : x ≠ []) (b : List Byte) : (b ++ x).isEmpty = false := by
  rw [List.isEmpty_eq_false_iff]
  simp [hx]

/-- A record that is read holds no byte more. -/
theorem parseRecord_append (h : parseRecord a = some q) (hx : x ≠ []) : parseRecord (a ++ x) = none := by
  match a, h with
  | k :: f1 :: f0 :: r0, h =>
    simp only [parseRecord] at h
    obtain ⟨⟨v1, r1⟩, h1, h⟩ := Option.bind_eq_some_iff.1 h
    obtain ⟨⟨v2, r2⟩, h2, h⟩ := Option.bind_eq_some_iff.1 h
    obtain ⟨⟨v3, r3⟩, h3, h⟩ := Option.bind_eq_some_iff.1 h
    obtain ⟨⟨v4, r4⟩, h4, h⟩ := Option.bind_eq_some_iff.1 h
    obtain ⟨⟨v5, r5⟩, h5, h⟩ := Option.bind_eq_some_iff.1 h
    obtain ⟨⟨v6, r6⟩, h6, h⟩ := Option.bind_eq_some_iff.1 h
    obtain ⟨⟨v7, r7⟩, h7, h⟩ := Option.bind_eq_some_iff.1 h
    obtain ⟨⟨v8, r8⟩, h8, h⟩ := Option.bind_eq_some_iff.1 h
    obtain ⟨⟨v9, r9⟩, h9, h⟩ := Option.bind_eq_some_iff.1 h
    obtain ⟨⟨v10, r10⟩, h10, h⟩ := Option.bind_eq_some_iff.1 h
    obtain ⟨⟨v11, r11⟩, h11, -⟩ := Option.bind_eq_some_iff.1 h
    have hend := isEmpty_append_of_ne hx r11
    simp only [List.cons_append, parseRecord, takeField_append h1 x, takeField_append h2 x, takeField_append h3 x,
      takeField_append h4 x, takeField_append h5 x, takeField_append h6 x, takeField_append h7 x, takeField_append h8 x,
      takeField_append h9 x, takeBranches_append h10 x, takeField_append h11 x, Option.bind_some, hend, Bool.false_eq_true,
      if_false]

theorem bitNat_le (b : Bool) : bitNat b ≤ 1 := by cases b <;> decide

theorem flags_lt (r : RawRecord) : r.flags < 65536 := by
  have := bitNat_le r.mode.isSome; have := bitNat_le r.cavity.isSome; have := bitNat_le r.humidity.isSome
  have := bitNat_le r.endKind.isSome; have := bitNat_le r.duration.isSome; have := bitNat_le r.core.isSome
  have := bitNat_le r.timer.isSome; have := bitNat_le r.skip.isSome; have := bitNat_le r.prompt.isSome
  have := bitNat_le r.branches.isSome; have := bitNat_le r.call.isSome
  unfold RawRecord.flags
  omega

/-- R177: every presence flag stands in its bit. -/
theorem flags_testBit (r : RawRecord) :
    r.flags.testBit 15 = r.mode.isSome ∧ r.flags.testBit 14 = r.cavity.isSome ∧ r.flags.testBit 13 = r.humidity.isSome
      ∧ r.flags.testBit 12 = r.endKind.isSome ∧ r.flags.testBit 11 = r.duration.isSome ∧ r.flags.testBit 10 = r.core.isSome
      ∧ r.flags.testBit 9 = r.timer.isSome ∧ r.flags.testBit 8 = r.skip.isSome ∧ r.flags.testBit 7 = r.prompt.isSome
      ∧ r.flags.testBit 6 = r.branches.isSome ∧ r.flags.testBit 5 = r.call.isSome := by
  have := bitNat_le r.mode.isSome; have := bitNat_le r.cavity.isSome; have := bitNat_le r.humidity.isSome
  have := bitNat_le r.endKind.isSome; have := bitNat_le r.duration.isSome; have := bitNat_le r.core.isSome
  have := bitNat_le r.timer.isSome; have := bitNat_le r.skip.isSome; have := bitNat_le r.prompt.isSome
  have := bitNat_le r.branches.isSome; have := bitNat_le r.call.isSome
  have hbit : ∀ (k : Nat) (b : Bool), r.flags / 2 ^ k % 2 = bitNat b → r.flags.testBit k = b := fun k b h => by
    rw [Nat.testBit_eq_decide_div_mod_eq, h]
    cases b <;> rfl
  refine ⟨hbit _ _ ?_, hbit _ _ ?_, hbit _ _ ?_, hbit _ _ ?_, hbit _ _ ?_, hbit _ _ ?_, hbit _ _ ?_, hbit _ _ ?_, hbit _ _ ?_,
    hbit _ _ ?_, hbit _ _ ?_⟩ <;> (unfold RawRecord.flags; omega)

theorem flags_bytes (r : RawRecord) :
    (byteOf (r.flags / 256)).toNat * 256 + (byteOf r.flags).toNat = r.flags := by
  have := flags_lt r
  simp only [byteOf_toNat]
  omega

theorem bytes_eq (r : RawRecord) : r.bytes = byteOf r.kind :: byteOf (r.flags / 256) :: byteOf r.flags :: (fieldBytes 1 r.mode
    ++ (fieldBytes 2 r.cavity ++ (fieldBytes 1 r.humidity ++ (fieldBytes 1 r.endKind ++ (fieldBytes 3 r.duration
    ++ (fieldBytes 2 r.core ++ (fieldBytes 1 r.timer ++ (fieldBytes 3 r.skip ++ (fieldBytes 1 r.prompt
    ++ (branchBytes r.branches ++ (fieldBytes 1 r.call ++ []))))))))))) := by
  simp only [RawRecord.bytes, bytes2, List.append_assoc, List.append_nil, List.cons_append, List.nil_append]
  rfl

/-- R173, R177: the bytes of a record are read as the record. -/
theorem parseRecord_bytes (h : RecordFits r) : parseRecord r.bytes = some r := by
  obtain ⟨h0, h1, h2, h3, h4, h5, h6, h7, h8, h9, h10, h11⟩ := h
  obtain ⟨b1, b2, b3, b4, b5, b6, b7, b8, b9, b10, b11⟩ := flags_testBit r
  have hk : (byteOf r.kind).toNat = r.kind := by simp [Nat.mod_eq_of_lt h0]
  rw [bytes_eq]
  simp only [parseRecord, flags_bytes, hk, b1, b2, b3, b4, b5, b6, b7, b8, b9, b10, b11, Option.bind_some,
    takeField_fieldBytes (n := 1) (by simp) h1, takeField_fieldBytes (n := 2) (by simp) h2,
    takeField_fieldBytes (n := 1) (by simp) h3, takeField_fieldBytes (n := 1) (by simp) h4,
    takeField_fieldBytes (n := 3) (by simp) h5, takeField_fieldBytes (n := 2) (by simp) h6,
    takeField_fieldBytes (n := 1) (by simp) h7, takeField_fieldBytes (n := 3) (by simp) h8,
    takeField_fieldBytes (n := 1) (by simp) h9, takeBranches_branchBytes h10, takeField_fieldBytes (n := 1) (by simp) h11,
    List.isEmpty_nil, if_true]

theorem parseRecord_extra (h : RecordFits r) (hx : x ≠ []) : parseRecord (r.bytes ++ x) = none :=
  parseRecord_append (parseRecord_bytes h) hx

theorem parseRecord_short {n : Nat} (h : RecordFits r) (hn : n < r.bytes.length) : parseRecord (r.bytes.take n) = none := by
  cases hp : parseRecord (r.bytes.take n) with
  | none => rfl
  | some q =>
    have hd : r.bytes.drop n ≠ [] := fun h0 => by
      have := congrArg List.length h0
      simp at this
      omega
    have := parseRecord_append hp hd
    rw [List.take_append_drop, parseRecord_bytes h] at this
    cases this

end Sys2Proof.Machine

/-!
The fields of a stage record, judged one by one (R117, R118).
-/
namespace Sys2Proof.Machine

variable {r : RawRecord} {f : RecordField}

theorem mem_listed (f : RecordField) : f ∈ RecordField.listed := by cases f <;> decide

theorem find_listed_eq_none {p : RecordField → Bool} : RecordField.listed.find? p = none ↔ ∀ f, p f = false := by
  rw [List.find?_eq_none]
  exact ⟨fun h f => by simpa using h f (mem_listed f), fun h f _ => by simp [h f]⟩

theorem forall_field {p : RecordField → Prop} : (∀ f, p f) ↔ p .mode ∧ p .cavity ∧ p .humidity ∧ p .endKind ∧ p .duration
    ∧ p .core ∧ p .timer ∧ p .skip ∧ p .prompt ∧ p .branches ∧ p .call :=
  ⟨fun h => ⟨h _, h _, h _, h _, h _, h _, h _, h _, h _, h _, h _⟩,
    fun ⟨h1, h2, h3, h4, h5, h6, h7, h8, h9, h10, h11⟩ f => by cases f <;> assumption⟩

/-! ### Where a field stands (R173) -/

theorem length_fieldBytes (n : Nat) (v : Option Nat) :
    (fieldBytes n v).length = bitNat v.isSome * (if n = 1 then 1 else if n = 2 then 2 else 3) := by
  cases v with
  | none => simp [fieldBytes, bitNat]
  | some w =>
    simp only [fieldBytes, bitNat, Option.isSome_some, if_true, one_mul]
    split
    · rfl
    · split <;> rfl

theorem length_branchBytes (r : RawRecord) : (branchBytes r.branches).length = r.size .branches := by
  unfold RawRecord.size branchBytes
  cases r.branches with
  | none => rfl
  | some l =>
    simp
    omega

theorem length_bytes (r : RawRecord) : r.bytes.length = 3 + (RecordField.listed.map r.size).sum := by
  rw [bytes_eq]
  simp only [List.length_cons, List.length_append, length_fieldBytes, length_branchBytes, List.length_nil,
    RecordField.listed, List.map_cons, List.map_nil, List.sum_cons, List.sum_nil]
  generalize r.size .branches = n
  simp [RawRecord.size]
  omega

theorem offset_add_size_le (r : RawRecord) (f : RecordField) : 3 ≤ r.offset f ∧ r.offset f + r.size f ≤ r.bytes.length := by
  rw [length_bytes]
  cases f <;> simp [RawRecord.offset, RecordField.listed] <;> omega

/-! ### What R117 asks of a field -/

theorem failsKind_of_required (h : r.need f = .required) : r.failsKind f = false ↔ r.present f = true ∧ r.defined f = true := by
  rw [RawRecord.failsKind, h]
  cases r.present f <;> simp

theorem failsKind_of_notTaken (h : r.need f = .notTaken) : r.failsKind f = false ↔ r.present f = false := by
  rw [RawRecord.failsKind, h]
  cases r.present f <;> simp

theorem failsKind_of_optional (h : r.need f = .optional) :
    r.failsKind f = false ↔ (r.present f = true → r.defined f = true) := by
  rw [RawRecord.failsKind, h]
  cases r.present f <;> simp

/-- R118: what is refused out of its range. -/
theorem failsRange_eq_false : (∀ f, r.failsRange f = false) ↔ (∀ v ∈ r.prompt, 1 ≤ v ∧ v ≤ 199)
    ∧ (∀ l ∈ r.branches, l.length ≤ 3 ∧ ∀ o ∈ l, 1 ≤ o ∧ o ≤ 23) ∧ (∀ v ∈ r.call, 1 ≤ v ∧ v ≤ 24) := by
  rw [forall_field]
  simp only [RawRecord.failsRange, true_and, Option.any_eq_false, Option.mem_def, Bool.or_eq_false_iff, decide_eq_false_iff_not, Nat.not_lt,
    List.any_eq_false, Bool.not_eq_true]

/-! ### A record that is taken (R117, R118) -/

/-- No field fails R117, and none R118. -/
def FieldsPass (r : RawRecord) : Prop := (∀ f, r.failsKind f = false) ∧ ∀ f, r.failsRange f = false

theorem skip_defined_iff : (r.skip.isSome = true → decide (r.skip.getD 0 / 65536 < 4) = true) ↔ SkipDefined r := by
  unfold SkipDefined
  cases r.skip <;> simp

theorem branches_absent_iff : (!(r.branches.getD []).isEmpty) = false ↔ NoBranches r := by
  unfold NoBranches
  cases r.branches <;> simp

theorem present_and_below {v : Option Nat} {n : Nat} :
    (v.isSome = true ∧ decide (v.getD 0 < n) = true) ↔ ∃ w, v = some w ∧ w < n := by
  cases v <;> simp

theorem isSome_eq_false_iff {v : Option α} : v.isSome = false ↔ v = none := by simp

theorem need_of_heat {e : Nat} (hk : r.kind = 0) (he : r.endKind = some e) (f : RecordField) :
    r.need f = needHeat (some e) f := by
  unfold RawRecord.need
  rw [hk, he]
  rfl

/-- R117: TIME and EITHER ask for a duration, and TEMP takes none. -/
theorem failsKind_duration {e : Nat} (hneed : r.need .duration = needHeat (some e) .duration) (hlt : e < 5) :
    r.failsKind .duration = false ↔ (e = 0 ∨ e = 3 → r.duration.isSome = true) ∧ (e = 1 → r.duration = none) := by
  rcases e with _ | _ | _ | _ | _ | e
  · simp [failsKind_of_required hneed, RawRecord.present, RawRecord.defined]
  · simp [failsKind_of_notTaken hneed, RawRecord.present]
  · simp [failsKind_of_optional hneed, RawRecord.defined]
  · simp [failsKind_of_required hneed, RawRecord.present, RawRecord.defined]
  · simp [failsKind_of_optional hneed, RawRecord.defined]
  · omega

/-- R117: CORE and EITHER ask for a core target, and no other end kind takes one. -/
theorem failsKind_core {e : Nat} (hneed : r.need .core = needHeat (some e) .core) (hlt : e < 5) :
    r.failsKind .core = false ↔ if e = 2 ∨ e = 3 then r.core.isSome = true else r.core = none := by
  rcases e with _ | _ | _ | _ | _ | e
  · simp [failsKind_of_notTaken hneed, RawRecord.present]
  · simp [failsKind_of_notTaken hneed, RawRecord.present]
  · simp [failsKind_of_required hneed, RawRecord.present, RawRecord.defined]
  · simp [failsKind_of_required hneed, RawRecord.present, RawRecord.defined]
  · simp [failsKind_of_notTaken hneed, RawRecord.present]
  · omega

/-- R117: PROMPT asks for a prompt code and may have branches; no other end kind takes either. -/
theorem failsKind_prompt_branches {e : Nat} (hneed : ∀ f, r.need f = needHeat (some e) f) :
    (r.failsKind .prompt = false ↔ if e = 4 then r.prompt.isSome = true else r.prompt = none)
      ∧ (r.failsKind .branches = false ↔ (e ≠ 4 → NoBranches r)) := by
  have hp : r.need .prompt = if some e = some 4 then .required else .notTaken := hneed .prompt
  have hb : r.need .branches = if some e = some 4 then .optional else .notTaken := hneed .branches
  by_cases h4 : e = 4
  · rw [if_pos (by rw [h4])] at hp hb
    rw [failsKind_of_required hp, failsKind_of_optional hb, if_pos h4]
    simp [RawRecord.present, RawRecord.defined, h4]
  · rw [if_neg (by simp [h4])] at hp hb
    rw [failsKind_of_notTaken hp, failsKind_of_notTaken hb, if_neg h4]
    simp only [RawRecord.present, branches_absent_iff, isSome_eq_false_iff]
    simp [h4]

/-- R117 of a HEAT record with the end kind `e`. -/
theorem failsKind_heat {e : Nat} (hk : r.kind = 0) (he : r.endKind = some e) (hlt : e < 5) : (∀ f, r.failsKind f = false) ↔
    (∃ m, r.mode = some m ∧ m < 6) ∧ r.cavity.isSome = true
      ∧ ((e = 0 ∨ e = 3 → r.duration.isSome = true) ∧ (e = 1 → r.duration = none))
      ∧ (if e = 2 ∨ e = 3 then r.core.isSome = true else r.core = none)
      ∧ (∃ v, r.timer = some v ∧ v < 2) ∧ SkipDefined r
      ∧ (if e = 4 then r.prompt.isSome = true else r.prompt = none) ∧ (e ≠ 4 → NoBranches r) ∧ r.call = none := by
  have hneed := need_of_heat hk he
  obtain ⟨h3, h4⟩ := failsKind_prompt_branches hneed
  have hhum : r.failsKind .humidity = false ↔ True := by
    simp [failsKind_of_optional (hneed .humidity), RawRecord.defined]
  have hend : r.failsKind .endKind = false ↔ True := by
    simp [failsKind_of_required (hneed .endKind), RawRecord.present, RawRecord.defined, he, hlt]
  have hcav : r.failsKind .cavity = false ↔ r.cavity.isSome = true := by
    simp [failsKind_of_required (hneed .cavity), RawRecord.present, RawRecord.defined]
  rw [forall_field, failsKind_duration (hneed .duration) hlt, failsKind_core (hneed .core) hlt, h3, h4, hhum, hend, hcav,
    failsKind_of_required (hneed .mode), failsKind_of_required (hneed .timer),
    failsKind_of_optional (hneed .skip), failsKind_of_notTaken (hneed .call)]
  simp only [RawRecord.present, RawRecord.defined, present_and_below, skip_defined_iff, true_and, isSome_eq_false_iff]

end Sys2Proof.Machine

/-!
Which stage records are taken (R117, R118).
-/
namespace Sys2Proof.Machine

variable {r : RawRecord} {f : RecordField}

theorem range_of_none {v : Option Nat} {p : Nat → Prop} (h : v = none) : ∀ w ∈ v, p w := by simp [h]

theorem range_of_noBranches (h : NoBranches r) : ∀ l ∈ r.branches, l.length ≤ 3 ∧ ∀ o ∈ l, 1 ≤ o ∧ o ≤ 23 := by
  rcases h with h | h <;> simp [h]

/-! ### HEAT -/

theorem heat_endKind (hk : r.kind = 0) (h : ∀ f, r.failsKind f = false) : ∃ e, r.endKind = some e ∧ e < 5 := by
  have hneed : r.need .endKind = .required := by
    unfold RawRecord.need
    rw [hk]
    rfl
  have := (failsKind_of_required hneed).1 (h .endKind)
  simpa only [RawRecord.present, RawRecord.defined, present_and_below] using this

/-- The prompt and the branches of a HEAT record. -/
theorem heat_prompt_iff {e : Nat} (hc : r.call = none) :
    (((if e = 4 then r.prompt.isSome = true else r.prompt = none) ∧ (e ≠ 4 → NoBranches r))
        ∧ ∀ f, r.failsRange f = false)
      ↔ if e = 4 then (∃ v, r.prompt = some v ∧ 1 ≤ v ∧ v ≤ 199) ∧ (∀ l ∈ r.branches, l.length ≤ 3 ∧ ∀ o ∈ l, 1 ≤ o ∧ o ≤ 23)
        else r.prompt = none ∧ NoBranches r := by
  rw [failsRange_eq_false]
  by_cases h4 : e = 4
  · simp only [if_pos h4]
    constructor
    · rintro ⟨⟨hp, -⟩, hr, hb, -⟩
      obtain ⟨v, hv⟩ := Option.isSome_iff_exists.1 hp
      exact ⟨⟨v, hv, hr v hv⟩, hb⟩
    · rintro ⟨⟨v, hv, hr⟩, hb⟩
      refine ⟨⟨by simp [hv], fun h => absurd h4 h⟩, fun w hw => ?_, hb, range_of_none hc⟩
      rw [hv] at hw
      cases hw
      exact hr
  · simp only [if_neg h4]
    constructor
    · rintro ⟨⟨hp, hb⟩, -⟩
      exact ⟨hp, hb h4⟩
    · rintro ⟨hp, hb⟩
      exact ⟨⟨hp, fun _ => hb⟩, range_of_none hp, range_of_noBranches hb, range_of_none hc⟩

/-- R117, R118: the fields of a HEAT record that is taken. -/
theorem fieldsPass_heat (hk : r.kind = 0) : FieldsPass r ↔ SkipDefined r ∧ r.call = none ∧ r.cavity.isSome = true
    ∧ (∃ m, r.mode = some m ∧ m < 6) ∧ (∃ v, r.timer = some v ∧ v < 2) ∧ ∃ e, r.endKind = some e ∧ e < 5 ∧ HeatFieldsTaken r e := by
  constructor
  · rintro ⟨hf, hr⟩
    obtain ⟨e, he, hlt⟩ := heat_endKind hk hf
    obtain ⟨hm, hc, ⟨hd, hd'⟩, hcore, ht, hs, hp, hb, hcall⟩ := (failsKind_heat hk he hlt).1 hf
    exact ⟨hs, hcall, hc, hm, ht, e, he, hlt, hd, hd', hcore, (heat_prompt_iff hcall).1 ⟨⟨hp, hb⟩, hr⟩⟩
  · rintro ⟨hs, hcall, hc, hm, ht, e, he, hlt, hd, hd', hcore, hpb⟩
    obtain ⟨⟨hp, hb⟩, hr⟩ := (heat_prompt_iff hcall).2 hpb
    exact ⟨(failsKind_heat hk he hlt).2 ⟨hm, hc, ⟨hd, hd'⟩, hcore, ht, hs, hp, hb, hcall⟩, hr⟩

/-! ### CALL and RETURN -/

theorem need_of_call (hk : r.kind = 1) : r.need .skip = .optional ∧ r.need .call = .required
    ∧ ∀ f, f ≠ .skip → f ≠ .call → r.need f = .notTaken := by
  unfold RawRecord.need
  rw [hk]
  refine ⟨rfl, rfl, fun f h1 h2 => ?_⟩
  cases f with
  | skip => exact absurd rfl h1
  | call => exact absurd rfl h2
  | _ => rfl

theorem need_of_return (hk : r.kind = 2) (f : RecordField) : r.need f = .notTaken := by
  unfold RawRecord.need
  rw [hk]
  rfl

/-- The fields of a HEAT record but for the skip condition are absent. -/
def NoHeatFields (r : RawRecord) : Prop :=
  r.mode = none ∧ r.cavity = none ∧ r.humidity = none ∧ r.endKind = none ∧ r.duration = none ∧ r.core = none
    ∧ r.timer = none ∧ r.prompt = none ∧ NoBranches r

theorem failsKind_noHeat (hn : ∀ f, f ≠ .skip → f ≠ .call → r.need f = .notTaken) :
    (∀ f, r.failsKind f = false) ↔ NoHeatFields r ∧ r.failsKind .skip = false ∧ r.failsKind .call = false := by
  have hf : ∀ f, f ≠ .skip → f ≠ .call → (r.failsKind f = false ↔ r.present f = false) := fun f h1 h2 =>
    failsKind_of_notTaken (hn f h1 h2)
  rw [forall_field, hf .mode (by decide) (by decide), hf .cavity (by decide) (by decide), hf .humidity (by decide) (by decide),
    hf .endKind (by decide) (by decide), hf .duration (by decide) (by decide), hf .core (by decide) (by decide),
    hf .timer (by decide) (by decide), hf .prompt (by decide) (by decide), hf .branches (by decide) (by decide)]
  simp only [RawRecord.present, isSome_eq_false_iff, branches_absent_iff, NoHeatFields]
  tauto

theorem NoHeatFields.range (h : NoHeatFields r) : (∀ f, r.failsRange f = false) ↔ ∀ v ∈ r.call, 1 ≤ v ∧ v ≤ 24 := by
  obtain ⟨-, -, -, -, -, -, -, hp, hb⟩ := h
  rw [failsRange_eq_false]
  exact ⟨fun ⟨_, _, h⟩ => h, fun h => ⟨range_of_none hp, range_of_noBranches hb, h⟩⟩

/-- R117, R118: the fields of a CALL record that is taken. -/
theorem fieldsPass_call (hk : r.kind = 1) :
    FieldsPass r ↔ SkipDefined r ∧ NoHeatFields r ∧ ∃ v, r.call = some v ∧ 1 ≤ v ∧ v ≤ 24 := by
  obtain ⟨hs, hc, hn⟩ := need_of_call hk
  have hskip : r.failsKind .skip = false ↔ SkipDefined r := by
    rw [failsKind_of_optional hs]
    exact skip_defined_iff
  have hcall : r.failsKind .call = false ↔ r.call.isSome = true := by
    simp [failsKind_of_required hc, RawRecord.present, RawRecord.defined]
  rw [FieldsPass, failsKind_noHeat hn, hskip, hcall]
  constructor
  · rintro ⟨⟨hh, hs, hc⟩, hr⟩
    obtain ⟨v, hv⟩ := Option.isSome_iff_exists.1 hc
    exact ⟨hs, hh, v, hv, hh.range.1 hr v hv⟩
  · rintro ⟨hs, hh, v, hv, hr⟩
    refine ⟨⟨hh, hs, by simp [hv]⟩, hh.range.2 fun w hw => ?_⟩
    rw [hv] at hw
    cases hw
    exact hr

/-- R117, R118: the fields of a RETURN record that is taken. -/
theorem fieldsPass_return (hk : r.kind = 2) : FieldsPass r ↔ NoHeatFields r ∧ r.call = none ∧ r.skip = none := by
  have hn := need_of_return hk
  rw [FieldsPass, failsKind_noHeat fun f _ _ => hn f, failsKind_of_notTaken (hn .skip), failsKind_of_notTaken (hn .call)]
  simp only [RawRecord.present, isSome_eq_false_iff]
  exact ⟨fun ⟨⟨hh, hs, hc⟩, _⟩ => ⟨hh, hc, hs⟩, fun ⟨hh, hc, hs⟩ => ⟨⟨hh, hs, hc⟩, hh.range.2 (range_of_none hc)⟩⟩

/-- R117, R118: a record is taken where its kind is defined and no field fails. -/
theorem recordTaken_iff : RecordTaken r ↔ r.kind ≤ 2 ∧ FieldsPass r := by
  unfold RecordTaken
  obtain hk | hk | hk | hk : r.kind = 0 ∨ r.kind = 1 ∨ r.kind = 2 ∨ 2 < r.kind := by omega
  · rw [fieldsPass_heat hk, hk]
    simp
  · rw [fieldsPass_call hk, NoHeatFields, hk]
    simp [and_assoc]
  · rw [fieldsPass_return hk, NoHeatFields, hk]
    simp only [SkipDefined]
    simp [and_assoc]
    intros
    simp_all
  · simp
    omega

end Sys2Proof.Machine

/-!
What a stage record that is taken stands for (R118), and the check of a program (R121).
-/
namespace Sys2Proof.Machine

variable {r : RawRecord} {f : RecordField} {store : List StageRecord} {count : Nat}

/-! ### Clamping (R118) -/

theorem clampNat_bne {lo hi v : Nat} : (clampNat lo hi v != v) = false ↔ max lo (min hi v) = v := by
  simp [clampNat]

theorem map_eq_self {g : Nat → Nat} {v : Option Nat} : v.map g = v ↔ ∀ w ∈ v, g w = w := by
  cases v <;> simp

theorem clamps_skip : r.clamps .skip = false ↔ ∀ v ∈ r.skip, skipClamped v = v := by
  unfold RawRecord.clamps
  rw [Option.any_eq_false]
  refine forall_congr' fun v => imp_congr_right fun _ => ?_
  unfold skipClamped
  split
  next h =>
    rw [clampNat_bne, if_pos h]
    omega
  next h =>
    rw [clampNat_bne, if_neg (by omega), if_pos h]
    omega
  next h0 h1 => rw [if_neg h0, if_neg h1, eq_self, eq_self]

/-- R118: a clamp is told where a value changes, and nowhere else. -/
theorem clamps_iff : (∀ f, r.clamps f = false) ↔ r.clamped = r := by
  rw [forall_field, clamps_skip]
  simp only [RawRecord.clamps, Option.any_eq_false, clampNat_bne, true_and, and_true]
  conv_rhs => rw [RawRecord.clamped]
  obtain ⟨kind, mode, cavity, humidity, endKind, duration, core, timer, skip, prompt, branches, call⟩ := r
  simp only [RawRecord.mk.injEq, map_eq_self, true_and, and_true, Nat.zero_max]
  rfl

/-- A value that is clamped is there. -/
theorem size_of_clamps (h : r.clamps f = true) : 1 ≤ r.size f := by
  have hb : ∀ {v : Option Nat} {p : Nat → Bool}, v.any p = true → 1 ≤ bitNat v.isSome := fun {v _} h => by
    cases v with
    | none => simp at h
    | some w => exact le_rfl
  cases f with
  | humidity => exact hb h
  | cavity => exact (hb h).trans (Nat.le_mul_of_pos_left _ (by decide))
  | core => exact (hb h).trans (Nat.le_mul_of_pos_left _ (by decide))
  | duration => exact (hb h).trans (Nat.le_mul_of_pos_left _ (by decide))
  | skip => exact (hb h).trans (Nat.le_mul_of_pos_left _ (by decide))
  | _ => cases h

/-! ### The stage (R118) -/

theorem skipOf_eq (v : Nat) : skipOf v = skipNamed (skipClamped v) := by
  unfold skipOf
  dsimp only
  split
  next h =>
    have hc : skipClamped v = min 2500 v := by rw [skipClamped, if_pos h]
    rw [hc, skipNamed, if_pos (by omega), clampNat]
    congr 1
    omega
  next h =>
    have hc : skipClamped v = 65536 + max 300 (min 990 (v % 65536)) := by rw [skipClamped, if_neg (by omega), if_pos h]
    rw [hc, skipNamed, if_neg (by omega), if_pos (by omega), clampNat]
    congr 1
    omega
  next h =>
    have hc : skipClamped v = v := by rw [skipClamped, if_neg (by omega), if_neg (by omega)]
    rw [hc, skipNamed, if_neg (by omega), if_neg (by omega), if_pos h]
  next h0 h1 h2 =>
    have hc : skipClamped v = v := by rw [skipClamped, if_neg h0, if_neg h1]
    rw [hc, skipNamed, if_neg h0, if_neg h1, if_neg h2]

theorem skip_map_eq (v : Option Nat) : v.map skipOf = (v.map skipClamped).map skipNamed := by
  cases v with
  | none => rfl
  | some w => simp [skipOf_eq]

/-- R118: the stage of a record is the one sent, its values brought into their ranges. -/
theorem toStage_eq (hc : r.kind = 0 → r.cavity.isSome = true) : r.toStage = r.clamped.asSent := by
  unfold RawRecord.toStage RawRecord.asSent
  dsimp only
  rw [skip_map_eq]
  split
  next h =>
    obtain ⟨v, hv⟩ := Option.isSome_iff_exists.1 (hc h)
    rw [if_pos (by exact h)]
    have hhum : clampNat 0 100 = min 100 := funext fun v => Nat.zero_max _
    simp only [RawRecord.clamped, hv, hhum]
    rfl
  next h => rw [if_neg (by simp [RawRecord.clamped, h]), if_pos (by exact h)]; rfl
  next h0 h1 => rw [if_neg (by exact h0), if_neg (by exact h1)]

/-! ### The program (R121) -/

theorem stageFails_iff {k : Nat} {x : StageRecord} : stageFails count (k + 1) x = true ↔ StageMisses count (k + 1) x := by
  cases x with
  | heat h skip => simp [stageFails, StageMisses]
  | call target skip => simp [stageFails, StageMisses, or_assoc]
  | ret => simp [stageFails, StageMisses]

/-- The stages before the `k`th pass, counted from `i + 1`. -/
def PassBefore (count i k : Nat) (store : List StageRecord) : Prop :=
  ∀ j < k, ∀ x, store[j]? = some x → ¬ StageMisses count (i + j + 1) x

theorem passBefore_cons {i k : Nat} {x : StageRecord} :
    PassBefore count i (k + 1) (x :: store) ↔ ¬ StageMisses count (i + 1) x ∧ PassBefore count (i + 1) k store := by
  constructor
  · refine fun h => ⟨h 0 (by omega) x rfl, fun j hj y hy => ?_⟩
    have := h (j + 1) (by omega) y hy
    rwa [show i + (j + 1) + 1 = i + 1 + j + 1 by omega] at this
  · rintro ⟨h0, h⟩ (_ | j) hj y hy
    · cases hy
      exact h0
    · rw [show i + (j + 1) + 1 = i + 1 + j + 1 by omega]
      exact h j (by omega) y hy

/-- R121: the first failing index, counted from `i + 1`. -/
theorem firstFailing_spec (store : List StageRecord) (i : Nat) :
    (∀ k, firstFailing count (i + 1) store = some (i + k + 1) ↔
        (∃ x, store[k]? = some x ∧ StageMisses count (i + k + 1) x) ∧ PassBefore count i k store)
      ∧ (firstFailing count (i + 1) store = none ↔ PassBefore count i store.length store)
      ∧ ∀ n, firstFailing count (i + 1) store = some n → i < n := by
  induction store generalizing i with
  | nil => exact ⟨fun k => by simp [firstFailing], by simp [firstFailing, PassBefore], by simp [firstFailing]⟩
  | cons x rest ih =>
    obtain ⟨ih1, ih2, ih3⟩ := ih (i + 1)
    by_cases hx : stageFails count (i + 1) x = true
    · have hm := stageFails_iff.1 hx
      rw [firstFailing, if_pos hx]
      refine ⟨fun k => ?_, ⟨fun h => by simp at h, fun h => ?_⟩, fun n h => by simp at h; omega⟩
      · cases k with
        | zero => exact ⟨fun _ => ⟨⟨x, rfl, hm⟩, fun j hj => absurd hj (by omega)⟩, fun _ => rfl⟩
        | succ k => exact ⟨fun h => by simp at h, fun h => absurd hm (passBefore_cons.1 h.2).1⟩
      · exact absurd hm (passBefore_cons.1 h).1
    · have hm : ¬ StageMisses count (i + 1) x := fun h => hx (stageFails_iff.2 h)
      rw [firstFailing, if_neg hx]
      refine ⟨fun k => ?_, ?_, fun n h => by have := ih3 n h; omega⟩
      · cases k with
        | zero =>
          refine ⟨fun h => ?_, fun ⟨⟨y, hy, hf⟩, _⟩ => ?_⟩
          · have := ih3 _ h
            omega
          · cases hy
            exact absurd hf hm
        | succ k =>
          rw [show i + (k + 1) + 1 = i + 1 + k + 1 by omega, ih1 k, passBefore_cons]
          simp [hm]
      · rw [ih2, List.length_cons, passBefore_cons]
        simp [hm]

/-- R121: no stage fails. -/
theorem passBefore_all : PassBefore count 0 store.length store ↔
    ∀ i x, store[i]? = some x → ¬ StageMisses count (i + 1) x := by
  unfold PassBefore
  refine forall_congr' fun j => ⟨fun h x hx => ?_, fun h _ x hx => ?_⟩
  · have := h (List.getElem?_eq_some_iff.1 hx).1 x hx
    rwa [Nat.zero_add] at this
  · rw [Nat.zero_add]
    exact h x hx

theorem any_isHeat : store.any StageRecord.isHeat = true ↔ ∃ h skip, StageRecord.heat h skip ∈ store := by
  rw [List.any_eq_true]
  constructor
  · rintro ⟨x, hx, hh⟩
    cases x with
    | heat h skip => exact ⟨h, skip, hx⟩
    | call target skip => cases hh
    | ret => cases hh
  · rintro ⟨h, skip, hm⟩
    exact ⟨_, hm, rfl⟩

/-- R121: the check of a program. -/
theorem programCheck_spec (count : Nat) (store : List StageRecord) :
    (programCheck count store = none ↔
        (∀ i x, store[i]? = some x → ¬ StageMisses count (i + 1) x) ∧ ∃ h skip, .heat h skip ∈ store)
      ∧ (∀ k, programCheck count store = some (k + 1) ↔
          (∃ x, store[k]? = some x ∧ StageMisses count (k + 1) x)
            ∧ ∀ i < k, ∀ x, store[i]? = some x → ¬ StageMisses count (i + 1) x)
      ∧ (programCheck count store = some 0 ↔
          (∀ i x, store[i]? = some x → ¬ StageMisses count (i + 1) x) ∧ ∀ h skip, .heat h skip ∉ store) := by
  obtain ⟨hs, hn, hpos⟩ := firstFailing_spec (count := count) store 0
  rw [passBefore_all] at hn
  simp only [Nat.zero_add, PassBefore] at hs hn hpos
  rw [← any_isHeat, ← hn]
  have hnot : (∀ h skip, StageRecord.heat h skip ∉ store) ↔ store.any StageRecord.isHeat = false := by
    rw [← Bool.not_eq_true, any_isHeat]
    simp only [not_exists]
  rw [hnot]
  unfold programCheck
  cases hf : firstFailing count 1 store with
  | some n =>
    have := hpos n hf
    refine ⟨by simp, fun k => ?_, by simp; omega⟩
    rw [← hs k, hf]
  | none =>
    refine ⟨by simp, fun k => ?_, by simp⟩
    rw [← hs k, hf]
    dsimp only
    split <;> simp

end Sys2Proof.Machine

/-!
Stage records and programs are judged (R117, R118, R121, R173, R177).
-/
namespace Sys2Proof.Machine

variable {r : RawRecord} {base : Nat}

theorem judgeRecord_of_unread {bs : List Byte} (h : parseRecord bs = none) : judgeRecord base bs = .refused 65535 := by
  rw [judgeRecord, h]
  rfl

/-- R118: a record that is taken. -/
theorem judgeRecord_taken (hf : RecordFits r) (ht : RecordTaken r) : judgeRecord base r.bytes
    = .taken r.clamped.asSent ((RecordField.listed.find? r.clamps).map fun f => base + r.offset f) := by
  obtain ⟨hk, hkind, hrange⟩ := recordTaken_iff.1 ht
  have hcav : r.kind = 0 → r.cavity.isSome = true := fun h0 => ((fieldsPass_heat h0).1 ⟨hkind, hrange⟩).2.2.1
  rw [judgeRecord, parseRecord_bytes hf]
  simp only [if_neg (Nat.not_lt.2 hk), find_listed_eq_none.2 hkind, find_listed_eq_none.2 hrange, toStage_eq hcav]

/-- R117, R118: a record that is not taken is refused at its kind, or at the first field that fails. -/
theorem judgeRecord_refused (hf : RecordFits r) (ht : ¬ RecordTaken r) :
    judgeRecord base r.bytes = .refused base ∨ ∃ f, judgeRecord base r.bytes = .refused (base + r.offset f) := by
  rw [judgeRecord, parseRecord_bytes hf]
  dsimp only
  by_cases hk : 2 < r.kind
  · rw [if_pos hk]
    exact .inl rfl
  · rw [if_neg hk]
    right
    cases h1 : RecordField.listed.find? r.failsKind with
    | some f => exact ⟨f, rfl⟩
    | none =>
      cases h2 : RecordField.listed.find? r.failsRange with
      | some f => exact ⟨f, rfl⟩
      | none => exact absurd (recordTaken_iff.2 ⟨by omega, find_listed_eq_none.1 h1, find_listed_eq_none.1 h2⟩) ht

/-- Settles O25: a record is read by its flags, its fields are judged in their order, and a program by its stages. -/
theorem stageRecordsAreJudged : Obligations.StageRecordsAreJudged := by
  refine ⟨fun base r hf ht => ⟨_, judgeRecord_taken hf ht, ?_, fun d hd => ?_⟩, fun base r hf ht => ?_,
    fun base r extra hf hx => judgeRecord_of_unread (parseRecord_extra hf hx),
    fun base n r hf hn => judgeRecord_of_unread (parseRecord_short hf hn), programCheck_spec⟩
  · rw [Option.map_eq_none_iff, find_listed_eq_none, clamps_iff]
  · obtain ⟨f, hfind, rfl⟩ := Option.mem_map.1 hd
    obtain ⟨h1, h2⟩ := offset_add_size_le r f
    have h3 := size_of_clamps (List.find?_some hfind)
    exact ⟨by omega, by omega⟩
  · rcases judgeRecord_refused (base := base) hf ht with h | ⟨f, h⟩
    · exact ⟨base, h, le_rfl, by omega⟩
    · have := offset_add_size_le r f
      exact ⟨_, h, by omega, by omega⟩

end Sys2Proof.Machine
